-- ==== Sys2Proof/Word.lean ====
section
/-! DEFINITION. Bytes, texts, station numbers, dates, the small fixed-size banks (eight stations, four discrete
lines, three drops) and the plainest arithmetic of the Athkor TB420 Branch Teller Concentrator. -/

namespace Sys2Proof

/-- One byte of a branch link frame or of a drop frame (R201). -/
abbrev Byte := BitVec 8

/-- One character of a station line: nine bits, bit 8 marking an address character (section 9.2, R203). -/
abbrev NineBit := BitVec 9

/-- A text: its characters. On the wire it is one length byte and one byte a character (R201). -/
abbrev Text := List Char

/-- The eight stations; line n serves station n (chapter 9). -/
inductive Station where
  | s1 | s2 | s3 | s4 | s5 | s6 | s7 | s8
  deriving DecidableEq, Repr

/-- The number of a station, 1 to 8. -/
def Station.num : Station → Nat
  | .s1 => 1 | .s2 => 2 | .s3 => 3 | .s4 => 4 | .s5 => 5 | .s6 => 6 | .s7 => 7 | .s8 => 8

/-- The station a number names: one of 1 to 8, or none. -/
def Station.ofNat? : Nat → Option Station
  | 1 => some .s1 | 2 => some .s2 | 3 => some .s3 | 4 => some .s4
  | 5 => some .s5 | 6 => some .s6 | 7 => some .s7 | 8 => some .s8
  | _ => none

/-- The stations in number order. -/
def Station.all : List Station := [.s1, .s2, .s3, .s4, .s5, .s6, .s7, .s8]

/-- One item for each station. -/
structure Eight (α : Type) where
  a1 : α
  a2 : α
  a3 : α
  a4 : α
  a5 : α
  a6 : α
  a7 : α
  a8 : α
  deriving DecidableEq, Repr

/-- The item of a station. -/
def Eight.get {α : Type} (v : Eight α) : Station → α
  | .s1 => v.a1 | .s2 => v.a2 | .s3 => v.a3 | .s4 => v.a4
  | .s5 => v.a5 | .s6 => v.a6 | .s7 => v.a7 | .s8 => v.a8

/-- The bank with one station's item replaced. -/
def Eight.set {α : Type} (v : Eight α) (st : Station) (x : α) : Eight α :=
  match st with
  | .s1 => { v with a1 := x } | .s2 => { v with a2 := x } | .s3 => { v with a3 := x } | .s4 => { v with a4 := x }
  | .s5 => { v with a5 := x } | .s6 => { v with a6 := x } | .s7 => { v with a7 := x } | .s8 => { v with a8 := x }

/-- The bank that holds the same item for every station. -/
def Eight.fill {α : Type} (x : α) : Eight α := ⟨x, x, x, x, x, x, x, x⟩

/-- Apply a function to every station's item, with its station. -/
def Eight.mapWith {α β : Type} (f : Station → α → β) (v : Eight α) : Eight β :=
  ⟨f .s1 v.a1, f .s2 v.a2, f .s3 v.a3, f .s4 v.a4, f .s5 v.a5, f .s6 v.a6, f .s7 v.a7, f .s8 v.a8⟩

/-- The items in station order. -/
def Eight.toList {α : Type} (v : Eight α) : List α := [v.a1, v.a2, v.a3, v.a4, v.a5, v.a6, v.a7, v.a8]

/-- The four discrete lines of a station (section 9.4). -/
inductive DiscreteLine where
  | dl1 | dl2 | dl3 | dl4
  deriving DecidableEq, Repr

/-- The discrete lines in order. -/
def DiscreteLine.all : List DiscreteLine := [.dl1, .dl2, .dl3, .dl4]

/-- One item for each discrete line. -/
structure Four (α : Type) where
  d1 : α
  d2 : α
  d3 : α
  d4 : α
  deriving DecidableEq, Repr

/-- The item of a discrete line. -/
def Four.get {α : Type} (v : Four α) : DiscreteLine → α
  | .dl1 => v.d1 | .dl2 => v.d2 | .dl3 => v.d3 | .dl4 => v.d4

/-- The bank with one discrete line's item replaced. -/
def Four.set {α : Type} (v : Four α) (d : DiscreteLine) (x : α) : Four α :=
  match d with
  | .dl1 => { v with d1 := x } | .dl2 => { v with d2 := x } | .dl3 => { v with d3 := x } | .dl4 => { v with d4 := x }

/-- The bank that holds the same item for every discrete line. -/
def Four.fill {α : Type} (x : α) : Four α := ⟨x, x, x, x⟩

/-- The items in order, DL1 first. -/
def Four.toList {α : Type} (v : Four α) : List α := [v.d1, v.d2, v.d3, v.d4]

/-- The bank whose item at each line is given by a function. -/
def Four.ofFn {α : Type} (f : DiscreteLine → α) : Four α := ⟨f .dl1, f .dl2, f .dl3, f .dl4⟩

/-- The drops of a line: 1 terminal or journal printer, 2 passbook printer, 3 mirror display. -/
inductive Drop where
  | d1 | d2 | d3
  deriving DecidableEq, Repr

/-- The number of a drop, 1 to 3. -/
def Drop.num : Drop → Nat
  | .d1 => 1 | .d2 => 2 | .d3 => 3

/-- The drops in drop order. -/
def Drop.all : List Drop := [.d1, .d2, .d3]

/-- The three drops in drop order from the drop after the one named (from drop 1 when none is named). -/
def Drop.orderAfter : Option Drop → List Drop
  | some .d1 => [.d2, .d3, .d1]
  | some .d2 => [.d3, .d1, .d2]
  | some .d3 => [.d1, .d2, .d3]
  | none => [.d1, .d2, .d3]

/-- One item for each drop of a line. -/
structure Three (α : Type) where
  d1 : α
  d2 : α
  d3 : α
  deriving DecidableEq, Repr

/-- The item of a drop. -/
def Three.get {α : Type} (v : Three α) : Drop → α
  | .d1 => v.d1 | .d2 => v.d2 | .d3 => v.d3

/-- The bank with one drop's item replaced. -/
def Three.set {α : Type} (v : Three α) (d : Drop) (x : α) : Three α :=
  match d with
  | .d1 => { v with d1 := x } | .d2 => { v with d2 := x } | .d3 => { v with d3 := x }

/-- The bank whose item at each drop is given by a function. -/
def Three.ofFn {α : Type} (f : Drop → α) : Three α := ⟨f .d1, f .d2, f .d3⟩

/-- A transaction reference: the station and its sequence number, written 3/1042. -/
structure Ref where
  station : Station
  seq : Nat
  deriving DecidableEq, Repr

/-- A business date (R132). -/
structure Date where
  year : Nat
  month : Nat
  day : Nat
  deriving DecidableEq, Repr

/-- A time of day with the clock-unset flag that stood with it (R198). -/
structure Stamp where
  secs : Nat
  unset : Bool
  deriving DecidableEq, Repr

/-- A timer: stopped, or the moment of the part's own time (in milliseconds) at which it ends. -/
abbrev Timer := Option Nat

/-- A counter that stays at its upper bound instead of wrapping (R1). -/
def satCount (bound n : Nat) : Nat := if n < bound then n + 1 else bound

/-- The counter that goes from `top` to 1 and otherwise advances by one. -/
def wrapNext (top n : Nat) : Nat := if n < top then n + 1 else 1

/-- The value brought to the nearest bound of the range lo to hi (R1: clamped). -/
def clampNat (lo hi n : Nat) : Nat := if n < lo then lo else if hi < n then hi else n

end Sys2Proof
end

