-- ==== Sys2Proof/Syntax.lean ====
section
/-! DEFINITION. The commands of the part: one constructor of Instr for each row of spec/opcode_table.json, with the
operands the row's rule gives it. The part has no register window (spec/00_scope.md): a command is the arrival of a
frame, a request taken, a timer expiry or the completion of an operation (spec/00_scope.md, Events and their order).
Values that a rule judges itself stand here as they arrive (a number that may lie out of range), so that the judging
rule can refuse them. -/

namespace Sys2Proof

/-- One entry of a field list: a tag and a text (R2, section 12.2). -/
structure KeyField where
  tag : Nat
  text : Text
  deriving DecidableEq, Repr

/-- A key request as the terminal sends it; its station is the number of the line (R2). -/
structure KeyRequest where
  form : Nat
  code : Nat
  fields : List KeyField
  deriving DecidableEq, Repr

/-- What a stripe says, as a STRIPE_READ reports it: also the inserted-book record and the stripe snapshot
(R13, R77, R80). -/
structure Book where
  account : Text
  bookType : Nat
  serial : Nat
  page : Nat
  line : Nat
  deriving DecidableEq, Repr

/-- A frame a drop sends in answer to a poll (R170, section 12.3). -/
inductive DropFrame where
  | keyRequest (r : KeyRequest)
  | formCall (code : Nat)
  | stripeRead (b : Book)
  | bookRemoved
  | lineDone
  | writeDone
  | fault
  /-- a valid frame of any other kind -/
  | other (kind : Nat)
  deriving DecidableEq, Repr

/-- Why an answer failed: its frame check, or a framing error (R169, R173). -/
inductive FailedWhy where
  | checkError
  | framing
  deriving DecidableEq, Repr

/-- What arrives on a line while ECHO runs: a character, or a break (R178). -/
inductive LineSignal where
  | character (c : NineBit)
  | breakLevel
  deriving DecidableEq, Repr

/-- How a looped test frame came back (R178). -/
inductive LoopReturn where
  | equal
  | different
  | badCheck
  deriving DecidableEq, Repr

/-- One passbook line of a reply (section 1.4): date text, code text, signed amount, optional balance. -/
structure PassLine where
  date : Text
  code : Text
  amount : Int
  balance : Option Int
  deriving DecidableEq, Repr

/-- The content of a REPLY (section 12.2), with the station part and the outcome as coded: R21 judges them. -/
structure Reply where
  station : Nat
  seq : Nat
  outcome : Nat
  reason : Text
  balance : Option Int
  fields : List KeyField
  lines : List PassLine
  deriving DecidableEq, Repr

/-- An acknowledgement of an advice or of a batch: number and coded status (section 12.2). -/
structure Ack where
  number : Nat
  status : Nat
  deriving DecidableEq, Repr

/-- The five tables (chapter 8). -/
inductive TableId where
  | tct | sft | dnt | tlt | plt
  deriving DecidableEq, Repr

/-- A TCT record as loaded (R150); enumerated values as coded, judged at commit. -/
structure RawTct where
  code : Nat
  name : Text
  routing : Nat
  localAction : Nat
  dayClass : Nat
  minAuthority : Nat
  requestFormat : Nat
  approveFormat : Nat
  declineFormat : Nat
  cashDirection : Nat
  replyTimeout : Nat
  offlineCeiling : Nat
  passbookUse : Nat
  accountTag : Nat
  amountTag : Nat
  deriving DecidableEq, Repr

/-- A field of an SFT format as loaded (R151). -/
structure RawField where
  tag : Nat
  row : Nat
  column : Nat
  length : Nat
  cls : Nat
  kind : Nat
  required : Bool
  source : Nat
  deriving DecidableEq, Repr

/-- An SFT format as loaded (R151). -/
structure RawFormat where
  number : Nat
  kind : Nat
  title : Text
  fields : List RawField
  deriving DecidableEq, Repr

/-- A DNT header (R152). -/
structure DntHeader where
  decimals : Nat
  increment : Nat
  deriving DecidableEq, Repr

/-- A DNT record as loaded (R152). -/
structure RawDnt where
  face : Nat
  kind : Nat
  floor : Nat
  deriving DecidableEq, Repr

/-- A TLT record as loaded (R153). -/
structure RawTlt where
  teller : Nat
  authority : Nat
  softLimit : Nat
  hardLimit : Nat
  standinCeiling : Nat
  deriving DecidableEq, Repr

/-- A column and a width of a passbook layout (R154). -/
structure FieldPlace where
  column : Nat
  width : Nat
  deriving DecidableEq, Repr

/-- A PLT record (R154). -/
structure PltRec where
  bookType : Nat
  linesPerPage : Nat
  pages : Nat
  firstLine : Nat
  date : FieldPlace
  code : FieldPlace
  amount : FieldPlace
  balance : FieldPlace
  deriving DecidableEq, Repr

/-- The table, the header if carried, and the records of a TABLE-LOAD fragment (R155). -/
inductive FragmentBody where
  | tct (records : List RawTct)
  | sft (records : List RawFormat)
  | dnt (header : Option DntHeader) (records : List RawDnt)
  | tlt (header : Option Nat) (records : List RawTlt)
  | plt (records : List PltRec)
  deriving DecidableEq, Repr

/-- A TABLE-LOAD fragment (R155). -/
structure Fragment where
  loadId : Nat
  number : Nat
  last : Bool
  body : FragmentBody
  deriving DecidableEq, Repr

/-- The branch settings by name, in the order of R193. -/
inductive SettingName where
  | linkSilence | adviceAck | batchAck | pageTurn | drawerOpen | highWater | journalMode
  deriving DecidableEq, Repr

/-- A LINE-SETUP request: every item of the setup, as coded (R164, R165). -/
structure LineSetupRequest where
  line : Nat
  role : Nat
  drop1 : Bool
  drop2 : Bool
  drop3 : Bool
  functions : Four Nat
  depth : Nat
  mirrorKey : Nat
  mirrorMask : Nat
  mirrorFill : Nat
  deriving DecidableEq, Repr

/-- A management request, of the seventeen kinds of R192, of none of them, or unreadable as its kind. -/
inductive MgmtRequest where
  | tableLoad (f : Fragment)
  | tableAbort
  | tableRead (table firstIndex : Nat)
  | settingsWrite (items : List (SettingName × Nat))
  | settingsRead
  | lineSetup (r : LineSetupRequest)
  | lineControl (station op : Nat) (mask : Four Bool)
  | lineTest (line mode count : Nat)
  | lineReset (line : Nat)
  | statusRead (lines : List Nat)
  | totalsRead
  | clockSet (secs : Nat)
  | dayCutoff
  | dayForce
  | settleRetry
  | dateRoll (d : Date)
  | broadcastText (text : Text) (expiry : Nat)
  /-- a request whose kind is none of the table of R192, or whose fields cannot be read as its kind -/
  | bad (kind : Nat)
  deriving DecidableEq, Repr

/-- The commands: the rows of spec/opcode_table.json in the table's order. -/
inductive Instr where
  /-- KEY_REQUEST (R2): the TTR takes a key request delivered from drop 1 of the station's line. -/
  | keyRequest (st : Station) (r : KeyRequest)
  /-- FORM_CALL (R66). -/
  | formCall (st : Station) (code : Nat)
  /-- STRIPE_READ (R80). -/
  | stripeRead (st : Station) (b : Book)
  /-- BOOK_REMOVED (R81). -/
  | bookRemoved (st : Station)
  /-- LINE_DONE (R89). -/
  | lineDone (st : Station)
  /-- WRITE_DONE (R94). -/
  | writeDone (st : Station)
  /-- FAULT (R82). -/
  | fault (st : Station)
  /-- DROP_FRAME (R170): the polled drop of the line answers with a valid frame. -/
  | dropFrame (st : Station) (f : DropFrame)
  /-- NOTHING (R170). -/
  | nothing (st : Station)
  /-- ACCEPT (R171). -/
  | accept (st : Station)
  /-- BUSY (R171). -/
  | busy (st : Station)
  /-- FAILED_RESPONSE (R169). -/
  | failedResponse (st : Station) (why : FailedWhy)
  /-- POLL_RESPONSE_TIMEOUT (R168): 150 ms of silence. -/
  | pollResponseTimeout (st : Station)
  /-- REPOLL_DUE (R169): the 5 s of a DOWN drop pass. -/
  | repollDue (st : Station) (d : Drop)
  /-- BUSY_RETRY_EXPIRY (R171): the 1 s after a BUSY passes. -/
  | busyRetryExpiry (st : Station) (d : Drop)
  /-- ISSUE_EXCHANGE (R168). -/
  | issueExchange (st : Station)
  /-- ATTENTION (R172). -/
  | attention (st : Station)
  /-- UNSOLICITED (R170). -/
  | unsolicited (st : Station)
  /-- ECHO_CHARACTER (R178). -/
  | echoCharacter (st : Station) (c : LineSignal)
  /-- LOOP_FRAME_RETURN (R178). -/
  | loopFrameReturn (st : Station) (how : LoopReturn)
  /-- LOOP_FRAME_TIMEOUT (R178). -/
  | loopFrameTimeout (st : Station)
  /-- DRAWER_SENSE_CHANGE (R176): the sensed level becomes OPEN (true) or CLOSED. -/
  | drawerSenseChange (st : Station) (opened : Bool)
  /-- DRAWER_OPEN_TIMER_EXPIRY (R176). -/
  | drawerOpenTimerExpiry (st : Station)
  /-- ALARM_IN_RISING (R177). -/
  | alarmInRising (st : Station)
  /-- DRAWER_PULSE_END (R175). -/
  | drawerPulseEnd (st : Station)
  /-- INBOUND_FRAME (R183): the bytes of a frame that arrived on the branch link. -/
  | inboundFrame (bytes : List Byte)
  /-- REPLY (R21): a whole REPLY message with its frame's destination; none when its payload cannot be read. -/
  | reply (dest : Station) (r : Option Reply)
  /-- MGMT_REQ (R191): a whole management request with its request id. -/
  | mgmtReq (id : Nat) (r : MgmtRequest)
  /-- ADVICE_ACK (R112); none when its payload cannot be read. -/
  | adviceAck (a : Option Ack)
  /-- BATCH_ACK (R125); none when its payload cannot be read. -/
  | batchAck (a : Option Ack)
  /-- LINK_CHECK (R190): its check number; none when its payload cannot be read. -/
  | linkCheck (number : Option Nat)
  /-- SILENCE_TIMER_EXPIRY (R186). -/
  | silenceTimerExpiry
  /-- TRANSMIT (R188). -/
  | transmit
  /-- TRANSMIT_END (R182). -/
  | transmitEnd
  /-- DEADLINE_EXPIRY (R24) of the entry of a reference. -/
  | deadlineExpiry (ref : Ref)
  /-- LATE_EXPIRY (R27) of the Late List entry of a reference. -/
  | lateExpiry (ref : Ref)
  /-- ADVICE_ACK_TIMEOUT (R113) of the advice of a number. -/
  | adviceAckTimeout (number : Nat)
  /-- TRICKLE_BATCH_TIMEOUT (R125). -/
  | trickleBatchTimeout
  /-- REJECTION_PAUSE_END (R125). -/
  | rejectionPauseEnd
  /-- SETTLEMENT_BATCH_TIMEOUT (R142). -/
  | settlementBatchTimeout
  /-- TRAILING_PAUSE_END (R144). -/
  | trailingPauseEnd
  /-- LOAD_IDLE_EXPIRY (R158). -/
  | loadIdleExpiry
  /-- WAIT_TIMER_EXPIRY (R86): the wait timer of the station's head job. -/
  | waitTimerExpiry (st : Station)
  /-- COMPLETION_TIMER_EXPIRY (R79) of the station's outstanding printer item. -/
  | completionTimerExpiry (st : Station)
  /-- BROADCAST_EXPIRY (R73). -/
  | broadcastExpiry
  /-- TABLE_LOAD (R156): the MRS takes the TABLE-LOAD request of this id. -/
  | tableLoad (id : Nat) (f : Fragment)
  /-- TABLE_ABORT (R158). -/
  | tableAbort (id : Nat)
  /-- TABLE_READ (R163). -/
  | tableRead (id table firstIndex : Nat)
  /-- SETTINGS_WRITE (R193). -/
  | settingsWrite (id : Nat) (items : List (SettingName × Nat))
  /-- SETTINGS_READ (R193). -/
  | settingsRead (id : Nat)
  /-- LINE_SETUP (R165). -/
  | lineSetup (id : Nat) (r : LineSetupRequest)
  /-- LINE_CONTROL (R174): op 1 SET, 2 CLEAR. -/
  | lineControl (id station op : Nat) (mask : Four Bool)
  /-- LINE_TEST (R178): mode 1 ECHO, 2 LOOP, 3 STOP. -/
  | lineTest (id line mode count : Nat)
  /-- LINE_RESET (R179). -/
  | lineReset (id line : Nat)
  /-- STATUS_READ (R196): the lines whose error summaries are to be read. -/
  | statusRead (id : Nat) (lines : List Nat)
  /-- TOTALS_READ (R197). -/
  | totalsRead (id : Nat)
  /-- CLOCK_SET (R198). -/
  | clockSet (id secs : Nat)
  /-- DAY_CUTOFF (R133). -/
  | dayCutoff (id : Nat)
  /-- DAY_FORCE (R135). -/
  | dayForce (id : Nat)
  /-- SETTLE_RETRY (R143). -/
  | settleRetry (id : Nat)
  /-- DATE_ROLL (R146). -/
  | dateRoll (id : Nat) (d : Date)
  /-- BROADCAST_TEXT (R73). -/
  | broadcastText (id : Nat) (text : Text) (expiry : Nat)
  /-- START (R199). -/
  | start
  /-- BAD_REQUEST (R192): a request that names no kind of R192's table, or cannot be read as its kind. -/
  | badRequest (id kind : Nat)
  deriving DecidableEq, Repr

end Sys2Proof
end

