-- ==== Sys2Proof/Decode.lean ====
section
/-! DEFINITION. The words of the command table. No row of spec/opcode_table.json gives its command any bits: the part has no
register window, and its commands are frames, requests, expiries and completions (spec/00_scope.md). So no word spells a
command; the bytes that do arrive are read in Sys2Proof/Machine/Wire.lean and LineWire.lean. -/

namespace Sys2Proof

/-- The command a word spells by the table's bits: none, since no row gives bits (DEDUCED, log 1). -/
def decodeTableWord (_nbits _w : Nat) : Option Instr := none

end Sys2Proof
end

