-- ==== Sys2Proof/Config.lean ====
section
/-! DEFINITION. The capacities and fixed times of the part (the tables of spec/00_scope.md, each owned by the rule named). -/

namespace Sys2Proof.Config

/-- Highest station sequence number (R3). -/
def topSequence : Nat := 65535
/-- Open Transaction Table entries (R18). -/
def ottCapacity : Nat := 32
/-- Late List entries (R25). -/
def lateCapacity : Nat := 16
/-- The late window in milliseconds, 300 s (R25). -/
def lateWindow : Nat := 300000
/-- The reversal commitment (R15). -/
def reversalCommitment : Nat := 48
/-- General places of the Advice Queue (R106). -/
def generalCapacity : Nat := 72
/-- Highest advice number (R108). -/
def topAdvice : Nat := 65535
/-- Advices sent and unacknowledged at one time (R111). -/
def adviceWindow : Nat := 4
/-- Stand-in Account Map entries (R103). -/
def mapCapacity : Nat := 64
/-- Teller Day Records (R61). -/
def tellerDayCapacity : Nat := 64
/-- Journal slots (R115). -/
def journalSlots : Nat := 16384
/-- The journal floor (R11). -/
def journalFloor : Nat := 64
/-- The free-slot mark below which the journal is full: the floor plus 4 (R122). -/
def journalFullMark : Nat := 68
/-- Slots reserved for an Open Transaction Table entry (R17). -/
def ottSlots : Nat := 4
/-- Slots reserved for a Late List entry (R25). -/
def lateSlots : Nat := 2
/-- Highest journal sequence (R115). -/
def topJournal : Nat := 4294967295
/-- Entries of one journal batch (R124). -/
def batchEntries : Nat := 64
/-- Highest batch number (R124). -/
def topBatch : Nat := 65535
/-- Jobs of one print queue (R83). -/
def printQueueCapacity : Nat := 4
/-- Print lines of one job (R83). -/
def jobLines : Nat := 24
/-- The completion timer of a printer item, 30 s (R79). -/
def completionTime : Nat := 30000
/-- Highest count of one denomination in one position (R30). -/
def topCount : Nat := 65535
/-- Magnitude bound of totals (R54). -/
def topTotal : Nat := 999999999999
/-- Highest transaction amount (R7). -/
def topAmount : Nat := 99999999999
/-- Bound of the saturating 16-bit counts. -/
def topCounter : Nat := 65535
/-- Bound of the saturating line error counts and of the repeat count (R173, R105). -/
def topErrors : Nat := 255
/-- Receive buffer places of a line (R170). -/
def receivePlaces : Nat := 3
/-- Places of the management request buffer (R191). -/
def mgmtPlaces : Nat := 4
/-- Payload bytes of one link frame (R181). -/
def payloadBytes : Nat := 1024
/-- The load idle time, 60 s (R155). -/
def loadIdleTime : Nat := 60000
/-- The drawer release pulse, 200 ms (R175). -/
def pulseTime : Nat := 200
/-- The poll response time, 150 ms (R168). -/
def pollTime : Nat := 150
/-- Missed responses that make a drop DOWN (R169). -/
def missedLimit : Nat := 3
/-- Re-poll of a DOWN drop, 5 s (R169). -/
def repollTime : Nat := 5000
/-- Retry of a BUSY select, 1 s (R171). -/
def busyTime : Nat := 1000
/-- Seconds of a day: the time-of-day clock runs from 0 to one less (R198). -/
def daySeconds : Nat := 86400
/-- Columns of a screen row. -/
def columns : Nat := 80
/-- Rows of the main area; row 24 is the status line. -/
def mainRows : Nat := 23
/-- Characters of the broadcast text (R73). -/
def broadcastLength : Nat := 40
/-- The head office address (R181). -/
def headOffice : Nat := 255

/-- FREE VALUE (log 7): the level, ACTIVE or not, that a reading finds at a wire whose changes no command of the table
gives (an ALARM_IN or SPARE_IN line read by LINE-CONTROL, R174; a wire whose function becomes DRAWER_SENSE, R176). It is
applied to the number of the reading. Nothing constrains it. -/
opaque inputLevel : Nat → Bool

end Sys2Proof.Config
end

