-- ==== Sys2Proof/Machine/State.lean ====
section
/-! DEFINITION. The state of the part: one record for each of its twelve blocks, as the block table of
spec/00_scope.md gives their ownership, the queue of waiting commands, and the part's own running time. Plain data. -/

namespace Sys2Proof.Machine

/-! ## Names -/

/-- Day state (R130). -/
inductive DayState where
  | noDate | opened | cutoff | settling | settled | settleFailed
  deriving DecidableEq, Repr

/-- Link state (R180). -/
inductive LinkState where
  | lost | up | recovering
  deriving DecidableEq, Repr

/-- Routing of a code (R150). -/
inductive Routing where
  | online | onlineStandin | localCode
  deriving DecidableEq, Repr

/-- Local action of a code (R150). -/
inductive LocalAction where
  | signOn | signOff | toReserve | fromReserve | balance | positionEnquiry
  deriving DecidableEq, Repr

/-- Day class (R150). -/
inductive DayClass where
  | customer | admin
  deriving DecidableEq, Repr

/-- Authority (R150, R153). -/
inductive Authority where
  | teller | supervisor
  deriving DecidableEq, Repr

/-- Cash direction (R150). -/
inductive CashDirection where
  | noCash | cashIn | cashOut
  deriving DecidableEq, Repr

/-- Passbook use (R150). -/
inductive PassbookUse where
  | notUsed | optional | required
  deriving DecidableEq, Repr

/-- Kind of a screen format (R151). -/
inductive FormatKind where
  | input | output
  deriving DecidableEq, Repr

/-- Kind of a screen field (R151). -/
inductive FieldKind where
  | text | numeric | amount | protectedField
  deriving DecidableEq, Repr

/-- Source of an output field (R151). -/
inductive FieldSource where
  | replyTag | breakdown | positionTotal | passbookStatus | businessDate | teller | reference | reason
  deriving DecidableEq, Repr

/-- Kind of a denomination (R152). -/
inductive MoneyKind where
  | note | coin
  deriving DecidableEq, Repr

/-- Line role (R164). -/
inductive Role where
  | off | teller | journalPrinter
  deriving DecidableEq, Repr

/-- Discrete-line function (R174). -/
inductive LineFunction where
  | drawerSense | alarmIn | spareIn | drawerRelease | lamp | spareOut
  deriving DecidableEq, Repr

/-- State of a cash position (R30). -/
inductive PositionState where
  | notOpened | active | balanced | suspect
  deriving DecidableEq, Repr

/-- Mode of a screen context (R64). -/
inductive ScreenMode where
  | signOnPrompt | form | awaiting | result
  deriving DecidableEq, Repr

/-- Printer state (R78). -/
inductive PrinterState where
  | ready | printing | fault | down
  deriving DecidableEq, Repr

/-- Passbook prompt (R77). -/
inductive Prompt where
  | noPrompt | turnPage | wrongBook | bookFull
  deriving DecidableEq, Repr

/-- State of a print job (R83). -/
inductive JobState where
  | queued | bookWait | printing | turnWait | ended
  deriving DecidableEq, Repr

/-- End cause of a print job (R93). -/
inductive EndCause where
  | complete | bookAbsent | bookFull | turnTimeout | printerFault | bookRemoved | printerDown
  | noLayout | badStripe | lineOff | restart
  deriving DecidableEq, Repr

/-- Stripe outcome of a print job (R93). -/
inductive StripeOutcome where
  | written | owed | notDue
  deriving DecidableEq, Repr

/-- Cause of a REVERSAL advice (R105). -/
inductive ReversalCause where
  | lateApproval | abandonedOnRestart | abandonedOnLineOff
  deriving DecidableEq, Repr

/-- Kind of an advice (R105). -/
inductive AdviceKind where
  | standin | reversal | passbookUpdate | alarm
  deriving DecidableEq, Repr

/-- Outcome of a TXN entry (R117). -/
inductive TxnOutcome where
  | approved | declined | timedOut | linkDown | abandoned | standinApproved
  deriving DecidableEq, Repr

/-- Cause of a LATE entry (R117). -/
inductive LateCause where
  | expired | lateApproval | lateDecline | adviceRefused
  deriving DecidableEq, Repr

/-- Why a teller's request is refused (R4, R37, R48, R50, R59, R62, R99). -/
inductive Reason where
  | notSignedOn | unknownCode | formMismatch | input (tag : Option Nat) | noBusinessDate | dayClosed | authority
  | journalFull | stationDepth | trackerFull | passbookRequired | linkDown | adviceFull
  | drawerOpen | suspect | breakdownRequired | breakdownMismatch | insufficientCash | noExactChange
  | drawerLimit | countLimit | standinCeiling | accountCeiling | accountMapFull
  | stationInUse | tellerActive | unknownTeller | tellerListFull | inFlight
  deriving DecidableEq, Repr

/-- Journal mode (R123). -/
inductive JournalMode where
  | hold | trickle
  deriving DecidableEq, Repr

/-- Phase of a settlement context (R137). -/
inductive Phase where
  | journal | totals | trailing
  deriving DecidableEq, Repr

/-- Drop state (R169). -/
inductive DropState where
  | new | up | down
  deriving DecidableEq, Repr

/-- The event flags of R194. -/
inductive EventFlag where
  | linkLost | linkRestored | dropDown (st : Station) | drawerLeftOpen | alarm | excessCash | journalHighWater
  | journalFull | loadAbandoned | adviceRefused | suspectPosition | counterSaturated | settleFailed | retentionLost
  | unmatchedReply | mgmtOverrun
  deriving DecidableEq, Repr

/-- Why a commit check fails (R150 to R154, R160). -/
inductive CheckReason where
  | range | duplicate | localFields | standinPassbook | order | increment | limits | layout
  | formatMissing | formatKind | fieldTag | noDenominations
  deriving DecidableEq, Repr

/-! ## Loaded tables (TBL, chapter 8) -/

/-- A TCT record of the active copy (R150). -/
structure TctRec where
  code : Nat
  name : Text
  routing : Routing
  localAction : Option LocalAction
  dayClass : DayClass
  minAuthority : Authority
  requestFormat : Nat
  approveFormat : Nat
  declineFormat : Nat
  cashDirection : CashDirection
  replyTimeout : Nat
  offlineCeiling : Nat
  passbookUse : PassbookUse
  accountTag : Nat
  amountTag : Nat
  deriving DecidableEq, Repr

/-- A field of an SFT format (R151). -/
structure SftField where
  tag : Nat
  row : Nat
  column : Nat
  length : Nat
  cls : Nat
  kind : FieldKind
  required : Bool
  source : FieldSource
  deriving DecidableEq, Repr

/-- An SFT format (R151). -/
structure SftFormat where
  number : Nat
  kind : FormatKind
  title : Text
  fields : List SftField
  deriving DecidableEq, Repr

/-- A DNT record (R152). -/
structure DntRec where
  face : Nat
  kind : MoneyKind
  floor : Nat
  deriving DecidableEq, Repr

/-- A TLT record (R153). -/
structure TltRec where
  teller : Nat
  authority : Authority
  softLimit : Nat
  hardLimit : Nat
  standinCeiling : Nat
  deriving DecidableEq, Repr

/-- The load in progress with its shadow copy: the records gathered so far, as loaded (R155). -/
structure LoadContext where
  loadId : Nat
  next : Nat
  deadline : Nat
  shadow : FragmentBody
  deriving DecidableEq, Repr

/-- Table Store: the five active copies with their load ids and headers, and the load context (R148, R155). -/
structure Tbl where
  tct : List TctRec
  tctId : Option Nat
  sft : List SftFormat
  sftId : Option Nat
  dnt : List DntRec
  dntHeader : DntHeader
  dntId : Option Nat
  tlt : List TltRec
  tltCeiling : Nat
  tltId : Option Nat
  plt : List PltRec
  pltId : Option Nat
  load : Option LoadContext
  deriving DecidableEq, Repr

/-! ## Transactions (TTR, chapter 1) -/

/-- A breakdown: pairs of denomination index (from 1) and count, in table order. -/
abbrev Breakdown := List (Nat × Nat)

/-- A cash leg: direction, exact amount A, rounded amount R and breakdown (R16). -/
structure Leg where
  dir : CashDirection
  exact : Nat
  rounded : Nat
  breakdown : Breakdown
  deriving DecidableEq, Repr

/-- State of an OTT entry: QUEUED, or AWAITING with its deadline (R18). -/
inductive OttState where
  | queued
  | awaiting (deadline : Nat)
  deriving DecidableEq, Repr

/-- An entry of the Open Transaction Table (R18). Its station is its reference's; its journal reservation is 4 slots. -/
structure OttEntry where
  ref : Ref
  teller : Nat
  code : Nat
  state : OttState
  approveFormat : Nat
  declineFormat : Nat
  replyTimeout : Nat
  passbookUse : PassbookUse
  cashDirection : CashDirection
  account : Option Text
  leg : Option Leg
  snapshot : Option Book
  deriving DecidableEq, Repr

/-- An entry of the Late List (R25). Its station is its reference's; its journal reservation is 2 slots. -/
structure LateEntry where
  ref : Ref
  code : Nat
  dir : CashDirection
  rounded : Nat
  expiry : Nat
  deriving DecidableEq, Repr

/-- Transaction Tracker: the OTT, the Late List (oldest first) and the station sequence counters. -/
structure Ttr where
  ott : List OttEntry
  late : List LateEntry
  seqs : Eight Nat
  deriving DecidableEq, Repr

/-! ## Cash positions (CSH, chapter 2) -/

/-- The three counts of one denomination in one position (R30). -/
structure Counts where
  committed : Nat
  reservedOut : Nat
  pendingIn : Nat
  deriving DecidableEq, Repr

/-- The over/short total: absent, UNKNOWN or a signed amount (R30). -/
inductive OverShort where
  | absent
  | unknown
  | value (v : Int)
  deriving DecidableEq, Repr

/-- A cash position (R30); its counts stand in the order of the active DNT. -/
structure Position where
  state : PositionState
  counts : List Counts
  total : Nat
  cashIn : Int
  cashOut : Int
  rounding : Int
  overShort : OverShort
  txCount : Nat
  excess : Bool
  deriving DecidableEq, Repr

/-- Cash Position Unit: the drawers of stations 1 to 8 and the reserve, position 9. -/
structure Csh where
  drawers : Eight Position
  reserve : Position
  deriving DecidableEq, Repr

/-! ## Teller screens (SCM, chapter 3) -/

/-- A field a terminal image marks for input: tag, place, length, kind and required flag (R67). -/
structure InputField where
  tag : Nat
  row : Nat
  column : Nat
  length : Nat
  kind : FieldKind
  required : Bool
  deriving DecidableEq, Repr

/-- A terminal image: 24 rows of 80 characters, the fields marked for input and the field marked in error. -/
structure TerminalImage where
  rows : List Text
  inputs : List InputField
  errorTag : Option Nat
  deriving DecidableEq, Repr

/-- A screen context (R64). `shown` is the composed format as it stood at composition (model's own: it lets the status
line be recomposed over the main area as it stands). The two `Recomposed` marks say whether an image has been composed
since the SLC last took a copy of it (R74). -/
structure ScreenContext where
  mode : ScreenMode
  format : Option Nat
  shown : Option SftFormat
  texts : List Text
  errorTag : Option Nat
  statusLine : Text
  message : Text
  terminal : TerminalImage
  mirror : List Text
  terminalPending : Bool
  mirrorPending : Bool
  terminalRecomposed : Bool
  mirrorRecomposed : Bool
  deriving DecidableEq, Repr

/-- The broadcast text with the moment its timer ends (R73). -/
structure Broadcast where
  text : Text
  ends : Nat
  deriving DecidableEq, Repr

/-- Screen Composer: sign-on states (the teller, or none when SIGNED_OFF), screen contexts and broadcast text. -/
structure Scm where
  signOn : Eight (Option Nat)
  contexts : Eight (Option ScreenContext)
  broadcast : Option Broadcast
  deriving DecidableEq, Repr

/-! ## Passbook printing (PBK, chapter 4) -/

/-- A page and a line of a passbook. -/
structure Place where
  page : Nat
  line : Nat
  deriving DecidableEq, Repr

/-- What a STRIPE_WRITE is made for (R90, R91, R94). -/
inductive WritePurpose where
  | turn | repair | endWrite | owed
  deriving DecidableEq, Repr

/-- What is handed to the printer: a line (its place, the column of each of its four texts, and the balance it prints,
if any), or a stripe write (R88, R94). -/
inductive ItemBody where
  | printLine (place : Place) (texts : List (Nat × Text)) (balance : Option Int)
  | stripeWrite (place : Place) (purpose : WritePurpose)
  deriving DecidableEq, Repr

/-- The outstanding item: handed and not completed; accepted by the drop or not; its completion timer (R77, R79). -/
structure PrinterItem where
  body : ItemBody
  accepted : Bool
  timer : Timer
  deriving DecidableEq, Repr

/-- An owed stripe write (R77). -/
structure OwedWrite where
  account : Text
  serial : Nat
  place : Place
  deriving DecidableEq, Repr

/-- A print job (R83). `met` says that the job has met its book, after which what it reports names the book's serial (R93, R94)
(the model's own field, log 29). `outcome` is its stripe outcome once it is known. -/
structure Job where
  ref : Ref
  account : Text
  serial : Option Nat
  bookType : Option Nat
  met : Bool
  lines : List PassLine
  balance : Option Int
  next : Nat
  printed : Nat
  lastBalance : Option Int
  layout : Option PltRec
  place : Option Place
  state : JobState
  cause : Option EndCause
  outcome : Option StripeOutcome
  timer : Timer
  deriving DecidableEq, Repr

/-- A printer context (R77); the queue stands oldest first. -/
structure PrinterContext where
  book : Option Book
  state : PrinterState
  item : Option PrinterItem
  owed : Option OwedWrite
  prompt : Prompt
  queue : List Job
  deriving DecidableEq, Repr

/-- Passbook Unit: one printer context a station, where it has one. -/
structure Pbk where
  printers : Eight (Option PrinterContext)
  deriving DecidableEq, Repr

/-! ## Stand-in and advices (SDA, chapter 5) -/

/-- A Teller Day Record (R61). -/
structure TellerDay where
  teller : Nat
  station : Option Station
  standinTotal : Nat
  txCount : Nat
  firstOn : Stamp
  lastOff : Option Stamp
  deriving DecidableEq, Repr

/-- An entry of the Stand-in Account Map (R103). -/
structure MapEntry where
  account : Text
  debit : Nat
  approvals : Nat
  deriving DecidableEq, Repr

/-- What a print job has recorded in its advice reservation (R105). -/
structure Reservation where
  ref : Ref
  account : Text
  serial : Option Nat
  received : Nat
  printed : Nat
  lastBalance : Option Int
  deriving DecidableEq, Repr

/-- The body of an advice, by kind (R105). -/
inductive AdviceBody where
  | standin (ref : Ref) (teller code : Nat) (account : Option Text) (amounts : Option (Nat × Nat)) (time : Stamp)
  | reversal (ref : Ref) (cause : ReversalCause) (dir : CashDirection) (amount : Nat)
  | passbookUpdate (r : Reservation) (cause : EndCause)
  | alarm (st : Station) (time : Stamp) (repeats : Nat)
  deriving DecidableEq, Repr

/-- An advice: its number, its body, and the acknowledgement deadline while SENT (none: UNSENT) (R105). -/
structure Advice where
  number : Nat
  body : AdviceBody
  sent : Option Nat
  deriving DecidableEq, Repr

/-- An entry of the Advice Queue (R105). -/
inductive QueueEntry where
  | advice (a : Advice)
  | reservation (r : Reservation)
  deriving DecidableEq, Repr

/-- Stand-in and Advice Unit. -/
structure Sda where
  tellerDays : List TellerDay
  accountMap : List MapEntry
  queue : List QueueEntry
  nextAdvice : Nat
  unmatchedAcks : Nat
  deriving DecidableEq, Repr

/-! ## The journal (JRN, chapter 6) -/

/-- The body of a journal entry, by kind (R117, section 12.4). -/
inductive EntryBody where
  | txn (seq code : Nat) (outcome : TxnOutcome)
  | localAction (seq code : Nat) (action : LocalAction) (refusal : Option Reason) (target : Nat)
  | passbook (seq : Nat) (serial : Option Nat) (received printed : Nat) (cause : EndCause) (outcome : StripeOutcome)
  | late (cause : LateCause) (seq code adviceNumber : Nat) (adviceKind : Option AdviceKind)
  | alarm (time : Stamp) (repeats : Nat)
  | day (state : DayState) (date : Option Date)
  | table (id : TableId) (loadId count : Nat)
  deriving DecidableEq, Repr

/-- What a writing unit hands the JRN: station (none for the concentrator), teller, body and optional parts (R117). -/
structure Draft where
  station : Option Station
  teller : Option Nat
  body : EntryBody
  account : Option Text
  amounts : Option (Int × Int)
  breakdown : Breakdown
  deriving DecidableEq, Repr

/-- A journal entry (R116). -/
structure Entry where
  seq : Nat
  date : Option Date
  time : Stamp
  draft : Draft
  deriving DecidableEq, Repr

/-- A journal batch (R124). -/
structure JournalBatch where
  first : Nat
  last : Nat
  count : Nat
  control : Int
  entries : List Entry
  deriving DecidableEq, Repr

/-- An outstanding trickle batch: its number, its content and its acknowledgement deadline (R125). -/
structure TrickleBatch where
  number : Nat
  batch : JournalBatch
  deadline : Nat
  deriving DecidableEq, Repr

/-- Journal Unit: the store and its figures (R115), the batch counter (R124), the outstanding trickle batch and the
rejection pause (R125). -/
structure Jrn where
  entries : List Entry
  used : Nat
  reserved : Nat
  free : Nat
  nextSeq : Nat
  lastAccepted : Nat
  printedCursor : Nat
  notStored : Nat
  batchCounter : Nat
  trickle : Option TrickleBatch
  pause : Timer
  unmatchedAcks : Nat
  deriving DecidableEq, Repr

/-! ## The day (DAY, chapter 7) -/

/-- The branch sums of a snapshot (R55). -/
structure BranchSums where
  total : Int
  cashIn : Int
  cashOut : Int
  rounding : Int
  overShort : Option Int
  deriving DecidableEq, Repr

/-- The nine positions by number with the branch sums (R55). -/
structure Snapshot where
  positions : List (Nat × Position)
  sums : BranchSums
  deriving DecidableEq, Repr

/-- The close flag of a position (R141). -/
inductive CloseFlag where
  | notOpened | balanced | unbalanced | suspect
  deriving DecidableEq, Repr

/-- The day figures a closed position carries (R141). -/
structure DayFigures where
  cashIn : Int
  cashOut : Int
  rounding : Int
  overShort : OverShort
  txCount : Nat
  deriving DecidableEq, Repr

/-- A position as the totals batch presents it (R141). -/
structure ClosePosition where
  number : Nat
  flag : CloseFlag
  marked : Bool
  counts : List Nat
  total : Nat
  figures : Option DayFigures
  excess : Option Bool
  deriving DecidableEq, Repr

/-- A part of the totals batch (R140). -/
inductive TotalsPart where
  | positions (partNumber partCount : Nat) (date : Option Date) (lastAccepted : Nat) (positions : List ClosePosition)
      (sums : BranchSums)
  | tellers (partNumber partCount : Nat) (records : List TellerDay)
  deriving DecidableEq, Repr

/-- The content of a batch: journal entries, or a part of the totals (R137). -/
inductive BatchContent where
  | journal (b : JournalBatch)
  | totals (p : TotalsPart)
  deriving DecidableEq, Repr

/-- A batch with its number. -/
structure Batch where
  number : Nat
  content : BatchContent
  deriving DecidableEq, Repr

/-- The settlement context (R137). `parts` are the totals parts not yet accepted; `outstanding` is the deadline of the
current batch while it is outstanding; `pause` runs after a failed trailing batch. -/
structure Settlement where
  phase : Phase
  current : Option Batch
  outstanding : Timer
  attempts : Nat
  parts : List TotalsPart
  pause : Timer
  deriving DecidableEq, Repr

/-- Day Control (R130); the unbalanced marks are a mark for each drawer and one for the reserve. -/
structure Day where
  state : DayState
  date : Option Date
  drawerMarks : Eight Bool
  reserveMark : Bool
  settlement : Option Settlement
  deriving DecidableEq, Repr

/-! ## Station lines (SLC, chapter 9) -/

/-- A line setup (R164). -/
structure LineSetup where
  role : Role
  printerPresent : Bool
  mirrorPresent : Bool
  functions : Four LineFunction
  depth : Nat
  mirrorKey : Nat
  mirrorMask : Nat
  mirrorFill : Char
  deriving DecidableEq, Repr

/-- A drop of a line with a role: its state and missed responses (R169), its BUSY wait (R171), the moment its next
re-poll falls due and whether one is due (R169). -/
structure DropStatus where
  state : DropState
  missed : Nat
  busy : Timer
  repoll : Timer
  repollDue : Bool
  deriving DecidableEq, Repr

/-- What a select carries, as it stood when the SELECT was issued (R171). -/
inductive SelectItem where
  | terminal (image : TerminalImage)
  | mirror (rows : List Text)
  | printer (body : ItemBody)
  | journalLine (entry : Entry)
  deriving DecidableEq, Repr

/-- An exchange in progress (R168). -/
inductive Exchange where
  | poll (d : Drop)
  | select (d : Drop) (item : SelectItem)
  deriving DecidableEq, Repr

/-- The error summary of a line (R173). -/
structure ErrorSummary where
  checkError : Nat
  framing : Nat
  unsolicited : Nat
  noResponse : Nat
  deriving DecidableEq, Repr

/-- The mode of a line test: none running, ECHO, or LOOP of n frames (R178). -/
inductive TestMode where
  | idle
  | echo
  | loop (n : Nat)
  deriving DecidableEq, Repr

/-- A test record (R178). `stopping` holds the request id of a STOP that waits for the frame being judged. -/
structure TestRecord where
  mode : TestMode
  sent : Nat
  matched : Nat
  mismatched : Nat
  stopping : Option Nat
  deriving DecidableEq, Repr

/-- A station line with its discrete lines (R164 to R178). `drawerOpen` is the sensed level of its DRAWER_SENSE line.
`lastPolled`, `lastSelected` and `lastWasSelect` order the next exchange (R168); `sweeping` says that an attention sweep
runs and `sweep` holds the drops it has still to poll (R172); `unsolicitedRun` says that the run of characters since the last
exchange has been counted (R170); `echoed` is what ECHO last sent back (R178). -/
structure Line where
  setup : LineSetup
  drops : Three (Option DropStatus)
  exchange : Option Exchange
  buffer : List (Drop × DropFrame)
  lastPolled : Option Drop
  lastSelected : Option Drop
  lastWasSelect : Bool
  sweeping : Bool
  sweep : List Drop
  errors : ErrorSummary
  unsolicitedRun : Bool
  latches : Four Bool
  drawerOpen : Bool
  pulse : Timer
  openTimer : Timer
  leftOpen : Bool
  test : Option TestRecord
  echoed : Option LineSignal
  deriving DecidableEq, Repr

/-- Station Line Controller. `samples` counts the readings of wires whose level no command gives (the model's own field:
it indexes the free value Config.inputLevel). -/
structure Slc where
  lines : Eight Line
  samples : Nat
  deriving DecidableEq, Repr

/-! ## Management (MRS, chapter 11) -/

/-- The branch settings (R193). -/
structure Settings where
  linkSilence : Nat
  adviceAck : Nat
  batchAck : Nat
  pageTurn : Nat
  drawerOpen : Nat
  highWater : Nat
  journalMode : JournalMode
  deriving DecidableEq, Repr

/-- The event flags, each clear or set (R194). -/
structure EventFlags where
  linkLost : Bool
  linkRestored : Bool
  dropDown : Eight Bool
  drawerLeftOpen : Bool
  alarm : Bool
  excessCash : Bool
  journalHighWater : Bool
  journalFull : Bool
  loadAbandoned : Bool
  adviceRefused : Bool
  suspectPosition : Bool
  counterSaturated : Bool
  settleFailed : Bool
  retentionLost : Bool
  unmatchedReply : Bool
  mgmtOverrun : Bool
  deriving DecidableEq, Repr

/-- A place of the management request buffer (R191): a request, taken by the MRS or still waiting to be taken. -/
structure MgmtPlace where
  id : Nat
  request : MgmtRequest
  taken : Bool
  deriving DecidableEq, Repr

/-- Management Responder: the request buffer, the flags with their two counts, the settings and the clock. -/
structure Mrs where
  places : List MgmtPlace
  flags : EventFlags
  unmatchedReplies : Nat
  overruns : Nat
  settings : Settings
  clock : Stamp
  deriving DecidableEq, Repr

/-- The status of a management reply: carried out, or the refusal with the item it names (R192, R202). -/
inductive MgmtStatus where
  | accepted | committed | done | doneClamped
  | badRequest | wrongDayState | badDate | journalUnprinted | inFlight | roleOrder | roleConflict
  | loadBusy | notLoading | sequence | capacity
  | checkFailed (index : Nat) (reason : CheckReason) (item : Option Nat)
  | inUse (item : Nat)
  deriving DecidableEq, Repr

/-- The records of an active table with its header, as a TABLE-READ returns them (R163). -/
inductive TableRecords where
  | tct (records : List TctRec)
  | sft (records : List SftFormat)
  | dnt (header : DntHeader) (records : List DntRec)
  | tlt (ceiling : Nat) (records : List TltRec)
  | plt (records : List PltRec)
  deriving DecidableEq, Repr

/-- A line as STATUS-READ reports it (R196). -/
structure LineReport where
  setup : LineSetup
  drops : Three (Option DropState)
  printer : Option PrinterState
  bookInserted : Bool
  queueLength : Nat
  test : Option TestRecord
  deriving DecidableEq, Repr

/-- The content of a STATUS-READ reply (R196). -/
structure StatusReport where
  flags : EventFlags
  unmatchedReplies : Nat
  overruns : Nat
  day : DayState
  date : Option Date
  settlement : Option (Phase × Option Nat × Nat)
  link : LinkState
  frameCheck : Nat
  frameForm : Nat
  ottEntries : Nat
  ottPerStation : Eight Nat
  lateEntries : Nat
  standins : Nat
  reversals : Nat
  passbookUpdates : Nat
  alarms : Nat
  reservations : Nat
  sent : Nat
  unmatchedAcks : Nat
  mapEntries : Nat
  used : Nat
  reserved : Nat
  free : Nat
  entriesHeld : Nat
  entryReservations : Nat
  entriesFree : Nat
  oldestHeld : Option Nat
  nextSeq : Nat
  lastAccepted : Nat
  printedCursor : Nat
  notStored : Nat
  unmatchedBatchAcks : Nat
  lines : Eight LineReport
  errors : List (Station × ErrorSummary)
  clock : Stamp
  deriving DecidableEq, Repr

/-- The content a management reply carries beside its status. -/
inductive ReplyContent where
  | nothing
  | records (n : Nat)
  | tableRead (id : TableId) (loadId : Option Nat) (total : Nat) (records : TableRecords) (lastIndex : Nat)
  | clamped (items : List (SettingName × Nat))
  | settings (s : Settings)
  | role (r : Role)
  | latches (v : Four Bool)
  | testCounts (sent matched mismatched : Nat)
  | status (r : StatusReport)
  | totals (snap : Snapshot) (records : List TellerDay) (map : List MapEntry) (day : DayState) (date : Option Date)
      (marks : List Nat)
  | dayState (d : DayState)
  | forced (tellers positions : List Nat) (d : DayState)
  | retry (p : Phase) (number : Option Nat)
  | rolled (lastSequence lastAccepted removed : Nat)
  deriving DecidableEq, Repr

/-- A management reply (R192). -/
structure MgmtReply where
  id : Nat
  status : MgmtStatus
  content : ReplyContent
  deriving DecidableEq, Repr

/-! ## The branch link (BLC, chapter 10) -/

/-- The content of a REQUEST frame (R17, section 12.2). -/
structure RequestMsg where
  ref : Ref
  teller : Nat
  code : Nat
  form : Nat
  snapshot : Option Book
  leg : Option Leg
  fields : List KeyField
  deriving DecidableEq, Repr

/-- An event notice (R195). -/
structure EventNotice where
  flag : EventFlag
  time : Stamp
  station : Option Station
  deriving DecidableEq, Repr

/-- An outbound message (R182). -/
inductive OutMsg where
  | request (m : RequestMsg)
  | advice (number : Nat) (body : AdviceBody)
  | mgmtReply (r : MgmtReply)
  | batch (b : Batch)
  | linkAnswer (number : Nat) (link : LinkState) (day : DayState) (queued unsent : Nat)
  | event (n : EventNotice)
  deriving DecidableEq, Repr

/-- The kinds of inbound message (R181, section 12.1). -/
inductive InboundKind where
  | reply | mgmtReq | adviceAck | batchAck | linkCheck
  deriving DecidableEq, Repr

/-- The inbound message being gathered: its kind, the segment expected next and the payload so far (R183). -/
structure Reassembly where
  kind : InboundKind
  expected : Nat
  payload : List Byte
  deriving DecidableEq, Repr

/-- Branch Link Controller (R180). The four classes that hold messages of their own (R189); the advice and batch classes
hold only an offer, judged and built when the arbiter takes from them. `sending` is the message being sent with its
frames, none when the transmitter is IDLE. -/
structure Blc where
  link : LinkState
  silence : Timer
  reassembly : Option Reassembly
  sending : Option (OutMsg × List (List Byte))
  linkAnswer : Option Nat
  replies : List MgmtReply
  requests : List RequestMsg
  events : List EventNotice
  frameCheck : Nat
  frameForm : Nat
  deriving DecidableEq, Repr

/-! ## The whole part -/

/-- Retained Store: its validity marker (R199). What it retains stands in the blocks' own records. -/
structure Rts where
  marker : Bool
  deriving DecidableEq, Repr

/-- The state of the part. `pending` is the queue of commands that wait, first in first out. `uptime` is the part's own
running time in milliseconds, by which its timers are set (model's own field). -/
structure State where
  pending : List Instr
  uptime : Nat
  ttr : Ttr
  csh : Csh
  scm : Scm
  pbk : Pbk
  sda : Sda
  jrn : Jrn
  day : Day
  tbl : Tbl
  slc : Slc
  blc : Blc
  mrs : Mrs
  rts : Rts
  deriving DecidableEq, Repr

/-- The spec gives the part no condition that stops it: every frame, request and expiry is taken, refused with a reply or
discarded (R1, R4, R21, R112, R125, R181, R192). So no step faults. Safe: there is nothing to leave out. -/
inductive Fault where
  deriving DecidableEq, Repr

/-- Why a command is not run by the model at all. -/
inductive Refusal where
  /-- raised by `exec` for a command that has no meaning in the model yet: safe, nothing is claimed of it -/
  | notModelled (mnemonic : String)
  deriving DecidableEq, Repr

/-! ## The state after reset: a cold start (R199) -/

/-- A position after a cold start (R30). -/
def Position.cold : Position :=
  { state := .notOpened, counts := [], total := 0, cashIn := 0, cashOut := 0, rounding := 0, overShort := .absent,
    txCount := 0, excess := false }

/-- The line setup after a cold start (R164). -/
def LineSetup.cold : LineSetup :=
  { role := .off, printerPresent := false, mirrorPresent := false,
    functions := ⟨.drawerRelease, .drawerSense, .alarmIn, .lamp⟩, depth := 2, mirrorKey := 0, mirrorMask := 15,
    mirrorFill := ' ' }

/-- An error summary of zero counts (R173). -/
def ErrorSummary.zero : ErrorSummary := ⟨0, 0, 0, 0⟩

/-- A line after a cold start: OFF, all its volatile state as a start leaves it; the DRAWER_SENSE wire rests CLOSED
(DESIGN CHOICE, log 6: its level comes from outside); no drop counts as last polled or selected and the last exchange as no
select, and no exchange, sweep or run of characters goes on (DESIGN CHOICE, log 22); no release pulse runs (DESIGN CHOICE, log
37). -/
def Line.cold : Line :=
  { setup := LineSetup.cold, drops := ⟨none, none, none⟩, exchange := none, buffer := [], lastPolled := none,
    lastSelected := none, lastWasSelect := false, sweeping := false, sweep := [], errors := ErrorSummary.zero, unsolicitedRun := false,
    latches := Four.fill false, drawerOpen := false, pulse := none, openTimer := none, leftOpen := false,
    test := none, echoed := none }

/-- The branch settings after a cold start (R193). -/
def Settings.cold : Settings :=
  { linkSilence := 20, adviceAck := 15, batchAck := 60, pageTurn := 120, drawerOpen := 60, highWater := 80,
    journalMode := .hold }

/-- The event flags, all clear (R194). -/
def EventFlags.clear : EventFlags :=
  { linkLost := false, linkRestored := false, dropDown := Eight.fill false, drawerLeftOpen := false, alarm := false,
    excessCash := false, journalHighWater := false, journalFull := false, loadAbandoned := false,
    adviceRefused := false, suspectPosition := false, counterSaturated := false, settleFailed := false,
    retentionLost := false, unmatchedReply := false, mgmtOverrun := false }

/-- The clock at a start: 0 and unset (R198). -/
def Stamp.atStart : Stamp := ⟨0, true⟩

/-- The part right after reset: what a cold start leaves (R199), its validity marker written, RETENTION_LOST raised
and its notice waiting; no command pending (DEDUCED, log 24). -/
def State.reset : State :=
  { pending := []
    uptime := 0
    ttr := { ott := [], late := [], seqs := Eight.fill 1 }
    csh := { drawers := Eight.fill Position.cold, reserve := Position.cold }
    scm := { signOn := Eight.fill none, contexts := Eight.fill none, broadcast := none }
    pbk := { printers := Eight.fill none }
    sda := { tellerDays := [], accountMap := [], queue := [], nextAdvice := 1, unmatchedAcks := 0 }
    jrn := { entries := [], used := 0, reserved := 0, free := Config.journalSlots, nextSeq := 1, lastAccepted := 0,
             printedCursor := 0, notStored := 0, batchCounter := 1, trickle := none, pause := none, unmatchedAcks := 0 }
    day := { state := .noDate, date := none, drawerMarks := Eight.fill false, reserveMark := false, settlement := none }
    tbl := { tct := [], tctId := none, sft := [], sftId := none, dnt := [], dntHeader := ⟨0, 1⟩, dntId := none,
             tlt := [], tltCeiling := 0, tltId := none, plt := [], pltId := none, load := none }
    slc := { lines := Eight.fill Line.cold, samples := 0 }
    blc := { link := .lost, silence := none, reassembly := none, sending := none, linkAnswer := none, replies := [],
             requests := [], events := [⟨.retentionLost, Stamp.atStart, none⟩], frameCheck := 0, frameForm := 0 }
    mrs := { places := [], flags := { EventFlags.clear with retentionLost := true }, unmatchedReplies := 0,
             overruns := 0, settings := Settings.cold, clock := Stamp.atStart }
    rts := { marker := true } }

end Sys2Proof.Machine
end

