-- ==== Sys2Proof/Machine/Codes.lean ====
section
/-! DEFINITION. How enumerated values are coded on the wire (R201: by their position, counted from 1, in the list the
owning rule gives; 0 means absent or none), and the names the part shows for them. -/

namespace Sys2Proof.Machine
open Sys2Proof

/-- The code of a value of Routing: its position in the list of R150 (R201). -/
def routingCode : Routing → Nat
  | .online => 1 | .onlineStandin => 2 | .localCode => 3

/-- The value of Routing a code names, if any (R201). -/
def routingOfCode : Nat → Option Routing
  | 1 => some .online | 2 => some .onlineStandin | 3 => some .localCode | _ => none

/-- The code of a value of LocalAction: its position in the list of R150 (R201). -/
def localActionCode : LocalAction → Nat
  | .signOn => 1 | .signOff => 2 | .toReserve => 3 | .fromReserve => 4 | .balance => 5 | .positionEnquiry => 6

/-- The value of LocalAction a code names, if any (R201). -/
def localActionOfCode : Nat → Option LocalAction
  | 1 => some .signOn | 2 => some .signOff | 3 => some .toReserve | 4 => some .fromReserve | 5 => some .balance | 6 => some .positionEnquiry | _ => none

/-- The code of a value of DayClass: its position in the list of R150 (R201). -/
def dayClassCode : DayClass → Nat
  | .customer => 1 | .admin => 2

/-- The value of DayClass a code names, if any (R201). -/
def dayClassOfCode : Nat → Option DayClass
  | 1 => some .customer | 2 => some .admin | _ => none

/-- The code of a value of Authority: its position in the list of R150, R153 (R201). -/
def authorityCode : Authority → Nat
  | .teller => 1 | .supervisor => 2

/-- The value of Authority a code names, if any (R201). -/
def authorityOfCode : Nat → Option Authority
  | 1 => some .teller | 2 => some .supervisor | _ => none

/-- The code of a value of CashDirection: its position in the list of R150, NONE being a value of that list and so coded 1
and not 0 (R201; DESIGN CHOICE, log 12). -/
def cashDirectionCode : CashDirection → Nat
  | .noCash => 1 | .cashIn => 2 | .cashOut => 3

/-- The value of CashDirection a code names, if any (R201). -/
def cashDirectionOfCode : Nat → Option CashDirection
  | 1 => some .noCash | 2 => some .cashIn | 3 => some .cashOut | _ => none

/-- The code of a value of PassbookUse: its position in the list of R150, NONE being a value of that list and so coded 1 and
not 0 (R201; DESIGN CHOICE, log 12). -/
def passbookUseCode : PassbookUse → Nat
  | .notUsed => 1 | .optional => 2 | .required => 3

/-- The value of PassbookUse a code names, if any (R201). -/
def passbookUseOfCode : Nat → Option PassbookUse
  | 1 => some .notUsed | 2 => some .optional | 3 => some .required | _ => none

/-- The code of a level: its position in ACTIVE, INACTIVE, the list of R174 (R201). -/
def levelCode : Bool → Nat
  | true => 1 | false => 2

/-- The code of a value of FormatKind: its position in the list of R151 (R201). -/
def formatKindCode : FormatKind → Nat
  | .input => 1 | .output => 2

/-- The value of FormatKind a code names, if any (R201). -/
def formatKindOfCode : Nat → Option FormatKind
  | 1 => some .input | 2 => some .output | _ => none

/-- The code of a value of FieldKind: its position in the list of R151 (R201). -/
def fieldKindCode : FieldKind → Nat
  | .text => 1 | .numeric => 2 | .amount => 3 | .protectedField => 4

/-- The value of FieldKind a code names, if any (R201). -/
def fieldKindOfCode : Nat → Option FieldKind
  | 1 => some .text | 2 => some .numeric | 3 => some .amount | 4 => some .protectedField | _ => none

/-- The code of a value of FieldSource: its position in the list of R151 (R201). -/
def fieldSourceCode : FieldSource → Nat
  | .replyTag => 1 | .breakdown => 2 | .positionTotal => 3 | .passbookStatus => 4 | .businessDate => 5 | .teller => 6 | .reference => 7 | .reason => 8

/-- The value of FieldSource a code names, if any (R201). -/
def fieldSourceOfCode : Nat → Option FieldSource
  | 1 => some .replyTag | 2 => some .breakdown | 3 => some .positionTotal | 4 => some .passbookStatus | 5 => some .businessDate | 6 => some .teller | 7 => some .reference | 8 => some .reason | _ => none

/-- The code of a value of MoneyKind: its position in the list of R152 (R201). -/
def moneyKindCode : MoneyKind → Nat
  | .note => 1 | .coin => 2

/-- The value of MoneyKind a code names, if any (R201). -/
def moneyKindOfCode : Nat → Option MoneyKind
  | 1 => some .note | 2 => some .coin | _ => none

/-- The code of a value of Role: its position in the list of R164 (R201). -/
def roleCode : Role → Nat
  | .off => 1 | .teller => 2 | .journalPrinter => 3

/-- The value of Role a code names, if any (R201). -/
def roleOfCode : Nat → Option Role
  | 1 => some .off | 2 => some .teller | 3 => some .journalPrinter | _ => none

/-- The code of a value of LineFunction: its position in the list of R174 (R201). -/
def lineFunctionCode : LineFunction → Nat
  | .drawerSense => 1 | .alarmIn => 2 | .spareIn => 3 | .drawerRelease => 4 | .lamp => 5 | .spareOut => 6

/-- The value of LineFunction a code names, if any (R201). -/
def lineFunctionOfCode : Nat → Option LineFunction
  | 1 => some .drawerSense | 2 => some .alarmIn | 3 => some .spareIn | 4 => some .drawerRelease | 5 => some .lamp | 6 => some .spareOut | _ => none

/-- The code of a value of JournalMode: its position in the list of R193 (R201). -/
def journalModeCode : JournalMode → Nat
  | .hold => 1 | .trickle => 2

/-- The value of JournalMode a code names, if any (R201). -/
def journalModeOfCode : Nat → Option JournalMode
  | 1 => some .hold | 2 => some .trickle | _ => none

/-- The code of a value of SettingName: its position in the list of R193 (R201). -/
def settingNameCode : SettingName → Nat
  | .linkSilence => 1 | .adviceAck => 2 | .batchAck => 3 | .pageTurn => 4 | .drawerOpen => 5 | .highWater => 6 | .journalMode => 7

/-- The value of SettingName a code names, if any (R201). -/
def settingNameOfCode : Nat → Option SettingName
  | 1 => some .linkSilence | 2 => some .adviceAck | 3 => some .batchAck | 4 => some .pageTurn | 5 => some .drawerOpen | 6 => some .highWater | 7 => some .journalMode | _ => none

/-- The code of a value of TableId: its position in the list of R155 (R201). -/
def tableIdCode : TableId → Nat
  | .tct => 1 | .sft => 2 | .dnt => 3 | .tlt => 4 | .plt => 5

/-- The value of TableId a code names, if any (R201). -/
def tableIdOfCode : Nat → Option TableId
  | 1 => some .tct | 2 => some .sft | 3 => some .dnt | 4 => some .tlt | 5 => some .plt | _ => none

/-- The code of a value of DayState: its position in the list of R130 (R201). -/
def dayStateCode : DayState → Nat
  | .noDate => 1 | .opened => 2 | .cutoff => 3 | .settling => 4 | .settled => 5 | .settleFailed => 6

/-- The code of a value of LinkState: its position in the list of R180 (R201). -/
def linkStateCode : LinkState → Nat
  | .lost => 1 | .up => 2 | .recovering => 3

/-- The code of a value of PositionState: its position in the list of R30 (R201). -/
def positionStateCode : PositionState → Nat
  | .notOpened => 1 | .active => 2 | .balanced => 3 | .suspect => 4

/-- The code of a value of PrinterState: its position in the list of R77 (R201). -/
def printerStateCode : PrinterState → Nat
  | .ready => 1 | .printing => 2 | .fault => 3 | .down => 4

/-- The code of a value of DropState: its position in the list of R169 (R201). -/
def dropStateCode : DropState → Nat
  | .new => 1 | .up => 2 | .down => 3

/-- The code of a value of EndCause: its position in the list of R93 (R201). -/
def endCauseCode : EndCause → Nat
  | .complete => 1 | .bookAbsent => 2 | .bookFull => 3 | .turnTimeout => 4 | .printerFault => 5 | .bookRemoved => 6 | .printerDown => 7 | .noLayout => 8 | .badStripe => 9 | .lineOff => 10 | .restart => 11

/-- The code of a value of StripeOutcome: its position in the list of R93, NONE being a value of that list and so coded 3 and
not 0 (R201; DESIGN CHOICE, log 12). -/
def stripeOutcomeCode : StripeOutcome → Nat
  | .written => 1 | .owed => 2 | .notDue => 3

/-- The code of a value of ReversalCause: its position in the list of R105 (R201). -/
def reversalCauseCode : ReversalCause → Nat
  | .lateApproval => 1 | .abandonedOnRestart => 2 | .abandonedOnLineOff => 3

/-- The code of a value of AdviceKind: its position in the list of R105 (R201). -/
def adviceKindCode : AdviceKind → Nat
  | .standin => 1 | .reversal => 2 | .passbookUpdate => 3 | .alarm => 4

/-- The code of a value of TxnOutcome: its position in the list of R117 (R201). -/
def txnOutcomeCode : TxnOutcome → Nat
  | .approved => 1 | .declined => 2 | .timedOut => 3 | .linkDown => 4 | .abandoned => 5 | .standinApproved => 6

/-- The code of a value of LateCause: its position in the list of R117 (R201). -/
def lateCauseCode : LateCause → Nat
  | .expired => 1 | .lateApproval => 2 | .lateDecline => 3 | .adviceRefused => 4

/-- The code of a value of Phase: its position in the list of R137 (R201). -/
def phaseCode : Phase → Nat
  | .journal => 1 | .totals => 2 | .trailing => 3

/-- The code of a value of CloseFlag: its position in the list of section 12.2, BATCH (R201). -/
def closeFlagCode : CloseFlag → Nat
  | .notOpened => 1 | .balanced => 2 | .unbalanced => 3 | .suspect => 4

/-- A name as it appears on a screen: written with spaces for underscores (R70). -/
def screenWords (name : Text) : Text := name.map fun c => if c = '_' then ' ' else c

/-- The name of a refusal reason (R4, R37, R48, R50, R59, R62, R99). -/
def reasonName : Reason → Text
  | .notSignedOn => "NOT_SIGNED_ON".toList
  | .unknownCode => "UNKNOWN_CODE".toList
  | .formMismatch => "FORM_MISMATCH".toList
  | .input _ => "INPUT".toList
  | .noBusinessDate => "NO_BUSINESS_DATE".toList
  | .dayClosed => "DAY_CLOSED".toList
  | .authority => "AUTHORITY".toList
  | .journalFull => "JOURNAL_FULL".toList
  | .stationDepth => "STATION_DEPTH".toList
  | .trackerFull => "TRACKER_FULL".toList
  | .passbookRequired => "PASSBOOK_REQUIRED".toList
  | .linkDown => "LINK_DOWN".toList
  | .adviceFull => "ADVICE_FULL".toList
  | .drawerOpen => "DRAWER_OPEN".toList
  | .suspect => "SUSPECT".toList
  | .breakdownRequired => "BREAKDOWN_REQUIRED".toList
  | .breakdownMismatch => "BREAKDOWN_MISMATCH".toList
  | .insufficientCash => "INSUFFICIENT_CASH".toList
  | .noExactChange => "NO_EXACT_CHANGE".toList
  | .drawerLimit => "DRAWER_LIMIT".toList
  | .countLimit => "COUNT_LIMIT".toList
  | .standinCeiling => "STANDIN_CEILING".toList
  | .accountCeiling => "ACCOUNT_CEILING".toList
  | .accountMapFull => "ACCOUNT_MAP_FULL".toList
  | .stationInUse => "STATION_IN_USE".toList
  | .tellerActive => "TELLER_ACTIVE".toList
  | .unknownTeller => "UNKNOWN_TELLER".toList
  | .tellerListFull => "TELLER_LIST_FULL".toList
  | .inFlight => "IN_FLIGHT".toList

/-- The code of a refusal in a LOCAL entry's outcome byte (section 12.4); the other reasons never reach a LOCAL entry. -/
def localReasonCode : Reason → Nat
  | .stationInUse => 1
  | .tellerActive => 2
  | .unknownTeller => 3
  | .authority => 4
  | .tellerListFull => 5
  | .inFlight => 6
  | .breakdownRequired => 7
  | .breakdownMismatch => 8
  | .suspect => 9
  | .insufficientCash => 10
  | .countLimit => 11
  | .drawerLimit => 12
  | _ => 0

/-- The name of an end cause (R93). -/
def endCauseName : EndCause → Text
  | .complete => "COMPLETE".toList
  | .bookAbsent => "BOOK_ABSENT".toList
  | .bookFull => "BOOK_FULL".toList
  | .turnTimeout => "TURN_TIMEOUT".toList
  | .printerFault => "PRINTER_FAULT".toList
  | .bookRemoved => "BOOK_REMOVED".toList
  | .printerDown => "PRINTER_DOWN".toList
  | .noLayout => "NO_LAYOUT".toList
  | .badStripe => "BAD_STRIPE".toList
  | .lineOff => "LINE_OFF".toList
  | .restart => "RESTART".toList

/-- The words of a job state in a PASSBOOK_STATUS field (R68). -/
def jobStateWords : JobState → Text
  | .queued => "QUEUED".toList
  | .bookWait => "BOOK WAIT".toList
  | .printing => "PRINTING".toList
  | .turnWait => "TURN WAIT".toList
  | .ended => []

/-- The words of a position state after a POSITION_ENQUIRY (R70). -/
def positionStateWords : PositionState → Text
  | .notOpened => "NOT OPENED".toList
  | .active => "ACTIVE".toList
  | .balanced => "BALANCED".toList
  | .suspect => "SUSPECT".toList

/-- The link part of the status line (R71). -/
def linkWords : LinkState → Text
  | .up => "ONLINE".toList
  | .lost => "STAND-IN".toList
  | .recovering => "RECOVERING".toList

/-- The day part of the status line (R71). -/
def dayWords : DayState → Text
  | .noDate => "NO DATE".toList
  | .opened => "OPEN".toList
  | .cutoff => "CUTOFF".toList
  | .settling => "CLOSED".toList
  | .settled => "CLOSED".toList
  | .settleFailed => "CLOSED".toList

/-- The passbook part of the status line, absent where there is no prompt (R71). -/
def promptWords : Prompt → Text
  | .noPrompt => []
  | .turnPage => "TURN PAGE".toList
  | .wrongBook => "WRONG BOOK".toList
  | .bookFull => "BOOK FULL".toList

/-- The name of the reason of a failed commit check (R150 to R154, R160). -/
def checkReasonName : CheckReason → Text
  | .range => "RANGE".toList
  | .duplicate => "DUPLICATE".toList
  | .localFields => "LOCAL_FIELDS".toList
  | .standinPassbook => "STANDIN_PASSBOOK".toList
  | .order => "ORDER".toList
  | .increment => "INCREMENT".toList
  | .limits => "LIMITS".toList
  | .layout => "LAYOUT".toList
  | .formatMissing => "FORMAT_MISSING".toList
  | .formatKind => "FORMAT_KIND".toList
  | .fieldTag => "FIELD_TAG".toList
  | .noDenominations => "NO_DENOMINATIONS".toList

/-- The name of a management status (R192, R202). -/
def mgmtStatusName : MgmtStatus → Text
  | .accepted => "ACCEPTED".toList
  | .committed => "COMMITTED".toList
  | .done => "DONE".toList
  | .doneClamped => "DONE_CLAMPED".toList
  | .badRequest => "BAD_REQUEST".toList
  | .wrongDayState => "WRONG_DAY_STATE".toList
  | .badDate => "BAD_DATE".toList
  | .journalUnprinted => "JOURNAL_UNPRINTED".toList
  | .inFlight => "IN_FLIGHT".toList
  | .roleOrder => "ROLE_ORDER".toList
  | .roleConflict => "ROLE_CONFLICT".toList
  | .loadBusy => "LOAD_BUSY".toList
  | .notLoading => "NOT_LOADING".toList
  | .sequence => "SEQUENCE".toList
  | .capacity => "CAPACITY".toList
  | .checkFailed _ _ _ => "CHECK_FAILED".toList
  | .inUse _ => "IN_USE".toList

/-- The position of an event flag in the list of R194 (R201). -/
def eventFlagCode : EventFlag → Nat
  | .linkLost => 1 | .linkRestored => 2 | .dropDown _ => 3 | .drawerLeftOpen => 4 | .alarm => 5 | .excessCash => 6
  | .journalHighWater => 7 | .journalFull => 8 | .loadAbandoned => 9 | .adviceRefused => 10 | .suspectPosition => 11
  | .counterSaturated => 12 | .settleFailed => 13 | .retentionLost => 14 | .unmatchedReply => 15 | .mgmtOverrun => 16

end Sys2Proof.Machine
end

