-- ==== Sys2Proof/Machine/Operands.lean ====
section
/-! DEFINITION. Reading what a request carries: decimals and amounts (R7), field lists (R6), breakdowns (R35), dates
(R132); and writing numbers and amounts into texts (R69). -/

namespace Sys2Proof.Machine
open Sys2Proof

/-! ## Numbers in texts -/

/-- The character is a decimal digit. -/
def digitChar (c : Char) : Bool := decide (48 ≤ c.toNat) && decide (c.toNat ≤ 57)

/-- The number that digits write. -/
def digitsValue (t : Text) : Nat := t.foldl (fun n c => 10 * n + (c.toNat - 48)) 0

/-- The value of a text of digits only, at least one. -/
def readDecimal (t : Text) : Option Nat :=
  if t ≠ [] ∧ t.all digitChar then some (digitsValue t) else none

/-- A number in decimal without leading zeros. -/
def natText (n : Nat) : Text := Nat.toDigits 10 n

/-- A number in decimal, filled up with zeros on the left to a width. -/
def paddedText (width n : Nat) : Text :=
  List.replicate (width - (natText n).length) '0' ++ natText n

/-- An AMOUNT text read in minor units: digits with at most one point, after it at most as many digits as the currency
decimals (none where they are 0), at least one digit (R7). The range is tested apart. -/
def readAmountText (decimals : Nat) (t : Text) : Option Nat :=
  let whole := t.takeWhile (· ≠ '.')
  match t.dropWhile (· ≠ '.') with
  | [] => if whole ≠ [] ∧ whole.all digitChar then some (digitsValue whole * 10 ^ decimals) else none
  | _ :: frac =>
    if decimals ≠ 0 ∧ (whole ++ frac) ≠ [] ∧ (whole ++ frac).all digitChar ∧ frac.length ≤ decimals then
      some (digitsValue (whole ++ frac ++ List.replicate (decimals - frac.length) '0'))
    else none

/-- A valid AMOUNT text: its value lies from 1 to 99,999,999,999 (R7). -/
def readAmount (decimals : Nat) (t : Text) : Option Nat :=
  match readAmountText decimals t with
  | some v => if 1 ≤ v ∧ v ≤ Config.topAmount then some v else none
  | none => none

/-- An amount in minor units written with the currency decimals: sign, integer part, point and exactly that many
digits (R69). A zero amount is written without a sign, also where the text it was read from has one (DESIGN CHOICE,
log 36). -/
def amountText (decimals : Nat) (v : Int) : Text :=
  let n := v.natAbs
  let sign : Text := if v < 0 then ['-'] else []
  if decimals = 0 then sign ++ natText n
  else sign ++ natText (n / 10 ^ decimals) ++ '.' :: paddedText decimals (n % 10 ^ decimals)

/-- A text that is an optional minus sign and 1 to 13 digits, as an amount in minor units (R69). -/
def readMinorUnits (t : Text) : Option Int :=
  match t with
  | '-' :: rest =>
    if rest.length ≤ 13 then (readDecimal rest).map fun n => - (n : Int) else none
  | _ => if t.length ≤ 13 then (readDecimal t).map fun n => (n : Int) else none

/-! ## Fitting a text to a place -/

/-- A text cut to a length, its last character then a star (R1, R69). -/
def cutText (len : Nat) (t : Text) : Text :=
  if t.length ≤ len then t else if len = 0 then [] else t.take (len - 1) ++ ['*']

/-- A text cut or filled with spaces to a length, to the right or to the left (R69). -/
def fitWidth (right : Bool) (len : Nat) (t : Text) : Text :=
  let c := cutText len t
  let pad := List.replicate (len - c.length) ' '
  if right then pad ++ c else c ++ pad

/-- A text fitted to a screen field by its kind and length (R69). -/
def fitField (decimals : Nat) (kind : FieldKind) (len : Nat) (t : Text) : Text :=
  match kind with
  | .amount =>
    match readMinorUnits t with
    | some v => fitWidth true len (amountText decimals v)
    | none => fitWidth true len t
  | .numeric => fitWidth true len t
  | .text => fitWidth false len t
  | .protectedField => fitWidth false len t

/-- A reference as it is written: 3/1042. -/
def refText (r : Ref) : Text := natText r.station.num ++ '/' :: natText r.seq

/-! ## Dates (R132) -/

/-- The length of a month in a year of 2000 to 2099. -/
def monthLength (year month : Nat) : Nat :=
  if month = 2 then (if year % 4 = 0 then 29 else 28)
  else if month = 4 ∨ month = 6 ∨ month = 9 ∨ month = 11 then 30 else 31

/-- A calendar date from 2000-01-01 to 2099-12-31. -/
def validDate (d : Date) : Bool :=
  decide (2000 ≤ d.year) && decide (d.year ≤ 2099) && decide (1 ≤ d.month) && decide (d.month ≤ 12) &&
    decide (1 ≤ d.day) && decide (d.day ≤ monthLength d.year d.month)

/-- One date is later than another. -/
def laterDate (a b : Date) : Bool :=
  decide (b.year < a.year) || (decide (a.year = b.year) &&
    (decide (b.month < a.month) || (decide (a.month = b.month) && decide (b.day < a.day))))

/-- A business date written YYYY-MM-DD (R68). -/
def dateText (d : Date) : Text :=
  paddedText 4 d.year ++ '-' :: paddedText 2 d.month ++ '-' :: paddedText 2 d.day

/-! ## Field lists (R2, R6, R7) -/

/-- The entries of a field list that count: an empty text is as if the entry had not been sent (R2). -/
def sentFields (fields : List KeyField) : List KeyField := fields.filter fun f => f.text ≠ []

/-- The text a field list carries for a tag. -/
def fieldText (fields : List KeyField) (tag : Nat) : Option Text :=
  (fields.find? fun f => f.tag = tag).map KeyField.text

/-- The field of a format with a tag. -/
def formatField (fmt : SftFormat) (tag : Nat) : Option SftField := fmt.fields.find? fun f => f.tag = tag

/-- First pass of check 4: the first required field of the format without an entry (R6). -/
def missingRequired (fmt : SftFormat) (fields : List KeyField) : Option Nat :=
  (fmt.fields.find? fun f => f.required && (fieldText fields f.tag).isNone).map SftField.tag

/-- One entry passes the second pass of check 4, given the tags of the entries before it (R6). -/
def entryPasses (decimals : Nat) (fmt : SftFormat) (earlier : List Nat) (e : KeyField) : Bool :=
  match formatField fmt e.tag with
  | none => false
  | some f =>
    !earlier.contains e.tag &&
      match f.kind with
      | .protectedField => true
      | .text => decide (e.text.length ≤ f.length)
      | .numeric => decide (e.text.length ≤ f.length) && e.text.all digitChar
      | .amount => decide (e.text.length ≤ f.length) && (readAmount decimals e.text).isSome

/-- Second pass of check 4: the tag of the first entry that fails (R6). -/
def failingEntry (decimals : Nat) (fmt : SftFormat) : List Nat → List KeyField → Option Nat
  | _, [] => none
  | earlier, e :: rest =>
    if entryPasses decimals fmt earlier e then failingEntry decimals fmt (e.tag :: earlier) rest else some e.tag

/-- The entries whose field is not PROTECTED: a PROTECTED text is set aside unused (R6). -/
def usableFields (fmt : SftFormat) (fields : List KeyField) : List KeyField :=
  fields.filter fun e =>
    match formatField fmt e.tag with
    | some f => f.kind ≠ .protectedField
    | none => true

/-- What check 4 finds in a request: its amount A and its account, where it has them (R7). -/
structure Found where
  amount : Option Nat
  account : Option Text
  deriving DecidableEq, Repr

/-- The amount of a request, or the failure with the tag it names (R7). -/
def findAmount (decimals : Nat) (rec : TctRec) (fields : List KeyField) : Except (Option Nat) (Option Nat) :=
  if rec.amountTag = 0 then
    (if rec.cashDirection = .noCash then .ok none else .error none)
  else
    match fieldText fields rec.amountTag with
    | none => if rec.cashDirection = .noCash then .ok none else .error (some rec.amountTag)
    | some t =>
      match readAmount decimals t with
      | some v => .ok (some v)
      | none => .error (some rec.amountTag)

/-- The account of a request, or the failure with the tag it names (R7). -/
def findAccount (rec : TctRec) (fields : List KeyField) : Except (Option Nat) (Option Text) :=
  if rec.accountTag = 0 then .ok none
  else
    match fieldText fields rec.accountTag with
    | none => .ok none
    | some t => if 1 ≤ t.length ∧ t.length ≤ 20 ∧ t.all digitChar then .ok (some t) else .error (some rec.accountTag)

/-- Check 4 as a whole: the two passes of R6 and the tests of R7. The error is the failing tag, if one is named. -/
def checkFields (decimals : Nat) (rec : TctRec) (fmt : SftFormat) (fields : List KeyField) :
    Except (Option Nat) Found :=
  match missingRequired fmt fields with
  | some tag => .error (some tag)
  | none =>
    match failingEntry decimals fmt [] fields with
    | some tag => .error (some tag)
    | none =>
      match findAmount decimals rec (usableFields fmt fields) with
      | .error e => .error e
      | .ok amount =>
        match findAccount rec (usableFields fmt fields) with
        | .error e => .error e
        | .ok account => .ok { amount := amount, account := account }

/-! ## Breakdowns (R35) -/

/-- The breakdown a teller keyed: absent; refused BREAKDOWN_MISMATCH; or the count of each denomination in table
order, none where no entry names it (R35). -/
inductive KeyedBreakdown where
  | absent
  | bad
  | keyed (counts : List (Option Nat))
  deriving DecidableEq, Repr

/-- The entries with a breakdown tag, 48 to 63. -/
def breakdownEntries (fields : List KeyField) : List KeyField :=
  fields.filter fun f => decide (48 ≤ f.tag) && decide (f.tag ≤ 63)

/-- A breakdown entry names one of n denominations and holds digits only, with a value of 0 to 65,535. -/
def breakdownEntryOk (n : Nat) (f : KeyField) : Bool :=
  decide (f.tag ≤ 47 + n) &&
    match readDecimal f.text with
    | some v => decide (v ≤ Config.topCount)
    | none => false

/-- The breakdown of a request over n denominations (R35). -/
def readBreakdown (n : Nat) (fields : List KeyField) : KeyedBreakdown :=
  let es := breakdownEntries fields
  if es = [] then .absent
  else if es.all (breakdownEntryOk n) then
    .keyed ((List.range n).map fun i => (fieldText es (48 + i)).bind readDecimal)
  else .bad

/-- The pairs of denomination index and count, from index i on, whose count is not 0 (R35). -/
def nonZeroPairs : Nat → List Nat → Breakdown
  | _, [] => []
  | i, c :: rest => if c = 0 then nonZeroPairs (i + 1) rest else (i, c) :: nonZeroPairs (i + 1) rest

/-- The breakdown of keyed counts: the pairs whose count is not 0 (R35). -/
def keyedPairs (counts : List (Option Nat)) : Breakdown :=
  nonZeroPairs 1 (counts.map fun c => c.getD 0)

/-- The count a breakdown gives for a denomination. -/
def pairCount (b : Breakdown) (i : Nat) : Nat := ((b.find? fun p => p.1 = i).map Prod.snd).getD 0

end Sys2Proof.Machine
end

