-- ==== Sys2Proof/Machine/Ops.lean ====
section
/-! DEFINITION. The named operations every meaning is built from: the update of one block's record, the reading and
replacing of one station's item, and the look-ups other blocks make in the tables, the sign-on states and the lines. -/

namespace Sys2Proof.Machine
open Sys2Proof

/-! ## One block's record -/

/-- Apply a function to the record of the Transaction Tracker. -/
def onTtr (f : Ttr → Ttr) (s : State) : State := { s with ttr := f s.ttr }

/-- Apply a function to the record of the Cash Position Unit. -/
def onCsh (f : Csh → Csh) (s : State) : State := { s with csh := f s.csh }

/-- Apply a function to the record of the Screen Composer. -/
def onScm (f : Scm → Scm) (s : State) : State := { s with scm := f s.scm }

/-- Apply a function to the record of the Passbook Unit. -/
def onPbk (f : Pbk → Pbk) (s : State) : State := { s with pbk := f s.pbk }

/-- Apply a function to the record of the Stand-in and Advice Unit. -/
def onSda (f : Sda → Sda) (s : State) : State := { s with sda := f s.sda }

/-- Apply a function to the record of the Journal Unit. -/
def onJrn (f : Jrn → Jrn) (s : State) : State := { s with jrn := f s.jrn }

/-- Apply a function to the record of the Day Control. -/
def onDay (f : Day → Day) (s : State) : State := { s with day := f s.day }

/-- Apply a function to the record of the Table Store. -/
def onTbl (f : Tbl → Tbl) (s : State) : State := { s with tbl := f s.tbl }

/-- Apply a function to the record of the Station Line Controller. -/
def onSlc (f : Slc → Slc) (s : State) : State := { s with slc := f s.slc }

/-- Apply a function to the record of the Branch Link Controller. -/
def onBlc (f : Blc → Blc) (s : State) : State := { s with blc := f s.blc }

/-- Apply a function to the record of the Management Responder. -/
def onMrs (f : Mrs → Mrs) (s : State) : State := { s with mrs := f s.mrs }

/-- Apply a function to the record of the Retained Store. -/
def onRts (f : Rts → Rts) (s : State) : State := { s with rts := f s.rts }

/-! ## One station's item -/

/-- The line of a station. -/
def lineOf (st : Station) (s : State) : Line := s.slc.lines.get st

/-- Replace the line of a station. -/
def setLine (st : Station) (l : Line) (s : State) : State :=
  onSlc (fun c => { c with lines := c.lines.set st l }) s

/-- Apply a function to the line of a station. -/
def onLine (st : Station) (f : Line → Line) (s : State) : State := setLine st (f (lineOf st s)) s

/-- The drawer position of a station. -/
def drawerOf (st : Station) (s : State) : Position := s.csh.drawers.get st

/-- A cash position: the drawer of a station, or the reserve (none). -/
def positionOf (p : Option Station) (s : State) : Position :=
  match p with
  | some st => drawerOf st s
  | none => s.csh.reserve

/-- Replace a cash position. -/
def setPosition (p : Option Station) (x : Position) (s : State) : State :=
  match p with
  | some st => onCsh (fun c => { c with drawers := c.drawers.set st x }) s
  | none => onCsh (fun c => { c with reserve := x }) s

/-- The number of a position: 1 to 8, or 9 for the reserve. -/
def positionNumber : Option Station → Nat
  | some st => st.num
  | none => 9

/-- The screen context of a station, where it has one. -/
def contextOf (st : Station) (s : State) : Option ScreenContext := s.scm.contexts.get st

/-- Replace the screen context of a station. -/
def setContext (st : Station) (c : Option ScreenContext) (s : State) : State :=
  onScm (fun m => { m with contexts := m.contexts.set st c }) s

/-- The printer context of a station, where it has one. -/
def printerOf (st : Station) (s : State) : Option PrinterContext := s.pbk.printers.get st

/-- Replace the printer context of a station. -/
def setPrinter (st : Station) (c : Option PrinterContext) (s : State) : State :=
  onPbk (fun p => { p with printers := p.printers.set st c }) s

/-- Apply a function to the printer context of a station, where it has one. -/
def onPrinter (st : Station) (f : PrinterContext → PrinterContext) (s : State) : State :=
  match printerOf st s with
  | some c => setPrinter st (some (f c)) s
  | none => s

/-- The teller signed on at a station, if any (R58). -/
def tellerAt (st : Station) (s : State) : Option Nat := s.scm.signOn.get st

/-- Set the sign-on state of a station (R58). -/
def setSignOn (st : Station) (t : Option Nat) (s : State) : State :=
  onScm (fun m => { m with signOn := m.signOn.set st t }) s

/-- Apply a state change to every station in number order. -/
def forStations (f : Station → State → State) (s : State) : State :=
  Station.all.foldl (fun acc st => f st acc) s

/-! ## Time -/

/-- The moment so many seconds from now, by the part's own time. The expiry itself comes as a command (DESIGN CHOICE,
log 3). -/
def secondsAhead (secs : Nat) (s : State) : Nat := s.uptime + 1000 * secs

/-- The moment so many milliseconds from now. -/
def millisAhead (ms : Nat) (s : State) : Nat := s.uptime + ms

/-! ## Active tables -/

/-- The record of a code in the active TCT. -/
def codeRecord (code : Nat) (s : State) : Option TctRec := s.tbl.tct.find? fun r => r.code = code

/-- The format of a number in the active SFT. -/
def formatOf (n : Nat) (s : State) : Option SftFormat := s.tbl.sft.find? fun f => f.number = n

/-- The record of a teller in the active TLT. -/
def tellerRecord (t : Nat) (s : State) : Option TltRec := s.tbl.tlt.find? fun r => r.teller = t

/-- The layout of a book type in the active PLT. -/
def layoutOf (bookType : Nat) (s : State) : Option PltRec := s.tbl.plt.find? fun r => r.bookType = bookType

/-- The currency decimals of the active DNT. -/
def decimalsOf (s : State) : Nat := s.tbl.dntHeader.decimals

/-- The faces of the active DNT in table order. -/
def facesOf (s : State) : List Nat := s.tbl.dnt.map DntRec.face

/-- The SIGN_ON record with the lowest code, if any (R64). -/
def signOnRecord (s : State) : Option TctRec :=
  (s.tbl.tct.filter fun r => r.localAction = some .signOn).foldl
    (fun acc r =>
      match acc with
      | none => some r
      | some a => if r.code < a.code then some r else some a) none

/-! ## Lines -/

/-- The discrete line of a setup that has a function, if any. -/
def lineWith (f : LineFunction) (setup : LineSetup) : Option DiscreteLine :=
  DiscreteLine.all.find? fun d => setup.functions.get d = f

/-- The drawer of the station reads OPEN at its DRAWER_SENSE line; a station without one reads not OPEN (R37, R176). -/
def drawerReadsOpen (l : Line) : Bool :=
  (lineWith .drawerSense l.setup).isSome && l.drawerOpen

/-- A line is in role JOURNAL_PRINTER (R126). -/
def printerRoleHeld (s : State) : Bool :=
  s.slc.lines.toList.any fun l => l.setup.role = .journalPrinter

/-- The drops a line has in its role (R164). -/
def dropPresent (setup : LineSetup) : Drop → Bool
  | .d1 => setup.role ≠ .off
  | .d2 => setup.role = .teller && setup.printerPresent
  | .d3 => setup.role = .teller && setup.mirrorPresent

/-- The present drops of a line in drop order. -/
def presentDrops (setup : LineSetup) : List Drop := Drop.all.filter (dropPresent setup)

/-! ## Delivery from the receive buffers (R170) -/

/-- The owner of a frame takes it from a drop of a TELLER line: the place of the frame at the front of the receive
buffer is freed. A frame behind another waits for it (none), and a frame that no place holds is taken as it arrives
(DESIGN CHOICE, log 5). -/
def delivered (st : Station) (d : Drop) (f : DropFrame) (s : State) : Option State :=
  if (lineOf st s).setup.role ≠ .teller then none
  else match (lineOf st s).buffer with
    | [] => some s
    | head :: rest => if head = (d, f) then some (onLine st (fun l => { l with buffer := rest }) s) else none

/-! ## Advices -/

/-- The station an ALARM advice of the queue stands for, if the entry is one. -/
def alarmStation : QueueEntry → Option Station
  | .advice a => match a.body with
    | .alarm st _ _ => some st
    | .standin .. => none
    | .reversal .. => none
    | .passbookUpdate .. => none
  | .reservation _ => none

/-- An alarm stands at a station while the queue holds its ALARM advice (R76). -/
def alarmStands (st : Station) (s : State) : Bool := s.sda.queue.any fun q => alarmStation q = some st

end Sys2Proof.Machine
end

