-- ==== Sys2Proof/Machine/Flags.lean ====
section
/-! DEFINITION. The event flags and their notices (R194, R195). -/

namespace Sys2Proof.Machine
open Sys2Proof

/-- A flag is set. -/
def flagSet (f : EventFlag) (v : EventFlags) : Bool :=
  match f with
  | .linkLost => v.linkLost
  | .linkRestored => v.linkRestored
  | .dropDown st => v.dropDown.get st
  | .drawerLeftOpen => v.drawerLeftOpen
  | .alarm => v.alarm
  | .excessCash => v.excessCash
  | .journalHighWater => v.journalHighWater
  | .journalFull => v.journalFull
  | .loadAbandoned => v.loadAbandoned
  | .adviceRefused => v.adviceRefused
  | .suspectPosition => v.suspectPosition
  | .counterSaturated => v.counterSaturated
  | .settleFailed => v.settleFailed
  | .retentionLost => v.retentionLost
  | .unmatchedReply => v.unmatchedReply
  | .mgmtOverrun => v.mgmtOverrun

/-- The flags with one more set. -/
def setFlag (f : EventFlag) (v : EventFlags) : EventFlags :=
  match f with
  | .linkLost => { v with linkLost := true }
  | .linkRestored => { v with linkRestored := true }
  | .dropDown st => { v with dropDown := v.dropDown.set st true }
  | .drawerLeftOpen => { v with drawerLeftOpen := true }
  | .alarm => { v with alarm := true }
  | .excessCash => { v with excessCash := true }
  | .journalHighWater => { v with journalHighWater := true }
  | .journalFull => { v with journalFull := true }
  | .loadAbandoned => { v with loadAbandoned := true }
  | .adviceRefused => { v with adviceRefused := true }
  | .suspectPosition => { v with suspectPosition := true }
  | .counterSaturated => { v with counterSaturated := true }
  | .settleFailed => { v with settleFailed := true }
  | .retentionLost => { v with retentionLost := true }
  | .unmatchedReply => { v with unmatchedReply := true }
  | .mgmtOverrun => { v with mgmtOverrun := true }

/-- The notify set (R195). -/
def notifies : EventFlag → Bool
  | .alarm => true
  | .linkRestored => true
  | .journalFull => true
  | .settleFailed => true
  | .retentionLost => true
  | _ => false

/-- Place an event notice in its class, unless one for the flag still waits there (R189, R195). -/
def placeNotice (f : EventFlag) (st : Option Station) (s : State) : State :=
  if s.blc.events.any fun n => n.flag = f then s
  else onBlc (fun b => { b with events := b.events ++ [⟨f, s.mrs.clock, st⟩] }) s

/-- Raise a flag; a flag of the notify set that passes from clear to set places its notice (R194, R195). The station is
carried by an ALARM notice. -/
def raiseWith (f : EventFlag) (st : Option Station) (s : State) : State :=
  let s' := onMrs (fun m => { m with flags := setFlag f m.flags }) s
  if notifies f && !flagSet f s.mrs.flags then placeNotice f st s' else s'

/-- Raise a flag whose notice carries no station (R194, R195). -/
def raise (f : EventFlag) (s : State) : State := raiseWith f none s

/-- Raise a flag where a condition holds. -/
def raiseIf (b : Bool) (f : EventFlag) (s : State) : State := if b then raise f s else s

/-- A discarded REPLY: UNMATCHED_REPLY and its count (R21). -/
def countUnmatchedReply (s : State) : State :=
  raise .unmatchedReply
    (onMrs (fun m => { m with unmatchedReplies := satCount Config.topCounter m.unmatchedReplies }) s)

/-- A management request discarded at a full buffer: MGMT_OVERRUN and its count (R191). -/
def countOverrun (s : State) : State :=
  raise .mgmtOverrun (onMrs (fun m => { m with overruns := satCount Config.topCounter m.overruns }) s)

end Sys2Proof.Machine
end

