-- ==== Sys2Proof/Machine/Journal.lean ====
section
/-! DEFINITION. The Journal Store (chapter 6): slots, writes from free slots and from reservations, the space
conditions, eligibility and the building of batches, and freeing. -/

namespace Sys2Proof.Machine
open Sys2Proof

/-! ## Sizes (R116) -/

/-- The bytes of an entry: 24, 16 with an amount part, 24 with an account, 4 for each pair (R116). -/
def draftBytes (d : Draft) : Nat :=
  24 + (if d.amounts.isSome then 16 else 0) + (if d.account.isSome then 24 else 0) + 4 * d.breakdown.length

/-- The slots of an entry: its bytes divided by 32, rounded up (R116). -/
def draftSlots (d : Draft) : Nat := (draftBytes d + 31) / 32

/-! ## Space conditions -/

/-- The high-water threshold in slots (R121). -/
def highWaterSlots (s : State) : Nat := Config.journalSlots * s.mrs.settings.highWater / 100

/-- JOURNAL_HIGH_WATER where a write has carried the used slots above the threshold (R121). -/
def noteUsed (before : Nat) (s : State) : State :=
  raiseIf (decide (before ≤ highWaterSlots s) && decide (highWaterSlots s < s.jrn.used)) .journalHighWater s

/-- JOURNAL_FULL where the free slots have fallen from 68 or more to below 68 (R122). -/
def noteFree (before : Nat) (s : State) : State :=
  raiseIf (decide (Config.journalFullMark ≤ before) && decide (s.jrn.free < Config.journalFullMark)) .journalFull s

/-! ## The teller's transaction count (R61) -/

/-- The teller a written entry counts for: a TXN entry of any outcome, or a LOCAL entry of an action carried out. -/
def countedTeller (d : Draft) : Option Nat :=
  match d.body with
  | .txn .. => d.teller
  | .localAction _ _ _ none _ => d.teller
  | _ => none

/-- Add 1 to the transaction count of a teller's record, if one stands; at its bound the addition raises
COUNTER_SATURATED (R61) (DEDUCED, log 26). -/
def countTeller (t : Option Nat) (s : State) : State :=
  match t with
  | none => s
  | some n =>
    raiseIf (s.sda.tellerDays.any fun r => decide (r.teller = n) && decide (Config.topCounter ≤ r.txCount))
      .counterSaturated
      (onSda (fun a => { a with tellerDays := a.tellerDays.map fun r =>
          if r.teller = n then { r with txCount := satCount Config.topCounter r.txCount } else r }) s)

/-! ## Writing (R118, R120) -/

/-- The entry a draft becomes: next sequence, business date and time of day as they stand (R116, R118). -/
def entryOf (d : Draft) (s : State) : Entry :=
  { seq := s.jrn.nextSeq, date := s.day.date, time := s.mrs.clock, draft := d }

/-- The store after an entry is placed last, taking k reserved slots back first (R118, R119). The next sequence rises by 1
also after entry 4,294,967,295, past the bound that R115 names (DESIGN CHOICE, log 34). -/
def storeEntry (k : Nat) (d : Draft) (s : State) : State :=
  onJrn (fun j => { j with
    entries := j.entries ++ [entryOf d s]
    used := j.used + draftSlots d
    reserved := j.reserved - k
    free := j.free + k - draftSlots d
    nextSeq := j.nextSeq + 1 }) s

/-- An entry that is not stored: its reservation returns to free, it is counted and JOURNAL_FULL is raised (R120). -/
def loseEntry (k : Nat) (s : State) : State :=
  raise .journalFull (onJrn (fun j => { j with
    reserved := j.reserved - k
    free := j.free + k
    notStored := satCount Config.topCounter j.notStored }) s)

/-- Write an entry, releasing a reservation of k slots first (k is 0 for a write from free slots). It is not stored where
too few slots stand or the sequence is exhausted (R118, R119, R120). -/
def writeEntry (k : Nat) (d : Draft) (s : State) : State :=
  if s.jrn.free + k < draftSlots d ∨ Config.topJournal < s.jrn.nextSeq then loseEntry k s
  else countTeller (countedTeller d) (noteFree s.jrn.free (noteUsed s.jrn.used (storeEntry k d s)))

/-- Move free slots to reserved (R119). -/
def reserveSlots (n : Nat) (s : State) : State :=
  noteFree s.jrn.free (onJrn (fun j => { j with reserved := j.reserved + n, free := j.free - n }) s)

/-! ## Freeing (R128) -/

/-- An entry may be freed: accepted and, under a journal printer, printed (R128). -/
def freeable (s : State) (e : Entry) : Bool :=
  decide (e.seq ≤ s.jrn.lastAccepted) && (!printerRoleHeld s || decide (e.seq ≤ s.jrn.printedCursor))

/-- Free the freeable entries from the oldest end (R128). -/
def freeEntries (s : State) : State :=
  let gone := s.jrn.entries.takeWhile (freeable s)
  let n := (gone.map fun e => draftSlots e.draft).sum
  onJrn (fun j => { j with
    entries := s.jrn.entries.dropWhile (freeable s)
    used := j.used - n
    free := j.free + n }) s

/-- The oldest held sequence, or none (R115). -/
def oldestHeld (s : State) : Option Nat := s.jrn.entries.head?.map Entry.seq

/-- Head office has accepted a batch: the last accepted sequence, then freeing (R125). -/
def acceptSequence (last : Nat) (s : State) : State :=
  freeEntries (onJrn (fun j => { j with lastAccepted := last }) s)

/-! ## Batches (R124) -/

/-- The entries above the last accepted sequence (R124). -/
def unaccepted (s : State) : List Entry := s.jrn.entries.filter fun e => decide (s.jrn.lastAccepted < e.seq)

/-- The entries eligible for a trickle batch: unaccepted and, under a journal printer, printed (R124). -/
def trickleEligible (s : State) : List Entry :=
  (unaccepted s).filter fun e => !printerRoleHeld s || decide (e.seq ≤ s.jrn.printedCursor)

/-- The control total: the sum of the rounded amounts of the amount parts (R124). -/
def controlTotal (es : List Entry) : Int :=
  (es.map fun e => match e.draft.amounts with
    | some (_, r) => r
    | none => 0).sum

/-- A journal batch of the first entries of a list, at most 64 (R124); none of an empty list. -/
def journalBatch (es : List Entry) : Option JournalBatch :=
  match es.take Config.batchEntries with
  | [] => none
  | e :: rest =>
    let all := e :: rest
    let last := (all.getLast?.map Entry.seq).getD e.seq
    some { first := e.seq, last := last, count := last - e.seq + 1, control := controlTotal all, entries := all }

/-- Advance the batch counter (R124). -/
def advanceBatchCounter (s : State) : State :=
  onJrn (fun j => { j with batchCounter := wrapNext Config.topBatch j.batchCounter }) s

end Sys2Proof.Machine
end

