-- ==== Sys2Proof/Machine/Screens.lean ====
section
/-! DEFINITION. Composition of the terminal and mirror images and of the status line (sections 3.2 to 3.5). -/

namespace Sys2Proof.Machine
open Sys2Proof

/-! ## Rows -/

/-- A row of spaces. -/
def blankRow : Text := List.replicate Config.columns ' '

/-- Write a text over a row from a column (counted from 1); the row stays 80 characters long. -/
def overwrite (column : Nat) (t row : Text) : Text :=
  (row.take (column - 1) ++ t ++ row.drop (column - 1 + t.length)).take Config.columns

/-- Write a text over the row of a number (counted from 1). -/
def placeText (row column : Nat) (t : Text) (rows : List Text) : List Text :=
  rows.modify (row - 1) (overwrite column t)

/-- Place the fields of a format with their texts, in the order of the field list (R67). -/
def placeFields : List (SftField × Text) → List Text → List Text
  | [], rows => rows
  | (f, t) :: rest, rows => placeFields rest (placeText f.row f.column (fitWidth false f.length t) rows)

/-- The main area, rows 1 to 23: spaces, then the title, then the fields (R67); spaces alone without a format. -/
def mainArea (shown : Option SftFormat) (texts : List Text) : List Text :=
  let blank := List.replicate Config.mainRows blankRow
  match shown with
  | none => blank
  | some f => placeFields (f.fields.zip texts) (placeText 1 1 f.title blank)

/-! ## Images -/

/-- The fields a terminal image marks for input: those of an INPUT format in mode FORM or SIGN_ON_PROMPT (R67). -/
def inputMarks (mode : ScreenMode) (shown : Option SftFormat) : List InputField :=
  match shown with
  | some f =>
    if f.kind = .input ∧ (mode = .form ∨ mode = .signOnPrompt) then
      f.fields.map fun x =>
        { tag := x.tag, row := x.row, column := x.column, length := x.length, kind := x.kind, required := x.required }
    else []
  | none => []

/-- The terminal image of a context: its main area and its status line, the input marks and the error tag. -/
def terminalImage (c : ScreenContext) : TerminalImage :=
  { rows := mainArea c.shown c.texts ++ [c.statusLine], inputs := inputMarks c.mode c.shown, errorTag := c.errorTag }

/-- The mirror redacts a field of a class: for each of the weights 8, 4, 2 and 1 that the mask does not contain, the
class and the key both contain it or both lack it (R75). -/
def redacts (key mask cls : Nat) : Bool :=
  [3, 2, 1, 0].all fun i => mask.testBit i || (cls.testBit i == key.testBit i)

/-- The text the mirror shows for a field: the fill in every place of a redacted field (R75). -/
def mirrorText (setup : LineSetup) (f : SftField) (t : Text) : Text :=
  if redacts setup.mirrorKey setup.mirrorMask f.cls then List.replicate f.length setup.mirrorFill else t

/-- The mirror image: the same format and texts with the redaction, row 24 as spaces (R75). -/
def mirrorImage (setup : LineSetup) (c : ScreenContext) : List Text :=
  match c.shown with
  | none => mainArea none [] ++ [blankRow]
  | some f => mainArea (some f) ((f.fields.zip c.texts).map fun p => mirrorText setup p.1 p.2) ++ [blankRow]

/-! ## The status line (R71) -/

/-- Texts joined by one space, the empty ones left out. -/
def joinParts (parts : List Text) : Text := List.intercalate [' '] (parts.filter fun t => t ≠ [])

/-- The teller part of the status line. -/
def tellerPart (st : Station) (s : State) : Text :=
  match tellerAt st s with
  | some t => "TELLER ".toList ++ natText t
  | none => "SIGNED OFF".toList

/-- The passbook prompt of a station; none without a printer context (R95). -/
def promptAt (st : Station) (s : State) : Prompt :=
  match printerOf st s with
  | some p => p.prompt
  | none => .noPrompt

/-- The eight parts of the status line, the absent ones empty (R71). -/
def statusParts (st : Station) (message : Text) (s : State) : List Text :=
  [ linkWords s.blc.link,
    dayWords s.day.state,
    tellerPart st s,
    if (drawerOf st s).excess then "EXCESS CASH".toList else [],
    if (lineOf st s).leftOpen then "DRAWER LEFT OPEN".toList else [],
    promptWords (promptAt st s),
    message,
    match s.scm.broadcast with
    | some b => b.text
    | none => [] ]

/-- The status line of a station with a message: 80 characters (R71). -/
def statusLine (st : Station) (message : Text) (s : State) : Text :=
  fitWidth false Config.columns (joinParts (statusParts st message s))

/-! ## Composing a context -/

/-- Recompose the status line and replace both images: both pending flags are set (R72, R74). -/
def recomposed (st : Station) (s : State) (c : ScreenContext) : ScreenContext :=
  let c' := { c with statusLine := statusLine st c.message s }
  { c' with
    terminal := terminalImage c'
    mirror := mirrorImage (lineOf st s).setup c'
    terminalPending := true
    mirrorPending := true
    terminalRecomposed := true
    mirrorRecomposed := true }

/-- A composition event at a station: change the context, then replace its status line and images. A station without a
context is not composed (R65, R72). -/
def composeWith (st : Station) (f : ScreenContext → ScreenContext) (s : State) : State :=
  match contextOf st s with
  | some c => setContext st (some (recomposed st s (f c))) s
  | none => s

/-- Recompose the status line of a station as it now reads (R72). -/
def refresh (st : Station) (s : State) : State := composeWith st id s

/-- Recompose the status lines of every station (R72). -/
def refreshAll (s : State) : State := forStations refresh s

/-! ## Input screens -/

/-- The field texts of an INPUT format from the texts a request carried: fitted; empty where none was carried; a
PROTECTED field blank (R67, R70). Of two texts keyed with one tag, as in a request refused INPUT for it, the first is shown
(DESIGN CHOICE, log 33). -/
def keyedTexts (decimals : Nat) (f : SftFormat) (fields : List KeyField) : List Text :=
  f.fields.map fun x =>
    if x.kind = .protectedField then []
    else match fieldText fields x.tag with
      | some t => fitField decimals x.kind x.length t
      | none => []

/-- The error tag a screen of a format holds: a tag of one of its fields, or absent (R64). -/
def shownErrorTag (shown : Option SftFormat) (tag : Option Nat) : Option Nat :=
  match shown, tag with
  | some f, some t => if (formatField f t).isSome then some t else none
  | _, _ => none

/-- Compose a format for input with the texts a request carried (R65, R67). -/
def composeInput (st : Station) (mode : ScreenMode) (number : Option Nat) (fields : List KeyField) (err : Option Nat)
    (message : Text) (s : State) : State :=
  let shown := number.bind fun n => formatOf n s
  composeWith st (fun c => { c with
    mode := mode
    format := number
    shown := shown
    texts := match shown with
      | some f => keyedTexts (decimalsOf s) f fields
      | none => []
    errorTag := shownErrorTag shown err
    message := message }) s

/-- The sign-on prompt: the request format of the SIGN_ON record with the lowest code, or none (R64). -/
def signOnPrompt (s : State) : Option Nat := (signOnRecord s).map TctRec.requestFormat

/-- Compose the sign-on prompt with a message (R65). -/
def composePrompt (st : Station) (message : Text) (s : State) : State :=
  composeInput st .signOnPrompt (signOnPrompt s) [] none message s

/-- Keep the main area and the field texts, and change the mode and the message (R66, R70). -/
def composeKept (st : Station) (mode : ScreenMode) (message : Text) (s : State) : State :=
  composeWith st (fun c => { c with mode := mode, message := message }) s

/-! ## Result screens -/

/-- What the sources of a result screen read beside the state (R68): the reply, the breakdown of the event, the position
whose total is shown, the passbook status, the reference and the reason. -/
structure ResultInfo where
  reply : Option Reply
  breakdown : Breakdown
  position : Option Station
  passbook : Text
  ref : Ref
  reason : Text
  deriving DecidableEq, Repr

/-- A breakdown written: each pair count×face, joined by a comma and a space (R68). The byte that carries the sign in a frame is
charByte's (DESIGN CHOICE, log 41). -/
def breakdownText (faces : List Nat) (b : Breakdown) : Text :=
  List.intercalate [',', ' '] (b.map fun p => natText p.2 ++ '×' :: natText ((faces[p.1 - 1]?).getD 0))

/-- The text of a field's source (R68). Of two entries of a reply with the field's tag, the first is shown (DESIGN CHOICE, log
33). -/
def sourceText (st : Station) (info : ResultInfo) (s : State) (f : SftField) : Text :=
  match f.source with
  | .replyTag =>
    match info.reply with
    | some r => (fieldText r.fields f.tag).getD []
    | none => []
  | .breakdown => breakdownText (facesOf s) info.breakdown
  | .positionTotal => amountText (decimalsOf s) ((positionOf info.position s).total : Int)
  | .passbookStatus => info.passbook
  | .businessDate =>
    match s.day.date with
    | some d => dateText d
    | none => []
  | .teller =>
    match tellerAt st s with
    | some t => natText t
    | none => []
  | .reference => refText info.ref
  | .reason => info.reason

/-- The field texts of a result screen: each source's text fitted to its field (R68, R69). Where later commits have made an
entry's copied result format an INPUT format, whose fields have no source, they are placed blank (DESIGN CHOICE, log 28). -/
def resultTexts (st : Station) (info : ResultInfo) (s : State) (f : SftFormat) : List Text :=
  f.fields.map fun x =>
    match f.kind with
    | .output => fitField (decimalsOf s) x.kind x.length (sourceText st info s x)
    | .input => []

/-- Compose a format as a result (R65, R67): spaces where the active SFT no longer holds it. -/
def composeResult (st : Station) (number : Nat) (info : ResultInfo) (message : Text) (s : State) : State :=
  let shown := formatOf number s
  composeWith st (fun c => { c with
    mode := .result
    format := some number
    shown := shown
    texts := match shown with
      | some f => resultTexts st info s f
      | none => []
    errorTag := none
    message := message }) s

/-- A message of some words and a reference. -/
def refMessage (words : Text) (r : Ref) : Text := words ++ ' ' :: refText r

/-! ## Refusal screens (R70) -/

/-- The message of a refusal: the reason with spaces for underscores; an INPUT reason with a tag is followed by it. -/
def refusalMessage : Reason → Text
  | .input (some tag) => "INPUT ".toList ++ natText tag
  | r => screenWords (reasonName r)

/-- The failing tag a refusal names, if any. -/
def refusalTag : Reason → Option Nat
  | .input t => t
  | _ => none

/-- The mode after a refusal (R65). -/
def refusalMode (st : Station) (s : State) : ScreenMode :=
  match tellerAt st s with
  | some _ => .form
  | none => .signOnPrompt

/-- The screen of a refusal made while a key request is being taken (R70). -/
def refusalScreen (st : Station) (r : KeyRequest) (why : Reason) (s : State) : State :=
  if tellerAt st s = none ∧ why = .notSignedOn then composeKept st .signOnPrompt (refusalMessage why) s
  else match formatOf r.form s with
    | some f =>
      if f.kind = .input then
        composeInput st (refusalMode st s) (some r.form) (sentFields r.fields) (refusalTag why) (refusalMessage why) s
      else composeKept st (refusalMode st s) (refusalMessage why) s
    | none => composeKept st (refusalMode st s) (refusalMessage why) s

/-! ## Contexts made and cleared -/

/-- A context with nothing composed yet. -/
def emptyContext (mode : ScreenMode) : ScreenContext :=
  { mode := mode, format := none, shown := none, texts := [], errorTag := none, statusLine := blankRow, message := [],
    terminal := { rows := List.replicate Config.mainRows blankRow ++ [blankRow], inputs := [], errorTag := none },
    mirror := List.replicate Config.mainRows blankRow ++ [blankRow], terminalPending := false, mirrorPending := false,
    terminalRecomposed := false, mirrorRecomposed := false }

/-- Compose a station's context afresh: the sign-on prompt at a SIGNED_OFF station, FORM without a format at a SIGNED_ON
one, both images pending (R64). -/
def freshContext (st : Station) (s : State) : State :=
  match tellerAt st s with
  | none => composePrompt st [] (setContext st (some (emptyContext .signOnPrompt)) s)
  | some _ => refresh st (setContext st (some (emptyContext .form)) s)

/-- Clear a station's context (R64). -/
def clearContext (st : Station) (s : State) : State := setContext st none s

/-- Set both pending flags of a station's images (R74, R76). -/
def pendBoth (st : Station) (s : State) : State :=
  match contextOf st s with
  | some c => setContext st (some { c with terminalPending := true, mirrorPending := true }) s
  | none => s

/-- The drop of an image answers again: its image is to be sent once more (R74, R169). -/
def pendImage (st : Station) (d : Drop) (s : State) : State :=
  match contextOf st s with
  | some c =>
    match d with
    | .d1 => setContext st (some { c with terminalPending := true }) s
    | .d2 => s
    | .d3 => setContext st (some { c with mirrorPending := true }) s
  | none => s

end Sys2Proof.Machine
end

