-- ==== Sys2Proof/Machine/Cash.lean ====
section
/-! DEFINITION. Cash positions and cash arithmetic (chapter 2): rounding, breakdowns, the cash checks, reservation,
posting and release, EXCESS_CASH, transfers, balancings and the snapshot; and the drawer release pulse (R175). -/

namespace Sys2Proof.Machine
open Sys2Proof

/-! ## Rounding (R33) -/

/-- The rounded amount R of an exact amount A for an increment c: down where twice the remainder is below c, else up. -/
def roundAmount (c a : Nat) : Nat :=
  let r := a % c
  if 2 * r < c then a - r else a - r + c

/-- The rounding difference D = R - A of a leg (R33). -/
def roundingDifference (leg : Leg) : Int := (leg.rounded : Int) - (leg.exact : Int)

/-! ## Values -/

/-- The value of counts over faces. -/
def countsValue (faces counts : List Nat) : Nat := ((faces.zip counts).map fun p => p.1 * p.2).sum

/-- The face of a denomination index, counted from 1; 0 for an index the table does not hold. -/
def faceOf (faces : List Nat) (i : Nat) : Nat := if i = 0 then 0 else (faces[i - 1]?).getD 0

/-- The value of a breakdown. -/
def breakdownValue (faces : List Nat) (b : Breakdown) : Nat := (b.map fun p => p.2 * faceOf faces p.1).sum

/-- The committed counts of a position. -/
def committedCounts (p : Position) : List Nat := p.counts.map Counts.committed

/-- The pending-in counts of a position. -/
def pendingCounts (p : Position) : List Nat := p.counts.map Counts.pendingIn

/-- The counts of a denomination index in a position, counted from 1. -/
def countsAt (p : Position) (i : Nat) : Counts := if i = 0 then ⟨0, 0, 0⟩ else (p.counts[i - 1]?).getD ⟨0, 0, 0⟩

/-- Change each denomination's counts by the breakdown's count for it, from index i on. -/
def applyPairs (f : Counts → Nat → Counts) (b : Breakdown) : Nat → List Counts → List Counts
  | _, [] => []
  | i, c :: rest => f c (pairCount b i) :: applyPairs f b (i + 1) rest

/-- A position with its counts changed by a breakdown. -/
def movePairs (f : Counts → Nat → Counts) (b : Breakdown) (p : Position) : Position :=
  { p with counts := applyPairs f b 1 p.counts }

/-- A position with its committed total recomputed from its counts (R44). -/
def retotal (faces : List Nat) (p : Position) : Position := { p with total := countsValue faces (committedCounts p) }

/-- A posting or transfer moves a position to ACTIVE from NOT_OPENED or BALANCED (R31). -/
def activated (p : Position) : Position :=
  match p.state with
  | .notOpened => { p with state := .active }
  | .balanced => { p with state := .active }
  | .active => p
  | .suspect => p

/-! ## Bounded figures (R54) -/

/-- A total stands saturated: at its bound, with either sign (R54). A total that an exact addition has brought to the
bound counts as saturated too, since a position record holds the figure alone (DEDUCED, log 26). -/
def totalSaturated (a : Int) : Bool := decide (a = (Config.topTotal : Int)) || decide (a = -(Config.topTotal : Int))

/-- A signed addition held within the magnitude bound of totals; a saturated total stays at its bound, whatever the sign of
the amount, until the date roll clears it (R54). -/
def satAdd (a b : Int) : Int :=
  if totalSaturated a then a
  else if (Config.topTotal : Int) < a + b then (Config.topTotal : Int)
  else if a + b < -(Config.topTotal : Int) then -(Config.topTotal : Int) else a + b

/-- The addition would carry the total beyond its bound (R54). -/
def satOver (a b : Int) : Bool :=
  decide ((Config.topTotal : Int) < a + b) || decide (a + b < -(Config.topTotal : Int))

/-! ## Limits -/

/-- The soft limit of a teller (R36, R47), if the active TLT holds the teller. -/
def softLimit (t : Nat) (s : State) : Option Nat := (tellerRecord t s).map TltRec.softLimit

/-- The hard limit of a teller (R36); 0 for a teller the active TLT does not hold (DESIGN CHOICE, log 21). -/
def hardLimit (t : Nat) (s : State) : Nat := ((tellerRecord t s).map TltRec.hardLimit).getD 0

/-- Evaluate EXCESS_CASH of a station's drawer against a teller's soft limit (R47). -/
def evaluateExcess (st : Station) (t : Nat) (s : State) : State :=
  match softLimit t s with
  | none => s
  | some soft =>
    let p := drawerOf st s
    if soft < p.total then
      if p.excess then s
      else refresh st (raise .excessCash (setPosition (some st) { p with excess := true } s))
    else if p.excess then refresh st (setPosition (some st) { p with excess := false } s)
    else s

/-! ## The drawer release pulse (R175) -/

/-- A request to pulse the drawer release of a station: begun, merged into a running pulse, or absorbed by an active latch
or a missing line. -/
def requestPulse (st : Station) (s : State) : State :=
  match lineWith .drawerRelease (lineOf st s).setup with
  | none => s
  | some d =>
    if (lineOf st s).latches.get d then s
    else match (lineOf st s).pulse with
      | some _ => s
      | none => onLine st (fun l => { l with pulse := some (millisAhead Config.pulseTime s) }) s

/-! ## The cash checks (R37 to R41) -/

/-- Some pair of a breakdown fails a test (the first in table order that does gives the refusal). -/
def someFails (ok : Nat × Nat → Bool) (b : Breakdown) : Bool := b.any fun p => !ok p

/-- Adding a pair keeps committed plus pending-in within 65,535 (R39, R48). -/
def pairFits (p : Position) (x : Nat × Nat) : Bool :=
  decide ((countsAt p x.1).committed + (countsAt p x.1).pendingIn + x.2 ≤ Config.topCount)

/-- A pair does not exceed the committed count less the reserved-out count (R40, R48). -/
def pairAvailable (p : Position) (x : Nat × Nat) : Bool :=
  decide (x.2 ≤ (countsAt p x.1).committed - (countsAt p x.1).reservedOut)

/-- The greedy breakdown from denomination index i on, with what remains at the end (R41). -/
def greedyFrom : Nat → List DntRec → List Counts → Nat → Breakdown × Nat
  | _, [], _, remaining => ([], remaining)
  | i, d :: ds, cs, remaining =>
    let c := (cs.head?).getD ⟨0, 0, 0⟩
    let available := c.committed - c.reservedOut - d.floor
    let take := min available (remaining / d.face)
    let (rest, left) := greedyFrom (i + 1) ds cs.tail (remaining - take * d.face)
    (if take = 0 then rest else (i, take) :: rest, left)

/-- The greedy breakdown of an amount at a position, or none where it leaves a remainder (R41). -/
def greedyBreakdown (dnt : List DntRec) (p : Position) (amount : Nat) : Option Breakdown :=
  match greedyFrom 1 dnt p.counts amount with
  | (b, 0) => some b
  | (_, _ + 1) => none

/-- The checks of an IN leg with its breakdown (R39). -/
def checkIn (st : Station) (teller rounded : Nat) (b : Breakdown) (s : State) : Except Reason Breakdown :=
  let p := drawerOf st s
  if breakdownValue (facesOf s) b ≠ rounded then .error .breakdownMismatch
  else if someFails (pairFits p) b then .error .countLimit
  else if rounded ≠ 0 ∧ hardLimit teller s < p.total + countsValue (facesOf s) (pendingCounts p) + rounded then
    .error .drawerLimit
  else .ok b

/-- The checks of an OUT leg with a keyed breakdown (R40). -/
def checkOutKeyed (st : Station) (rounded : Nat) (b : Breakdown) (s : State) : Except Reason Breakdown :=
  if breakdownValue (facesOf s) b ≠ rounded then .error .breakdownMismatch
  else if someFails (pairAvailable (drawerOf st s)) b then .error .insufficientCash
  else .ok b

/-- The breakdown a leg takes, by its direction and what was keyed (R34, R37 to R41). A keyed entry that fails R35 refuses the
leg before the other tests of R39 and R40, also where R is 0 (DESIGN CHOICE, log 38). -/
def legBreakdown (st : Station) (teller : Nat) (dir : CashDirection) (rounded : Nat) (keyed : KeyedBreakdown) (s : State) :
    Except Reason Breakdown :=
  match dir, keyed with
  | .noCash, _ => .ok []
  | .cashIn, .bad => .error .breakdownMismatch
  | .cashIn, .absent => if rounded = 0 then .ok [] else .error .breakdownRequired
  | .cashIn, .keyed cs => checkIn st teller rounded (keyedPairs cs) s
  | .cashOut, .bad => .error .breakdownMismatch
  | .cashOut, .keyed cs => checkOutKeyed st rounded (keyedPairs cs) s
  | .cashOut, .absent =>
    match greedyBreakdown s.tbl.dnt (drawerOf st s) rounded with
    | some b => .ok b
    | none => .error .noExactChange

/-- The cash checks for a leg, in order: the drawer sense, SUSPECT, rounding, then breakdown and limits (R37). -/
def cashChecks (st : Station) (teller : Nat) (dir : CashDirection) (exact : Nat) (fields : List KeyField) (s : State) :
    Except Reason Leg :=
  if drawerReadsOpen (lineOf st s) then .error .drawerOpen
  else if (drawerOf st s).state = .suspect then .error .suspect
  else
    let rounded := roundAmount s.tbl.dntHeader.increment exact
    match legBreakdown st teller dir rounded (readBreakdown s.tbl.dnt.length fields) s with
    | .error e => .error e
    | .ok b => .ok { dir := dir, exact := exact, rounded := rounded, breakdown := b }

/-! ## Reservation, release and posting (R42, R44 to R46) -/

/-- Reserve a leg: reserved-out rises for OUT, pending-in for IN (R42). -/
def reservedPosition (leg : Leg) (p : Position) : Position :=
  match leg.dir with
  | .cashOut => movePairs (fun c n => { c with reservedOut := c.reservedOut + n }) leg.breakdown p
  | .cashIn => movePairs (fun c n => { c with pendingIn := c.pendingIn + n }) leg.breakdown p
  | .noCash => p

/-- Release a leg: its reservation is subtracted back, a count already at 0 staying there (R46). -/
def releasedPosition (leg : Leg) (p : Position) : Position :=
  match leg.dir with
  | .cashOut => movePairs (fun c n => { c with reservedOut := c.reservedOut - n }) leg.breakdown p
  | .cashIn => movePairs (fun c n => { c with pendingIn := c.pendingIn - n }) leg.breakdown p
  | .noCash => p

/-- Move a reserved leg into the committed counts (R44). -/
def postedCounts (leg : Leg) (p : Position) : Position :=
  match leg.dir with
  | .cashOut =>
    movePairs (fun c n => { c with committed := c.committed - n, reservedOut := c.reservedOut - n }) leg.breakdown p
  | .cashIn =>
    movePairs (fun c n => { c with committed := c.committed + n, pendingIn := c.pendingIn - n }) leg.breakdown p
  | .noCash => p

/-- Move a stand-in leg into the committed counts, no reservation touched (R45). -/
def standinCounts (leg : Leg) (p : Position) : Position :=
  match leg.dir with
  | .cashOut => movePairs (fun c n => { c with committed := c.committed - n }) leg.breakdown p
  | .cashIn => movePairs (fun c n => { c with committed := c.committed + n }) leg.breakdown p
  | .noCash => p

/-- The day figures of a posting: R to the cash-in or cash-out total, D to or from the rounding total, one transaction,
and the state to ACTIVE (R44). -/
def postedFigures (leg : Leg) (p : Position) : Position :=
  let r := (leg.rounded : Int)
  let d := roundingDifference leg
  activated (match leg.dir with
    | .cashIn => { p with cashIn := satAdd p.cashIn r, rounding := satAdd p.rounding d,
                          txCount := satCount Config.topCounter p.txCount }
    | .cashOut => { p with cashOut := satAdd p.cashOut r, rounding := satAdd p.rounding (-d),
                           txCount := satCount Config.topCounter p.txCount }
    | .noCash => p)

/-- A posting carries a day figure past its bound (R54). -/
def postingSaturates (leg : Leg) (p : Position) : Bool :=
  let r := (leg.rounded : Int)
  let d := roundingDifference leg
  match leg.dir with
  | .cashIn => satOver p.cashIn r || satOver p.rounding d || decide (Config.topCounter ≤ p.txCount)
  | .cashOut => satOver p.cashOut r || satOver p.rounding (-d) || decide (Config.topCounter ≤ p.txCount)
  | .noCash => false

/-- Post a leg at a station's drawer: counts, total, day figures, state, then EXCESS_CASH (R44, R45). -/
def postAt (st : Station) (teller : Nat) (leg : Leg) (counts : Leg → Position → Position) (s : State) : State :=
  let p := drawerOf st s
  evaluateExcess st teller
    (raiseIf (postingSaturates leg p) .counterSaturated
      (setPosition (some st) (postedFigures leg (retotal (facesOf s) (counts leg p))) s))

/-- Post the leg of an approved OTT entry (R44). -/
def postLeg (st : Station) (teller : Nat) (leg : Leg) (s : State) : State := postAt st teller leg postedCounts s

/-- Post a stand-in leg (R45). -/
def postStandin (st : Station) (teller : Nat) (leg : Leg) (s : State) : State := postAt st teller leg standinCounts s

/-- Reserve the leg of an accepted request, if there is one (R42). -/
def reserveLeg (st : Station) (leg : Option Leg) (s : State) : State :=
  match leg with
  | some g => setPosition (some st) (reservedPosition g (drawerOf st s)) s
  | none => s

/-- Release the leg of an ended entry, if there is one (R46). -/
def releaseLeg (st : Station) (leg : Option Leg) (s : State) : State :=
  match leg with
  | some g => setPosition (some st) (releasedPosition g (drawerOf st s)) s
  | none => s

/-! ## Transfers (R48, R49) -/

/-- The source of a transfer to or from the reserve. -/
def transferSource (toReserve : Bool) (st : Station) : Option Station := if toReserve then some st else none

/-- The destination of a transfer to or from the reserve. -/
def transferTarget (toReserve : Bool) (st : Station) : Option Station := if toReserve then none else some st

/-- The checks of a transfer, in order; its breakdown where it passes (R48). A keyed entry that fails R35 is refused
BREAKDOWN_MISMATCH at check 1, before SUSPECT is judged (DESIGN CHOICE, log 38). -/
def checkTransfer (toReserve : Bool) (st : Station) (teller : Nat) (fields : List KeyField) (s : State) :
    Except Reason Breakdown :=
  match readBreakdown s.tbl.dnt.length fields with
  | .absent => .error .breakdownRequired
  | .bad => .error .breakdownMismatch
  | .keyed cs =>
    let b := keyedPairs cs
    let v := breakdownValue (facesOf s) b
    let src := positionOf (transferSource toReserve st) s
    let dst := positionOf (transferTarget toReserve st) s
    if b = [] then .error .breakdownRequired
    else if (drawerOf st s).state = .suspect ∨ s.csh.reserve.state = .suspect then .error .suspect
    else if someFails (pairAvailable src) b then .error .insufficientCash
    else if someFails (pairFits dst) b then .error .countLimit
    else if Config.topTotal < dst.total + v then .error .countLimit
    else if !toReserve ∧ hardLimit teller s < dst.total + countsValue (facesOf s) (pendingCounts dst) + v then
      .error .drawerLimit
    else .ok b

/-- One side of a transfer: the counts moved, the total recomputed, one transaction, the state to ACTIVE (R49). -/
def transferSide (f : Counts → Nat → Counts) (faces : List Nat) (b : Breakdown) (p : Position) : Position :=
  let q := retotal faces (movePairs f b p)
  activated { q with txCount := satCount Config.topCounter q.txCount }

/-- Carry out a transfer: both positions, then EXCESS_CASH of the drawer and the release pulse (R49). -/
def carryTransfer (toReserve : Bool) (st : Station) (teller : Nat) (b : Breakdown) (s : State) : State :=
  let src := transferSource toReserve st
  let dst := transferTarget toReserve st
  let atBound := decide (Config.topCounter ≤ (positionOf src s).txCount) || decide (Config.topCounter ≤ (positionOf dst s).txCount)
  let s1 := setPosition src
    (transferSide (fun c n => { c with committed := c.committed - n }) (facesOf s) b (positionOf src s)) s
  let s2 := setPosition dst
    (transferSide (fun c n => { c with committed := c.committed + n }) (facesOf s) b (positionOf dst s1)) s1
  requestPulse st (evaluateExcess st teller (raiseIf atBound .counterSaturated s2))

/-! ## Balancing (R50, R51) -/

/-- The station has an OTT entry. -/
def stationInFlight (st : Station) (s : State) : Bool := s.ttr.ott.any fun e => e.ref.station = st

/-- A position has a reservation standing. -/
def holdsReservation (p : Position) : Bool := p.counts.any fun c => decide (0 < c.reservedOut) || decide (0 < c.pendingIn)

/-- Some position has a reserved-out or pending-in count above 0 (R50). -/
def anyReservation (s : State) : Bool := s.csh.drawers.toList.any holdsReservation || holdsReservation s.csh.reserve

/-- The target of a balancing: the drawer for a TELLER code, the reserve for a SUPERVISOR code (R50). -/
def balanceTarget (rec : TctRec) (st : Station) : Option Station :=
  match rec.minAuthority with
  | .teller => some st
  | .supervisor => none

/-- The checks of a balancing, in order; its declared counts where it passes (R50). Within check 1 a missing entry is refused
before one that fails R35 (DESIGN CHOICE, log 38). -/
def checkBalance (target : Option Station) (fields : List KeyField) (s : State) : Except Reason (List Nat) :=
  let n := s.tbl.dnt.length
  let es := breakdownEntries fields
  if (List.range n).any fun i => (fieldText es (48 + i)).isNone then .error .breakdownRequired
  else if !es.all (breakdownEntryOk n) then .error .breakdownMismatch
  else
    let declared := (List.range n).map fun i => ((fieldText es (48 + i)).bind readDecimal).getD 0
    let flying := match target with
      | some st => stationInFlight st s
      | none => anyReservation s
    if flying then .error .inFlight
    else if Config.topTotal < countsValue (facesOf s) declared then .error .countLimit
    else .ok declared

/-- Set the committed counts to declared counts, the other two kept. -/
def declareCounts : List Nat → List Counts → List Counts
  | d :: ds, c :: cs => { c with committed := d } :: declareCounts ds cs
  | [], cs => cs
  | _, [] => []

/-- The balancing's over/short: the declared value less the stored committed total (R51). -/
def balanceOverShort (faces declared : List Nat) (p : Position) : Int :=
  (countsValue faces declared : Int) - (p.total : Int)

/-- The over/short total after a balancing (R51). -/
def overShortAfter (p : Position) (v : Int) : OverShort :=
  if p.state = .suspect then .unknown
  else match p.overShort with
    | .unknown => .unknown
    | .absent => .value v
    | .value w => .value (satAdd w v)

/-- Adding a balancing's over/short carries the total past its bound (R51, R54). -/
def overShortSaturates (p : Position) (v : Int) : Bool :=
  match p.state, p.overShort with
  | .suspect, _ => false
  | _, .value w => satOver w v
  | _, _ => false

/-- A balanced position: declared counts, recomputed total, over/short total, state BALANCED (R51). -/
def balancedPosition (faces declared : List Nat) (p : Position) : Position :=
  let v := balanceOverShort faces declared p
  let q := retotal faces { p with counts := declareCounts declared p.counts }
  { q with overShort := overShortAfter p v, state := .balanced }

/-- Remove a position from the unbalanced marks (R136). -/
def unmark (target : Option Station) (s : State) : State :=
  match target with
  | some st => onDay (fun d => { d with drawerMarks := d.drawerMarks.set st false }) s
  | none => onDay (fun d => { d with reserveMark := false }) s

/-- Carry out a balancing: the position, its mark, then for a drawer EXCESS_CASH and the release pulse (R51, R136). -/
def carryBalance (target : Option Station) (teller : Nat) (declared : List Nat) (s : State) : State :=
  let p := positionOf target s
  let v := balanceOverShort (facesOf s) declared p
  let s1 := unmark target (raiseIf (overShortSaturates p v) .counterSaturated
    (setPosition target (balancedPosition (facesOf s) declared p) s))
  match target with
  | some st => requestPulse st (evaluateExcess st teller s1)
  | none => s1

/-! ## Snapshot (R55) -/

/-- The nine positions by number. -/
def numberedPositions (c : Csh) : List (Nat × Position) :=
  (Station.all.map fun st => (st.num, c.drawers.get st)) ++ [(9, c.reserve)]

/-- A branch sum, held within the bound of totals by the additions of R54 (R55). No flag is raised (DEDUCED, log 26). The
figures are added in the order of their positions, from position 1 on, each intermediate sum being held (DESIGN CHOICE, log
26). -/
def branchSum (xs : List Int) : Int := xs.foldl satAdd 0

/-- A sum of over/short totals from a first sum on, in the order of the positions (DESIGN CHOICE, log 26). -/
def overShortSumFrom : Int → List OverShort → Option Int
  | sum, [] => some sum
  | sum, .value v :: rest => overShortSumFrom (satAdd sum v) rest
  | _, _ :: _ => none

/-- The over/short sum: a value where every position's is a value, else absent (R55); added as the other branch sums are
(DESIGN CHOICE, log 26). -/
def overShortSum (xs : List OverShort) : Option Int := overShortSumFrom 0 xs

/-- The snapshot of the nine positions with the branch sums (R55). -/
def snapshotOf (c : Csh) : Snapshot :=
  let ps := numberedPositions c
  { positions := ps
    sums :=
      { total := branchSum (ps.map fun p => (p.2.total : Int))
        cashIn := branchSum (ps.map fun p => p.2.cashIn)
        cashOut := branchSum (ps.map fun p => p.2.cashOut)
        rounding := branchSum (ps.map fun p => p.2.rounding)
        overShort := overShortSum (ps.map fun p => p.2.overShort) } }

/-! ## Start and date roll (R32, R57), and a new DNT (R56) -/

/-- Clear the reservations of a position (R32). -/
def clearReservations (p : Position) : Position :=
  { p with counts := p.counts.map fun c => { c with reservedOut := 0, pendingIn := 0 } }

/-- The stored total of a position agrees with its counts. -/
def totalAgrees (faces : List Nat) (p : Position) : Bool := decide (p.total = countsValue faces (committedCounts p))

/-- A position after the start-up check (R32). -/
def checkedPosition (faces : List Nat) (p : Position) : Position :=
  if totalAgrees faces p then clearReservations p
  else { clearReservations p with state := .suspect }

/-- A position opened for the new business day (R57). -/
def openedPosition (p : Position) : Position :=
  { p with
    state := if p.state = .suspect then .suspect else .notOpened
    cashIn := 0, cashOut := 0, rounding := 0, overShort := .absent, txCount := 0 }

/-- The counts of a position for a new table: kept where the same face stands at the same index, else 0 (R56). -/
def recount : List DntRec → List DntRec → List Counts → List Counts
  | [], _, _ => []
  | n :: ns, o :: os, c :: cs => (if n.face = o.face then c else ⟨0, 0, 0⟩) :: recount ns os cs
  | _ :: ns, _, _ => ⟨0, 0, 0⟩ :: recount ns [] []

/-- Apply a function to every position. -/
def onPositions (f : Position → Position) (c : Csh) : Csh :=
  { drawers := c.drawers.mapWith fun _ p => f p, reserve := f c.reserve }

end Sys2Proof.Machine
end

