-- ==== Sys2Proof/Machine/Advices.lean ====
section
/-! DEFINITION. The Advice Queue, the Teller Day Records and the Stand-in Account Map (chapter 5, R61). -/

namespace Sys2Proof.Machine
open Sys2Proof

/-! ## Teller Day Records (R61) -/

/-- The record of a teller, if one stands. -/
def tellerDay (t : Nat) (s : State) : Option TellerDay := s.sda.tellerDays.find? fun r => r.teller = t

/-- A teller signs on at a station: the record is found, or created behind the others (DESIGN CHOICE, log 30), and its signed-on
station set (R60, R61). -/
def tellerDayOn (t : Nat) (st : Station) (s : State) : State :=
  match tellerDay t s with
  | some _ =>
    onSda (fun a => { a with tellerDays := a.tellerDays.map fun r =>
      if r.teller = t then { r with station := some st } else r }) s
  | none =>
    onSda (fun a => { a with tellerDays := a.tellerDays ++
      [{ teller := t, station := some st, standinTotal := 0, txCount := 0, firstOn := s.mrs.clock, lastOff := none }] }) s

/-- A teller signs off: signed-on station none, last sign-off time now (R61, R62). -/
def tellerDayOff (t : Nat) (s : State) : State :=
  onSda (fun a => { a with tellerDays := a.tellerDays.map fun r =>
    if r.teller = t then { r with station := none, lastOff := some s.mrs.clock } else r }) s

/-- The stand-in day total of a teller (R99). -/
def standinTotal (t : Nat) (s : State) : Nat := ((tellerDay t s).map TellerDay.standinTotal).getD 0

/-! ## The account map (R100, R101, R103) -/

/-- The map entry of an account, if one stands. -/
def mapEntry (account : Text) (s : State) : Option MapEntry := s.sda.accountMap.find? fun e => e.account = account

/-- A stand-in debit is approved: the teller's total, and the account's entry, rise by A (R101, R104). The map holds its entries
in the order in which they were made, and is reported in it (DESIGN CHOICE, log 30). -/
def recordDebit (t : Nat) (account : Text) (a : Nat) (s : State) : State :=
  onSda (fun d => { d with
    tellerDays := d.tellerDays.map fun r =>
      if r.teller = t then { r with standinTotal := r.standinTotal + a } else r
    accountMap := match mapEntry account s with
      | some _ => d.accountMap.map fun e =>
          if e.account = account then
            { e with debit := e.debit + a, approvals := satCount Config.topCounter e.approvals } else e
      | none => d.accountMap ++ [{ account := account, debit := a, approvals := 1 }] }) s

/-! ## The queue (R105 to R108) -/

/-- The kind of an advice. -/
def adviceKind : AdviceBody → AdviceKind
  | .standin .. => .standin
  | .reversal .. => .reversal
  | .passbookUpdate .. => .passbookUpdate
  | .alarm .. => .alarm

/-- A queue entry is an advice of a kind. -/
def isKind (k : AdviceKind) : QueueEntry → Bool
  | .advice a => adviceKind a.body = k
  | .reservation _ => false

/-- A queue entry is a reservation. -/
def isReservation : QueueEntry → Bool
  | .advice _ => false
  | .reservation _ => true

/-- A queue entry stands in the general area: STANDIN and PASSBOOK_UPDATE advices and reservations (R106). -/
def isGeneral (q : QueueEntry) : Bool := isKind .standin q || isKind .passbookUpdate q || isReservation q

/-- A queue entry is a SENT advice. -/
def isSent : QueueEntry → Bool
  | .advice a => a.sent.isSome
  | .reservation _ => false

/-- A queue entry is an UNSENT advice. -/
def isUnsent : QueueEntry → Bool
  | .advice a => a.sent.isNone
  | .reservation _ => false

/-- How many entries of the queue pass a test. -/
def queueCount (p : QueueEntry → Bool) (s : State) : Nat := s.sda.queue.countP p

/-- The SDA can grant a general place: the general area holds fewer than 72 entries (R106). -/
def generalRoom (s : State) : Bool := decide (queueCount isGeneral s < Config.generalCapacity)

/-- The number of an advice of the queue. -/
def entryNumber : QueueEntry → Option Nat
  | .advice a => some a.number
  | .reservation _ => none

/-- The next number not in use, passing over at most so many (R3, R108). -/
def passOver (top : Nat) (held : List Nat) : Nat → Nat → Nat
  | 0, n => n
  | k + 1, n => if held.contains n then passOver top held k (wrapNext top n) else n

/-- The number the next advice takes (R108). -/
def adviceNumber (s : State) : Nat :=
  let held := s.sda.queue.filterMap entryNumber
  passOver Config.topAdvice held (held.length + 1) s.sda.nextAdvice

/-- Advance the advice counter past a number just given (R108). -/
def advanceAdvice (n : Nat) (s : State) : State :=
  onSda (fun a => { a with nextAdvice := wrapNext Config.topAdvice n }) s

/-- Queue an UNSENT advice behind the other entries, with the next number (R107, R108). -/
def queueAdvice (body : AdviceBody) (s : State) : State :=
  let n := adviceNumber s
  advanceAdvice n (onSda (fun a => { a with queue := a.queue ++ [.advice { number := n, body := body, sent := none }] }) s)

/-- Queue a REVERSAL advice (R109). -/
def queueReversal (ref : Ref) (cause : ReversalCause) (dir : CashDirection) (amount : Nat) (s : State) : State :=
  queueAdvice (.reversal ref cause dir amount) s

/-- A queue entry is an ALARM advice. -/
def isAlarm (q : QueueEntry) : Bool := isKind .alarm q

/-- Queue an ALARM advice last among the ALARM advices, ahead of every other entry (R107, R110). -/
def queueAlarm (st : Station) (s : State) : State :=
  let n := adviceNumber s
  advanceAdvice n (onSda (fun a => { a with
    queue := a.queue.takeWhile isAlarm ++
      .advice { number := n, body := .alarm st s.mrs.clock 1, sent := none } :: a.queue.dropWhile isAlarm }) s)

/-- Raise the repeat count of a station's ALARM advice, stopping at 255 (R110). -/
def repeatAlarm (st : Station) : QueueEntry → QueueEntry
  | .advice a =>
    match a.body with
    | .alarm st' t n => if st' = st then .advice { a with body := .alarm st' t (satCount Config.topErrors n) } else .advice a
    | _ => .advice a
  | .reservation r => .reservation r

/-- The time of first raising and the repeat count of a station's ALARM advice, if one stands. -/
def alarmRecord (st : Station) (s : State) : Option (Stamp × Nat) :=
  s.sda.queue.findSome? fun q => match q with
    | .advice a => match a.body with
      | .alarm st' t n => if st' = st then some (t, n) else none
      | _ => none
    | .reservation _ => none

/-- The journal entry of an alarm (R110, R117). It names no teller (DESIGN CHOICE, log 19). -/
def alarmDraft (st : Station) (t : Stamp) (n : Nat) : Draft :=
  { station := some st, teller := none, body := .alarm t n, account := none, amounts := none, breakdown := [] }

/-- The SDA takes a rising ALARM_IN level of a station: an advice or its repeat, the flag, the journal entry (R110). -/
def raiseAlarm (st : Station) (s : State) : State :=
  let s1 := if alarmStands st s then onSda (fun a => { a with queue := a.queue.map (repeatAlarm st) }) s
    else queueAlarm st s
  let s2 := raiseWith .alarm (some st) s1
  match alarmRecord st s2 with
  | some (t, n) => writeEntry 0 (alarmDraft st t n) s2
  | none => s2

/-! ## Reservations of print jobs (R84, R89, R93, R97) -/

/-- Hold a reservation behind the other entries (R106, R107). -/
def addReservation (r : Reservation) (s : State) : State :=
  onSda (fun a => { a with queue := a.queue ++ [.reservation r] }) s

/-- Change the first reservation of a reference. -/
def updateReservation (ref : Ref) (f : Reservation → Reservation) : List QueueEntry → List QueueEntry
  | [] => []
  | .reservation r :: rest =>
    if r.ref = ref then .reservation (f r) :: rest else .reservation r :: updateReservation ref f rest
  | .advice a :: rest => .advice a :: updateReservation ref f rest

/-- The first reservation of a reference becomes an advice in its place. -/
def convertFirst (ref : Ref) (mk : Reservation → Advice) : List QueueEntry → List QueueEntry
  | [] => []
  | .reservation r :: rest =>
    if r.ref = ref then .advice (mk r) :: rest else .reservation r :: convertFirst ref mk rest
  | .advice a :: rest => .advice a :: convertFirst ref mk rest

/-- Tell a job's reservation what the job has done (R84, R89). -/
def tellReservation (ref : Ref) (f : Reservation → Reservation) (s : State) : State :=
  onSda (fun a => { a with queue := updateReservation ref f a.queue }) s

/-- The SDA turns a job's reservation into a PASSBOOK_UPDATE advice in its place, with the next number (R93, R107,
R108). -/
def convertReservation (ref : Ref) (f : Reservation → Reservation) (cause : EndCause) (s : State) : State :=
  let n := adviceNumber s
  advanceAdvice n (onSda (fun a => { a with
    queue := convertFirst ref (fun r => { number := n, body := .passbookUpdate (f r) cause, sent := none }) a.queue }) s)

/-! ## Forwarding (R111, R113, R114) -/

/-- The first UNSENT advice in queue order. -/
def firstUnsent (s : State) : Option Advice :=
  s.sda.queue.findSome? fun q => match q with
    | .advice a => if a.sent.isNone then some a else none
    | .reservation _ => none

/-- The advice the SDA offers: the first UNSENT one while the link is not LOST and fewer than 4 are SENT (R111).
Judged when the transmitter takes (DEDUCED, log 11). -/
def offeredAdvice (s : State) : Option Advice :=
  if s.blc.link ≠ .lost ∧ queueCount isSent s < Config.adviceWindow then firstUnsent s else none

/-- Return an advice to UNSENT (R113, R114). -/
def unsend : QueueEntry → QueueEntry
  | .advice a => .advice { a with sent := none }
  | .reservation r => .reservation r

/-- Return every SENT advice to UNSENT in its place (R105, R114). -/
def returnAllUnsent (s : State) : State := onSda (fun a => { a with queue := a.queue.map unsend }) s

/-- A queue entry is the SENT advice of a number. -/
def isSentNumber (n : Nat) : QueueEntry → Bool
  | .advice a => decide (a.number = n) && a.sent.isSome
  | .reservation _ => false

/-- The SENT advice of a number, if one stands (R112). -/
def sentAdvice (n : Nat) (s : State) : Option Advice :=
  s.sda.queue.findSome? fun q => match q with
    | .advice a => if a.number = n ∧ a.sent.isSome then some a else none
    | .reservation _ => none

/-- Mark the advice of a number SENT with its deadline (R111). -/
def markSent (n deadline : Nat) : QueueEntry → QueueEntry
  | .advice a => if a.number = n then .advice { a with sent := some deadline } else .advice a
  | .reservation r => .reservation r

/-- The queue holds a STANDIN advice (R114, R187). -/
def holdsStandin (s : State) : Bool := s.sda.queue.any (isKind .standin)

/-! ## What a refused advice leaves in the journal (R112, R117) -/

/-- The station of an advice: of its reference, or the alarm's. -/
def adviceStation : AdviceBody → Station
  | .standin r .. => r.station
  | .reversal r .. => r.station
  | .passbookUpdate r _ => r.ref.station
  | .alarm st .. => st

/-- The sequence of an advice's reference, 0 where it has none. -/
def adviceSeq : AdviceBody → Nat
  | .standin r .. => r.seq
  | .reversal r .. => r.seq
  | .passbookUpdate r _ => r.ref.seq
  | .alarm .. => 0

/-- The code an advice carries, 0 where it carries none. -/
def adviceCode : AdviceBody → Nat
  | .standin _ _ code .. => code
  | .reversal .. => 0
  | .passbookUpdate .. => 0
  | .alarm .. => 0

/-- The account an advice carries, if any. -/
def adviceAccount : AdviceBody → Option Text
  | .standin _ _ _ account .. => account
  | .reversal .. => none
  | .passbookUpdate r _ => some r.account
  | .alarm .. => none

/-- The amount part of an amount known only as the rounded amount: carried twice, none where it is 0 (R117) (DEDUCED,
log 13). -/
def roundedPart (r : Nat) : Option (Int × Int) := if r = 0 then none else some ((r : Int), (r : Int))

/-- The amounts an advice carries, if any. -/
def adviceAmounts : AdviceBody → Option (Int × Int)
  | .standin _ _ _ _ amounts _ => amounts.map fun p => ((p.1 : Int), (p.2 : Int))
  | .reversal _ _ _ amount => roundedPart amount
  | .passbookUpdate .. => none
  | .alarm .. => none

/-- The LATE entry with cause ADVICE_REFUSED (R112). -/
def refusedAdviceDraft (a : Advice) : Draft :=
  { station := some (adviceStation a.body), teller := none,
    body := .late .adviceRefused (adviceSeq a.body) (adviceCode a.body) a.number (some (adviceKind a.body)),
    account := adviceAccount a.body, amounts := adviceAmounts a.body, breakdown := [] }

end Sys2Proof.Machine
end

