-- ==== Sys2Proof/Machine/Printing.lean ====
section
/-! DEFINITION. Passbook printing (chapter 4): the printer context, placement, page turns, job ends and stripe writes.
The events of a printer are built from these operations; each ends by letting the head of the queue go on
(`advanceQueue`). -/

namespace Sys2Proof.Machine
open Sys2Proof

/-! ## Places and books -/

/-- A place is before another: its page is lower, or the page is equal and its line lower (R91). -/
def placeBefore (a b : Place) : Bool := decide (a.page < b.page) || (decide (a.page = b.page) && decide (a.line < b.line))

/-- The place a book record shows. -/
def bookPlace (b : Book) : Place := { page := b.page, line := b.line }

/-- The book matches a job: the account is the job's, and the serial where the job has one (R85). -/
def bookMatches (j : Job) (b : Book) : Bool :=
  decide (b.account = j.account) && match j.serial with
    | some n => decide (b.serial = n)
    | none => true

/-- The book is the job's book, account and serial both equal (R91, R94). -/
def isJobsBook (j : Job) (b : Book) : Bool := decide (b.account = j.account) && decide (j.serial = some b.serial)

/-- A job meets its book: it takes the book's serial and type if it had none (R83, R85, R86) (DEDUCED, log 29: also where an
owed write stands for the book). -/
def meetBook (j : Job) (b : Book) : Job :=
  { j with serial := some (j.serial.getD b.serial), bookType := some (j.bookType.getD b.bookType), met := true }

/-- An owed write stands for a book (R80, R85). -/
def owedFor (c : PrinterContext) (b : Book) : Bool :=
  match c.owed with
  | some o => decide (o.account = b.account) && decide (o.serial = b.serial)
  | none => false

/-- The head job of a station's queue. -/
def headJob (st : Station) (s : State) : Option Job := (printerOf st s).bind fun c => c.queue.head?

/-- Replace the head job of a station's queue. -/
def setHead (st : Station) (j : Job) (s : State) : State :=
  onPrinter st (fun c => match c.queue with
    | [] => c
    | _ :: rest => { c with queue := j :: rest }) s

/-- The inserted book of a station's printer, if any. -/
def insertedBook (st : Station) (s : State) : Option Book := (printerOf st s).bind PrinterContext.book

/-- Set the passbook prompt of a station; a change is passed to the SCM (R95). -/
def setPrompt (st : Station) (p : Prompt) (s : State) : State :=
  match printerOf st s with
  | some c => if c.prompt = p then s else refresh st (setPrinter st (some { c with prompt := p }) s)
  | none => s

/-- The moment a wait that begins now expires: the page-turn wait of the settings (R85, R90). -/
def waitEnd (s : State) : Timer := some (secondsAhead s.mrs.settings.pageTurn s)

/-! ## Handing items (R78, R88, R94) -/

/-- Hand the printer an item: it is outstanding, and the printer is PRINTING (R78, R79). -/
def handItem (st : Station) (body : ItemBody) (s : State) : State :=
  onPrinter st (fun c => { c with state := .printing, item := some { body := body, accepted := false, timer := none } }) s

/-- The balance the line at an index of a job prints: its own, or on the last line the job's account balance (R88). -/
def printedBalance (j : Job) (index : Nat) (l : PassLine) : Option Int :=
  match l.balance with
  | some b => some b
  | none => if index = j.lines.length then j.balance else none

/-- The four texts of a passbook line with their columns, each fitted to its field's width (R88). -/
def lineTexts (decimals : Nat) (layout : PltRec) (l : PassLine) (balance : Option Int) : List (Nat × Text) :=
  [ (layout.date.column, fitWidth false layout.date.width l.date),
    (layout.code.column, fitWidth false layout.code.width l.code),
    (layout.amount.column, fitWidth true layout.amount.width (amountText decimals l.amount)),
    (layout.balance.column, fitWidth true layout.balance.width
      (match balance with
        | some b => amountText decimals b
        | none => [])) ]

/-- Hand the printer the line at the head job's next-line index, at the job's place (R88). -/
def handLine (st : Station) (s : State) : State :=
  match headJob st s with
  | none => s
  | some j =>
    match j.layout, j.place, j.lines[j.next - 1]? with
    | some layout, some place, some l =>
      let balance := printedBalance j j.next l
      handItem st (.printLine place (lineTexts (decimalsOf s) layout l balance) balance)
        (setHead st { j with state := .printing } s)
    | _, _, _ => s

/-! ## Job ends (R92 to R94) -/

/-- The owed write a job's end leaves: its account, serial and place (R94). -/
def owedOf (j : Job) : Option OwedWrite :=
  match j.serial, j.place with
  | some n, some p => some { account := j.account, serial := n, place := p }
  | _, _ => none

/-- Make the end write of the head job owed (R94). -/
def oweEndWrite (st : Station) (j : Job) (s : State) : State :=
  onPrinter st (fun c => { c with owed := match owedOf j with
    | some o => some o
    | none => c.owed }) (setHead st { j with outcome := some .owed } s)

/-- A cause after which no end write is made (R93). -/
def writesNoEnd : EndCause → Bool
  | .badStripe => true
  | .lineOff => true
  | .restart => true
  | _ => false

/-- A prompt with TURN PAGE and WRONG BOOK withdrawn and BOOK FULL kept (R93, R95). -/
def withdrawWait : Prompt → Prompt
  | .bookFull => .bookFull
  | .noPrompt => .noPrompt
  | .turnPage => .noPrompt
  | .wrongBook => .noPrompt

/-- The prompt at a job's end: TURN PAGE and WRONG BOOK withdrawn, BOOK FULL kept, and set by BOOK_FULL (R93). -/
def promptAtEnd (cause : EndCause) (p : Prompt) : Prompt := if cause = .bookFull then .bookFull else withdrawWait p

/-- The end write of the head job, already in state ended: made at once, counted as completed, or owed (R93, R94). -/
def endWrite (st : Station) (j : Job) (s : State) : State :=
  match printerOf st s with
  | none => s
  | some c =>
    if j.printed = 0 ∨ (j.cause.map writesNoEnd).getD true then setHead st { j with outcome := some .notDue } s
    else match c.book, j.place with
      | some b, some p =>
        if c.state = .ready ∧ isJobsBook j b then
          if placeBefore p (bookPlace b) then setHead st { j with outcome := some .written } s
          else handItem st (.stripeWrite p .endWrite) s
        else oweEndWrite st j s
      | _, _ => oweEndWrite st j s

/-- End the head job with a cause: its wait stops, the prompt follows and the end write is judged (R93). -/
def endHead (st : Station) (cause : EndCause) (s : State) : State :=
  match printerOf st s, headJob st s with
  | some c, some j =>
    let j' := { j with state := .ended, cause := some cause, timer := none }
    endWrite st j' (setHead st j' (setPrompt st (promptAtEnd cause c.prompt) s))
  | _, _ => s

/-- The PASSBOOK entry of an ended job (R93, R117). -/
def passbookDraft (st : Station) (teller : Option Nat) (r : Reservation) (cause : EndCause) (outcome : StripeOutcome) :
    Draft :=
  { station := some st, teller := teller, body := .passbook r.ref.seq r.serial r.received r.printed cause outcome,
    account := some r.account, amounts := none, breakdown := [] }

/-- The reservation that the SDA grants a job as it is created: the serial is the job's where known, and 0 lines are printed
(R84). -/
def createdReservation (j : Job) : Reservation :=
  { ref := j.ref, account := j.account, serial := j.serial, received := j.lines.length, printed := 0, lastBalance := none }

/-- What a job reports at its end: its fields as they now stand, the serial absent where the job never met its book (R93)
(DEDUCED, log 29: the entry's serial is the advice's). -/
def jobReservation (j : Job) : Reservation :=
  { ref := j.ref, account := j.account, serial := if j.met then j.serial else none, received := j.lines.length,
    printed := j.printed, lastBalance := j.lastBalance }

/-- Complete the end of the head job: its advice, its PASSBOOK entry, and out of the queue (R93, steps 2 to 4). -/
def finishHead (st : Station) (teller : Option Nat) (s : State) : State :=
  match headJob st s with
  | none => s
  | some j =>
    let cause := j.cause.getD .complete
    let outcome := j.outcome.getD .notDue
    let s1 := convertReservation j.ref (fun _ => jobReservation j) cause s
    let s2 := writeEntry 0 (passbookDraft st teller (jobReservation j) cause outcome) s1
    onPrinter st (fun c => { c with queue := c.queue.tail }) s2

/-! ## Placement and page turns (R87, R90) -/

/-- A page is full with lines still to print: the book is full, or the page is turned (R90). -/
def pageFull (st : Station) (j : Job) (page pages : Nat) (s : State) : State :=
  if pages ≤ page then endHead st .bookFull (setHead st j s)
  else
    let next : Place := { page := page + 1, line := 1 }
    handItem st (.stripeWrite next .turn)
      (setPrompt st .turnPage (setHead st { j with state := .turnWait, place := some next, timer := waitEnd s } s))

/-- The start line of a placement: on page 1 a line below F1 is raised to F1 (R87). -/
def startLine (layout : PltRec) (b : Book) : Nat :=
  if b.page = 1 ∧ b.line < layout.firstLine then layout.firstLine else b.line

/-- Judge the start place of a job that holds its layout copy (R87). -/
def judgeStart (st : Station) (j : Job) (layout : PltRec) (b : Book) (s : State) : State :=
  let l := startLine layout b
  let j' := { j with layout := some layout, place := some { page := b.page, line := l } }
  if b.page < 1 ∨ layout.pages < b.page ∨ l < 1 ∨ layout.linesPerPage + 1 < l then
    endHead st .badStripe (setHead st j' s)
  else if l = layout.linesPerPage + 1 then pageFull st j' b.page layout.pages s
  else handLine st (setHead st j' s)

/-- Placement begins or resumes at the inserted book: the job meets it, the timer stops, TURN PAGE or WRONG BOOK is withdrawn,
and the start is judged (R85 to R87, R91). A BOOK FULL that stands is kept (R93, R95). WRONG BOOK is withdrawn also where the completion of an owed write begins the placement, of which row 3 of R86
names the timer alone (DESIGN CHOICE, log 18). The reservation keeps the serial of its creation (R84, R89, R105). -/
def beginPlacement (st : Station) (s : State) : State :=
  match headJob st s, insertedBook st s with
  | some j, some b =>
    let j' := { meetBook j b with timer := none }
    let s1 := setPrompt st (withdrawWait (promptAt st s)) (setHead st j' s)
    match j.layout with
    | some layout => judgeStart st j' layout b s1
    | none =>
      match layoutOf b.bookType s with
      | some layout => judgeStart st j' layout b s1
      | none => endHead st .noLayout s1
  | _, _ => s

/-! ## Owed writes (R94) -/

/-- Deal with the owed write that stands for the inserted book: made where the book shows an earlier place, else cleared
without a write (R94). -/
def dealOwed (st : Station) (s : State) : State :=
  match printerOf st s, insertedBook st s with
  | some c, some b =>
    match c.owed with
    | some o =>
      if owedFor c b then
        if placeBefore (bookPlace b) o.place then
          (if c.state = .ready then handItem st (.stripeWrite o.place .owed) s else s)
        else onPrinter st (fun c => { c with owed := none }) s
      else s
    | none => s
  | _, _ => s

/-- The inserted book matches the job and no owed write stands for it. -/
def bookReady (c : PrinterContext) (j : Job) : Bool :=
  match c.book with
  | some b => bookMatches j b && !owedFor c b
  | none => false

/-- Where the head job waits in BOOK_WAIT for a matching inserted book that no owed write stands for, and the printer is
READY, placement begins (R86). -/
def resumeBookWait (st : Station) (s : State) : State :=
  match printerOf st s, headJob st s with
  | some c, some j =>
    if j.state = .bookWait ∧ c.state = .ready ∧ bookReady c j then beginPlacement st s else s
  | _, _ => s

/-! ## The head job begins (R85) -/

/-- The head job enters BOOK_WAIT with its wait timer (R85). -/
def enterBookWait (st : Station) (j : Job) (s : State) : State :=
  setHead st { j with state := .bookWait, timer := waitEnd s } s

/-- The head job begins: placement, an owed write first, or BOOK_WAIT. Its book met, it waits for the owed write; in FAULT and
DOWN it finds no book (R82, R85, R94). -/
def beginHead (st : Station) (s : State) : State :=
  match printerOf st s, headJob st s with
  | some c, some j =>
    match c.book with
    | some b =>
      if bookMatches j b ∧ c.state = .ready then
        if owedFor c b then resumeBookWait st (dealOwed st (enterBookWait st (meetBook j b) s)) else beginPlacement st s
      else enterBookWait st j s
    | none => enterBookWait st j s
  | _, _ => s

/-- Let the head of the queue go on: an ended job whose stripe outcome is known is completed and leaves, and a QUEUED
head begins while the printer is not PRINTING (R85, R93). The first argument bounds the turns: two a job. -/
def advanceQueue : Nat → Station → State → State
  | 0, _, s => s
  | k + 1, st, s =>
    match printerOf st s, headJob st s with
    | some c, some j =>
      if j.state = .ended ∧ j.outcome.isSome then advanceQueue k st (finishHead st (tellerAt st s) s)
      else if j.state = .queued ∧ c.state ≠ .printing then advanceQueue k st (beginHead st s)
      else s
    | _, _ => s

/-- Turns that a queue of 4 jobs can take at one event: each begins and leaves. -/
def queueTurns : Nat := 2 * Config.printQueueCapacity + 1

/-- Let a station's queue go on (R85, R93). -/
def goOn (st : Station) (s : State) : State := advanceQueue queueTurns st s

/-! ## Item failure (R79, R92) -/

/-- The outstanding item fails: a PRINT_LINE ends its job with a cause, an end write becomes owed, a turn, repair or owed
write leaves the stripe as it was (R79, R90 to R92, R94). The caller has set the printer state and the record first. -/
def failItem (st : Station) (cause : EndCause) (s : State) : State :=
  match printerOf st s with
  | none => s
  | some c =>
    match c.item with
    | none => s
    | some i =>
      let s1 := setPrinter st (some { c with item := none }) s
      match i.body with
      | .printLine .. => endHead st cause s1
      | .stripeWrite _ .endWrite =>
        match headJob st s1 with
        | some j => oweEndWrite st j s1
        | none => s1
      | .stripeWrite _ .turn => s1
      | .stripeWrite _ .repair => s1
      | .stripeWrite _ .owed => s1

/-- The state of a printer that a frame of its own reports on: FAULT becomes READY, and PRINTING becomes READY where an
item was outstanding (R78). -/
def reportedState (c : PrinterContext) : PrinterState :=
  match c.state with
  | .fault => .ready
  | .printing => if c.item.isSome then .ready else .printing
  | .ready => .ready
  | .down => .down

/-- Clear the inserted-book record and set the printer state, then fail any outstanding item (R80 to R82) (DEDUCED,
log 18). -/
def clearAndFail (st : Station) (state : PrinterContext → PrinterState) (cause : EndCause) (s : State) : State :=
  failItem st cause (onPrinter st (fun c => { c with state := state c, book := none }) s)

/-! ## The printer's events -/

/-- A book read is offered to a head job in TURN_WAIT: any other book sets WRONG BOOK, whatever the printer's state; the
job's own book is repaired or resumed while the printer takes a frame (R78, R91). -/
def offerTurn (st : Station) (ready : Bool) (j : Job) (b : Book) (s : State) : State :=
  match j.place with
  | none => s
  | some p =>
    if !isJobsBook j b then setPrompt st .wrongBook s
    else if !ready then s
    else if placeBefore (bookPlace b) p then handItem st (.stripeWrite p .repair) s
    else beginPlacement st s

/-- A book read is offered to the head job in BOOK_WAIT, which meets a book that matches, or in TURN_WAIT (R80, R86, R91,
R94). -/
def offerBook (st : Station) (s : State) : State :=
  match printerOf st s, headJob st s, insertedBook st s with
  | some c, some j, some b =>
    match j.state with
    | .bookWait =>
      if !bookMatches j b then setPrompt st .wrongBook s
      else resumeBookWait st (setHead st (meetBook j b) s)
    | .turnWait => offerTurn st (decide (c.state = .ready)) j b s
    | .queued => s
    | .printing => s
    | .ended => s
  | _, _, _ => s

/-- An ended head job whose stripe outcome is known is completed and leaves its queue (R93). -/
def leaveEnded (st : Station) (s : State) : State :=
  match headJob st s with
  | some j => if j.state = .ended ∧ j.outcome.isSome then finishHead st (tellerAt st s) s else s
  | none => s

/-- A STRIPE_READ: any outstanding item fails, the record is set, FAULT and BOOK FULL end, an owed write is dealt with, and a
head job that waits is offered the book (R80). A job that the failure ends has left the queue before the book is recorded
(R92); a QUEUED head, that next job among them, begins after it, comparing the recorded book, so that another book sets no
WRONG BOOK (R80, R85) (DEDUCED, log 18). -/
def takeStripeRead (st : Station) (b : Book) (s : State) : State :=
  let s1 := leaveEnded st (clearAndFail st reportedState .bookRemoved s)
  let s2 := onPrinter st (fun c => { c with book := some b }) s1
  let s3 := if promptAt st s2 = .bookFull then setPrompt st .noPrompt s2 else s2
  goOn st (offerBook st (dealOwed st s3))

/-- The prompt after a removal: BOOK FULL withdrawn; WRONG BOOK becomes TURN PAGE in TURN_WAIT and none in BOOK_WAIT
(R81). -/
def promptAfterRemoval (p : Prompt) (head : Option JobState) : Prompt :=
  match p, head with
  | .bookFull, _ => .noPrompt
  | .wrongBook, some .turnWait => .turnPage
  | .wrongBook, some .bookWait => .noPrompt
  | q, _ => q

/-- A BOOK_REMOVED: any outstanding item fails, the record is cleared, FAULT ends, the prompts follow (R81). -/
def takeBookRemoved (st : Station) (s : State) : State :=
  let s1 := goOn st (clearAndFail st reportedState .bookRemoved s)
  setPrompt st (promptAfterRemoval (promptAt st s1) ((headJob st s1).map Job.state)) s1

/-- The printer enters FAULT from READY or PRINTING (R78). -/
def faultState (c : PrinterContext) : PrinterState :=
  match c.state with
  | .down => .down
  | _ => .fault

/-- A FAULT frame or an expired completion timer: FAULT, any outstanding item fails, the record is cleared (R82). -/
def takeFault (st : Station) (s : State) : State := goOn st (clearAndFail st faultState .printerFault s)

/-- The SLC marks drop 2 DOWN (R82). -/
def takePrinterDown (st : Station) (s : State) : State :=
  goOn st (clearAndFail st (fun _ => .down) .printerDown s)

/-- The SLC tells that drop 2 answers: a printer in DOWN becomes READY with no inserted book (R82, R169). A printer
in another state, as where the drop leaves NEW after a LINE-RESET, keeps its state and its book record (DESIGN CHOICE, log
18). -/
def takePrinterUp (st : Station) (s : State) : State :=
  goOn st (onPrinter st (fun c => if c.state = .down then { c with state := .ready, book := none } else c) s)

/-- A completed PRINT_LINE advances the head job (R89). -/
def lineCompleted (st : Station) (j : Job) (balance : Option Int) (s : State) : State :=
  let last := match balance with
    | some b => some b
    | none => j.lastBalance
  let place := j.place.map fun p => { p with line := p.line + 1 }
  let j' := { j with printed := j.printed + 1, next := j.next + 1, lastBalance := last, place := place }
  let s1 := setHead st j' (tellReservation j.ref (fun r => { r with printed := j'.printed, lastBalance := last }) s)
  if j'.lines.length < j'.next then endHead st .complete s1
  else match place, j.layout with
    | some p, some layout =>
      if p.line = layout.linesPerPage + 1 then pageFull st j' p.page layout.pages s1 else handLine st s1
    | _, _ => s1

/-- The outstanding item is completed: none is outstanding, and PRINTING becomes READY (R78, R79). -/
def itemDone (c : PrinterContext) : PrinterContext :=
  { c with item := none, state := if c.state = .printing then .ready else c.state }

/-- A LINE_DONE: completes an outstanding PRINT_LINE, else is discarded (R79, R89). The item is completed whether or
not its ACCEPT was seen (DEDUCED, log 18). -/
def takeLineDone (st : Station) (s : State) : State :=
  match printerOf st s with
  | none => s
  | some c =>
    match c.item with
    | some { body := .printLine _ _ balance, .. } =>
      let s1 := setPrinter st (some (itemDone c)) s
      match headJob st s1 with
      | some j => goOn st (lineCompleted st j balance s1)
      | none => s1
    | _ => s

/-- The owed write that stands is the one that has been written: of the inserted book, at the place its stripe now shows
(R94). -/
def owedWritten (c : PrinterContext) : Bool :=
  match c.owed, c.book with
  | some o, some b => owedFor c b && decide (o.place = bookPlace b)
  | _, _ => false

/-- What follows the completion of a stripe write, by its purpose (R90, R91, R93, R94). The completion of an owed write clears
the owed write that was made; one that replaced it meanwhile stands. -/
def writeCompleted (st : Station) (purpose : WritePurpose) (s : State) : State :=
  match purpose with
  | .turn => s
  | .repair =>
    match headJob st s with
    | some j => if j.state = .turnWait then beginPlacement st s else s
    | none => s
  | .endWrite =>
    match headJob st s with
    | some j => if j.state = .ended then setHead st { j with outcome := some .written } s else s
    | none => s
  | .owed => resumeBookWait st (onPrinter st (fun c => if owedWritten c then { c with owed := none } else c) s)

/-- A WRITE_DONE: completes an outstanding STRIPE_WRITE, the record taking the place written; else is discarded
(R79, R94). -/
def takeWriteDone (st : Station) (s : State) : State :=
  match printerOf st s with
  | none => s
  | some c =>
    match c.item with
    | some { body := .stripeWrite p purpose, .. } =>
      let done := itemDone c
      let s1 := setPrinter st
        (some { done with book := done.book.map fun b => { b with page := p.page, line := p.line } }) s
      goOn st (writeCompleted st purpose s1)
    | _ => s

/-- The expiry of the head job's wait timer (R86, R91). -/
def takeWaitExpiry (st : Station) (s : State) : State :=
  match headJob st s with
  | some j =>
    match j.state with
    | .bookWait => goOn st (endHead st .bookAbsent s)
    | .turnWait => goOn st (endHead st .turnTimeout s)
    | .queued => s
    | .printing => s
    | .ended => s
  | none => s

/-- The expiry of the outstanding item's completion timer (R79, R82). -/
def takeCompletionExpiry (st : Station) (s : State) : State :=
  match printerOf st s with
  | some c => if (c.item.bind PrinterItem.timer).isSome then takeFault st s else s
  | none => s

/-- The drop ACCEPTs the item a select carried: its completion timer starts (R79, R171). The item a select carried is known by
its body: where that item failed while the exchange ran, the ACCEPT starts the timer of the item outstanding now if it has an
equal body and has not been accepted, and is else dropped (DESIGN CHOICE, log 42). -/
def itemAccepted (st : Station) (body : ItemBody) (s : State) : State :=
  onPrinter st (fun c => match c.item with
    | some i =>
      if i.body = body ∧ !i.accepted then
        { c with item := some { i with accepted := true, timer := some (millisAhead Config.completionTime s) } }
      else c
    | none => c) s

/-! ## Creating a job (R84) -/

/-- The job an approval asks for (R83, R84). -/
def newJob (ref : Ref) (account : Text) (snapshot : Option Book) (lines : List PassLine) (balance : Option Int) : Job :=
  { ref := ref, account := account, serial := snapshot.map Book.serial, bookType := snapshot.map Book.bookType,
    met := false, lines := lines, balance := balance, next := 1, printed := 0, lastBalance := none, layout := none,
    place := none, state := .queued, cause := none, outcome := none, timer := none }

/-- The account of a job: of the snapshot, or the entry's where no snapshot was taken (R84). -/
def jobAccount (account : Option Text) (snapshot : Option Book) : Option Text :=
  match snapshot with
  | some b => some b.account
  | none => account

/-- The PASSBOOK_STATUS of a job just created (R68): its state in words, or its end cause where it has ended (DEDUCED,
log 15). -/
def jobStatusWords (st : Station) (ref : Ref) (s : State) : Text :=
  let inQueue := (printerOf st s).bind fun c => (c.queue.filter fun j => j.ref = ref).getLast?
  match inQueue with
  | some j =>
    match j.cause with
    | some cause => screenWords (endCauseName cause)
    | none => jobStateWords j.state
  | none =>
    let ended := (s.sda.queue.filterMap fun q => match q with
      | .advice a => match a.body with
        | .passbookUpdate r cause => if r.ref = ref then some cause else none
        | _ => none
      | .reservation _ => none).getLast?
    match ended with
    | some cause => screenWords (endCauseName cause)
    | none => []

/-- The PBK is given an approval's lines: the job and its reservation where the tests pass; with the words of the
PASSBOOK_STATUS field (R68, R84). -/
def createJob (ref : Ref) (account : Option Text) (snapshot : Option Book) (lines : List PassLine) (balance : Option Int)
    (s : State) : State × Text :=
  let st := ref.station
  let full : Text := "QUEUE FULL".toList
  match printerOf st s with
  | none => (s, full)
  | some c =>
    if Config.printQueueCapacity ≤ c.queue.length then (s, full)
    else match jobAccount account snapshot with
      | none => (s, full)
      | some acc =>
        if !generalRoom s then (s, full)
        else
          let j := newJob ref acc snapshot lines balance
          let s1 := addReservation (createdReservation j) s
          let s2 := goOn st (onPrinter st (fun c => { c with queue := c.queue ++ [j] }) s1)
          (s2, jobStatusWords st ref s2)

/-! ## The line set OFF (R96) -/

/-- The stripe outcome of a job ended by its line: NONE with 0 lines printed, OWED otherwise (R96) (DEDUCED, log 18).
-/
def lineOffOutcome (printed : Nat) : StripeOutcome := if printed = 0 then .notDue else .owed

/-- A job as the setting of its line to OFF ends it; one already ended keeps its cause, its write dropped (R96). -/
def lineOffJob (j : Job) : Job :=
  if j.state = .ended then { j with outcome := some .owed }
  else { j with state := .ended, cause := some .lineOff, timer := none, outcome := some (lineOffOutcome j.printed) }

/-- End the jobs of a station's queue, the head job first (R96). The first argument bounds the turns: one a job. -/
def endQueueOff : Nat → Station → Option Nat → State → State
  | 0, _, _, s => s
  | k + 1, st, teller, s =>
    match headJob st s with
    | none => s
    | some j => endQueueOff k st teller (finishHead st teller (setHead st (lineOffJob j) s))

/-- A station's line is set OFF: its jobs end LINE_OFF and its printer context is removed (R96). The teller is the one who
was signed on before the role change (R167). -/
def removePrinter (st : Station) (teller : Option Nat) (s : State) : State :=
  match printerOf st s with
  | none => s
  | some c => setPrinter st none (endQueueOff c.queue.length st teller (setPrinter st (some { c with item := none }) s))

/-- A printer context as a start or a new role makes it (R77). -/
def PrinterContext.fresh : PrinterContext :=
  { book := none, state := .ready, item := none, owed := none, prompt := .noPrompt, queue := [] }

end Sys2Proof.Machine
end

