-- ==== Sys2Proof/Machine/DayControl.lean ====
section
/-! DEFINITION. Day Control (chapter 7): changes of day state, the settle condition, settlement with its batches, the date
roll and the restart of a day. -/

namespace Sys2Proof.Machine
open Sys2Proof

/-! ## Changes of day state (R131) -/

/-- The DAY entry of a state entered (R117). -/
def dayDraft (next : DayState) (date : Option Date) : Draft :=
  { station := none, teller := none, body := .day next date, account := none, amounts := none, breakdown := [] }

/-- The day state changes: its DAY entry is written from free slots and every status line recomposed (R131). The LAMP
condition and the trickle offer read the day state where they are judged. -/
def changeDay (next : DayState) (s : State) : State :=
  refreshAll (writeEntry 0 (dayDraft next s.day.date) (onDay (fun d => { d with state := next }) s))

/-! ## Unbalanced marks (R135, R136) -/

/-- A position is in the unbalanced marks. -/
def marked (p : Option Station) (s : State) : Bool :=
  match p with
  | some st => s.day.drawerMarks.get st
  | none => s.day.reserveMark

/-- The positions by number: the drawers, then the reserve (DESIGN CHOICE, log 30, where they are sent). -/
def allPositions : List (Option Station) := Station.all.map some ++ [none]

/-- The numbers of the marked positions. -/
def markedNumbers (s : State) : List Nat := (allPositions.filter fun p => marked p s).map positionNumber

/-- A forced close marks the position: it is ACTIVE or SUSPECT (R135). -/
def forceMarks (p : Position) : Bool := p.state = .active || p.state = .suspect

/-- Add every ACTIVE or SUSPECT position to the unbalanced marks (R135). -/
def markUnbalanced (s : State) : State :=
  onDay (fun d => { d with
    drawerMarks := d.drawerMarks.mapWith fun st m => m || forceMarks (drawerOf st s)
    reserveMark := d.reserveMark || forceMarks s.csh.reserve }) s

/-! ## The totals batch (R140, R141) -/

/-- The close flag of a position (R141). -/
def closeFlag : PositionState → CloseFlag
  | .notOpened => .notOpened
  | .balanced => .balanced
  | .active => .unbalanced
  | .suspect => .suspect

/-- The day figures of a position, carried unless it is NOT_OPENED (R141). -/
def dayFigures (p : Position) : Option DayFigures :=
  match p.state with
  | .notOpened => none
  | _ => some { cashIn := p.cashIn, cashOut := p.cashOut, rounding := p.rounding, overShort := p.overShort,
                txCount := p.txCount }

/-- A position as the totals batch presents it; EXCESS_CASH is carried for the drawers (R141). -/
def closePosition (who : Option Station) (s : State) : ClosePosition :=
  let p := positionOf who s
  { number := positionNumber who, flag := closeFlag p.state, marked := marked who s, counts := committedCounts p,
    total := p.total, figures := dayFigures p, excess := who.map fun _ => p.excess }

/-- The Teller Day Records in order of teller number (R140). -/
def orderedTellers (s : State) : List TellerDay :=
  s.sda.tellerDays.foldr (List.orderedInsert fun a b => a.teller ≤ b.teller) []

/-- The parts of the totals batch: one positions part and 0 to 2 teller parts (R140). The positions part carries positions 1 to
9 in that order, which R140, R141 and section 12.2 leave open (DESIGN CHOICE, log 30). -/
def totalsParts (s : State) : List TotalsPart :=
  let ts := orderedTellers s
  let count := if ts.length = 0 then 1 else if ts.length ≤ 32 then 2 else 3
  let first := TotalsPart.positions 1 count s.day.date s.jrn.lastAccepted (allPositions.map fun p => closePosition p s)
    (snapshotOf s.csh).sums
  let second := if ts.length = 0 then [] else [TotalsPart.tellers 2 count (ts.take 32)]
  let third := if ts.length ≤ 32 then [] else [TotalsPart.tellers 3 count (ts.drop 32)]
  first :: second ++ third

/-! ## The settlement context (R137 to R139) -/

/-- A settlement context just set up, with attempts 0. -/
def newSettlement (phase : Phase) : Settlement :=
  { phase := phase, current := none, outstanding := none, attempts := 0, parts := [], pause := none }

/-- Change the settlement context, where it stands. -/
def onSettlement (f : Settlement → Settlement) (s : State) : State :=
  onDay (fun d => { d with settlement := d.settlement.map f }) s

/-- The phase becomes TOTALS: its parts are built from the snapshot and the records as they stand (R140). -/
def beginTotals (s : State) : State :=
  onSettlement (fun c => { c with phase := .totals, current := none, attempts := 0, parts := totalsParts s }) s

/-- The journal phase ends where no entry above the last accepted sequence is held (R139). -/
def journalPhaseEnd (s : State) : State := if unaccepted s = [] then beginTotals s else s

/-- Head office has accepted a journal batch: in phase JOURNAL, an acceptance that leaves no entry to send ends the phase
(R139). -/
def phaseAfterAcceptance (s : State) : State :=
  match s.day.settlement with
  | some c => if c.phase = .journal then journalPhaseEnd s else s
  | none => s

/-- Set up a context in phase JOURNAL; TOTALS at once where there is no entry to send (R137, R139, R147). -/
def beginJournalPhase (s : State) : State :=
  journalPhaseEnd (onDay (fun d => { d with settlement := some (newSettlement .journal) }) s)

/-! ## The settle condition (R134) -/

/-- A position lets the day settle: NOT_OPENED, BALANCED, or marked. -/
def positionAtRest (who : Option Station) (s : State) : Bool :=
  let p := positionOf who s
  p.state = .notOpened || p.state = .balanced || marked who s

/-- The settle condition (R134). -/
def settleCondition (s : State) : Bool :=
  s.ttr.ott.isEmpty && s.sda.queue.isEmpty && s.scm.signOn.toList.all Option.isNone &&
    allPositions.all fun p => positionAtRest p s

/-- DAY judges the settle condition: in CUTOFF, where it holds, settlement begins (R134, R137). In the step of the
command that can bring it about (DEDUCED, log 10). -/
def judgeSettle (s : State) : State :=
  if s.day.state = .cutoff ∧ settleCondition s then beginJournalPhase (changeDay .settling s) else s

/-! ## The batch DAY offers (R138) -/

/-- No batch of any kind is outstanding (R123, R125, R138). -/
def noBatchOutstanding (s : State) : Bool :=
  s.jrn.trickle.isNone && match s.day.settlement with
    | some c => c.outstanding.isNone
    | none => true

/-- The day state lets DAY offer in its phase (R138). -/
def settlementOpen (c : Settlement) (day : DayState) : Bool :=
  day = .settling || (day = .settled && c.phase = .trailing)

/-- The content of the next batch of the phase, if there is one (R139, R140, R144). -/
def nextContent (c : Settlement) (s : State) : Option BatchContent :=
  match c.phase with
  | .journal => (journalBatch (unaccepted s)).map BatchContent.journal
  | .totals => c.parts.head?.map BatchContent.totals
  | .trailing => (journalBatch (unaccepted s)).map BatchContent.journal

/-- The batch DAY has to offer: its current one, or the next of the phase built now with the batch counter (R138). -/
def batchToOffer (c : Settlement) (s : State) : Option Batch :=
  match c.current with
  | some b => some b
  | none => (nextContent c s).map fun x => { number := s.jrn.batchCounter, content := x }

/-- The batch DAY offers, while all the conditions of R138 hold. Judged when the transmitter takes (DEDUCED, log 11).
-/
def settlementOffer (s : State) : Option Batch :=
  match s.day.settlement with
  | none => none
  | some c =>
    if settlementOpen c s.day.state && decide (s.blc.link ≠ .lost) && noBatchOutstanding s && c.pause.isNone then
      batchToOffer c s
    else none

/-- DAY's batch is transmitted: it is the current batch, outstanding with its deadline; a batch built now has taken its
number from the counter (R137, R138). -/
def settlementSent (b : Batch) (s : State) : State :=
  let built := match s.day.settlement with
    | some c => c.current.isNone
    | none => false
  let s1 := onSettlement (fun c => { c with
    current := some b
    outstanding := some (secondsAhead s.mrs.settings.batchAck s) }) s
  if built then advanceBatchCounter s1 else s1

/-- The trickle batch the JRN offers, while all the conditions of R123 hold; its number is the batch counter's. Judged
when the transmitter takes (DEDUCED, log 11). -/
def trickleOffer (s : State) : Option JournalBatch :=
  if s.mrs.settings.journalMode = .trickle ∧ s.day.state = .opened ∧ s.blc.link = .up ∧ noBatchOutstanding s = true ∧
      s.jrn.pause = none then
    journalBatch (trickleEligible s)
  else none

/-- The trickle batch is transmitted: it is outstanding with its deadline (R125). -/
def trickleSent (b : JournalBatch) (s : State) : State :=
  advanceBatchCounter (onJrn (fun j => { j with
    trickle := some { number := j.batchCounter, batch := b, deadline := secondsAhead s.mrs.settings.batchAck s } }) s)

/-! ## Answers to settlement batches (R142 to R144) -/

/-- The current settlement batch, while it is outstanding. -/
def outstandingSettlement (s : State) : Option Batch :=
  match s.day.settlement with
  | some c => if c.outstanding.isSome then c.current else none
  | none => none

/-- The last totals part is accepted: the day is SETTLED and the phase TRAILING (R144). -/
def endSettlement (s : State) : State :=
  changeDay .settled (onSettlement (fun c => { c with phase := .trailing, parts := [] }) s)

/-- The current batch is done with: none is current or outstanding, attempts 0 (R139, R142). -/
def clearCurrent (c : Settlement) : Settlement := { c with current := none, outstanding := none, attempts := 0 }

/-- The outstanding settlement batch is ACCEPTED (R139, R142, R144). -/
def settlementAccepted (b : Batch) (s : State) : State :=
  match b.content with
  | .journal j => phaseAfterAcceptance (onSettlement clearCurrent (acceptSequence j.last s))
  | .totals _ =>
    let s1 := onSettlement (fun c => { clearCurrent c with parts := c.parts.tail }) s
    match s1.day.settlement with
    | some c => if c.parts = [] then endSettlement s1 else s1
    | none => s1

/-- The third failed attempt: the day is SETTLE_FAILED and the flag raised (R143). -/
def failDay (s : State) : State := raise .settleFailed (changeDay .settleFailed s)

/-- The outstanding settlement batch fails, by rejection or deadline: an attempt in SETTLING; a trailing batch is dropped
and the pause starts (R142 to R144). -/
def settlementFails (s : State) : State :=
  match s.day.settlement with
  | none => s
  | some c =>
    if c.phase = .trailing then
      onSettlement (fun c => { c with
        current := none
        outstanding := none
        pause := some (secondsAhead s.mrs.settings.batchAck s) }) s
    else
      let s1 := onSettlement (fun c => { c with outstanding := none, attempts := c.attempts + 1 }) s
      if 3 ≤ c.attempts + 1 then failDay s1 else s1

/-- The loss of the link stops an outstanding settlement batch without an attempt (R142). -/
def settlementLinkLost (s : State) : State := onSettlement (fun c => { c with outstanding := none }) s

/-! ## The date roll (R129, R145, R146) -/

/-- The last sequence written in the day. -/
def lastSequence (s : State) : Nat := s.jrn.nextSeq - 1

/-- The checks of a date roll, in order; the refusal, if any (R145). -/
def rollRefusal (d : Date) (s : State) : Option MgmtStatus :=
  let later := match s.day.date with
    | some old => laterDate d old
    | none => true
  let unprinted := match s.jrn.entries.getLast? with
    | some e => printerRoleHeld s && decide (s.jrn.printedCursor < e.seq)
    | none => false
  if s.day.state ≠ .noDate ∧ s.day.state ≠ .settled then some .wrongDayState
  else if !validDate d || !later then some .badDate
  else if unprinted then some .journalUnprinted
  else none

/-- The journal opened for the new day, before the DAY entry is written (R129, steps 1 to 5). -/
def journalNewDay (s : State) : State :=
  onJrn (fun j => { j with
    entries := [], used := 0, free := j.free + j.used, nextSeq := 1, lastAccepted := 0, printedCursor := 0,
    batchCounter := 1 }) s

/-- Carry out a date roll (R146, R129, R57): each unit's part, then the change into OPEN with the DAY entry as
sequence 1. -/
def rollDay (d : Date) (s : State) : State :=
  let s1 := onDay (fun x => { x with
    date := some d, drawerMarks := Eight.fill false, reserveMark := false, settlement := none }) s
  let s2 := onSda (fun a => { a with tellerDays := [], accountMap := [], nextAdvice := 1 }) s1
  let s3 := onCsh (onPositions openedPosition) s2
  changeDay .opened (journalNewDay s3)

/-! ## The day after a warm start (R147) -/

/-- DAY acts by the retained day state, its context being lost (R147). -/
def restartDay (s : State) : State :=
  match s.day.state with
  | .noDate => s
  | .opened => s
  | .cutoff => judgeSettle s
  | .settling => beginJournalPhase s
  | .settleFailed => beginJournalPhase s
  | .settled => onDay (fun d => { d with settlement := some (newSettlement .trailing) }) s

end Sys2Proof.Machine
end

