-- ==== Sys2Proof/Machine/Transactions.lean ====
section
/-! DEFINITION. The Transaction Tracker (chapter 1): sequence numbers, the Open Transaction Table and its ends, the Late
List, and the matching of replies. -/

namespace Sys2Proof.Machine
open Sys2Proof

/-! ## Sequence numbers (R3) -/

/-- The sequences of a station that the OTT and the Late List hold. -/
def heldSequences (st : Station) (s : State) : List Nat :=
  ((s.ttr.ott.map OttEntry.ref ++ s.ttr.late.map LateEntry.ref).filter fun r => r.station = st).map Ref.seq

/-- The number a station's next numbered request receives, stepping past those held (R3). -/
def nextNumber (st : Station) (s : State) : Nat :=
  passOver Config.topSequence (heldSequences st s) ((heldSequences st s).length + 1) (s.ttr.seqs.get st)

/-- Give the station's next number: the counter advances past it (R3). -/
def giveNumber (st : Station) (s : State) : State :=
  onTtr (fun t => { t with seqs := t.seqs.set st (wrapNext Config.topSequence (nextNumber st s)) }) s

/-! ## The Open Transaction Table (R18) -/

/-- The entry of a reference. -/
def ottEntry (ref : Ref) (s : State) : Option OttEntry := s.ttr.ott.find? fun e => e.ref = ref

/-- The Late List entry of a reference. -/
def lateEntry (ref : Ref) (s : State) : Option LateEntry := s.ttr.late.find? fun e => e.ref = ref

/-- Remove the entry of a reference from the OTT. -/
def removeOtt (ref : Ref) (s : State) : State :=
  onTtr (fun t => { t with ott := t.ott.filter fun e => e.ref ≠ ref }) s

/-- Remove the entry of a reference from the Late List. -/
def removeLate (ref : Ref) (s : State) : State :=
  onTtr (fun t => { t with late := t.late.filter fun e => e.ref ≠ ref }) s

/-- The number of OTT entries of a station (R12). -/
def stationCount (st : Station) (s : State) : Nat := s.ttr.ott.countP fun e => e.ref.station = st

/-- Withdraw a REQUEST frame that still waits at the BLC (R20, R28, R189). -/
def withdrawRequest (ref : Ref) (s : State) : State :=
  onBlc (fun b => { b with requests := b.requests.filter fun m => m.ref ≠ ref }) s

/-- The rounded amount of an entry's leg, 0 when there is none. -/
def entryRounded (e : OttEntry) : Nat := (e.leg.map Leg.rounded).getD 0

/-- The amount part of a leg: A and R (R117). -/
def legAmounts (leg : Option Leg) : Option (Int × Int) := leg.map fun g => ((g.exact : Int), (g.rounded : Int))

/-- The TXN entry of an OTT entry's end (R117). -/
def txnDraft (e : OttEntry) (outcome : TxnOutcome) (b : Breakdown) : Draft :=
  { station := some e.ref.station, teller := some e.teller, body := .txn e.ref.seq e.code outcome,
    account := e.account, amounts := legAmounts e.leg, breakdown := b }

/-- End an entry: its TXN entry is written from its 4 reserved slots and it leaves the OTT (R20, R22, R23, R28). -/
def endEntry (e : OttEntry) (outcome : TxnOutcome) (b : Breakdown) (s : State) : State :=
  removeOtt e.ref (writeEntry Config.ottSlots (txnDraft e outcome b) s)

/-- What a result screen of an entry reads where no reply is shown (R68) (DEDUCED, log 15). -/
def plainInfo (e : OttEntry) (reason : Text) : ResultInfo :=
  { reply := none, breakdown := [], position := some e.ref.station, passbook := [], ref := e.ref, reason := reason }

/-! ## The loss of the link (R20) -/

/-- A QUEUED entry ends LINK_DOWN (R20). -/
def endLinkDown (e : OttEntry) (s : State) : State :=
  let s1 := releaseLeg e.ref.station e.leg (withdrawRequest e.ref s)
  let s2 := endEntry e .linkDown [] s1
  composeResult e.ref.station e.declineFormat (plainInfo e "LINK DOWN".toList) (refMessage "LINK DOWN".toList e.ref) s2

/-- Every QUEUED entry ends LINK_DOWN (R20). R18 gives the entries no order among themselves: they end in the order of their
acceptance (DESIGN CHOICE, log 32). -/
def endQueued (s : State) : State :=
  (s.ttr.ott.filter fun e => e.state = .queued).foldl (fun acc e => endLinkDown e acc) s

/-! ## Approval and decline (R22, R23) -/

/-- The passbook lines of an approval: a print job, or none, with the words of PASSBOOK_STATUS (R22, R68). -/
def takeLines (e : OttEntry) (r : Reply) (s : State) : State × Text :=
  if r.lines = [] ∨ e.passbookUse = .notUsed then (s, "NO LINES".toList)
  else createJob e.ref e.account e.snapshot r.lines r.balance s

/-- Post the leg of an approved entry and pulse the drawer where R is not 0 (R22). -/
def postApproved (e : OttEntry) (s : State) : State :=
  match e.leg with
  | none => s
  | some g =>
    let s1 := postLeg e.ref.station e.teller g s
    if g.rounded = 0 then s1 else requestPulse e.ref.station s1

/-- The breakdown an approval has posted. -/
def postedBreakdown (e : OttEntry) : Breakdown :=
  match e.leg with
  | some g => g.breakdown
  | none => []

/-- An approved reply completes its AWAITING entry (R22). The print job is made before the TXN entry is written, so that a job
that ends as it is made has its PASSBOOK entry first, and before the 4 slots return (DESIGN CHOICE, log 32). -/
def approve (e : OttEntry) (r : Reply) (s : State) : State :=
  let taken := takeLines e r (postApproved e s)
  let s1 := endEntry e .approved (postedBreakdown e) taken.1
  let info : ResultInfo :=
    { reply := some r, breakdown := postedBreakdown e, position := some e.ref.station, passbook := taken.2, ref := e.ref,
      reason := r.reason }
  composeResult e.ref.station e.approveFormat info (refMessage "APPROVED".toList e.ref) s1

/-- A declined reply ends its AWAITING entry unposted (R23). -/
def decline (e : OttEntry) (r : Reply) (s : State) : State :=
  let s1 := endEntry e .declined [] (releaseLeg e.ref.station e.leg s)
  let info : ResultInfo :=
    { reply := some r, breakdown := [], position := some e.ref.station, passbook := "NO LINES".toList, ref := e.ref,
      reason := r.reason }
  composeResult e.ref.station e.declineFormat info (refMessage "DECLINED".toList e.ref) s1

/-! ## The Late List (R25 to R27) -/

/-- The LATE entry of a Late List entry (R117). -/
def lateDraft (l : LateEntry) (cause : LateCause) : Draft :=
  { station := some l.ref.station, teller := none, body := .late cause l.ref.seq l.code 0 none, account := none,
    amounts := roundedPart l.rounded, breakdown := [] }

/-- A Late List entry ends: its LATE entry is written from its 2 reserved slots and it leaves the list (R25 to R27). -/
def endLate (l : LateEntry) (cause : LateCause) (s : State) : State :=
  removeLate l.ref (writeEntry Config.lateSlots (lateDraft l cause) s)

/-- Where the list is full, the oldest entry is displaced (R25). -/
def displaceOldest (s : State) : State :=
  match s.ttr.late with
  | [] => s
  | l :: _ => if Config.lateCapacity ≤ s.ttr.late.length then endLate l .expired s else s

/-- The Late List entry a timed-out OTT entry becomes (R25). -/
def lateOf (e : OttEntry) (s : State) : LateEntry :=
  { ref := e.ref, code := e.code, dir := e.cashDirection, rounded := entryRounded e,
    expiry := millisAhead Config.lateWindow s }

/-- Move a timed-out transaction into the Late List, last, with 2 fresh slots (R24, R25). -/
def moveToLate (e : OttEntry) (s : State) : State :=
  let s1 := displaceOldest s
  onTtr (fun t => { t with late := t.late ++ [lateOf e s] }) (reserveSlots Config.lateSlots s1)

/-- An AWAITING entry's deadline expires: the transaction ends TIMED_OUT and moves to the Late List (R24). -/
def timeOut (e : OttEntry) (s : State) : State :=
  let s1 := writeEntry Config.ottSlots (txnDraft e .timedOut []) (releaseLeg e.ref.station e.leg s)
  let s2 := composeResult e.ref.station e.declineFormat (plainInfo e "NO REPLY".toList)
    (refMessage "NO REPLY".toList e.ref) s1
  moveToLate e (removeOtt e.ref s2)

/-- A reply for a Late List entry: an approval becomes a REVERSAL advice, a decline leaves a LATE entry alone (R26). -/
def lateReply (l : LateEntry) (approved : Bool) (s : State) : State :=
  if approved then endLate l .lateApproval (queueReversal l.ref .lateApproval l.dir l.rounded s)
  else endLate l .lateDecline s

/-! ## Abandonment (R28) -/

/-- Abandon an OTT entry with a cause (R28). -/
def abandon (cause : ReversalCause) (e : OttEntry) (s : State) : State :=
  let s1 := releaseLeg e.ref.station e.leg (withdrawRequest e.ref s)
  endEntry e .abandoned [] (queueReversal e.ref cause e.cashDirection (entryRounded e) s1)

/-- Abandon every entry of the OTT that passes a test (R28), in the order of their acceptance, for R18 gives the entries none
(DESIGN CHOICE, log 32). -/
def abandonAll (cause : ReversalCause) (p : OttEntry → Bool) (s : State) : State :=
  (s.ttr.ott.filter p).foldl (fun acc e => abandon cause e acc) s

/-! ## The matching of replies (R21) -/

/-- The outcome of a reply: APPROVED (true), DECLINED (false), or neither. -/
def replyApproved (r : Reply) : Option Bool :=
  match r.outcome with
  | 1 => some true
  | 2 => some false
  | _ => none

/-- The reference a reply names, where its station part is the frame's destination (R21). -/
def replyRef (dest : Station) (r : Reply) : Option Ref :=
  if r.station = dest.num then some { station := dest, seq := r.seq } else none

/-- Take a REPLY whose destination is a station: matched in the OTT, then in the Late List, or discarded (R21). -/
def takeReply (dest : Station) (r : Option Reply) (s : State) : State :=
  match r with
  | none => countUnmatchedReply s
  | some r =>
    match replyApproved r, replyRef dest r with
    | some ok, some ref =>
      if Config.jobLines < r.lines.length then countUnmatchedReply s
      else match ottEntry ref s with
        | some e =>
          match e.state with
          | .queued => countUnmatchedReply s
          | .awaiting _ => if ok then approve e r s else decline e r s
        | none =>
          match lateEntry ref s with
          | some l => lateReply l ok s
          | none => countUnmatchedReply s
    | _, _ => countUnmatchedReply s

end Sys2Proof.Machine
end

