-- ==== Sys2Proof/Machine/Intake.lean ====
section
/-! DEFINITION. The commands KEY_REQUEST and FORM_CALL: intake with its checks (R4 to R17), the local actions (R10, R59 to
R62, R48 to R53), the stand-in decision (R98 to R102) and the form call (R66). -/

namespace Sys2Proof.Machine
open Sys2Proof

/-! ## Checks 1 to 6 (R5 to R9) -/

/-- A record is a SIGN_ON code: routing LOCAL and local action SIGN_ON (R5). -/
def isSignOn (rec : TctRec) : Bool := rec.routing = .localCode && rec.localAction = some .signOn

/-- Checks 1 and 2: a signed-on teller or a SIGN_ON code, and a record for the code (R5). -/
def checkCode (st : Station) (code : Nat) (s : State) : Except Reason TctRec :=
  match codeRecord code s with
  | none => .error (if tellerAt st s = none then .notSignedOn else .unknownCode)
  | some rec => if tellerAt st s = none ∧ !isSignOn rec then .error .notSignedOn else .ok rec

/-- Check 3: the form is the code's request format, and the active SFT holds it (R5). -/
def checkForm (rec : TctRec) (form : Nat) (s : State) : Except Reason SftFormat :=
  if form ≠ rec.requestFormat then .error .formMismatch
  else match formatOf form s with
    | some f => .ok f
    | none => .error .formMismatch

/-- Check 5: the day state admits the code's day class (R8); the refusal, if any. -/
def dayRefusal (day : DayState) (cls : DayClass) : Option Reason :=
  match day, cls with
  | .noDate, _ => some .noBusinessDate
  | .opened, _ => none
  | .cutoff, .admin => none
  | .cutoff, .customer => some .dayClosed
  | .settling, _ => some .dayClosed
  | .settled, _ => some .dayClosed
  | .settleFailed, _ => some .dayClosed

/-- An authority reaches a minimum (R9). -/
def reaches (held min : Authority) : Bool :=
  match held, min with
  | .supervisor, _ => true
  | .teller, .teller => true
  | .teller, .supervisor => false

/-- Check 6: the signed-on teller's authority reaches the code's minimum; SIGN_ON is not subject to it (R9). -/
def authorityReaches (st : Station) (rec : TctRec) (s : State) : Bool :=
  isSignOn rec ||
    match tellerAt st s with
    | none => false
    | some t =>
      match tellerRecord t s with
      | some r => reaches r.authority rec.minAuthority
      | none => false

/-! ## Checks 8 to 12 (R11 to R15) -/

/-- Check 8: journal space by day class (R11). -/
def journalRoom (cls : DayClass) (s : State) : Bool :=
  match cls with
  | .customer => decide (Config.journalFullMark ≤ s.jrn.free)
  | .admin => decide (Config.ottSlots ≤ s.jrn.free)

/-- Check 9: station depth, then the OTT's capacity (R12); the refusal, if any. -/
def depthRefusal (st : Station) (s : State) : Option Reason :=
  if (lineOf st s).setup.depth ≤ stationCount st s then some .stationDepth
  else if Config.ottCapacity ≤ s.ttr.ott.length then some .trackerFull
  else none

/-- Check 10: the passbook condition, and the snapshot it takes (R13). -/
def passbookCheck (st : Station) (use : PassbookUse) (s : State) : Except Reason (Option Book) :=
  match use, insertedBook st s with
  | .notUsed, _ => .ok none
  | .required, none => .error .passbookRequired
  | .required, some b => .ok (some b)
  | .optional, b => .ok b

/-- The sum of R15: OTT entries, Late List entries and REVERSAL advices. -/
def reversalSum (s : State) : Nat := s.ttr.ott.length + s.ttr.late.length + queueCount (isKind .reversal) s

/-! ## Refusals (R4) -/

/-- An intake refusal: the refusal screen and nothing else (R4). -/
def refuse (st : Station) (r : KeyRequest) (why : Reason) (s : State) : State := refusalScreen st r why s

/-! ## Local actions (R10) -/

/-- A request handed to the owner of its local action: the station, its record, the request with the entries that count,
and its reference. -/
structure LocalRequest where
  st : Station
  tct : TctRec
  action : LocalAction
  request : KeyRequest
  fields : List KeyField
  ref : Ref
  deriving DecidableEq, Repr

/-- The LOCAL entry of a request (R10, R117). Its content by action: DEDUCED, log 14. -/
def localDraft (q : LocalRequest) (teller : Option Nat) (refusal : Option Reason) (target : Nat)
    (amounts : Option (Int × Int)) (b : Breakdown) : Draft :=
  { station := some q.st, teller := teller, body := .localAction q.ref.seq q.tct.code q.action refusal target,
    account := none, amounts := amounts, breakdown := b }

/-- A local owner refuses: the refusal screen and the LOCAL entry that records it (R4, R10). -/
def refuseLocal (q : LocalRequest) (teller : Option Nat) (target : Nat) (why : Reason) (s : State) : State :=
  refusalScreen q.st q.request why (writeEntry 0 (localDraft q teller (some why) target none []) s)

/-- A local action carried out, other than sign-off: its LOCAL entry, and the approve format with its words in the message
and the REASON source (R65, R70). -/
def localDone (q : LocalRequest) (teller : Option Nat) (target : Nat) (amounts : Option (Int × Int)) (written shown : Breakdown)
    (position : Option Station) (words : Text) (s : State) : State :=
  let info : ResultInfo :=
    { reply := none, breakdown := shown, position := position, passbook := [], ref := q.ref, reason := words }
  writeEntry 0 (localDraft q teller none target amounts written)
    (composeResult q.st q.tct.approveFormat info words s)

/-- The number a sign-on keyed with tag 1, where it can be read as a decimal number (R59) (DEDUCED, log 16). -/
def keyedNumber (fields : List KeyField) : Option Nat := (fieldText fields 1).bind readDecimal

/-- The teller number a sign-on names: 1 to 4 digits with a value of 1 to 9,999 (R59). -/
def keyedTeller (fields : List KeyField) : Option Nat :=
  match fieldText fields 1 with
  | none => none
  | some t =>
    if t.length ≤ 4 then (readDecimal t).filter fun n => decide (1 ≤ n) && decide (n ≤ 9999) else none

/-- A number is signed on at another station (R59). -/
def signedOnElsewhere (st : Station) (n : Nat) (s : State) : Bool :=
  Station.all.any fun x => x ≠ st && tellerAt x s = some n

/-- The checks of a sign-on, in order; its teller where it passes (R59). -/
def checkSignOn (q : LocalRequest) (s : State) : Except Reason Nat :=
  if (tellerAt q.st s).isSome then .error .stationInUse
  else if ((keyedNumber q.fields).map fun n => signedOnElsewhere q.st n s).getD false then .error .tellerActive
  else match keyedTeller q.fields with
    | none => .error .unknownTeller
    | some t =>
      match tellerRecord t s with
      | none => .error .unknownTeller
      | some r =>
        if !reaches r.authority q.tct.minAuthority then .error .authority
        else if (tellerDay t s).isNone ∧ Config.tellerDayCapacity ≤ s.sda.tellerDays.length then
          .error .tellerListFull
        else .ok t

/-- A SIGN_ON at its owner (R59, R60). A refusal's LOCAL entry names the number keyed where it is one of 1 to 9,999
(DEDUCED, log 16). -/
def localSignOn (q : LocalRequest) (s : State) : State :=
  match checkSignOn q s with
  | .error why =>
    refuseLocal q ((keyedNumber q.fields).filter fun n => decide (1 ≤ n) && decide (n ≤ 9999)) 0 why s
  | .ok t =>
    let s1 := evaluateExcess q.st t (tellerDayOn t q.st (setSignOn q.st (some t) s))
    localDone q (some t) 0 none [] [] (some q.st) "SIGNED ON".toList s1

/-- Steps 1 and 2 of a sign-off: the sign-on state and the Teller Day Record (R62, R63). -/
def signOff (st : Station) (t : Nat) (s : State) : State := tellerDayOff t (setSignOn st none s)

/-- A forced sign-off by DAY-FORCE: steps 1 and 2, then the sign-on prompt with SIGNED OFF (R63). -/
def forcedSignOff (st : Station) (t : Nat) (s : State) : State :=
  composePrompt st "SIGNED OFF".toList (signOff st t s)

/-- A SIGN_OFF at its owner (R62). -/
def localSignOff (q : LocalRequest) (t : Nat) (s : State) : State :=
  if stationInFlight q.st s then refuseLocal q (some t) 0 .inFlight s
  else
    writeEntry 0 (localDraft q (some t) none 0 none [])
      (composePrompt q.st "SIGNED OFF".toList (signOff q.st t s))

/-- A TO_RESERVE (true) or FROM_RESERVE at its owner (R48, R49). -/
def localTransfer (toReserve : Bool) (q : LocalRequest) (t : Nat) (s : State) : State :=
  match checkTransfer toReserve q.st t q.fields s with
  | .error why => refuseLocal q (some t) 0 why s
  | .ok b =>
    let v := (breakdownValue (facesOf s) b : Int)
    localDone q (some t) 0 (some (v, v)) b b (some q.st) "TRANSFERRED".toList (carryTransfer toReserve q.st t b s)

/-- The pairs of counts from denomination index i on, zero counts among them. -/
def countPairs : Nat → List Nat → Breakdown
  | _, [] => []
  | i, c :: rest => (i, c) :: countPairs (i + 1) rest

/-- A BALANCE at its owner (R50, R51) (DEDUCED, log 14). -/
def localBalance (q : LocalRequest) (t : Nat) (s : State) : State :=
  let target := balanceTarget q.tct q.st
  match checkBalance target q.fields s with
  | .error why => refuseLocal q (some t) (positionNumber target) why s
  | .ok declared =>
    let p := positionOf target s
    let v := balanceOverShort (facesOf s) declared p
    localDone q (some t) (positionNumber target) (some ((p.total : Int), v)) (nonZeroPairs 1 declared)
      (countPairs 1 declared) target ("BALANCED ".toList ++ amountText (decimalsOf s) v)
      (carryBalance target t declared s)

/-- A POSITION_ENQUIRY at its owner (R53). -/
def localEnquiry (q : LocalRequest) (t : Nat) (s : State) : State :=
  let p := drawerOf q.st s
  localDone q (some t) 0 none [] (nonZeroPairs 1 (committedCounts p)) (some q.st) (positionStateWords p.state) s

/-- Hand a LOCAL request to the owner of its action (R10). -/
def handLocal (q : LocalRequest) (s : State) : State :=
  match q.action, tellerAt q.st s with
  | .signOn, _ => localSignOn q s
  | .signOff, some t => localSignOff q t s
  | .toReserve, some t => localTransfer true q t s
  | .fromReserve, some t => localTransfer false q t s
  | .balance, some t => localBalance q t s
  | .positionEnquiry, some t => localEnquiry q t s
  | _, none => s

/-! ## The online path (R16, R17) -/

/-- What intake knows of a request when it leaves check 10: the teller, the record, the entries as keyed, the amount and
the account, the reference and the snapshot. -/
structure Admitted where
  st : Station
  teller : Nat
  tct : TctRec
  request : KeyRequest
  fields : List KeyField
  found : Found
  ref : Ref
  snapshot : Option Book
  deriving DecidableEq, Repr

/-- The OTT entry of an accepted request (R17, R18). -/
def acceptedEntry (q : Admitted) (leg : Option Leg) : OttEntry :=
  { ref := q.ref, teller := q.teller, code := q.tct.code, state := .queued, approveFormat := q.tct.approveFormat,
    declineFormat := q.tct.declineFormat, replyTimeout := q.tct.replyTimeout, passbookUse := q.tct.passbookUse,
    cashDirection := q.tct.cashDirection, account := q.found.account, leg := leg, snapshot := q.snapshot }

/-- The REQUEST frame of an accepted request (R17). Its field list is as keyed, a PROTECTED entry's text with it, which R6
sets aside unused at intake (DESIGN CHOICE, log 31). -/
def requestMsg (q : Admitted) (leg : Option Leg) : RequestMsg :=
  { ref := q.ref, teller := q.teller, code := q.tct.code, form := q.request.form, snapshot := q.snapshot, leg := leg,
    fields := sentFields q.request.fields }

/-- A request is accepted (R17). -/
def acceptRequest (q : Admitted) (leg : Option Leg) (s : State) : State :=
  let s1 := onTtr (fun t => { t with ott := t.ott ++ [acceptedEntry q leg] }) s
  let s2 := reserveLeg q.st leg (reserveSlots Config.ottSlots s1)
  let s3 := onBlc (fun b => { b with requests := b.requests ++ [requestMsg q leg] }) s2
  composeInput q.st .awaiting (some q.request.form) (sentFields q.request.fields) none
    (refMessage "AWAITING".toList q.ref) s3

/-- The cash leg of a request, where its code has a direction: check 13 (R16). -/
def legOf (q : Admitted) (s : State) : Except Reason (Option Leg) :=
  match q.tct.cashDirection, q.found.amount with
  | .noCash, _ => .ok none
  | _, none => .ok none
  | dir, some a =>
    match cashChecks q.st q.teller dir a q.fields s with
    | .error why => .error why
    | .ok leg => .ok (some leg)

/-- Checks 12 to 14 (R15 to R17). -/
def onlinePath (q : Admitted) (s : State) : State :=
  if Config.reversalCommitment ≤ reversalSum s then refuse q.st q.request .adviceFull s
  else match legOf q s with
    | .error why => refuse q.st q.request why s
    | .ok leg => acceptRequest q leg s

/-! ## The stand-in path (R98 to R102) -/

/-- The account map test of a stand-in debit (R100); the refusal, if any. -/
def mapRefusal (account : Option Text) (a : Nat) (s : State) : Option Reason :=
  match account with
  | none => some .accountCeiling
  | some acc =>
    match mapEntry acc s with
    | some e => if s.tbl.tltCeiling < e.debit + a then some .accountCeiling else none
    | none =>
      if Config.mapCapacity ≤ s.sda.accountMap.length then some .accountMapFull
      else if s.tbl.tltCeiling < a then some .accountCeiling
      else none

/-- A teller's stand-in ceiling in the active TLT (R99). -/
def standinCeiling (t : Nat) (s : State) : Nat := ((tellerRecord t s).map TltRec.standinCeiling).getD 0

/-- Stand-in checks 1 to 4 (R99); the refusal, if any. -/
def standinRefusal (q : Admitted) (s : State) : Option Reason :=
  match q.found.amount with
  | none => if generalRoom s then none else some .adviceFull
  | some a =>
    if q.tct.offlineCeiling < a then some .standinCeiling
    else if q.tct.cashDirection = .cashOut ∧ standinCeiling q.teller s < standinTotal q.teller s + a then
      some .standinCeiling
    else
      match (if q.tct.cashDirection = .cashOut then mapRefusal q.found.account a s else none) with
      | some why => some why
      | none => if generalRoom s then none else some .adviceFull

/-- The TXN entry of a stand-in approval (R101, R117). -/
def standinDraft (q : Admitted) (leg : Option Leg) : Draft :=
  { station := some q.st, teller := some q.teller, body := .txn q.ref.seq q.tct.code .standinApproved,
    account := q.found.account, amounts := legAmounts leg,
    breakdown := match leg with
      | some g => g.breakdown
      | none => [] }

/-- The STANDIN advice of an approval (R101, R105). -/
def standinBody (q : Admitted) (leg : Option Leg) (time : Stamp) : AdviceBody :=
  .standin q.ref q.teller q.tct.code q.found.account (leg.map fun g => (g.exact, g.rounded)) time

/-- The debit of an approval of direction OUT (R101, R104). -/
def standinDebit (q : Admitted) (leg : Option Leg) (s : State) : State :=
  match leg, q.found.account with
  | some g, some acc => if g.dir = .cashOut then recordDebit q.teller acc g.exact s else s
  | _, _ => s

/-- The pulse of a leg whose R is not 0. -/
def pulseFor (st : Station) (leg : Option Leg) (s : State) : State :=
  match leg with
  | some g => if g.rounded = 0 then s else requestPulse st s
  | none => s

/-- Post a stand-in leg, if there is one (R45). -/
def postStandinLeg (st : Station) (t : Nat) (leg : Option Leg) (s : State) : State :=
  match leg with
  | some g => postStandin st t g s
  | none => s

/-- A stand-in approval (R101). -/
def approveStandin (q : Admitted) (leg : Option Leg) (s : State) : State :=
  let s1 := standinDebit q leg (postStandinLeg q.st q.teller leg s)
  let s2 := writeEntry 0 (standinDraft q leg) (queueAdvice (standinBody q leg s.mrs.clock) s1)
  let info : ResultInfo :=
    { reply := none, breakdown := (standinDraft q leg).breakdown, position := some q.st, passbook := [], ref := q.ref,
      reason := "STAND-IN".toList }
  composeResult q.st q.tct.approveFormat info (refMessage "STAND-IN".toList q.ref) (pulseFor q.st leg s2)

/-- The stand-in path: the checks of R99 in order, then the approval (R98 to R102). -/
def standinPath (q : Admitted) (s : State) : State :=
  match standinRefusal q s with
  | some why => refuse q.st q.request why s
  | none =>
    match legOf q s with
    | .error why => refuse q.st q.request why s
    | .ok leg => approveStandin q leg s

/-! ## Intake (R4) -/

/-- Checks 8 to 11 of a numbered request, then its path (R11 to R14). -/
def routeRequest (st : Station) (t : Nat) (rec : TctRec) (r : KeyRequest) (fields : List KeyField) (found : Found)
    (ref : Ref) (s : State) : State :=
  if !journalRoom rec.dayClass s then refuse st r .journalFull s
  else match depthRefusal st s with
    | some why => refuse st r why s
    | none =>
      match passbookCheck st rec.passbookUse s with
      | .error why => refuse st r why s
      | .ok snapshot =>
        let q : Admitted :=
          { st := st, teller := t, tct := rec, request := r, fields := fields, found := found, ref := ref,
            snapshot := snapshot }
        if s.blc.link = .lost then
          (if rec.routing = .onlineStandin then standinPath q s else refuse st r .linkDown s)
        else onlinePath q s

/-- Check 7: a LOCAL request goes to its owner where 4 free journal slots stand (R10). -/
def routeLocal (st : Station) (rec : TctRec) (action : LocalAction) (r : KeyRequest) (fields : List KeyField) (ref : Ref)
    (s : State) : State :=
  if s.jrn.free < Config.ottSlots then refuse st r .journalFull s
  else handLocal { st := st, tct := rec, action := action, request := r, fields := fields, ref := ref } s

/-- Checks 5 and 6 of a numbered request, then check 7 or the rest (R8 to R10). -/
def admitRequest (st : Station) (rec : TctRec) (r : KeyRequest) (fields : List KeyField) (found : Found) (ref : Ref)
    (s : State) : State :=
  match dayRefusal s.day.state rec.dayClass with
  | some why => refuse st r why s
  | none =>
    if !authorityReaches st rec s then refuse st r .authority s
    else match rec.routing, rec.localAction, tellerAt st s with
      | .localCode, some action, _ => routeLocal st rec action r fields ref s
      | .localCode, none, _ => s
      | .online, _, some t => routeRequest st t rec r fields found ref s
      | .onlineStandin, _, some t => routeRequest st t rec r fields found ref s
      | _, _, none => s

/-- The TTR takes a key request through intake (R2 to R17). -/
def takeKeyRequest (st : Station) (r : KeyRequest) (s : State) : State :=
  match checkCode st r.code s with
  | .error why => refuse st r why s
  | .ok rec =>
    match checkForm rec r.form s with
    | .error why => refuse st r why s
    | .ok fmt =>
      match checkFields (decimalsOf s) rec fmt (sentFields r.fields) with
      | .error tag => refuse st r (.input tag) s
      | .ok found =>
        admitRequest st rec r (usableFields fmt (sentFields r.fields)) found
          { station := st, seq := nextNumber st s } (giveNumber st s)

/-! ## The form call (R66) -/

/-- The SCM takes a form call (R66) (DEDUCED, log 17). -/
def takeFormCall (st : Station) (code : Nat) (s : State) : State :=
  match codeRecord code s with
  | none => composeWith st (fun c => { c with message := "UNKNOWN CODE".toList }) s
  | some rec =>
    if tellerAt st s = none ∧ rec.localAction ≠ some .signOn then
      composeWith st (fun c => { c with message := "NOT SIGNED ON".toList }) s
    else composeInput st .form (some rec.requestFormat) [] none [] s

/-! ## The commands -/

/-- KEY_REQUEST (R2): the TTR takes a key request delivered from drop 1 of a TELLER line; DAY then judges the settle
condition (R134). -/
def execKeyRequest (st : Station) (r : KeyRequest) (s : State) : Host.Outcome State Fault Refusal :=
  match delivered st .d1 (.keyRequest r) s with
  | some s1 => .next (judgeSettle (takeKeyRequest st r s1))
  | none => .next s

/-- FORM_CALL (R66). -/
def execFormCall (st : Station) (code : Nat) (s : State) : Host.Outcome State Fault Refusal :=
  match delivered st .d1 (.formCall code) s with
  | some s1 => .next (takeFormCall st code s1)
  | none => .next s

end Sys2Proof.Machine
end

