-- ==== Sys2Proof/Machine/Requests.lean ====
section
/-! DEFINITION. The management request buffer and the making of replies (R191, R192). -/

namespace Sys2Proof.Machine
open Sys2Proof

/-- A STOP of a line test waits for the frame being judged, so the request that carried it is still in hand (R178)
(DESIGN CHOICE, log 23). -/
def stopWaits (s : State) : Bool :=
  s.slc.lines.toList.any fun l => match l.test with
    | some t => t.stopping.isSome
    | none => false

/-- Mark the first place not yet taken as taken. -/
def takeFirst : List MgmtPlace → List MgmtPlace
  | [] => []
  | p :: rest => if p.taken then p :: takeFirst rest else { p with taken := true } :: rest

/-- The first request of the buffer not yet taken. -/
def firstWaiting (s : State) : Option MgmtPlace := s.mrs.places.find? fun p => !p.taken

/-- A place at the end of the buffer (R191). -/
def addPlace (id : Nat) (r : MgmtRequest) (taken : Bool) (s : State) : State :=
  onMrs (fun m => { m with places := m.places ++ [{ id := id, request := r, taken := taken }] }) s

/-- The MRS takes a request and its owner acts: the request at the front of those waiting, or one that arrives at an
otherwise idle MRS with a free place. A request behind another waits its turn, and nothing is taken while a STOP waits
for its frame (R178, R191). A request that meets a full buffer is an overrun. Where no request waits, the row is the
arrival of its request alone: what the frame that carries it does to the silence timer, the link state and the reassembly
is no part of such a row (DESIGN CHOICE, log 8). -/
def withRequest (id : Nat) (r : MgmtRequest) (act : State → State) (s : State) : State :=
  if stopWaits s then s
  else match firstWaiting s with
    | some p =>
      if p.id = id ∧ p.request = r then act (onMrs (fun m => { m with places := takeFirst m.places }) s) else s
    | none =>
      if s.mrs.places.length < Config.mgmtPlaces then act (addPlace id r true s) else countOverrun s

/-- The MRS makes the reply of a request and places it in its class (R191). -/
def answer (id : Nat) (status : MgmtStatus) (content : ReplyContent) (s : State) : State :=
  onBlc (fun b => { b with replies := b.replies ++ [{ id := id, status := status, content := content }] }) s

/-- A refusal of a request: a reply that carries the reason alone (R192). -/
def refuseRequest (id : Nat) (why : MgmtStatus) (s : State) : State := answer id why .nothing s

end Sys2Proof.Machine
end

