-- ==== Sys2Proof/Machine/Lines.lean ====
section
/-! DEFINITION. The exchanges of the station lines (sections 9.2 and 9.3): the choice of an exchange, its answers, the drop
states, the receive buffers, attentions, and the frames of a line test (R178). -/

namespace Sys2Proof.Machine
open Sys2Proof

/-! ## Drops (R169) -/

/-- A drop in NEW with no missed response. -/
def DropStatus.fresh : DropStatus := { state := .new, missed := 0, busy := none, repoll := none, repollDue := false }

/-- Each present drop of a setup put in NEW (R166, R179). -/
def freshDrops (setup : LineSetup) : Three (Option DropStatus) :=
  Three.ofFn fun d => if dropPresent setup d then some DropStatus.fresh else none

/-- Change a drop of a line, where it is present. -/
def onDrop (st : Station) (d : Drop) (f : DropStatus → DropStatus) (s : State) : State :=
  onLine st (fun l => { l with drops := l.drops.set d ((l.drops.get d).map f) }) s

/-- The state of a drop. -/
def dropState (st : Station) (d : Drop) (s : State) : Option DropState :=
  ((lineOf st s).drops.get d).map DropStatus.state

/-- Tell the owner of a drop that it answers (R74, R82, R169). The JRN reads the state of its drop where it prints. -/
def tellUp (st : Station) (d : Drop) (s : State) : State :=
  match (lineOf st s).setup.role, d with
  | .teller, .d2 => takePrinterUp st s
  | .teller, .d1 => pendImage st .d1 s
  | .teller, .d3 => pendImage st .d3 s
  | .off, _ => s
  | .journalPrinter, _ => s

/-- A valid response of a drop: UP with 0 missed; its owner is told where it was not UP (R169). -/
def responded (st : Station) (d : Drop) (s : State) : State :=
  let s1 := onDrop st d (fun x => { x with state := .up, missed := 0, repoll := none, repollDue := false }) s
  if dropState st d s = some .up ∨ dropState st d s = none then s1 else tellUp st d s1

/-- A drop goes DOWN: its re-poll is due in 5 s, DROP_DOWN is raised and its owner told (R169). -/
def dropDown (st : Station) (d : Drop) (s : State) : State :=
  let s1 := onDrop st d (fun x => { x with
    state := .down
    missed := Config.missedLimit
    repoll := some (millisAhead Config.repollTime s)
    repollDue := false }) s
  let s2 := raise (.dropDown st) s1
  if (lineOf st s).setup.role = .teller ∧ d = .d2 then takePrinterDown st s2 else s2

/-- A drop has missed a response; at the third it goes DOWN (R169) (DEDUCED, log 22). -/
def missed (st : Station) (d : Drop) (s : State) : State :=
  match (lineOf st s).drops.get d with
  | none => s
  | some x =>
    if x.state = .down then s
    else if Config.missedLimit ≤ x.missed + 1 then dropDown st d s
    else onDrop st d (fun x => { x with missed := x.missed + 1 }) s

/-! ## Error counts (R173) -/

/-- Add 1 to CHECK_ERROR. -/
def countCheckError (st : Station) (s : State) : State :=
  onLine st (fun l => { l with errors := { l.errors with checkError := satCount Config.topErrors l.errors.checkError } }) s

/-- Add 1 to FRAMING. -/
def countFraming (st : Station) (s : State) : State :=
  onLine st (fun l => { l with errors := { l.errors with framing := satCount Config.topErrors l.errors.framing } }) s

/-- Add 1 to NO_RESPONSE. -/
def countNoResponse (st : Station) (s : State) : State :=
  onLine st (fun l => { l with errors := { l.errors with noResponse := satCount Config.topErrors l.errors.noResponse } }) s

/-- A test runs on a line (R178). -/
def testRuns (l : Line) : Bool :=
  match l.test with
  | some t => t.mode ≠ .idle
  | none => false

/-- Characters outside an answer: the run is counted once between two exchanges (R170, R173); nothing is counted while
a test runs (R178) (DEDUCED, log 22). -/
def unsolicited (st : Station) (s : State) : State :=
  if testRuns (lineOf st s) || (lineOf st s).unsolicitedRun then s
  else onLine st (fun l => { l with
    unsolicitedRun := true
    errors := { l.errors with unsolicited := satCount Config.topErrors l.errors.unsolicited } }) s

/-! ## The end of an exchange -/

/-- The drop an exchange is with. -/
def exchangeDrop : Exchange → Drop
  | .poll d => d
  | .select d _ => d

/-- The exchange ends; a sweep whose last drop has been polled ends with it (R168, R172) (DEDUCED, log 22). -/
def endExchange (st : Station) (s : State) : State :=
  onLine st (fun l => { l with exchange := none, sweeping := l.sweeping && l.sweep ≠ [] }) s

/-- A failed response or silence ends the exchange, counted, and is a missed response (R169). -/
def failExchange (st : Station) (count : State → State) (s : State) : State :=
  match (lineOf st s).exchange with
  | none => s
  | some x => missed st (exchangeDrop x) (count (endExchange st s))

/-! ## Outputs (R126, R171) -/

/-- The entry the JRN hands the journal printer: the one after the printed cursor (R126). -/
def entryToPrint (s : State) : Option Entry := s.jrn.entries.find? fun e => e.seq = s.jrn.printedCursor + 1

/-- The item ready for a drop that is UP and waits out no BUSY (R171). -/
def readyItem (st : Station) (d : Drop) (s : State) : Option SelectItem :=
  match (lineOf st s).setup.role, d with
  | .teller, .d1 =>
    (contextOf st s).bind fun c => if c.terminalPending && !alarmStands st s then some (.terminal c.terminal) else none
  | .teller, .d3 =>
    (contextOf st s).bind fun c => if c.mirrorPending && !alarmStands st s then some (.mirror c.mirror) else none
  | .teller, .d2 =>
    (printerOf st s).bind fun c => c.item.bind fun i => if i.accepted then none else some (.printer i.body)
  | .journalPrinter, .d1 => (entryToPrint s).map SelectItem.journalLine
  | .journalPrinter, _ => none
  | .off, _ => none

/-- A drop can be selected: UP and not waiting out a BUSY retry (R171). -/
def selectable (x : DropStatus) : Bool := x.state = .up && x.busy.isNone

/-- The output ready at a drop, if it can be selected. -/
def readySelect (st : Station) (s : State) (d : Drop) : Option (Drop × SelectItem) :=
  match (lineOf st s).drops.get d with
  | some x => if selectable x then (readyItem st d s).map fun i => (d, i) else none
  | none => none

/-- The next select: the drop after the one last selected goes first (R168). -/
def selectChoice (st : Station) (s : State) : Option (Drop × SelectItem) :=
  (Drop.orderAfter (lineOf st s).lastSelected).findSome? (readySelect st s)

/-! ## Polls (R168, R169, R172) -/

/-- A DOWN drop whose re-poll is due (DESIGN CHOICE, log 22). -/
def dueRepoll (l : Line) (d : Drop) : Bool :=
  match l.drops.get d with
  | some x => x.state = .down && x.repollDue
  | none => false

/-- A present drop that is not DOWN. -/
def inRoundRobin (l : Line) (d : Drop) : Bool :=
  match l.drops.get d with
  | some x => x.state ≠ .down
  | none => false

/-- The next poll: the sweep, then a due re-poll, then the round robin (R168). -/
def nextPoll (l : Line) : Option Drop :=
  match l.sweep with
  | d :: _ => some d
  | [] =>
    match Drop.all.find? (dueRepoll l) with
    | some d => some d
    | none => (Drop.orderAfter l.lastPolled).find? (inRoundRobin l)

/-- The poll that can be issued: only while the receive buffer has a free place (R168). -/
def pollChoice (l : Line) : Option Drop :=
  if l.buffer.length < Config.receivePlaces then nextPoll l else none

/-- Issue a poll of a drop: the sweep goes on by one, and a due re-poll of the drop is made, its next 5 s counting from
now (R168, R169, R172). -/
def issuePoll (st : Station) (d : Drop) (s : State) : State :=
  let again : DropStatus → DropStatus := fun x =>
    if x.state = .down ∧ x.repollDue = true then
      { x with repollDue := false, repoll := some (millisAhead Config.repollTime s) } else x
  let fromSweep := (lineOf st s).sweep ≠ []
  onLine st (fun l => { l with
    exchange := some (.poll d)
    lastPolled := some d
    lastWasSelect := false
    sweep := l.sweep.tail
    unsolicitedRun := false
    drops := if fromSweep then l.drops else l.drops.set d ((l.drops.get d).map again) }) s

/-- The SLC takes a copy of an image as the select is issued (R74). -/
def noteCopy (st : Station) (item : SelectItem) (s : State) : State :=
  match contextOf st s, item with
  | some c, .terminal _ => setContext st (some { c with terminalRecomposed := false }) s
  | some c, .mirror _ => setContext st (some { c with mirrorRecomposed := false }) s
  | _, _ => s

/-- Issue a select with the item as it stands (R168, R171). -/
def issueSelect (st : Station) (d : Drop) (item : SelectItem) (s : State) : State :=
  noteCopy st item (onLine st (fun l => { l with
    exchange := some (.select d item), lastSelected := some d, lastWasSelect := true, unsolicitedRun := false }) s)

/-- The free line of a role chooses its next exchange; polls and selects alternate (R168) (DESIGN CHOICE, log 22). -/
def issueNext (st : Station) (s : State) : State :=
  let l := lineOf st s
  match l.lastWasSelect, pollChoice l, selectChoice st s with
  | true, some d, _ => issuePoll st d s
  | true, none, some (d, i) => issueSelect st d i s
  | false, _, some (d, i) => issueSelect st d i s
  | false, some d, none => issuePoll st d s
  | _, none, none => s

/-! ## Answers (R169 to R171, R203) -/

/-- The frame is one its drop sends (R170). -/
def sentByDrop (role : Role) (d : Drop) (f : DropFrame) : Bool :=
  match role, d, f with
  | .teller, .d1, .keyRequest _ => true
  | .teller, .d1, .formCall _ => true
  | .teller, .d2, .stripeRead _ => true
  | .teller, .d2, .bookRemoved => true
  | .teller, .d2, .lineDone => true
  | .teller, .d2, .writeDone => true
  | .teller, .d2, .fault => true
  | _, _, _ => false

/-- A valid frame in answer to a poll: it takes the place held for it, or is discarded and counted (R170). -/
def frameAnswer (st : Station) (d : Drop) (f : DropFrame) (s : State) : State :=
  let s1 := responded st d (endExchange st s)
  if sentByDrop (lineOf st s).setup.role d f then onLine st (fun l => { l with buffer := l.buffer ++ [(d, f)] }) s1
  else countCheckError st s1

/-- An image is accepted: its pending flag is cleared unless it was recomposed after its copy was taken (R74). -/
def imageAccepted (st : Station) (terminal : Bool) (s : State) : State :=
  match contextOf st s with
  | none => s
  | some c =>
    if terminal then setContext st (some { c with terminalPending := c.terminalPending && c.terminalRecomposed }) s
    else setContext st (some { c with mirrorPending := c.mirrorPending && c.mirrorRecomposed }) s

/-- The owner of an accepted output is told (R74, R79, R126, R171). -/
def outputAccepted (st : Station) (item : SelectItem) (s : State) : State :=
  match item with
  | .terminal _ => imageAccepted st true s
  | .mirror _ => imageAccepted st false s
  | .printer body => itemAccepted st body s
  | .journalLine e => freeEntries (onJrn (fun j => { j with printedCursor := e.seq }) s)

/-! ## The commands of a line -/

/-- DROP_FRAME (R170). A frame in answer to a select is a failed response, and one that no exchange awaits is a run of
characters outside an answer (DEDUCED, log 22). -/
def execDropFrame (st : Station) (f : DropFrame) (s : State) : Host.Outcome State Fault Refusal :=
  match (lineOf st s).exchange with
  | some (.poll d) => .next (frameAnswer st d f s)
  | some (.select ..) => .next (failExchange st (countCheckError st) s)
  | none => .next (unsolicited st s)

/-- NOTHING (R170): it frees the place held for the poll; to a select it is a failed response (R203). -/
def execNothing (st : Station) (s : State) : Host.Outcome State Fault Refusal :=
  match (lineOf st s).exchange with
  | some (.poll d) => .next (responded st d (endExchange st s))
  | some (.select ..) => .next (failExchange st (countCheckError st) s)
  | none => .next (unsolicited st s)

/-- ACCEPT (R171): the owner of the output is told; to a poll it is a failed response (R203). -/
def execAccept (st : Station) (s : State) : Host.Outcome State Fault Refusal :=
  match (lineOf st s).exchange with
  | some (.select d item) => .next (outputAccepted st item (responded st d (endExchange st s)))
  | some (.poll _) => .next (failExchange st (countCheckError st) s)
  | none => .next (unsolicited st s)

/-- BUSY (R171): the drop is not selected again for 1 s; to a poll it is a failed response (R203). -/
def execBusy (st : Station) (s : State) : Host.Outcome State Fault Refusal :=
  match (lineOf st s).exchange with
  | some (.select d _) =>
    .next (onDrop st d (fun x => { x with busy := some (millisAhead Config.busyTime s) })
      (responded st d (endExchange st s)))
  | some (.poll _) => .next (failExchange st (countCheckError st) s)
  | none => .next (unsolicited st s)

/-- FAILED_RESPONSE (R169): counted by its cause, and a missed response. -/
def execFailedResponse (st : Station) (why : FailedWhy) (s : State) : Host.Outcome State Fault Refusal :=
  .next (failExchange st (match why with
    | .checkError => countCheckError st
    | .framing => countFraming st) s)

/-- POLL_RESPONSE_TIMEOUT (R168): silence for 150 ms. -/
def execPollResponseTimeout (st : Station) (s : State) : Host.Outcome State Fault Refusal :=
  .next (failExchange st (countNoResponse st) s)

/-- REPOLL_DUE (R169): the 5 s of a DOWN drop have passed. -/
def execRepollDue (st : Station) (d : Drop) (s : State) : Host.Outcome State Fault Refusal :=
  .next (onDrop st d (fun x =>
    if x.state = .down ∧ x.repoll.isSome = true then { x with repoll := none, repollDue := true } else x) s)

/-- BUSY_RETRY_EXPIRY (R171): the 1 s after a BUSY has passed. -/
def execBusyRetryExpiry (st : Station) (d : Drop) (s : State) : Host.Outcome State Fault Refusal :=
  .next (onDrop st d (fun x => { x with busy := none }) s)

/-- ISSUE_EXCHANGE (R168): a free line with a role chooses and issues its next exchange, if any can be issued. -/
def execIssueExchange (st : Station) (s : State) : Host.Outcome State Fault Refusal :=
  if (lineOf st s).setup.role = .off ∨ (lineOf st s).exchange.isSome = true then .next s else .next (issueNext st s)

/-- ATTENTION (R172): a sweep of the present drops starts where none runs. -/
def execAttention (st : Station) (s : State) : Host.Outcome State Fault Refusal :=
  if (lineOf st s).setup.role = .off ∨ (lineOf st s).sweeping = true then .next s
  else .next (onLine st (fun l => { l with sweeping := true, sweep := presentDrops l.setup }) s)

/-- UNSOLICITED (R170): a run of characters while no exchange awaits an answer. -/
def execUnsolicited (st : Station) (s : State) : Host.Outcome State Fault Refusal :=
  match (lineOf st s).exchange with
  | none => .next (unsolicited st s)
  | some _ => .next s

/-! ## Line tests (R178) -/

/-- ECHO_CHARACTER (R178): while ECHO runs, the character or break is sent back as received. -/
def execEchoCharacter (st : Station) (c : LineSignal) (s : State) : Host.Outcome State Fault Refusal :=
  match (lineOf st s).test with
  | some t => if t.mode = .echo then .next (onLine st (fun l => { l with echoed := some c }) s) else .next s
  | none => .next s

/-- The content of a STOP's reply: the counts of the last loop (R178). -/
def testCounts (t : Option TestRecord) : ReplyContent :=
  match t with
  | some t => .testCounts t.sent t.matched t.mismatched
  | none => .testCounts 0 0 0

/-- The record after a test frame is judged: the next frame is sent, or the loop ends at its last frame or at a STOP
(DESIGN CHOICE, log 23). -/
def judgedRecord (n : Nat) (equal : Bool) (t : TestRecord) : TestRecord :=
  let j := { t with
    matched := if equal then t.matched + 1 else t.matched
    mismatched := if equal then t.mismatched else t.mismatched + 1 }
  if t.stopping.isSome || decide (n ≤ t.sent) then { j with mode := .idle, stopping := none }
  else { j with sent := t.sent + 1 }

/-- A test frame is judged; a STOP that waited for it is answered (R178). -/
def judgeLoopFrame (st : Station) (equal : Bool) (s : State) : State :=
  match (lineOf st s).test with
  | none => s
  | some t =>
    match t.mode with
    | .loop n =>
      let t' := judgedRecord n equal t
      let s1 := onLine st (fun l => { l with test := some t' }) s
      match t.stopping with
      | some id => answer id .done (testCounts (some t')) s1
      | none => s1
    | .echo => s
    | .idle => s

/-- LOOP_FRAME_RETURN (R178): the frame comes back equal, different, or failing its check. -/
def execLoopFrameReturn (st : Station) (how : LoopReturn) (s : State) : Host.Outcome State Fault Refusal :=
  .next (judgeLoopFrame st (how = .equal) s)

/-- LOOP_FRAME_TIMEOUT (R178): the frame does not come back within 150 ms. -/
def execLoopFrameTimeout (st : Station) (s : State) : Host.Outcome State Fault Refusal :=
  .next (judgeLoopFrame st false s)

end Sys2Proof.Machine
end

