-- ==== Sys2Proof/Machine/Discrete.lean ====
section
/-! DEFINITION. The discrete lines (section 9.4): levels driven and read, the drawer-open timer, the alarm, the release
pulse, and LINE-CONTROL. -/

namespace Sys2Proof.Machine
open Sys2Proof

/-! ## Levels (R174, R175, R177) -/

/-- The lamp condition of a station: SIGNED_ON while the day is OPEN (R177). -/
def lampCondition (st : Station) (s : State) : Bool := (tellerAt st s).isSome && s.day.state = .opened

/-- The level an output line drives; an input line drives nothing (R174). -/
def drivenLevel (st : Station) (d : DiscreteLine) (s : State) : Option Bool :=
  let l := lineOf st s
  match l.setup.functions.get d with
  | .spareOut => some (l.latches.get d)
  | .lamp => some (l.latches.get d || lampCondition st s)
  | .drawerRelease => some (l.latches.get d || l.pulse.isSome)
  | .drawerSense => none
  | .alarmIn => none
  | .spareIn => none

/-- A function is an output (R174). -/
def isOutput : LineFunction → Bool
  | .drawerRelease => true
  | .lamp => true
  | .spareOut => true
  | .drawerSense => false
  | .alarmIn => false
  | .spareIn => false

/-- The place of a discrete line, 0 to 3. -/
def lineIndex : DiscreteLine → Nat
  | .dl1 => 0
  | .dl2 => 1
  | .dl3 => 2
  | .dl4 => 3

/-- The level that a reading of a number finds at a wire: a free value (log 7). -/
def levelAt (reading : Nat) (d : DiscreteLine) : Bool := Config.inputLevel (4 * reading + lineIndex d)

/-- The level a reading finds at a wire whose changes no command gives: a free value (log 7). -/
def sampledLevel (d : DiscreteLine) (s : State) : Bool := levelAt s.slc.samples d

/-- A reading of wires has been made: the next one finds levels of its own. -/
def nextSample (s : State) : State := onSlc (fun c => { c with samples := c.samples + 1 }) s

/-- Reading a discrete line: the latch of an output, the sensed level of an input (R174). -/
def readLine (st : Station) (s : State) (d : DiscreteLine) : Bool :=
  let l := lineOf st s
  match l.setup.functions.get d with
  | .spareOut => l.latches.get d
  | .lamp => l.latches.get d
  | .drawerRelease => l.latches.get d
  | .drawerSense => l.drawerOpen
  | .alarmIn => sampledLevel d s
  | .spareIn => sampledLevel d s

/-! ## The drawer-open timer (R176) -/

/-- Start the drawer-open timer. -/
def startDrawerTimer (st : Station) (s : State) : State :=
  onLine st (fun l => { l with openTimer := some (secondsAhead s.mrs.settings.drawerOpen s) }) s

/-- Stop the timer and end a standing drawer-left-open condition, shown on the status line (R72, R176). -/
def endDrawerWatch (st : Station) (s : State) : State :=
  let s1 := onLine st (fun l => { l with openTimer := none, leftOpen := false }) s
  if (lineOf st s).leftOpen then refresh st s1 else s1

/-- DRAWER_SENSE_CHANGE (R176): the sensed level of the station's DRAWER_SENSE line becomes OPEN or CLOSED. -/
def execDrawerSenseChange (st : Station) (opened : Bool) (s : State) : Host.Outcome State Fault Refusal :=
  let l := lineOf st s
  if (lineWith .drawerSense l.setup).isNone ∨ l.drawerOpen = opened then .next s
  else
    let s1 := onLine st (fun l => { l with drawerOpen := opened }) s
    .next (if opened then startDrawerTimer st s1 else endDrawerWatch st s1)

/-- DRAWER_OPEN_TIMER_EXPIRY (R176): the condition is raised, with the flag and the status line. -/
def execDrawerOpenTimerExpiry (st : Station) (s : State) : Host.Outcome State Fault Refusal :=
  if (lineOf st s).openTimer.isSome then
    .next (refresh st (raise .drawerLeftOpen (onLine st (fun l => { l with openTimer := none, leftOpen := true }) s)))
  else .next s

/-! ## The alarm and the pulse -/

/-- ALARM_IN_RISING (R177): the level of the station's ALARM_IN line rises from INACTIVE to ACTIVE, in any role. Each
rise is reported (DEDUCED, log 22). -/
def execAlarmInRising (st : Station) (s : State) : Host.Outcome State Fault Refusal :=
  if (lineWith .alarmIn (lineOf st s).setup).isSome then .next (raiseAlarm st s) else .next s

/-- DRAWER_PULSE_END (R175): the 200 ms of the pulse have passed. -/
def execDrawerPulseEnd (st : Station) (s : State) : Host.Outcome State Fault Refusal :=
  .next (onLine st (fun l => { l with pulse := none }) s)

/-! ## LINE-CONTROL (R174) -/

/-- The four values a LINE-CONTROL writes: the lines of the mask made ACTIVE or INACTIVE, the others as read. -/
def controlValues (st : Station) (set : Bool) (mask : Four Bool) (s : State) : Four Bool :=
  Four.ofFn fun d => if mask.get d then set else readLine st s d

/-- The operation of a LINE-CONTROL: SET (true) or CLEAR, or neither. -/
def controlOp : Nat → Option Bool
  | 1 => some true
  | 2 => some false
  | _ => none

/-- The SLC takes a LINE-CONTROL (R174). -/
def takeLineControl (id station op : Nat) (mask : Four Bool) (s : State) : State :=
  match Station.ofNat? station, controlOp op with
  | some st, some set =>
    let v := controlValues st set mask s
    answer id .done (.latches v) (nextSample (onLine st (fun l => { l with latches := v }) s))
  | _, _ => refuseRequest id .badRequest s

/-- LINE_CONTROL (R174). -/
def execLineControl (id station op : Nat) (mask : Four Bool) (s : State) : Host.Outcome State Fault Refusal :=
  .next (withRequest id (.lineControl station op mask) (takeLineControl id station op mask) s)

end Sys2Proof.Machine
end

