-- ==== Sys2Proof/Machine/Wire.lean ====
section
/-! DEFINITION. The bytes of the branch link: the coding conventions (R201), the frame check and the frame (R202, section
12.1), segmentation (R182), and the reading of inbound payloads (section 12.2). Layouts that chapter 12 does not give are
coded by R201's conventions as log 12 says. -/

namespace Sys2Proof.Machine
open Sys2Proof

/-- A run of bytes. -/
abbrev Bytes := List Byte

/-! ## Writing (R201) -/

/-- The byte of a number. -/
def byteOf (n : Nat) : Byte := BitVec.ofNat 8 n

/-- A number in so many bytes, most significant first (R201). -/
def beBytes : Nat → Nat → Bytes
  | 0, _ => []
  | k + 1, n => byteOf (n / 256 ^ k) :: beBytes k n

/-- A signed amount: 8 bytes in two's complement (R201). -/
def amountBytes (v : Int) : Bytes := beBytes 8 (BitVec.ofInt 64 v).toNat

/-- The byte of a character: its Unicode number, held in one byte (R201 names no code). So the sign × of a BREAKDOWN text (R68)
is byte 215, and every other character the part writes of itself has its ASCII code (PRESUMED for ASCII, DESIGN CHOICE for
× and for the remainder modulo 256; log 41). -/
def charByte (c : Char) : Byte := byteOf c.toNat

/-- A text: one length byte, then its characters (R201). -/
def textBytes (t : Text) : Bytes := byteOf t.length :: t.map charByte

/-- A flag byte: 1 or 0 (DESIGN CHOICE, log 12: not coded as a list of values). -/
def flagBytes (b : Bool) : Bytes := [if b then 1 else 0]

/-- An optional item after its presence byte. -/
def optionBytes {α : Type} (f : α → Bytes) : Option α → Bytes
  | none => [0]
  | some x => 1 :: f x

/-- A list after its count byte. -/
def listBytes {α : Type} (f : α → Bytes) (xs : List α) : Bytes := byteOf xs.length :: xs.flatMap f

/-- A time of day: 3 bytes, then a flags byte whose bit 0 is the clock-unset flag (section 12.2). -/
def stampBytes (t : Stamp) : Bytes := beBytes 3 t.secs ++ flagBytes t.unset

/-- A business date: year less 2000, month, day; all 0 when absent (section 12.4). -/
def dateBytes : Option Date → Bytes
  | none => [0, 0, 0]
  | some d => [byteOf (d.year - 2000), byteOf d.month, byteOf d.day]

/-- A reference: station 1 and sequence 2 (section 12.2). -/
def refBytes (r : Ref) : Bytes := byteOf r.station.num :: beBytes 2 r.seq

/-! ## The frame check (R202) -/

/-- The register after one bit: generator 1 + x^2 + x^15 + x^16. -/
def crcShift (r : BitVec 16) : BitVec 16 := if r.msb then (r <<< 1) ^^^ 0x8005#16 else r <<< 1

/-- The register after so many bits. -/
def crcShifts : Nat → BitVec 16 → BitVec 16
  | 0, r => r
  | k + 1, r => crcShifts k (crcShift r)

/-- The register after a byte, most significant bit first. -/
def crcByte (r : BitVec 16) (b : Byte) : BitVec 16 := crcShifts 8 (r ^^^ (b.zeroExtend 16 <<< 8))

/-- The frame check of bytes: the register starts at all ones and is taken as it stands after the last (R202). -/
def frameCheck (bs : Bytes) : BitVec 16 := bs.foldl crcByte 0xFFFF#16

/-- The two check bytes, high byte first (R202). -/
def checkBytes (bs : Bytes) : Bytes := [(frameCheck bs).extractLsb' 8 8, (frameCheck bs).extractLsb' 0 8]

/-- Bytes followed by their frame check. -/
def withCheck (bs : Bytes) : Bytes := bs ++ checkBytes bs

/-! ## The frame (section 12.1) -/

/-- A branch link frame without its check; the segment byte as it stands. -/
structure LinkFrame where
  dest : Byte
  source : Byte
  kind : Byte
  segment : Byte
  payload : Bytes
  deriving DecidableEq, Repr

/-- The bytes of a frame, check included (section 12.1, R202). -/
def frameBytes (f : LinkFrame) : Bytes :=
  withCheck ([f.dest, f.source, f.kind, f.segment] ++ beBytes 2 f.payload.length ++ f.payload)

/-- The segment byte of a segment number: bits 3 to 0 the number, bit 7 the last flag. -/
def segmentByte (n : Nat) (last : Bool) : Byte := byteOf (n % 16 + if last then 128 else 0)

/-- A payload in segments of at most 1,024 bytes, the first argument bounding their number (R182). -/
def segments : Nat → Bytes → List Bytes
  | 0, bs => [bs]
  | k + 1, bs =>
    if bs.length ≤ Config.payloadBytes then [bs]
    else bs.take Config.payloadBytes :: segments k (bs.drop Config.payloadBytes)

/-- The frames of the segments of an outbound message, from a segment number on: destination 255, its source, its kind, and
the last flag on the last (R182). -/
def segmentFrames (source kind : Nat) : Nat → List Bytes → List LinkFrame
  | _, [] => []
  | n, [p] =>
    [{ dest := byteOf Config.headOffice, source := byteOf source, kind := byteOf kind, segment := segmentByte n true,
       payload := p }]
  | n, p :: rest =>
    { dest := byteOf Config.headOffice, source := byteOf source, kind := byteOf kind, segment := segmentByte n false,
      payload := p } :: segmentFrames source kind (n + 1) rest

/-- The bytes of the frames of an outbound message (R182). -/
def messageFrames (source kind : Nat) (payload : Bytes) : List Bytes :=
  (segmentFrames source kind 0 (segments 15 payload)).map frameBytes

/-! ## Reading -/

/-- The number that bytes write, most significant first. -/
def beValue (bs : Bytes) : Nat := bs.foldl (fun n b => 256 * n + b.toNat) 0

/-- Read so many bytes. -/
def readBytes (n : Nat) (bs : Bytes) : Option (Bytes × Bytes) :=
  if bs.length < n then none else some (bs.take n, bs.drop n)

/-- Read a number of so many bytes. -/
def readNat (n : Nat) (bs : Bytes) : Option (Nat × Bytes) := (readBytes n bs).map fun p => (beValue p.1, p.2)

/-- The character of a byte: the one whose Unicode number the byte is, the inverse of charByte (R201 names no code; log 41). -/
def byteChar (b : Byte) : Char := Char.ofNat b.toNat

/-- Read a text. -/
def readText (bs : Bytes) : Option (Text × Bytes) := do
  let (n, bs) ← readNat 1 bs
  let (t, bs) ← readBytes n bs
  return (t.map byteChar, bs)

/-- Read a flag byte: 0 or 1, else it cannot be read (DESIGN CHOICE, log 12). -/
def readFlag (bs : Bytes) : Option (Bool × Bytes) :=
  match bs with
  | [] => none
  | b :: rest => if b = 0 then some (false, rest) else if b = 1 then some (true, rest) else none

/-- Read a signed amount. -/
def readInt (bs : Bytes) : Option (Int × Bytes) :=
  (readNat 8 bs).map fun p => ((BitVec.ofNat 64 p.1).toInt, p.2)

/-- Read an optional item after its presence byte. -/
def readOption {α : Type} (f : Bytes → Option (α × Bytes)) (bs : Bytes) : Option (Option α × Bytes) := do
  let (b, bs) ← readFlag bs
  if b then
    let (x, bs) ← f bs
    return (some x, bs)
  else return (none, bs)

/-- Read so many items. -/
def readItems {α : Type} (f : Bytes → Option (α × Bytes)) : Nat → Bytes → Option (List α × Bytes)
  | 0, bs => some ([], bs)
  | k + 1, bs => do
    let (x, bs) ← f bs
    let (xs, bs) ← readItems f k bs
    return (x :: xs, bs)

/-- Read a list after its count byte (DESIGN CHOICE, log 12, where section 12.2 names no count). -/
def readList {α : Type} (f : Bytes → Option (α × Bytes)) (bs : Bytes) : Option (List α × Bytes) := do
  let (n, bs) ← readNat 1 bs
  readItems f n bs

/-- The item of a reading that uses every byte (R202). -/
def wholly {α : Type} (r : Option (α × Bytes)) : Option α :=
  match r with
  | some (x, []) => some x
  | some (_, _ :: _) => none
  | none => none

/-! ## Inbound payloads (section 12.2) -/

/-- Read a field: tag 1, text. -/
def readKeyField (bs : Bytes) : Option (KeyField × Bytes) := do
  let (tag, bs) ← readNat 1 bs
  let (text, bs) ← readText bs
  return ({ tag := tag, text := text }, bs)

/-- Read a passbook line of a REPLY. -/
def readPassLine (bs : Bytes) : Option (PassLine × Bytes) := do
  let (date, bs) ← readText bs
  let (code, bs) ← readText bs
  let (amount, bs) ← readInt bs
  let (balance, bs) ← readOption readInt bs
  return ({ date := date, code := code, amount := amount, balance := balance }, bs)

/-- Read a REPLY payload. -/
def readReply (bs : Bytes) : Option Reply := wholly do
  let (station, bs) ← readNat 1 bs
  let (seq, bs) ← readNat 2 bs
  let (outcome, bs) ← readNat 1 bs
  let (reason, bs) ← readText bs
  let (balance, bs) ← readOption readInt bs
  let (fields, bs) ← readList readKeyField bs
  let (lines, bs) ← readList readPassLine bs
  return ({ station := station, seq := seq, outcome := outcome, reason := reason, balance := balance, fields := fields,
            lines := lines }, bs)

/-- Read an ADVICE_ACK or BATCH_ACK payload. -/
def readAck (bs : Bytes) : Option Ack := wholly do
  let (n, bs) ← readNat 2 bs
  let (status, bs) ← readNat 1 bs
  return ({ number := n, status := status }, bs)

/-- Read a LINK_CHECK payload. -/
def readCheckNumber (bs : Bytes) : Option Nat := wholly (readNat 1 bs)

/-! ## Management requests (R192, by the conventions of R201; log 12) -/

/-- Read a TCT record: code 2, name a text, offline ceiling 8, every other value 1 (R150) (DESIGN CHOICE, log 12, for the
widths). -/
def readTct (bs : Bytes) : Option (RawTct × Bytes) := do
  let (code, bs) ← readNat 2 bs
  let (name, bs) ← readText bs
  let (routing, bs) ← readNat 1 bs
  let (action, bs) ← readNat 1 bs
  let (cls, bs) ← readNat 1 bs
  let (auth, bs) ← readNat 1 bs
  let (rf, bs) ← readNat 1 bs
  let (af, bs) ← readNat 1 bs
  let (df, bs) ← readNat 1 bs
  let (dir, bs) ← readNat 1 bs
  let (timeout, bs) ← readNat 1 bs
  let (ceiling, bs) ← readNat 8 bs
  let (use, bs) ← readNat 1 bs
  let (acc, bs) ← readNat 1 bs
  let (amt, bs) ← readNat 1 bs
  return ({ code := code, name := name, routing := routing, localAction := action, dayClass := cls, minAuthority := auth,
            requestFormat := rf, approveFormat := af, declineFormat := df, cashDirection := dir, replyTimeout := timeout,
            offlineCeiling := ceiling, passbookUse := use, accountTag := acc, amountTag := amt }, bs)

/-- Read a field of an SFT format, every value 1 byte (R151) (DESIGN CHOICE, log 12). -/
def readRawField (bs : Bytes) : Option (RawField × Bytes) := do
  let (tag, bs) ← readNat 1 bs
  let (row, bs) ← readNat 1 bs
  let (column, bs) ← readNat 1 bs
  let (length, bs) ← readNat 1 bs
  let (cls, bs) ← readNat 1 bs
  let (kind, bs) ← readNat 1 bs
  let (required, bs) ← readFlag bs
  let (source, bs) ← readNat 1 bs
  return ({ tag := tag, row := row, column := column, length := length, cls := cls, kind := kind, required := required,
            source := source }, bs)

/-- Read an SFT format: number 1, kind 1, title a text, and its fields after a count byte (R151) (DESIGN CHOICE, log 12). -/
def readRawFormat (bs : Bytes) : Option (RawFormat × Bytes) := do
  let (number, bs) ← readNat 1 bs
  let (kind, bs) ← readNat 1 bs
  let (title, bs) ← readText bs
  let (fields, bs) ← readList readRawField bs
  return ({ number := number, kind := kind, title := title, fields := fields }, bs)

/-- Read a DNT record: face 8, kind 1, floor 2 (R152) (DESIGN CHOICE, log 12). -/
def readDnt (bs : Bytes) : Option (RawDnt × Bytes) := do
  let (face, bs) ← readNat 8 bs
  let (kind, bs) ← readNat 1 bs
  let (floor, bs) ← readNat 2 bs
  return ({ face := face, kind := kind, floor := floor }, bs)

/-- Read a TLT record: teller 2, authority 1, each limit 8 (R153) (DESIGN CHOICE, log 12). -/
def readTlt (bs : Bytes) : Option (RawTlt × Bytes) := do
  let (teller, bs) ← readNat 2 bs
  let (auth, bs) ← readNat 1 bs
  let (soft, bs) ← readNat 8 bs
  let (hard, bs) ← readNat 8 bs
  let (ceiling, bs) ← readNat 8 bs
  return ({ teller := teller, authority := auth, softLimit := soft, hardLimit := hard, standinCeiling := ceiling }, bs)

/-- Read a column and a width, 1 byte each (R154) (DESIGN CHOICE, log 12). -/
def readPlace (bs : Bytes) : Option (FieldPlace × Bytes) := do
  let (column, bs) ← readNat 1 bs
  let (width, bs) ← readNat 1 bs
  return ({ column := column, width := width }, bs)

/-- Read a PLT record, every value 1 byte (R154) (DESIGN CHOICE, log 12). -/
def readPlt (bs : Bytes) : Option (PltRec × Bytes) := do
  let (bookType, bs) ← readNat 1 bs
  let (lines, bs) ← readNat 1 bs
  let (pages, bs) ← readNat 1 bs
  let (first, bs) ← readNat 1 bs
  let (date, bs) ← readPlace bs
  let (code, bs) ← readPlace bs
  let (amount, bs) ← readPlace bs
  let (balance, bs) ← readPlace bs
  return ({ bookType := bookType, linesPerPage := lines, pages := pages, firstLine := first, date := date, code := code,
            amount := amount, balance := balance }, bs)

/-- Read a DNT header: decimals 1, increment 1 (R152) (DESIGN CHOICE, log 12). -/
def readDntHeader (bs : Bytes) : Option (DntHeader × Bytes) := do
  let (decimals, bs) ← readNat 1 bs
  let (increment, bs) ← readNat 1 bs
  return ({ decimals := decimals, increment := increment }, bs)

/-- Read the header that stands behind the records, where any byte does: no presence byte goes before it (R155, R201). -/
def readHeader {α : Type} (f : Bytes → Option (α × Bytes)) (bs : Bytes) : Option (Option α × Bytes) :=
  if bs = [] then some (none, []) else (f bs).map fun p => (some p.1, p.2)

/-- Read the records of a fragment of a table after a count byte (DESIGN CHOICE, log 12), then the header where one is
carried, in the order in which R155 names them (R155, R201). -/
def readBody (t : TableId) (bs : Bytes) : Option (FragmentBody × Bytes) :=
  match t with
  | .tct => do
    let (rs, bs) ← readList readTct bs
    return (.tct rs, bs)
  | .sft => do
    let (rs, bs) ← readList readRawFormat bs
    return (.sft rs, bs)
  | .dnt => do
    let (rs, bs) ← readList readDnt bs
    let (h, bs) ← readHeader readDntHeader bs
    return (.dnt h rs, bs)
  | .tlt => do
    let (rs, bs) ← readList readTlt bs
    let (h, bs) ← readHeader (readNat 8) bs
    return (.tlt h rs, bs)
  | .plt => do
    let (rs, bs) ← readList readPlt bs
    return (.plt rs, bs)

/-- Read a TABLE-LOAD fragment: table, load id and number 1 byte each, the last flag, the records and the header (R155)
(DESIGN CHOICE, log 12). -/
def readFragment (bs : Bytes) : Option (Fragment × Bytes) := do
  let (t, bs) ← readNat 1 bs
  let table ← tableIdOfCode t
  let (loadId, bs) ← readNat 1 bs
  let (number, bs) ← readNat 1 bs
  let (last, bs) ← readFlag bs
  let (body, bs) ← readBody table bs
  return ({ loadId := loadId, number := number, last := last, body := body }, bs)

/-- Read one named setting: name 1, value 2 (R193) (DESIGN CHOICE, log 12). -/
def readSetting (bs : Bytes) : Option ((SettingName × Nat) × Bytes) := do
  let (n, bs) ← readNat 1 bs
  let name ← settingNameOfCode n
  let (v, bs) ← readNat 2 bs
  return ((name, v), bs)

/-- Read a LINE-SETUP, every item 1 byte (R164) (DESIGN CHOICE, log 12). -/
def readSetupRequest (bs : Bytes) : Option (LineSetupRequest × Bytes) := do
  let (line, bs) ← readNat 1 bs
  let (role, bs) ← readNat 1 bs
  let (d1, bs) ← readFlag bs
  let (d2, bs) ← readFlag bs
  let (d3, bs) ← readFlag bs
  let (f1, bs) ← readNat 1 bs
  let (f2, bs) ← readNat 1 bs
  let (f3, bs) ← readNat 1 bs
  let (f4, bs) ← readNat 1 bs
  let (depth, bs) ← readNat 1 bs
  let (key, bs) ← readNat 1 bs
  let (mask, bs) ← readNat 1 bs
  let (fill, bs) ← readNat 1 bs
  return ({ line := line, role := role, drop1 := d1, drop2 := d2, drop3 := d3, functions := ⟨f1, f2, f3, f4⟩,
            depth := depth, mirrorKey := key, mirrorMask := mask, mirrorFill := fill }, bs)

/-- Read a mask of the four discrete lines, one byte: bit 0 names DL1, and a mask with a higher bit set cannot be read (R174)
(DESIGN CHOICE, log 12). -/
def readMask (bs : Bytes) : Option (Four Bool × Bytes) := do
  let (n, bs) ← readNat 1 bs
  if n < 16 then return (⟨n.testBit 0, n.testBit 1, n.testBit 2, n.testBit 3⟩, bs) else none

/-- Read a date: year less 2000, month, day (DEDUCED, log 12). -/
def readDate (bs : Bytes) : Option (Date × Bytes) := do
  let (y, bs) ← readNat 1 bs
  let (m, bs) ← readNat 1 bs
  let (d, bs) ← readNat 1 bs
  return ({ year := 2000 + y, month := m, day := d }, bs)

/-- The fields of a management request of a kind, coded by the order of R192's table (R201). A LINE-TEST carries a count for
LOOP, mode 2, alone (R178). The set of lines of a STATUS-READ is a count byte and a line number a byte, the expiry of a
BROADCAST-TEXT 2 bytes, the seconds of a CLOCK-SET 3, and every other number 1 (DESIGN CHOICE, log 12). -/
def readRequest (kind : Nat) (bs : Bytes) : Option MgmtRequest :=
  match kind with
  | 1 => (wholly (readFragment bs)).map .tableLoad
  | 2 => if bs = [] then some .tableAbort else none
  | 3 => wholly do
    let (t, bs) ← readNat 1 bs
    let (i, bs) ← readNat 1 bs
    return (.tableRead t i, bs)
  | 4 => (wholly (readList readSetting bs)).map .settingsWrite
  | 5 => if bs = [] then some .settingsRead else none
  | 6 => (wholly (readSetupRequest bs)).map .lineSetup
  | 7 => wholly do
    let (st, bs) ← readNat 1 bs
    let (op, bs) ← readNat 1 bs
    let (mask, bs) ← readMask bs
    return (.lineControl st op mask, bs)
  | 8 => wholly do
    let (line, bs) ← readNat 1 bs
    let (mode, bs) ← readNat 1 bs
    let (n, bs) ← if mode = 2 then readNat 1 bs else some (0, bs)
    return (.lineTest line mode n, bs)
  | 9 => (wholly (readNat 1 bs)).map .lineReset
  | 10 => (wholly (readList (readNat 1) bs)).map .statusRead
  | 11 => if bs = [] then some .totalsRead else none
  | 12 => (wholly (readNat 3 bs)).map .clockSet
  | 13 => if bs = [] then some .dayCutoff else none
  | 14 => if bs = [] then some .dayForce else none
  | 15 => if bs = [] then some .settleRetry else none
  | 16 => (wholly (readDate bs)).map .dateRoll
  | 17 => wholly do
    let (t, bs) ← readText bs
    let (e, bs) ← readNat 2 bs
    return (.broadcastText t e, bs)
  | _ => none

/-- A MGMT_REQ payload: its request id, and the request, bad where its kind is none or its fields cannot be read; none
where the payload is too short for the id (R191, R192, R202). -/
def readMgmt (bs : Bytes) : Option (Nat × MgmtRequest) :=
  match bs with
  | [] => none
  | [id] => some (id.toNat, .bad 0)
  | id :: kind :: rest => some (id.toNat, (readRequest kind.toNat rest).getD (.bad kind.toNat))

/-! ## Reading a frame (R181) -/

/-- What an inbound frame is found to be (R181, R202). -/
inductive FrameVerdict where
  | frameCheck
  | frameForm
  | valid (kind : InboundKind) (dest : Nat) (segment : Nat) (last : Bool) (payload : Bytes)
  deriving DecidableEq, Repr

/-- The inbound kind of a code (section 12.1). -/
def inboundKind : Nat → Option InboundKind
  | 1 => some .reply
  | 2 => some .mgmtReq
  | 3 => some .adviceAck
  | 4 => some .batchAck
  | 5 => some .linkCheck
  | _ => none

/-- The destination suits the kind: 1 to 8 for REPLY, 0 for every other (R181). -/
def destSuits (k : InboundKind) (dest : Nat) : Bool :=
  match k with
  | .reply => decide (1 ≤ dest) && decide (dest ≤ 8)
  | .mgmtReq => decide (dest = 0)
  | .adviceAck => decide (dest = 0)
  | .batchAck => decide (dest = 0)
  | .linkCheck => decide (dest = 0)

/-- The checks of form of a frame whose check agrees, in order (R181, R202). -/
def judgeForm (dest source kind segment : Byte) (payload : Bytes) : FrameVerdict :=
  match inboundKind kind.toNat with
  | none => .frameForm
  | some k =>
    if source.toNat ≠ Config.headOffice then .frameForm
    else if !destSuits k dest.toNat then .frameForm
    else if (segment.toNat / 16) % 8 ≠ 0 then .frameForm
    else .valid k dest.toNat (segment.toNat % 16) (segment.getLsbD 7) payload

/-- The checks of R181 on the bytes that arrived, in order: complete, check, kind, source, destination. -/
def judgeFrame (bs : Bytes) : FrameVerdict :=
  match bs with
  | dest :: source :: kind :: segment :: l1 :: l0 :: rest =>
    let n := beValue [l1, l0]
    if Config.payloadBytes < n ∨ rest.length ≠ n + 2 then .frameCheck
    else if frameCheck bs ≠ 0#16 then .frameCheck
    else judgeForm dest source kind segment (rest.take n)
  | _ => .frameCheck

end Sys2Proof.Machine
end

