-- ==== Sys2Proof/Machine/WireOut.lean ====
section
/-! DEFINITION. The payloads of the outbound messages (section 12.2) and the journal entry (section 12.4). Layouts that
chapter 12 does not give carry the fields their owning rule names, in its order, by R201's conventions (log 12). -/

namespace Sys2Proof.Machine
open Sys2Proof

/-! ## The journal entry (section 12.4) -/

/-- The kind of an entry, as listed in R116. -/
def entryKindCode : EntryBody → Nat
  | .txn .. => 1
  | .localAction .. => 2
  | .passbook .. => 3
  | .late .. => 4
  | .alarm .. => 5
  | .day .. => 6
  | .table .. => 7

/-- The 8 bytes of an entry's body (section 12.4). The serial of a PASSBOOK entry that has none is 0 (DESIGN CHOICE, log
12). -/
def bodyBytes : EntryBody → Bytes
  | .txn seq code outcome => beBytes 2 seq ++ beBytes 2 code ++ [byteOf (txnOutcomeCode outcome)] ++ [0, 0, 0]
  | .localAction seq code action refusal target =>
    beBytes 2 seq ++ beBytes 2 code ++ [byteOf (localActionCode action), byteOf ((refusal.map localReasonCode).getD 0),
      byteOf target, 0]
  | .passbook seq serial received printed cause outcome =>
    beBytes 2 seq ++ beBytes 2 (serial.getD 0) ++ [byteOf received, byteOf printed, byteOf (endCauseCode cause),
      byteOf (stripeOutcomeCode outcome)]
  | .late cause seq code number kind =>
    [byteOf (lateCauseCode cause)] ++ beBytes 2 seq ++ beBytes 2 code ++ beBytes 2 number ++
      [byteOf ((kind.map adviceKindCode).getD 0)]
  | .alarm time repeats => beBytes 3 time.secs ++ [byteOf repeats] ++ [0, 0, 0, 0]
  | .day state date => [byteOf (dayStateCode state)] ++ dateBytes date ++ [0, 0, 0, 0]
  | .table id loadId count => [byteOf (tableIdCode id), byteOf loadId] ++ beBytes 2 count ++ [0, 0, 0, 0]

/-- The flags byte of an entry: bit 0 clock unset, bit 1 amount part, bit 2 account (section 12.4). -/
def entryFlags (e : Entry) : Nat :=
  (if e.time.unset then 1 else 0) + (if e.draft.amounts.isSome then 2 else 0) + (if e.draft.account.isSome then 4 else 0)

/-- The amount part of an entry: exact, then rounded. -/
def amountPartBytes : Option (Int × Int) → Bytes
  | some (a, r) => amountBytes a ++ amountBytes r
  | none => []

/-- The account of an entry: a text padded with zeros to 24 bytes. -/
def accountBytes : Option Text → Bytes
  | some t => textBytes t ++ List.replicate (24 - (textBytes t).length) 0
  | none => []

/-- A pair of an entry: index 1, zero 1, count 2. -/
def entryPairBytes (p : Nat × Nat) : Bytes := [byteOf p.1, 0] ++ beBytes 2 p.2

/-- The base of 24 bytes of an entry (section 12.4). -/
def entryBase (e : Entry) : Bytes :=
  beBytes 4 e.seq ++ dateBytes e.date ++ beBytes 3 e.time.secs ++
    [byteOf (entryFlags e), byteOf (entryKindCode e.draft.body), byteOf ((e.draft.station.map Station.num).getD 0)] ++
    beBytes 2 (e.draft.teller.getD 0) ++ [byteOf e.draft.breakdown.length] ++ bodyBytes e.draft.body

/-- A journal entry as a batch carries it: base, amount part, account, pairs (section 12.4). -/
def entryBytes (e : Entry) : Bytes :=
  entryBase e ++ amountPartBytes e.draft.amounts ++ accountBytes e.draft.account ++
    e.draft.breakdown.flatMap entryPairBytes

/-! ## REQUEST -/

/-- A stripe snapshot: account text, book type 1, serial 2, page 1, next line 1. -/
def snapshotBytes (b : Book) : Bytes :=
  textBytes b.account ++ [byteOf b.bookType] ++ beBytes 2 b.serial ++ [byteOf b.page, byteOf b.line]

/-- A cash leg: direction 1, A 8, R 8, pair count 1, pairs of index 1, zero 1 and count 2. -/
def legBytes (g : Leg) : Bytes :=
  [byteOf (cashDirectionCode g.dir)] ++ amountBytes g.exact ++ amountBytes g.rounded ++ listBytes entryPairBytes g.breakdown

/-- A field: tag 1, text. -/
def fieldBytes (f : KeyField) : Bytes := byteOf f.tag :: textBytes f.text

/-- The payload of a REQUEST. -/
def requestBytes (m : RequestMsg) : Bytes :=
  beBytes 2 m.ref.seq ++ beBytes 2 m.teller ++ beBytes 2 m.code ++
    [byteOf m.form, byteOf ((if m.snapshot.isSome then 1 else 0) + (if m.leg.isSome then 2 else 0))] ++
    (m.snapshot.map snapshotBytes).getD [] ++ (m.leg.map legBytes).getD [] ++ listBytes fieldBytes m.fields

/-! ## ADVICE -/

/-- The body of an advice, in the order R105 lists its fields. A teller, a code and a serial take 2 bytes, lines received, lines
printed, a repeat count and a station 1 (DESIGN CHOICE, log 12). -/
def adviceBytes : AdviceBody → Bytes
  | .standin ref teller code account amounts time =>
    refBytes ref ++ beBytes 2 teller ++ beBytes 2 code ++ optionBytes textBytes account ++
      optionBytes (fun p => amountBytes p.1 ++ amountBytes p.2) amounts ++ stampBytes time
  | .reversal ref cause dir amount =>
    refBytes ref ++ [byteOf (reversalCauseCode cause), byteOf (cashDirectionCode dir)] ++ amountBytes amount
  | .passbookUpdate r cause =>
    refBytes r.ref ++ textBytes r.account ++ optionBytes (beBytes 2) r.serial ++ [byteOf r.received, byteOf r.printed] ++
      optionBytes amountBytes r.lastBalance ++ [byteOf (endCauseCode cause)]
  | .alarm st time repeats => [byteOf st.num] ++ stampBytes time ++ [byteOf repeats]

/-- The code of an advice body's kind. -/
def adviceBodyCode : AdviceBody → Nat
  | .standin .. => adviceKindCode .standin
  | .reversal .. => adviceKindCode .reversal
  | .passbookUpdate .. => adviceKindCode .passbookUpdate
  | .alarm .. => adviceKindCode .alarm

/-! ## BATCH -/

/-- The over/short total: 0 absent, 1 with its value, 2 UNKNOWN (log 12). -/
def overShortBytes : OverShort → Bytes
  | .absent => [0]
  | .value v => 1 :: amountBytes v
  | .unknown => [2]

/-- A Teller Day Record, in the order R61 lists its fields; the last sign-off time after a presence byte, and an absent station
one byte 0 with no presence byte. The teller and the transaction count take 2 bytes, each time 3 and a flags byte (DESIGN
CHOICE, log 12). -/
def tellerDayBytes (r : TellerDay) : Bytes :=
  beBytes 2 r.teller ++ [byteOf ((r.station.map Station.num).getD 0)] ++ amountBytes r.standinTotal ++
    beBytes 2 r.txCount ++ stampBytes r.firstOn ++ optionBytes stampBytes r.lastOff

/-- The branch sums (R55); that of the over/short totals after a presence byte (DESIGN CHOICE, log 12). -/
def sumsBytes (b : BranchSums) : Bytes :=
  amountBytes b.total ++ amountBytes b.cashIn ++ amountBytes b.cashOut ++ amountBytes b.rounding ++
    optionBytes amountBytes b.overShort

/-- The day figures of a position. -/
def figuresBytes (f : DayFigures) : Bytes :=
  amountBytes f.cashIn ++ amountBytes f.cashOut ++ amountBytes f.rounding ++ overShortBytes f.overShort ++
    beBytes 2 f.txCount

/-- A position of the totals batch (R141): close flag, mark, counts, total, day figures, EXCESS_CASH. It carries no position
number: the order of the positions tells it (DESIGN CHOICE, log 30). -/
def closePositionBytes (p : ClosePosition) : Bytes :=
  [byteOf (closeFlagCode p.flag)] ++ flagBytes p.marked ++ listBytes (beBytes 2) p.counts ++ amountBytes p.total ++
    (p.figures.map figuresBytes).getD [] ++ (p.excess.map flagBytes).getD []

/-- The payload of a BATCH (section 12.2). The part count of a positions part, which section 12.2 puts before the content
and R140 lists again inside it, is carried once, in the place of section 12.2 (DESIGN CHOICE, log 12). -/
def batchBytes (b : Batch) : Bytes :=
  beBytes 2 b.number ++
    match b.content with
    | .journal j =>
      [1] ++ beBytes 4 j.first ++ beBytes 4 j.last ++ [byteOf j.count] ++ amountBytes j.control ++
        j.entries.flatMap entryBytes
    | .totals (.positions part parts date accepted ps sums) =>
      [2, byteOf part, byteOf parts] ++ dateBytes date ++ beBytes 4 accepted ++ ps.flatMap closePositionBytes ++
        sumsBytes sums
    | .totals (.tellers part parts rs) => [2, byteOf part, byteOf parts] ++ listBytes tellerDayBytes rs

/-! ## MGMT_REPLY -/

/-- A TCT record, in the order of R150. -/
def tctBytes (r : TctRec) : Bytes :=
  beBytes 2 r.code ++ textBytes r.name ++
    [byteOf (routingCode r.routing), byteOf ((r.localAction.map localActionCode).getD 0), byteOf (dayClassCode r.dayClass),
     byteOf (authorityCode r.minAuthority), byteOf r.requestFormat, byteOf r.approveFormat, byteOf r.declineFormat,
     byteOf (cashDirectionCode r.cashDirection), byteOf r.replyTimeout] ++
    amountBytes r.offlineCeiling ++ [byteOf (passbookUseCode r.passbookUse), byteOf r.accountTag, byteOf r.amountTag]

/-- A field of a format, in the order of R151. -/
def sftFieldBytes (f : SftField) : Bytes :=
  [byteOf f.tag, byteOf f.row, byteOf f.column, byteOf f.length, byteOf f.cls, byteOf (fieldKindCode f.kind)] ++
    flagBytes f.required ++ [byteOf (fieldSourceCode f.source)]

/-- A format, in the order of R151. -/
def sftBytes (f : SftFormat) : Bytes :=
  [byteOf f.number, byteOf (formatKindCode f.kind)] ++ textBytes f.title ++ listBytes sftFieldBytes f.fields

/-- A DNT record, in the order of R152. -/
def dntBytes (r : DntRec) : Bytes := amountBytes r.face ++ [byteOf (moneyKindCode r.kind)] ++ beBytes 2 r.floor

/-- A TLT record, in the order of R153. -/
def tltBytes (r : TltRec) : Bytes :=
  beBytes 2 r.teller ++ [byteOf (authorityCode r.authority)] ++ amountBytes r.softLimit ++ amountBytes r.hardLimit ++
    amountBytes r.standinCeiling

/-- A column and a width. -/
def placeBytes (p : FieldPlace) : Bytes := [byteOf p.column, byteOf p.width]

/-- A PLT record, in the order of R154. -/
def pltBytes (r : PltRec) : Bytes :=
  [byteOf r.bookType, byteOf r.linesPerPage, byteOf r.pages, byteOf r.firstLine] ++ placeBytes r.date ++
    placeBytes r.code ++ placeBytes r.amount ++ placeBytes r.balance

/-- The header, where the table has one, and the records of a TABLE-READ reply, these after a count byte (DESIGN CHOICE, log
12). -/
def recordsBytes : TableRecords → Bytes
  | .tct rs => listBytes tctBytes rs
  | .sft rs => listBytes sftBytes rs
  | .dnt h rs => [byteOf h.decimals, byteOf h.increment] ++ listBytes dntBytes rs
  | .tlt c rs => amountBytes c ++ listBytes tltBytes rs
  | .plt rs => listBytes pltBytes rs

/-- The event flags that are set, in the order of R194, after a count byte (DESIGN CHOICE, logs 12 and 30). -/
def flagsBytes (v : EventFlags) : Bytes :=
  listBytes (fun n => [byteOf n])
      ((if v.linkLost then [1] else []) ++ (if v.linkRestored then [2] else []) ++
        (if v.dropDown.toList.any id then [3] else []) ++ (if v.drawerLeftOpen then [4] else []) ++
        (if v.alarm then [5] else []) ++ (if v.excessCash then [6] else []) ++ (if v.journalHighWater then [7] else []) ++
        (if v.journalFull then [8] else []) ++ (if v.loadAbandoned then [9] else []) ++
        (if v.adviceRefused then [10] else []) ++ (if v.suspectPosition then [11] else []) ++
        (if v.counterSaturated then [12] else []) ++ (if v.settleFailed then [13] else []) ++
        (if v.retentionLost then [14] else []) ++ (if v.unmatchedReply then [15] else []) ++
        (if v.mgmtOverrun then [16] else []))

/-- The stations of DROP_DOWN, after a count byte. -/
def dropDownBytes (v : EventFlags) : Bytes :=
  listBytes (fun st => [byteOf (Station.num st)]) (Station.all.filter v.dropDown.get)

/-- A line setup, in the order of R164. -/
def setupBytes (x : LineSetup) : Bytes :=
  [byteOf (roleCode x.role), 1] ++ flagBytes x.printerPresent ++ flagBytes x.mirrorPresent ++
    x.functions.toList.map (fun f => byteOf (lineFunctionCode f)) ++
    [byteOf x.depth, byteOf x.mirrorKey, byteOf x.mirrorMask, charByte x.mirrorFill]

/-- A test record: the mode that runs (0 none), and the counts (R178). -/
def testBytes (t : TestRecord) : Bytes :=
  [match t.mode with
    | .idle => 0
    | .echo => 1
    | .loop _ => 2, byteOf t.sent, byteOf t.matched, byteOf t.mismatched]

/-- A drop state of a line's report: 0 where the drop is not present or the line has no role. -/
def dropStateBytes (d : Option DropState) : Bytes := [byteOf ((d.map dropStateCode).getD 0)]

/-- A line as STATUS-READ reports it: its setup, its role again, which R196 names beside the setup, its drop states, its
printer state, book presence and queue length (0 where there is no printer), and its test record after a presence byte (R196)
(DESIGN CHOICE, log 12). -/
def lineReportBytes (l : LineReport) : Bytes :=
  setupBytes l.setup ++ [byteOf (roleCode l.setup.role)] ++
    dropStateBytes l.drops.d1 ++ dropStateBytes l.drops.d2 ++ dropStateBytes l.drops.d3 ++
    [byteOf ((l.printer.map printerStateCode).getD 0)] ++ flagBytes l.bookInserted ++ [byteOf l.queueLength] ++
    optionBytes testBytes l.test

/-- An error summary, in the order of R173. -/
def errorsBytes (p : Station × ErrorSummary) : Bytes :=
  [byteOf p.1.num, byteOf p.2.checkError, byteOf p.2.framing, byteOf p.2.unsolicited, byteOf p.2.noResponse]

/-- The content of a STATUS-READ reply, in the order of R196: the flags, the two counts, the stations of DROP_DOWN, and so
on; presence bytes before the settlement, its batch number and the oldest held sequence. The counts of events and of slots and
entries and a batch number take 2 bytes, sequences and the cursor 4, the time of day 3 with a flags byte, and every other number
1 (DESIGN CHOICE, log 12). -/
def statusBytes (r : StatusReport) : Bytes :=
  flagsBytes r.flags ++ beBytes 2 r.unmatchedReplies ++ beBytes 2 r.overruns ++ dropDownBytes r.flags ++
    [byteOf (dayStateCode r.day)] ++ dateBytes r.date ++
    optionBytes (fun x => [byteOf (phaseCode x.1)] ++ optionBytes (beBytes 2) x.2.1 ++ [byteOf x.2.2]) r.settlement ++
    [byteOf (linkStateCode r.link)] ++ beBytes 2 r.frameCheck ++ beBytes 2 r.frameForm ++ [byteOf r.ottEntries] ++
    r.ottPerStation.toList.map byteOf ++ [byteOf r.lateEntries] ++
    [byteOf r.standins, byteOf r.reversals, byteOf r.passbookUpdates, byteOf r.alarms, byteOf r.reservations,
     byteOf r.sent] ++ beBytes 2 r.unmatchedAcks ++ [byteOf r.mapEntries] ++
    beBytes 2 r.used ++ beBytes 2 r.reserved ++ beBytes 2 r.free ++ beBytes 2 r.entriesHeld ++
    [byteOf r.entryReservations] ++ beBytes 2 r.entriesFree ++ optionBytes (beBytes 4) r.oldestHeld ++
    beBytes 4 r.nextSeq ++ beBytes 4 r.lastAccepted ++ beBytes 4 r.printedCursor ++ beBytes 2 r.notStored ++
    beBytes 2 r.unmatchedBatchAcks ++ r.lines.toList.flatMap lineReportBytes ++ listBytes errorsBytes r.errors ++
    stampBytes r.clock

/-- The three counts of a denomination. -/
def countsBytes (c : Counts) : Bytes := beBytes 2 c.committed ++ beBytes 2 c.reservedOut ++ beBytes 2 c.pendingIn

/-- A position of a snapshot, in the order of R55: its number 1 byte, each count and the transaction count 2 (DESIGN CHOICE, log
12). -/
def positionBytes (p : Nat × Position) : Bytes :=
  [byteOf p.1, byteOf (positionStateCode p.2.state)] ++ listBytes countsBytes p.2.counts ++ amountBytes p.2.total ++
    amountBytes p.2.cashIn ++ amountBytes p.2.cashOut ++ amountBytes p.2.rounding ++ overShortBytes p.2.overShort ++
    beBytes 2 p.2.txCount ++ (if p.1 = 9 then [] else flagBytes p.2.excess)

/-- An entry of the account map, in the order of R103, the approval count in 2 bytes (DESIGN CHOICE, log 12). -/
def mapEntryBytes (e : MapEntry) : Bytes := textBytes e.account ++ amountBytes e.debit ++ beBytes 2 e.approvals

/-- The settings, in the order of R193, 2 bytes each and the journal mode 1 (DESIGN CHOICE, log 12). -/
def settingsBytes (s : Settings) : Bytes :=
  beBytes 2 s.linkSilence ++ beBytes 2 s.adviceAck ++ beBytes 2 s.batchAck ++ beBytes 2 s.pageTurn ++
    beBytes 2 s.drawerOpen ++ beBytes 2 s.highWater ++ [byteOf (journalModeCode s.journalMode)]

/-- The content of a management reply. The records held or committed of a TABLE-LOAD take 2 bytes; a TABLE-READ has a presence
byte before the load id, one byte for the number of records and one for the last index; the batch number of a SETTLE-RETRY is
preceded by a presence byte; a clamped setting is a name byte and a value of 2, a test count 1 byte, a teller 2 and each figure
of a DATE-ROLL 4 (DESIGN CHOICE, log 12). -/
def contentBytes : ReplyContent → Bytes
  | .nothing => []
  | .records n => beBytes 2 n
  | .tableRead id loadId total records last =>
    [byteOf (tableIdCode id)] ++ optionBytes (fun n => [byteOf n]) loadId ++ [byteOf total] ++ recordsBytes records ++
      [byteOf last]
  | .clamped items => listBytes (fun p => byteOf (settingNameCode p.1) :: beBytes 2 p.2) items
  | .settings s => settingsBytes s
  | .role r => [byteOf (roleCode r)]
  | .latches v => v.toList.map fun b => byteOf (levelCode b)
  | .testCounts a b c => [byteOf a, byteOf b, byteOf c]
  | .status r => statusBytes r
  | .totals snap records map day date marks =>
    snap.positions.flatMap positionBytes ++ sumsBytes snap.sums ++ listBytes tellerDayBytes records ++
      listBytes mapEntryBytes map ++ [byteOf (dayStateCode day)] ++ dateBytes date ++ listBytes (fun n => [byteOf n]) marks
  | .dayState d => [byteOf (dayStateCode d)]
  | .forced tellers positions d =>
    listBytes (beBytes 2) tellers ++ listBytes (fun n => [byteOf n]) positions ++ [byteOf (dayStateCode d)]
  | .retry p number => [byteOf (phaseCode p)] ++ optionBytes (beBytes 2) number
  | .rolled a b c => beBytes 4 a ++ beBytes 4 b ++ beBytes 4 c

/-- The item a refusal names, after its name: of a failed check the index in 1 byte, the reason as a text, and the item in 2
bytes after a presence byte; of IN_USE the item in 2 bytes (R159, R161, R202) (DESIGN CHOICE, log 12). -/
def statusItemBytes : MgmtStatus → Bytes
  | .checkFailed index reason item =>
    [byteOf index] ++ textBytes (checkReasonName reason) ++ optionBytes (beBytes 2) item
  | .inUse item => beBytes 2 item
  | _ => []

/-- The payload of a MGMT_REPLY: the request id, the status as a text of its name, the content (R202) (log 12). -/
def mgmtReplyBytes (r : MgmtReply) : Bytes :=
  [byteOf r.id] ++ textBytes (mgmtStatusName r.status) ++ statusItemBytes r.status ++ contentBytes r.content

/-! ## Messages (R182) -/

/-- The code of an outbound kind (section 12.1). -/
def outKindCode : OutMsg → Nat
  | .request _ => 17
  | .advice .. => 18
  | .mgmtReply _ => 19
  | .batch _ => 20
  | .linkAnswer .. => 21
  | .event _ => 22

/-- The source of an outbound message: the station of a REQUEST's reference, else 0 (R182). -/
def outSource : OutMsg → Nat
  | .request m => m.ref.station.num
  | .advice .. => 0
  | .mgmtReply _ => 0
  | .batch _ => 0
  | .linkAnswer .. => 0
  | .event _ => 0

/-- The payload of an outbound message (section 12.2); an EVENT carries its flag, its time and, for ALARM, the station (R195,
R201), and a LINK_ANSWER five bytes (DESIGN CHOICE, log 12, for their widths). -/
def outPayload : OutMsg → Bytes
  | .request m => requestBytes m
  | .advice n body => beBytes 2 n ++ [byteOf (adviceBodyCode body)] ++ adviceBytes body
  | .mgmtReply r => mgmtReplyBytes r
  | .batch b => batchBytes b
  | .linkAnswer n link day queued unsent =>
    [byteOf n, byteOf (linkStateCode link), byteOf (dayStateCode day), byteOf queued, byteOf unsent]
  | .event n =>
    [byteOf (eventFlagCode n.flag)] ++ stampBytes n.time ++ (n.station.map fun st => byteOf st.num).toList

/-- The frames an outbound message is sent in (R182). -/
def outFrames (m : OutMsg) : List Bytes := messageFrames (outSource m) (outKindCode m) (outPayload m)

end Sys2Proof.Machine
end

