-- ==== Sys2Proof/Machine/Link.lean ====
section
/-! DEFINITION. The Branch Link Controller (chapter 10): inbound frames and messages, link supervision, the outbound arbiter,
and the acknowledgements of advices and batches (R112, R125). -/

namespace Sys2Proof.Machine
open Sys2Proof

/-! ## Supervision (R185 to R187) -/

/-- Start or restart the silence timer (R185). -/
def restartSilence (s : State) : State :=
  onBlc (fun b => { b with silence := some (secondsAhead s.mrs.settings.linkSilence s) }) s

/-- The link state a restored link takes: RECOVERING where the queue holds a STANDIN advice, else UP (R187). -/
def restoredState (s : State) : LinkState := if holdsStandin s then .recovering else .up

/-- A valid frame restores a LOST link: state, timer, flag, status lines (R187). -/
def restoreLink (s : State) : State :=
  refreshAll (raise .linkRestored (restartSilence (onBlc (fun b => { b with link := restoredState s }) s)))

/-- A valid frame is taken: it restores a LOST link, else it restarts the silence timer (R185, R187). -/
def validFrame (s : State) : State := if s.blc.link = .lost then restoreLink s else restartSilence s

/-- The loss of the link, with each unit's part (R186). -/
def loseLink (s : State) : State :=
  let s1 := raise .linkLost (onBlc (fun b => { b with
    link := .lost, silence := none, reassembly := none, linkAnswer := none }) s)
  let s2 := returnAllUnsent (endQueued s1)
  let s3 := settlementLinkLost (onJrn (fun j => { j with trickle := none }) s2)
  refreshAll s3

/-- SILENCE_TIMER_EXPIRY (R186), in UP or RECOVERING; DAY then judges the settle condition (R134). -/
def execSilenceTimerExpiry (s : State) : Host.Outcome State Fault Refusal :=
  if s.blc.link = .lost then .next s else .next (judgeSettle (loseLink s))

/-! ## Counts (R181) -/

/-- Add 1 to the frame check count. -/
def countFrameCheck (s : State) : State :=
  onBlc (fun b => { b with frameCheck := satCount Config.topCounter b.frameCheck }) s

/-- Add 1 to the frame form count. -/
def countFrameForm (s : State) : State :=
  onBlc (fun b => { b with frameForm := satCount Config.topCounter b.frameForm }) s

/-! ## The dispatch of messages (R184) -/

/-- The last STANDIN advice has left the queue in RECOVERING: the link is UP (R112, R187). -/
def recoverLink (removed : Advice) (s : State) : State :=
  if adviceKind removed.body = .standin ∧ holdsStandin s = false ∧ s.blc.link = .recovering then
    refreshAll (onBlc (fun b => { b with link := .up }) s)
  else s

/-- The removal of an ALARM advice ends the alarm at its station: both images are sent (R76). -/
def alarmEnded (removed : Advice) (s : State) : State :=
  match removed.body with
  | .alarm st _ _ => pendBoth st s
  | _ => s

/-- Remove the SENT advice of a number from the queue, with what follows (R112). -/
def removeAdvice (a : Advice) (s : State) : State :=
  recoverLink a (alarmEnded a
    (onSda (fun d => { d with queue := d.queue.filter fun q => !isSentNumber a.number q }) s))

/-- An unmatched advice acknowledgement (R112). -/
def unmatchedAck (s : State) : State :=
  onSda (fun a => { a with unmatchedAcks := satCount Config.topCounter a.unmatchedAcks }) s

/-- The status of an acknowledgement: ACCEPTED (true), REFUSED or REJECTED (false), or neither. -/
def ackAccepted (a : Ack) : Option Bool :=
  match a.status with
  | 1 => some true
  | 2 => some false
  | _ => none

/-- The SDA takes an ADVICE_ACK (R112). -/
def takeAdviceAck (a : Option Ack) (s : State) : State :=
  match a with
  | none => unmatchedAck s
  | some k =>
    match ackAccepted k, sentAdvice k.number s with
    | some true, some x => removeAdvice x s
    | some false, some x => writeEntry 0 (refusedAdviceDraft x) (raise .adviceRefused (removeAdvice x s))
    | none, _ => unmatchedAck s
    | some _, none => unmatchedAck s

/-- An unmatched batch acknowledgement (R125). -/
def unmatchedBatchAck (s : State) : State :=
  onJrn (fun j => { j with unmatchedAcks := satCount Config.topCounter j.unmatchedAcks }) s

/-- The outstanding trickle batch of a number, if it is that. -/
def trickleOf (n : Nat) (s : State) : Option TrickleBatch := s.jrn.trickle.filter fun t => t.number = n

/-- The outstanding settlement batch of a number, if it is that. -/
def settlementOf (n : Nat) (s : State) : Option Batch := (outstandingSettlement s).filter fun b => b.number = n

/-- An outstanding trickle batch is answered (R125). An acceptance in SETTLING that leaves no entry to send ends the phase
JOURNAL (R139). -/
def answerTrickle (t : TrickleBatch) (accepted : Bool) (s : State) : State :=
  if accepted then phaseAfterAcceptance (acceptSequence t.batch.last (onJrn (fun j => { j with trickle := none }) s))
  else onJrn (fun j => { j with trickle := none, pause := some (secondsAhead s.mrs.settings.batchAck s) }) s

/-- The JRN takes a BATCH_ACK, handing those of settlement batches to DAY (R125, R142). -/
def takeBatchAck (a : Option Ack) (s : State) : State :=
  match a with
  | none => unmatchedBatchAck s
  | some k =>
    match ackAccepted k with
    | none => unmatchedBatchAck s
    | some ok =>
      match trickleOf k.number s, settlementOf k.number s with
      | some t, _ => answerTrickle t ok s
      | none, some b => if ok then settlementAccepted b s else settlementFails s
      | none, none => unmatchedBatchAck s

/-- The BLC answers a LINK_CHECK by a LINK_ANSWER in its class (R190). -/
def takeLinkCheck (n : Option Nat) (s : State) : State :=
  match n with
  | some n => onBlc (fun b => { b with linkAnswer := some n }) s
  | none => countFrameForm s

/-- A complete MGMT_REQ is placed in the request buffer, or is an overrun (R191). -/
def placeRequest (id : Nat) (r : MgmtRequest) (s : State) : State :=
  if s.mrs.places.length < Config.mgmtPlaces then addPlace id r false s else countOverrun s

/-- Dispatch a complete message to the owner of its kind (R184). -/
def dispatch (k : InboundKind) (dest : Nat) (payload : Bytes) (s : State) : State :=
  match k with
  | .reply =>
    match Station.ofNat? dest with
    | some st => judgeSettle (takeReply st (readReply payload) s)
    | none => s
  | .mgmtReq =>
    match readMgmt payload with
    | some (id, r) => placeRequest id r s
    | none => countFrameForm s
  | .adviceAck => judgeSettle (takeAdviceAck (readAck payload) s)
  | .batchAck => takeBatchAck (readAck payload) s
  | .linkCheck => takeLinkCheck (readCheckNumber payload) s

/-! ## Reassembly (R183) -/

/-- Set the reassembly. -/
def setReassembly (r : Option Reassembly) (s : State) : State := onBlc (fun b => { b with reassembly := r }) s

/-- Discard any part being gathered, counted once (R183). -/
def discardPart (s : State) : State :=
  match s.blc.reassembly with
  | some _ => countFrameForm (setReassembly none s)
  | none => s

/-- A valid frame with nothing being gathered (R183). -/
def takeFirstSegment (k : InboundKind) (dest segment : Nat) (last : Bool) (payload : Bytes) (s : State) : State :=
  if segment = 0 then
    if last then dispatch k dest payload s
    else setReassembly (some { kind := k, expected := 1, payload := payload }) s
  else countFrameForm s

/-- The segment a reassembly expects (R183). A message is dispatched with the destination of the frame that completes it:
the reassembly keeps none, and R21 compares a REPLY of several segments with "the frame's destination" (DESIGN CHOICE, log
9). -/
def takeNextSegment (g : Reassembly) (dest : Nat) (last : Bool) (payload : Bytes) (s : State) : State :=
  if last then dispatch g.kind dest (g.payload ++ payload) (setReassembly none s)
  else if 15 ≤ g.expected then countFrameForm (setReassembly none s)
  else setReassembly (some { g with expected := g.expected + 1, payload := g.payload ++ payload }) s

/-- Gather a valid frame (R183). -/
def gather (k : InboundKind) (dest segment : Nat) (last : Bool) (payload : Bytes) (s : State) : State :=
  match s.blc.reassembly with
  | none => takeFirstSegment k dest segment last payload s
  | some g =>
    if g.kind = k ∧ g.expected = segment then takeNextSegment g dest last payload s
    else takeFirstSegment k dest segment last payload (discardPart s)

/-! ## The inbound commands -/

/-- INBOUND_FRAME (R183): the frame is checked (R181), and a valid one is taken and gathered; a message it completes
is dispatched in the same step (DEDUCED, log 9). -/
def execInboundFrame (bytes : Bytes) (s : State) : Host.Outcome State Fault Refusal :=
  match judgeFrame bytes with
  | .frameCheck => .next (countFrameCheck s)
  | .frameForm => .next (countFrameForm s)
  | .valid k dest segment last payload => .next (gather k dest segment last payload (validFrame s))

/-- A message that arrives complete in one valid frame: the frame is taken, and any part being gathered is discarded
(R183, R185, R187) (DESIGN CHOICE, log 9). -/
def arrive (s : State) : State := discardPart (validFrame s)

/-- REPLY (R21); DAY then judges the settle condition (R134). -/
def execReply (dest : Station) (r : Option Reply) (s : State) : Host.Outcome State Fault Refusal :=
  .next (judgeSettle (takeReply dest r (arrive s)))

/-- MGMT_REQ (R191). -/
def execMgmtReq (id : Nat) (r : MgmtRequest) (s : State) : Host.Outcome State Fault Refusal :=
  .next (placeRequest id r (arrive s))

/-- ADVICE_ACK (R112); DAY then judges the settle condition (R134). -/
def execAdviceAck (a : Option Ack) (s : State) : Host.Outcome State Fault Refusal :=
  .next (judgeSettle (takeAdviceAck a (arrive s)))

/-- BATCH_ACK (R125). -/
def execBatchAck (a : Option Ack) (s : State) : Host.Outcome State Fault Refusal :=
  .next (takeBatchAck a (arrive s))

/-- LINK_CHECK (R190). -/
def execLinkCheck (number : Option Nat) (s : State) : Host.Outcome State Fault Refusal :=
  .next (takeLinkCheck number (arrive s))

/-! ## The arbiter (R188, R189) -/

/-- The classes of the arbiter (R188). -/
inductive OutClass where
  | linkAnswer | alarmAdvice | mgmtReply | request | otherAdvice | settlement | event | trickle
  deriving DecidableEq, Repr

/-- The rank of the classes by link state; none while LOST (R188). -/
def classOrder : LinkState → List OutClass
  | .up => [.linkAnswer, .alarmAdvice, .mgmtReply, .request, .otherAdvice, .settlement, .event, .trickle]
  | .recovering => [.linkAnswer, .alarmAdvice, .mgmtReply, .otherAdvice, .request, .settlement, .event, .trickle]
  | .lost => []

/-- The message of a class that is ready, if any, as it stands now (R189) (DEDUCED, log 11). -/
def readyMessage (s : State) : OutClass → Option OutMsg
  | .linkAnswer => s.blc.linkAnswer.map fun n =>
      .linkAnswer n s.blc.link s.day.state s.blc.requests.length (queueCount isUnsent s)
  | .alarmAdvice => (offeredAdvice s).bind fun a =>
      if adviceKind a.body = .alarm then some (.advice a.number a.body) else none
  | .otherAdvice => (offeredAdvice s).bind fun a =>
      if adviceKind a.body = .alarm then none else some (.advice a.number a.body)
  | .mgmtReply => s.blc.replies.head?.map .mgmtReply
  | .request => s.blc.requests.head?.map .request
  | .settlement => (settlementOffer s).map .batch
  | .event => s.blc.events.head?.map .event
  | .trickle => (trickleOffer s).map fun b => .batch { number := s.jrn.batchCounter, content := .journal b }

/-- The class the arbiter takes from: the highest that holds a ready message, with it (R188). -/
def arbiterChoice (s : State) : Option (OutClass × OutMsg) :=
  (classOrder s.blc.link).findSome? fun c => (readyMessage s c).map fun m => (c, m)

/-- A REQUEST is transmitted: its entry is AWAITING with its deadline (R19). -/
def requestSent (m : RequestMsg) (s : State) : State :=
  onTtr (fun t => { t with ott := t.ott.map fun e =>
    if e.ref = m.ref then { e with state := .awaiting (secondsAhead e.replyTimeout s) } else e })
    (onBlc (fun b => { b with requests := b.requests.tail }) s)

/-- An advice is transmitted: it is SENT with its deadline (R111). -/
def adviceSent (n : Nat) (s : State) : State :=
  onSda (fun a => { a with queue := a.queue.map (markSent n (secondsAhead s.mrs.settings.adviceAck s)) }) s

/-- A MGMT_REPLY is transmitted: the place of its request is freed (R191) (DEDUCED, log 8). -/
def replySent (s : State) : State :=
  onMrs (fun m => { m with places := m.places.tail }) (onBlc (fun b => { b with replies := b.replies.tail }) s)

/-- What the transmission of a message does at its owner (R189). -/
def ownerSent (c : OutClass) (m : OutMsg) (s : State) : State :=
  match c, m with
  | .linkAnswer, _ => onBlc (fun b => { b with linkAnswer := none }) s
  | .alarmAdvice, .advice n _ => adviceSent n s
  | .otherAdvice, .advice n _ => adviceSent n s
  | .mgmtReply, _ => replySent s
  | .request, .request r => requestSent r s
  | .settlement, .batch b => settlementSent b s
  | .event, _ => onBlc (fun b => { b with events := b.events.tail }) s
  | .trickle, .batch { content := .journal j, .. } => trickleSent j s
  | _, _ => s

/-- TRANSMIT (R188): the IDLE transmitter takes a message whole and is SENDING it (R182). -/
def execTransmit (s : State) : Host.Outcome State Fault Refusal :=
  if s.blc.sending.isSome then .next s
  else match arbiterChoice s with
    | some (c, m) => .next (onBlc (fun b => { b with sending := some (m, outFrames m) }) (ownerSent c m s))
    | none => .next s

/-- TRANSMIT_END (R182): the last segment has left; the transmitter is IDLE. -/
def execTransmitEnd (s : State) : Host.Outcome State Fault Refusal :=
  .next (onBlc (fun b => { b with sending := none }) s)

end Sys2Proof.Machine
end

