-- ==== Sys2Proof/Machine/Setups.lean ====
section
/-! DEFINITION. Line setups and roles (R164 to R167), the journal printer's print condition (R127), line tests (R178) and
line reset (R179). -/

namespace Sys2Proof.Machine
open Sys2Proof

/-! ## The judging of a LINE-SETUP (R165) -/

/-- A printable fill character (R164) (PRESUMED, logs 22 and 41: ASCII 32 to 126). -/
def printableCode (n : Nat) : Bool := decide (32 ≤ n) && decide (n ≤ 126)

/-- A function that no two discrete lines of a setup may share (R165). -/
def exclusive : LineFunction → Bool
  | .drawerRelease => true
  | .drawerSense => true
  | .alarmIn => true
  | .lamp => true
  | .spareIn => false
  | .spareOut => false

/-- No two discrete lines share an exclusive function (R165). -/
def functionsDistinct (v : Four LineFunction) : Bool :=
  DiscreteLine.all.all fun a => DiscreteLine.all.all fun b => a = b || !exclusive (v.get a) || v.get a ≠ v.get b

/-- The functions of a request, where all four are values of R174. -/
def readFunctions (v : Four Nat) : Option (Four LineFunction) :=
  match lineFunctionOfCode v.d1, lineFunctionOfCode v.d2, lineFunctionOfCode v.d3, lineFunctionOfCode v.d4 with
  | some a, some b, some c, some d => some ⟨a, b, c, d⟩
  | _, _, _, _ => none

/-- The setup a request carries, where every item passes check 1 (R165). -/
def readSetup (r : LineSetupRequest) : Option LineSetup :=
  match roleOfCode r.role, readFunctions r.functions with
  | some role, some fs =>
    if r.drop1 && functionsDistinct fs && decide (1 ≤ r.depth) && decide (r.depth ≤ 4) && decide (r.mirrorKey ≤ 15) &&
        decide (r.mirrorMask ≤ 15) && printableCode r.mirrorFill &&
        (role ≠ .journalPrinter || (!r.drop2 && !r.drop3)) then
      some { role := role, printerPresent := r.drop2, mirrorPresent := r.drop3, functions := fs, depth := r.depth,
             mirrorKey := r.mirrorKey, mirrorMask := r.mirrorMask, mirrorFill := Char.ofNat r.mirrorFill }
    else none
  | _, _ => none

/-- Checks 2 to 4 of a LINE-SETUP, in order; the refusal, if any (R165). -/
def setupRefusal (st : Station) (x : LineSetup) (s : State) : Option MgmtStatus :=
  let l := lineOf st s
  if x.role ≠ .off ∧ ((l.setup.role ≠ .off ∧ x.role ≠ l.setup.role) ∨ testRuns l = true) then some .roleOrder
  else if x.role = .journalPrinter ∧ l.setup.role = .off ∧ printerRoleHeld s = true then some .roleConflict
  else if x.role ≠ .off ∧ x.role = l.setup.role ∧
      (x.printerPresent ≠ l.setup.printerPresent ∨ x.mirrorPresent ≠ l.setup.mirrorPresent ∨
        x.functions ≠ l.setup.functions) then some .roleOrder
  else none

/-! ## Replacing the items (R165, R176) -/

/-- The drawer watch after a change of functions: kept where the DRAWER_SENSE wire is the same; ended where the function
has left its wire; begun where a wire that becomes DRAWER_SENSE reads OPEN (R176). The level of that wire comes from
outside: a free value (log 7). -/
def rewatchDrawer (st : Station) (old new : Option DiscreteLine) (s : State) : State :=
  if old = new then s
  else match new with
    | none => endDrawerWatch st s
    | some d =>
      let level := sampledLevel d s
      let s1 := nextSample (onLine st (fun l => { l with drawerOpen := level }) (endDrawerWatch st s))
      if level then startDrawerTimer st s1 else s1

/-- Replace every item of a line's setup (R165). A release pulse that runs goes on and drives whichever line now has
DRAWER_RELEASE, or none (DESIGN CHOICE, log 37). -/
def replaceSetup (st : Station) (x : LineSetup) (s : State) : State :=
  rewatchDrawer st (lineWith .drawerSense (lineOf st s).setup) (lineWith .drawerSense x)
    (onLine st (fun l => { l with setup := x }) s)

/-! ## Taking a role (R127, R166) -/

/-- The printed cursor of a new journal printer: the oldest held sequence less 1, or the last sequence written (R127). -/
def startCursor (s : State) : Nat :=
  match oldestHeld s with
  | some n => n - 1
  | none => s.jrn.nextSeq - 1

/-- The line's drops and exchanges as a role begins (R166); no drop counts as last polled or selected (DESIGN CHOICE,
log 22). -/
def freshLine (l : Line) : Line :=
  { l with
    drops := freshDrops l.setup
    exchange := none
    buffer := []
    lastPolled := none
    lastSelected := none
    lastWasSelect := false
    sweeping := false
    sweep := [] }

/-- The printer context of a station whose line takes role TELLER: made where drop 2 is present (R77, R166). -/
def makePrinter (st : Station) (s : State) : State :=
  setPrinter st (if (lineOf st s).setup.printerPresent then some PrinterContext.fresh else none) s

/-- A line takes the role its setup now names, from OFF (R166). -/
def takeRole (st : Station) (s : State) : State :=
  let s1 := onLine st freshLine s
  match (lineOf st s).setup.role with
  | .teller => freshContext st (makePrinter st s1)
  | .journalPrinter => onJrn (fun j => { j with printedCursor := startCursor s }) s1
  | .off => s1

/-! ## Setting a line OFF (R127, R167) -/

/-- The line as the setting to OFF leaves it: its exchange and buffer dropped, its drops without a state (R167). -/
def offLine (l : Line) : Line :=
  { l with
    setup := { l.setup with role := .off }
    drops := ⟨none, none, none⟩
    exchange := none
    buffer := []
    sweeping := false
    sweep := [] }

/-- Sign off the station's teller, if one is signed on, as the line is set OFF (R63, R167). -/
def signOffAt (st : Station) (s : State) : State :=
  match tellerAt st s with
  | some t => signOff st t s
  | none => s

/-- Set a line in role TELLER OFF: its teller, its screen, its transactions, its print jobs and its traffic (R167). The
transactions end before the jobs (DESIGN CHOICE, log 32). -/
def setTellerOff (st : Station) (s : State) : State :=
  let teller := tellerAt st s
  let s1 := abandonAll .abandonedOnLineOff (fun e => e.ref.station = st) (clearContext st (signOffAt st s))
  onLine st offLine (removePrinter st teller s1)

/-- Set a line OFF: a journal printer's print condition is taken away and freeing follows (R127, R167). -/
def setOff (st : Station) (s : State) : State :=
  match (lineOf st s).setup.role with
  | .teller => setTellerOff st s
  | .journalPrinter => freeEntries (onLine st offLine s)
  | .off => s

/-- Carry out a LINE-SETUP that has passed (R165). -/
def carrySetup (st : Station) (x : LineSetup) (s : State) : State :=
  match (lineOf st s).setup.role, x.role with
  | .off, .off => replaceSetup st x s
  | .off, _ => takeRole st (replaceSetup st x s)
  | _, .off => replaceSetup st x (setOff st s)
  | _, _ => onLine st (fun l => { l with setup := { l.setup with
      depth := x.depth, mirrorKey := x.mirrorKey, mirrorMask := x.mirrorMask, mirrorFill := x.mirrorFill } }) s

/-- The SLC takes a LINE-SETUP (R165). -/
def takeLineSetup (id : Nat) (r : LineSetupRequest) (s : State) : State :=
  match Station.ofNat? r.line, readSetup r with
  | some st, some x =>
    match setupRefusal st x s with
    | some why => refuseRequest id why s
    | none => answer id .done (.role x.role) (carrySetup st x s)
  | _, _ => refuseRequest id .badRequest s

/-- LINE_SETUP (R165); DAY then judges the settle condition (R134). -/
def execLineSetup (id : Nat) (r : LineSetupRequest) (s : State) : Host.Outcome State Fault Refusal :=
  .next (withRequest id (.lineSetup r) (fun x => judgeSettle (takeLineSetup id r x)) s)

/-! ## Line tests (R178) -/

/-- The record of a line's test, or one of zero counts. -/
def testRecord (l : Line) : TestRecord :=
  l.test.getD { mode := .idle, sent := 0, matched := 0, mismatched := 0, stopping := none }

/-- A LINE-TEST STOP: a loop goes on to the end of the frame being judged, and its reply waits for it (R178) (DESIGN
CHOICE, log 23). -/
def takeStop (id : Nat) (st : Station) (s : State) : State :=
  let l := lineOf st s
  match l.test with
  | none => answer id .done (testCounts none) s
  | some t =>
    match t.mode with
    | .loop _ => onLine st (fun l => { l with test := some { t with stopping := some id } }) s
    | .echo => answer id .done (testCounts l.test) (onLine st (fun l => { l with test := some { t with mode := .idle } }) s)
    | .idle => answer id .done (testCounts l.test) s

/-- The SLC takes a LINE-TEST: mode 1 ECHO, 2 LOOP, 3 STOP (R178). A loop sends its first frame as it begins (DEDUCED,
log 23). A count outside its range is refused BAD_REQUEST also on a line that a role or a test would refuse ROLE_ORDER (DESIGN
CHOICE, log 23). -/
def takeLineTest (id line mode count : Nat) (s : State) : State :=
  match Station.ofNat? line with
  | none => refuseRequest id .badRequest s
  | some st =>
    let l := lineOf st s
    if mode < 1 ∨ 3 < mode ∨ (mode = 2 ∧ (count < 1 ∨ 255 < count)) then refuseRequest id .badRequest s
    else if l.setup.role ≠ .off then refuseRequest id .roleOrder s
    else if mode = 3 then takeStop id st s
    else if testRuns l then refuseRequest id .roleOrder s
    else if mode = 1 then
      answer id .done .nothing (onLine st (fun l => { l with test := some { testRecord l with mode := .echo } }) s)
    else
      answer id .done .nothing (onLine st (fun l => { l with
        test := some { mode := .loop count, sent := 1, matched := 0, mismatched := 0, stopping := none } }) s)

/-- LINE_TEST (R178). -/
def execLineTest (id line mode count : Nat) (s : State) : Host.Outcome State Fault Refusal :=
  .next (withRequest id (.lineTest line mode count) (takeLineTest id line mode count) s)

/-! ## Line reset (R179) -/

/-- The line after a LINE-RESET: the exchange, the buffer, the error counts and the test gone, its drops NEW (R179). A sweep that
runs goes on with the drops it has still to poll, a poll of it that was dropped counting as made, and is over where none is left
(DESIGN CHOICE, log 22). -/
def resetLine (l : Line) : Line :=
  { l with
    exchange := none
    buffer := []
    sweeping := l.sweeping && l.sweep ≠ []
    drops := freshDrops l.setup
    errors := ErrorSummary.zero
    test := none }

/-- The SLC takes a LINE-RESET (R179). -/
def takeLineReset (id line : Nat) (s : State) : State :=
  match Station.ofNat? line with
  | none => refuseRequest id .badRequest s
  | some st => answer id .done .nothing (pendBoth st (onLine st resetLine s))

/-- LINE_RESET (R179). -/
def execLineReset (id line : Nat) (s : State) : Host.Outcome State Fault Refusal :=
  .next (withRequest id (.lineReset line) (takeLineReset id line) s)

end Sys2Proof.Machine
end

