-- ==== Sys2Proof/Machine/Tables.lean ====
section
/-! DEFINITION. The Table Store (chapter 8): loads and their fragments, the commit check and the commit, and table reads. -/

namespace Sys2Proof.Machine
open Sys2Proof

/-- A failed check: its reason and the item it names (R159). -/
abbrev CheckFailure := CheckReason × Option Nat

/-! ## The records of the commit check (R150 to R154) -/

/-- A value lies in a range. -/
def within (lo hi n : Nat) : Bool := decide (lo ≤ n) && decide (n ≤ hi)

/-- The local action of a record: none (0), or one of the list. -/
def readAction (n : Nat) : Option (Option LocalAction) :=
  if n = 0 then some none else (localActionOfCode n).map some

/-- The numbers of a TCT record lie in their ranges (R150). -/
def tctInRange (r : RawTct) : Bool :=
  within 1 999 r.code && decide (r.name.length ≤ 12) && within 1 64 r.requestFormat && within 1 64 r.approveFormat &&
    within 1 64 r.declineFormat && within 5 120 r.replyTimeout && decide (r.offlineCeiling ≤ Config.topAmount) &&
    decide (r.accountTag ≤ 63) && decide (r.amountTag ≤ 63)

/-- A TCT record with its enumerated values read, where every value is in range (R150). -/
def typedTct (r : RawTct) : Option TctRec :=
  match routingOfCode r.routing, readAction r.localAction, dayClassOfCode r.dayClass, authorityOfCode r.minAuthority,
    cashDirectionOfCode r.cashDirection, passbookUseOfCode r.passbookUse with
  | some routing, some action, some cls, some auth, some dir, some use =>
    if tctInRange r then
      some { code := r.code, name := r.name, routing := routing, localAction := action, dayClass := cls,
             minAuthority := auth, requestFormat := r.requestFormat, approveFormat := r.approveFormat,
             declineFormat := r.declineFormat, cashDirection := dir, replyTimeout := r.replyTimeout,
             offlineCeiling := r.offlineCeiling, passbookUse := use, accountTag := r.accountTag, amountTag := r.amountTag }
    else none
  | _, _, _, _, _, _ => none

/-- The rule LOCAL_FIELDS (R150). -/
def localFieldsOk (r : TctRec) : Bool :=
  match r.routing with
  | .localCode => r.localAction.isSome && r.cashDirection = .noCash && r.passbookUse = .notUsed
  | .online => r.localAction.isNone
  | .onlineStandin => r.localAction.isNone

/-- The rule STANDIN_PASSBOOK (R150). -/
def standinPassbookOk (r : TctRec) : Bool := !(r.routing = .onlineStandin && r.passbookUse = .required)

/-- Check a TCT record against those before it (R150, R159). A record with a value out of range is reported RANGE whatever rule
it also breaks, and one that breaks both rules LOCAL_FIELDS (DESIGN CHOICE, log 35). -/
def checkTct (before : List TctRec) (r : RawTct) : Except CheckFailure TctRec :=
  match typedTct r with
  | none => .error (.range, some r.code)
  | some t =>
    if !localFieldsOk t then .error (.localFields, some t.code)
    else if !standinPassbookOk t then .error (.standinPassbook, some t.code)
    else if before.any fun b => b.code = t.code then .error (.duplicate, some t.code)
    else .ok t

/-- A field of a format, where its values are in range (R151). -/
def typedField (f : RawField) : Option SftField :=
  match fieldKindOfCode f.kind, fieldSourceOfCode f.source with
  | some kind, some source =>
    if within 1 63 f.tag && within 1 23 f.row && within 1 80 f.column && within 1 40 f.length &&
        decide (f.column + f.length - 1 ≤ 80) && decide (f.cls ≤ 15) then
      some { tag := f.tag, row := f.row, column := f.column, length := f.length, cls := f.cls, kind := kind,
             required := f.required, source := source }
    else none
  | _, _ => none

/-- Check the fields of a format in order: each in range, its tag not repeated (R151). Which of several failures is reported
follows from that order (DESIGN CHOICE, log 35). -/
def checkSftFields : List SftField → List RawField → Except CheckFailure (List SftField)
  | done, [] => .ok done
  | done, f :: rest =>
    match typedField f with
    | none => .error (.range, some f.tag)
    | some x =>
      if done.any fun d => d.tag = x.tag then .error (.duplicate, some x.tag) else checkSftFields (done ++ [x]) rest

/-- Check an SFT format against those before it (R151, R159). A failure of the format's own number, kind, title or field count
is reported before any of its fields' (DESIGN CHOICE, log 35). -/
def checkSft (before : List SftFormat) (r : RawFormat) : Except CheckFailure SftFormat :=
  match formatKindOfCode r.kind with
  | none => .error (.range, some r.number)
  | some kind =>
    if !within 1 64 r.number || decide (30 < r.title.length) || decide (24 < r.fields.length) then
      .error (.range, some r.number)
    else match checkSftFields [] r.fields with
      | .error e => .error e
      | .ok fields =>
        if before.any fun b => b.number = r.number then .error (.duplicate, some r.number)
        else .ok { number := r.number, kind := kind, title := r.title, fields := fields }

/-- The header of the DNT is in range (R152). -/
def dntHeaderOk (h : DntHeader) : Bool := decide (h.decimals ≤ 3) && [1, 5, 10, 25, 50, 100].contains h.increment

/-- Check a DNT record against those before it: range, INCREMENT, ORDER (R152, R159). The item is its index. A record with a
value out of range is reported RANGE also where its face breaks INCREMENT (DESIGN CHOICE, log 35). -/
def checkDnt (increment : Nat) (before : List DntRec) (r : RawDnt) : Except CheckFailure DntRec :=
  let index := before.length + 1
  match moneyKindOfCode r.kind with
  | none => .error (.range, some index)
  | some kind =>
    if !within 1 1000000000 r.face || decide (Config.topCount < r.floor) then .error (.range, some index)
    else if r.face % increment ≠ 0 then .error (.increment, some index)
    else if (before.getLast?.map fun b => decide (b.face ≤ r.face)).getD false then .error (.order, some index)
    else .ok { face := r.face, kind := kind, floor := r.floor }

/-- Check a TLT record against those before it (R153, R159). A record with a value out of range is reported RANGE also where its
limits break LIMITS (DESIGN CHOICE, log 35). -/
def checkTlt (before : List TltRec) (r : RawTlt) : Except CheckFailure TltRec :=
  match authorityOfCode r.authority with
  | none => .error (.range, some r.teller)
  | some auth =>
    if !within 1 9999 r.teller || decide (Config.topTotal < r.softLimit) || decide (Config.topTotal < r.hardLimit) ||
        decide (Config.topTotal < r.standinCeiling) then .error (.range, some r.teller)
    else if r.hardLimit < r.softLimit then .error (.limits, some r.teller)
    else if before.any fun b => b.teller = r.teller then .error (.duplicate, some r.teller)
    else .ok { teller := r.teller, authority := auth, softLimit := r.softLimit, hardLimit := r.hardLimit,
               standinCeiling := r.standinCeiling }

/-- A column and a width lie in their ranges (R154). -/
def placeInRange (p : FieldPlace) : Bool := within 1 80 p.column && within 1 40 p.width

/-- The four fields of a layout. -/
def layoutPlaces (r : PltRec) : List FieldPlace := [r.date, r.code, r.amount, r.balance]

/-- Two places share a column (R154). -/
def sharesColumn (a b : FieldPlace) : Bool :=
  decide (a.column ≤ b.column + b.width - 1) && decide (b.column ≤ a.column + a.width - 1)

/-- The layout rule of a PLT record (R154). -/
def layoutOk (r : PltRec) : Bool :=
  decide (r.firstLine ≤ r.linesPerPage) && (layoutPlaces r).all (fun p => decide (p.column + p.width - 1 ≤ 80)) &&
    !(sharesColumn r.date r.code || sharesColumn r.date r.amount || sharesColumn r.date r.balance ||
      sharesColumn r.code r.amount || sharesColumn r.code r.balance || sharesColumn r.amount r.balance)

/-- Check a PLT record against those before it (R154, R159). A record with a value out of range is reported RANGE also where it
breaks LAYOUT (DESIGN CHOICE, log 35). -/
def checkPlt (before : List PltRec) (r : PltRec) : Except CheckFailure PltRec :=
  if !within 1 8 r.bookType || !within 10 30 r.linesPerPage || !within 1 32 r.pages || !within 1 30 r.firstLine ||
      !(layoutPlaces r).all placeInRange then .error (.range, some r.bookType)
  else if !layoutOk r then .error (.layout, some r.bookType)
  else if before.any fun b => b.bookType = r.bookType then .error (.duplicate, some r.bookType)
  else .ok r

/-- Check the records of a shadow in index order; the first failure gives its index (R159, step 3). -/
def checkRecords {α β : Type} (check : List β → α → Except CheckFailure β) :
    List β → List α → Except MgmtStatus (List β)
  | done, [] => .ok done
  | done, r :: rest =>
    match check done r with
    | .error (reason, item) => .error (.checkFailed (done.length + 1) reason item)
    | .ok x => checkRecords check (done ++ [x]) rest

/-! ## Cross-references (R160) -/

/-- The first of a list of tests that fails. -/
def firstFailure : List (Option CheckFailure) → Option CheckFailure
  | [] => none
  | some e :: _ => some e
  | none :: rest => firstFailure rest

/-- A format of a number in a list of formats. -/
def findFormat (sft : List SftFormat) (n : Nat) : Option SftFormat := sft.find? fun f => f.number = n

/-- A named format is missing. -/
def formatMissing (sft : List SftFormat) (n : Nat) : Option CheckFailure :=
  if (findFormat sft n).isSome then none else some (.formatMissing, some n)

/-- A named format is of another kind. -/
def formatKindWrong (sft : List SftFormat) (kind : FormatKind) (n : Nat) : Option CheckFailure :=
  match findFormat sft n with
  | some f => if f.kind = kind then none else some (.formatKind, some n)
  | none => none

/-- A non-zero tag is not a field of a kind of the request format. -/
def fieldTagWrong (sft : List SftFormat) (n tag : Nat) (kind : FieldKind) : Option CheckFailure :=
  if tag = 0 then none
  else match (findFormat sft n).bind fun f => formatField f tag with
    | some f => if f.kind = kind then none else some (.fieldTag, some tag)
    | none => some (.fieldTag, some tag)

/-- The formats and tags a TCT record names, checked against formats (R160). Within a record the requirements are tested in the
order of the table of R160, each for the request, approve and decline format in turn (DESIGN CHOICE, log 35). -/
def formatsSuit (sft : List SftFormat) (r : TctRec) : Option CheckFailure :=
  firstFailure
    [ formatMissing sft r.requestFormat, formatMissing sft r.approveFormat, formatMissing sft r.declineFormat,
      formatKindWrong sft .input r.requestFormat, formatKindWrong sft .output r.approveFormat,
      formatKindWrong sft .output r.declineFormat, fieldTagWrong sft r.requestFormat r.accountTag .numeric,
      fieldTagWrong sft r.requestFormat r.amountTag .amount ]

/-- A record needs denominations (R160). -/
def needsDenominations (r : TctRec) : Bool :=
  r.cashDirection ≠ .noCash || r.localAction = some .toReserve || r.localAction = some .fromReserve ||
    r.localAction = some .balance || r.localAction = some .positionEnquiry

/-- The cross-references of a TCT, its records in index order from i on (R160). NO_DENOMINATIONS is tested last within a record
(DESIGN CHOICE, log 35). -/
def crossTct (sft : List SftFormat) (dnt : List DntRec) : Nat → List TctRec → Option MgmtStatus
  | _, [] => none
  | i, r :: rest =>
    match formatsSuit sft r with
    | some (reason, item) => some (.checkFailed i reason item)
    | none =>
      if needsDenominations r ∧ dnt = [] then some (.checkFailed i .noDenominations (some r.code))
      else crossTct sft dnt (i + 1) rest

/-- The cross-references of an SFT against the active TCT, reported at index 0 (R160). -/
def crossSft (tct : List TctRec) (sft : List SftFormat) : Option MgmtStatus :=
  (firstFailure (tct.map (formatsSuit sft))).map fun e => .checkFailed 0 e.1 e.2

/-! ## In use (R161) -/

/-- The first signed-on teller whom a TLT does not hold (R161). -/
def tellerInUse (tlt : List TltRec) (s : State) : Option MgmtStatus :=
  Station.all.findSome? fun st =>
    match tellerAt st s with
    | some t => if tlt.any fun r => r.teller = t then none else some (.inUse t)
    | none => none

/-- A position holds a count above 0 at a denomination index (R56). -/
def holdsAt (i : Nat) (p : Position) : Bool :=
  let c := countsAt p i
  decide (0 < c.committed) || decide (0 < c.reservedOut) || decide (0 < c.pendingIn)

/-- The denomination indices of the active DNT that some position holds (R161). -/
def heldIndices (s : State) : List Nat :=
  ((List.range s.tbl.dnt.length).map (· + 1)).filter fun i =>
    s.csh.drawers.toList.any (holdsAt i) || holdsAt i s.csh.reserve

/-- The face at an index of a table. -/
def faceAt (dnt : List DntRec) (i : Nat) : Option Nat := if i = 0 then none else (dnt[i - 1]?).map DntRec.face

/-- A DNT that would not keep the held denominations (R161). -/
def dntInUse (new : List DntRec) (s : State) : Option MgmtStatus :=
  let held := heldIndices s
  if held = [] then none
  else if new.length ≠ s.tbl.dnt.length then some (.inUse 0)
  else (held.find? fun i => faceAt new i ≠ faceAt s.tbl.dnt i).map MgmtStatus.inUse

/-! ## The commit (R159, R162) -/

/-- A checked table, ready to become active. -/
inductive CheckedTable where
  | tct (records : List TctRec)
  | sft (records : List SftFormat)
  | dnt (header : DntHeader) (records : List DntRec)
  | tlt (ceiling : Nat) (records : List TltRec)
  | plt (records : List PltRec)
  deriving DecidableEq, Repr

/-- The checked table, unless a last test refuses it. -/
def unlessRefused (t : CheckedTable) : Option MgmtStatus → Except MgmtStatus CheckedTable
  | some why => .error why
  | none => .ok t

/-- The check of a DNT's records, table and counts, its gate and header passed (R159). -/
def checkDntTable (h : DntHeader) (rs : List RawDnt) (s : State) : Except MgmtStatus CheckedTable :=
  match checkRecords (checkDnt h.increment) [] rs with
  | .error why => .error why
  | .ok xs =>
    if xs = [] then .error (.checkFailed 0 .range none) else unlessRefused (.dnt h xs) (dntInUse xs s)

/-- The commit check of a DNT (R159). -/
def commitCheckDnt (h : DntHeader) (rs : List RawDnt) (s : State) : Except MgmtStatus CheckedTable :=
  if s.day.state ≠ .noDate ∧ s.day.state ≠ .settled then .error .wrongDayState
  else if !dntHeaderOk h then .error (.checkFailed 0 .range none)
  else checkDntTable h rs s

/-- The commit check of a whole shadow, its steps in order (R159). -/
def commitCheck (shadow : FragmentBody) (s : State) : Except MgmtStatus CheckedTable :=
  match shadow with
  | .tct rs =>
    match checkRecords checkTct [] rs with
    | .error why => .error why
    | .ok xs => unlessRefused (.tct xs) (crossTct s.tbl.sft s.tbl.dnt 1 xs)
  | .sft rs =>
    match checkRecords checkSft [] rs with
    | .error why => .error why
    | .ok xs => unlessRefused (.sft xs) (crossSft s.tbl.tct xs)
  | .dnt h rs => commitCheckDnt (h.getD ⟨0, 0⟩) rs s
  | .tlt h rs =>
    if Config.topTotal < h.getD 0 then .error (.checkFailed 0 .range none)
    else match checkRecords checkTlt [] rs with
      | .error why => .error why
      | .ok xs => unlessRefused (.tlt (h.getD 0) xs) (tellerInUse xs s)
  | .plt rs =>
    match checkRecords checkPlt [] rs with
    | .error why => .error why
    | .ok xs => .ok (.plt xs)

/-- The table a checked table is. -/
def checkedId : CheckedTable → TableId
  | .tct _ => .tct
  | .sft _ => .sft
  | .dnt .. => .dnt
  | .tlt .. => .tlt
  | .plt _ => .plt

/-- The number of records of a checked table. -/
def checkedCount : CheckedTable → Nat
  | .tct rs => rs.length
  | .sft rs => rs.length
  | .dnt _ rs => rs.length
  | .tlt _ rs => rs.length
  | .plt rs => rs.length

/-- A checked table becomes the active copy, with its load id; for a DNT, each position takes its counts for the new
table (R56, R162). -/
def activate (t : CheckedTable) (loadId : Nat) (s : State) : State :=
  match t with
  | .tct rs => onTbl (fun x => { x with tct := rs, tctId := some loadId }) s
  | .sft rs => onTbl (fun x => { x with sft := rs, sftId := some loadId }) s
  | .dnt h rs =>
    onCsh (onPositions fun p => { p with counts := recount rs s.tbl.dnt p.counts })
      (onTbl (fun x => { x with dnt := rs, dntHeader := h, dntId := some loadId }) s)
  | .tlt c rs => onTbl (fun x => { x with tlt := rs, tltCeiling := c, tltId := some loadId }) s
  | .plt rs => onTbl (fun x => { x with plt := rs, pltId := some loadId }) s

/-- A commit may change the sign-on prompt (R162). -/
def changesPrompt : CheckedTable → Bool
  | .tct _ => true
  | .sft _ => true
  | .dnt .. => false
  | .tlt .. => false
  | .plt _ => false

/-- Recompose the sign-on prompt of a station that shows one, its message kept (R162). -/
def recomposePrompt (st : Station) (s : State) : State :=
  match contextOf st s with
  | some c => if c.mode = .signOnPrompt then composePrompt st c.message s else s
  | none => s

/-- The TABLE entry of a commit (R117, R162). -/
def tableDraft (id : TableId) (loadId count : Nat) : Draft :=
  { station := none, teller := none, body := .table id loadId count, account := none, amounts := none, breakdown := [] }

/-- The context becomes IDLE and the shadow empty. -/
def endLoad (s : State) : State := onTbl (fun x => { x with load := none }) s

/-- Commit a checked table (R162). -/
def commitTable (t : CheckedTable) (loadId : Nat) (s : State) : State :=
  let s1 := writeEntry 0 (tableDraft (checkedId t) loadId (checkedCount t)) (endLoad (activate t loadId s))
  if changesPrompt t then forStations recomposePrompt s1 else s1

/-! ## Fragments (R155 to R157) -/

/-- The table of a fragment. -/
def bodyTable : FragmentBody → TableId
  | .tct _ => .tct
  | .sft _ => .sft
  | .dnt .. => .dnt
  | .tlt .. => .tlt
  | .plt _ => .plt

/-- A fragment carries a header where it may not, or lacks one it must carry (R155). -/
def badHeader (f : Fragment) : Bool :=
  match f.body with
  | .dnt h _ => h.isSome != decide (f.number = 0)
  | .tlt h _ => h.isSome != decide (f.number = 0)
  | .tct _ => false
  | .sft _ => false
  | .plt _ => false

/-- The records of a shadow or a fragment. -/
def recordCount : FragmentBody → Nat
  | .tct rs => rs.length
  | .sft rs => rs.length
  | .dnt _ rs => rs.length
  | .tlt _ rs => rs.length
  | .plt rs => rs.length

/-- The fields of a shadow's or a fragment's formats. -/
def fieldCount : FragmentBody → Nat
  | .sft rs => (rs.map fun f => f.fields.length).sum
  | _ => 0

/-- The records a table may hold (R157). -/
def tableCapacity : TableId → Nat
  | .tct => 128
  | .sft => 64
  | .dnt => 16
  | .tlt => 64
  | .plt => 8

/-- Records appended to a shadow of the same table; the shadow's header stays. -/
def appendBody : FragmentBody → FragmentBody → FragmentBody
  | .tct a, .tct b => .tct (a ++ b)
  | .sft a, .sft b => .sft (a ++ b)
  | .dnt h a, .dnt _ b => .dnt h (a ++ b)
  | .tlt h a, .tlt _ b => .tlt h (a ++ b)
  | .plt a, .plt b => .plt (a ++ b)
  | a, _ => a

/-- The capacity test on a shadow as it would be filled (R157). -/
def fits (b : FragmentBody) : Bool :=
  decide (recordCount b ≤ tableCapacity (bodyTable b)) && decide (fieldCount b ≤ 1024)

/-- A fragment belongs to the running load: table and load id equal (R155). -/
def belongs (c : LoadContext) (f : Fragment) : Bool :=
  decide (bodyTable c.shadow = bodyTable f.body) && decide (c.loadId = f.loadId)

/-- The shadow with a fragment accepted: the load goes on, or its last fragment starts the commit check; with the capacity
test first (R156, R157, R159). -/
def fillShadow (id : Nat) (f : Fragment) (shadow : FragmentBody) (s : State) : State :=
  if !fits shadow then refuseRequest id .capacity (endLoad s)
  else if f.last then
    match commitCheck shadow s with
    | .error why => refuseRequest id why (endLoad s)
    | .ok t => answer id .committed (.records (checkedCount t)) (commitTable t f.loadId s)
  else
    answer id .accepted (.records (recordCount shadow))
      (onTbl (fun x => { x with
        load := some { loadId := f.loadId, next := f.number + 1, deadline := millisAhead Config.loadIdleTime s,
                       shadow := shadow } }) s)

/-- The TBL takes a fragment (R155 to R157). -/
def takeFragment (id : Nat) (f : Fragment) (s : State) : State :=
  if badHeader f then refuseRequest id .badRequest s
  else match s.tbl.load with
    | none => if f.number = 0 then fillShadow id f f.body s else refuseRequest id .notLoading s
    | some c =>
      if !belongs c f then refuseRequest id .loadBusy s
      else if f.number = 0 then fillShadow id f f.body s
      else if f.number ≠ c.next then refuseRequest id .sequence (endLoad s)
      else fillShadow id f (appendBody c.shadow f.body) s

/-- TABLE_LOAD (R156). -/
def execTableLoad (id : Nat) (f : Fragment) (s : State) : Host.Outcome State Fault Refusal :=
  .next (withRequest id (.tableLoad f) (takeFragment id f) s)

/-- The TBL takes a TABLE-ABORT (R158). -/
def takeTableAbort (id : Nat) (s : State) : State :=
  match s.tbl.load with
  | some _ => answer id .done .nothing (endLoad s)
  | none => refuseRequest id .notLoading s

/-- TABLE_ABORT (R158). -/
def execTableAbort (id : Nat) (s : State) : Host.Outcome State Fault Refusal :=
  .next (withRequest id .tableAbort (takeTableAbort id) s)

/-- LOAD_IDLE_EXPIRY (R158): the load is aborted and LOAD_ABANDONED raised. -/
def execLoadIdleExpiry (s : State) : Host.Outcome State Fault Refusal :=
  match s.tbl.load with
  | some _ => .next (raise .loadAbandoned (endLoad s))
  | none => .next s

/-! ## Table reads (R163) -/

/-- As many whole records, from the front, as fit in so many bytes. -/
def fitting {α : Type} (size : α → Nat) : Nat → List α → List α
  | _, [] => []
  | room, x :: rest => if size x ≤ room then x :: fitting size (room - size x) rest else []

/-- The active load id of a table (R148). -/
def activeId (t : TableId) (s : State) : Option Nat :=
  match t with
  | .tct => s.tbl.tctId
  | .sft => s.tbl.sftId
  | .dnt => s.tbl.dntId
  | .tlt => s.tbl.tltId
  | .plt => s.tbl.pltId

/-- The bytes a TABLE-READ reply takes with no record in it. -/
def readBase (id : Nat) (t : TableId) (empty : TableRecords) (s : State) : Nat :=
  (mgmtReplyBytes { id := id, status := .done, content := .tableRead t (activeId t s) 0 empty 0 }).length

/-- The records from an index on that fit beside the other items of the reply (R163). -/
def recordsFrom {α : Type} (bytes : α → Bytes) (base first : Nat) (rs : List α) : List α :=
  fitting (fun r => (bytes r).length) (Config.payloadBytes - base) (rs.drop (first - 1))

/-- The content of a TABLE-READ reply: the table, its load id, the number of its records, and the records carried, the last
index named (0 where none is carried) (R163). -/
def readContent (id : Nat) (t : TableId) (first : Nat) (s : State) : ReplyContent :=
  let make (total carried : Nat) (records : TableRecords) : ReplyContent :=
    .tableRead t (activeId t s) total records (if carried = 0 then 0 else first + carried - 1)
  match t with
  | .tct =>
    let rs := recordsFrom tctBytes (readBase id t (.tct []) s) first s.tbl.tct
    make s.tbl.tct.length rs.length (.tct rs)
  | .sft =>
    let rs := recordsFrom sftBytes (readBase id t (.sft []) s) first s.tbl.sft
    make s.tbl.sft.length rs.length (.sft rs)
  | .dnt =>
    let rs := recordsFrom dntBytes (readBase id t (.dnt s.tbl.dntHeader []) s) first s.tbl.dnt
    make s.tbl.dnt.length rs.length (.dnt s.tbl.dntHeader rs)
  | .tlt =>
    let rs := recordsFrom tltBytes (readBase id t (.tlt s.tbl.tltCeiling []) s) first s.tbl.tlt
    make s.tbl.tlt.length rs.length (.tlt s.tbl.tltCeiling rs)
  | .plt =>
    let rs := recordsFrom pltBytes (readBase id t (.plt []) s) first s.tbl.plt
    make s.tbl.plt.length rs.length (.plt rs)

/-- The TBL takes a TABLE-READ (R163). -/
def takeTableRead (id table first : Nat) (s : State) : State :=
  match tableIdOfCode table with
  | none => refuseRequest id .badRequest s
  | some t => if first = 0 then refuseRequest id .badRequest s else answer id .done (readContent id t first s) s

/-- TABLE_READ (R163). -/
def execTableRead (id table first : Nat) (s : State) : Host.Outcome State Fault Refusal :=
  .next (withRequest id (.tableRead table first) (takeTableRead id table first) s)

end Sys2Proof.Machine
end

