-- ==== Sys2Proof/Machine/Management.lean ====
section
/-! DEFINITION. The management requests of the MRS, DAY and the SCM: settings (R193), reads (R196, R197), the clock (R198),
the day requests (R133, R135, R143, R146), the broadcast text (R73) and requests of no kind (R192). -/

namespace Sys2Proof.Machine
open Sys2Proof

/-! ## Settings (R193) -/

/-- The range of a numeric setting; none for the journal mode (R193). -/
def settingRange : SettingName → Option (Nat × Nat)
  | .linkSilence => some (5, 120)
  | .adviceAck => some (5, 60)
  | .batchAck => some (10, 300)
  | .pageTurn => some (30, 600)
  | .drawerOpen => some (10, 600)
  | .highWater => some (50, 95)
  | .journalMode => none

/-- The value stored for a named setting: clamped to the nearer bound (R193). -/
def storedValue (name : SettingName) (v : Nat) : Nat :=
  match settingRange name with
  | some (lo, hi) => clampNat lo hi v
  | none => v

/-- The settings with one of them written (R193). -/
def writeSetting (x : Settings) (item : SettingName × Nat) : Settings :=
  let v := storedValue item.1 item.2
  match item.1 with
  | .linkSilence => { x with linkSilence := v }
  | .adviceAck => { x with adviceAck := v }
  | .batchAck => { x with batchAck := v }
  | .pageTurn => { x with pageTurn := v }
  | .drawerOpen => { x with drawerOpen := v }
  | .highWater => { x with highWater := v }
  | .journalMode => { x with journalMode := (journalModeOfCode v).getD x.journalMode }

/-- A setting is named twice. -/
def namedTwice : List (SettingName × Nat) → Bool
  | [] => false
  | x :: rest => (rest.any fun y => y.1 = x.1) || namedTwice rest

/-- An item that cannot be clamped: a journal mode that is neither HOLD nor TRICKLE. -/
def badMode (x : SettingName × Nat) : Bool := x.1 = .journalMode && (journalModeOfCode x.2).isNone

/-- The clamped settings of a request with the values stored, in the request's order (R193) (DESIGN CHOICE, log 30). -/
def clampedItems (items : List (SettingName × Nat)) : List (SettingName × Nat) :=
  (items.filter fun x => storedValue x.1 x.2 ≠ x.2).map fun x => (x.1, storedValue x.1 x.2)

/-- The MRS takes a SETTINGS-WRITE (R193). -/
def takeSettingsWrite (id : Nat) (items : List (SettingName × Nat)) (s : State) : State :=
  if namedTwice items || items.any badMode then refuseRequest id .badRequest s
  else
    let s1 := onMrs (fun m => { m with settings := items.foldl writeSetting m.settings }) s
    if clampedItems items = [] then answer id .done .nothing s1
    else answer id .doneClamped (.clamped (clampedItems items)) s1

/-- SETTINGS_WRITE (R193). -/
def execSettingsWrite (id : Nat) (items : List (SettingName × Nat)) (s : State) : Host.Outcome State Fault Refusal :=
  .next (withRequest id (.settingsWrite items) (takeSettingsWrite id items) s)

/-- SETTINGS_READ (R193). -/
def execSettingsRead (id : Nat) (s : State) : Host.Outcome State Fault Refusal :=
  .next (withRequest id .settingsRead (fun x => answer id .done (.settings x.mrs.settings) x) s)

/-! ## STATUS-READ (R196) -/

/-- A line as STATUS-READ reports it. -/
def lineReport (st : Station) (s : State) : LineReport :=
  let l := lineOf st s
  { setup := l.setup, drops := Three.ofFn fun d => (l.drops.get d).map DropStatus.state,
    printer := (printerOf st s).map PrinterContext.state, bookInserted := (insertedBook st s).isSome,
    queueLength := ((printerOf st s).map fun c => c.queue.length).getD 0, test := l.test }

/-- The settlement a STATUS-READ reports in SETTLING and SETTLE_FAILED: phase, batch number, attempts (R130). -/
def settlementReport (s : State) : Option (Phase × Option Nat × Nat) :=
  if s.day.state = .settling ∨ s.day.state = .settleFailed then
    s.day.settlement.map fun c => (c.phase, c.current.map Batch.number, c.attempts)
  else none

/-- The state as STATUS-READ reports it, with the error summaries of the lines named, in line order (R196) (DESIGN CHOICE, log
30). -/
def statusReport (lines : List Nat) (s : State) : StatusReport :=
  { flags := s.mrs.flags, unmatchedReplies := s.mrs.unmatchedReplies, overruns := s.mrs.overruns, day := s.day.state,
    date := s.day.date, settlement := settlementReport s, link := s.blc.link, frameCheck := s.blc.frameCheck,
    frameForm := s.blc.frameForm, ottEntries := s.ttr.ott.length,
    ottPerStation := (Eight.fill ()).mapWith fun st _ => stationCount st s, lateEntries := s.ttr.late.length,
    standins := queueCount (isKind .standin) s, reversals := queueCount (isKind .reversal) s,
    passbookUpdates := queueCount (isKind .passbookUpdate) s, alarms := queueCount (isKind .alarm) s,
    reservations := queueCount isReservation s, sent := queueCount isSent s, unmatchedAcks := s.sda.unmatchedAcks,
    mapEntries := s.sda.accountMap.length, used := s.jrn.used, reserved := s.jrn.reserved, free := s.jrn.free,
    entriesHeld := s.jrn.entries.length, entryReservations := s.ttr.ott.length + s.ttr.late.length,
    entriesFree := s.jrn.free / Config.ottSlots, oldestHeld := oldestHeld s, nextSeq := s.jrn.nextSeq,
    lastAccepted := s.jrn.lastAccepted, printedCursor := s.jrn.printedCursor, notStored := s.jrn.notStored,
    unmatchedBatchAcks := s.jrn.unmatchedAcks, lines := (Eight.fill ()).mapWith fun st _ => lineReport st s,
    errors := (Station.all.filter fun st => lines.contains st.num).map fun st => (st, (lineOf st s).errors),
    clock := s.mrs.clock }

/-- What a STATUS-READ clears: the flags with their counts, the frame counts, the unmatched counts, the not-stored count
and the error summaries of the lines named (R196). -/
def clearRead (lines : List Nat) (s : State) : State :=
  let s1 := onMrs (fun m => { m with flags := EventFlags.clear, unmatchedReplies := 0, overruns := 0 }) s
  let s2 := onBlc (fun b => { b with frameCheck := 0, frameForm := 0 }) s1
  let s3 := onSda (fun a => { a with unmatchedAcks := 0 }) s2
  let s4 := onJrn (fun j => { j with notStored := 0, unmatchedAcks := 0 }) s3
  let clear (st : Station) (l : Line) : Line :=
    if lines.contains st.num then { l with errors := ErrorSummary.zero } else l
  onSlc (fun c => { c with lines := c.lines.mapWith clear }) s4

/-- The MRS takes a STATUS-READ (R196). -/
def takeStatusRead (id : Nat) (lines : List Nat) (s : State) : State :=
  if lines.all (fun n => (Station.ofNat? n).isSome) then
    answer id .done (.status (statusReport lines s)) (clearRead lines s)
  else refuseRequest id .badRequest s

/-- STATUS_READ (R196). -/
def execStatusRead (id : Nat) (lines : List Nat) (s : State) : Host.Outcome State Fault Refusal :=
  .next (withRequest id (.statusRead lines) (takeStatusRead id lines) s)

/-! ## TOTALS-READ (R197) -/

/-- The content of a TOTALS-READ reply (R197): the Teller Day Records and the map entries in the order in which they were made,
the marks by position number (DESIGN CHOICE, log 30). -/
def totalsContent (s : State) : ReplyContent :=
  .totals (snapshotOf s.csh) s.sda.tellerDays s.sda.accountMap s.day.state s.day.date (markedNumbers s)

/-- TOTALS_READ (R197). -/
def execTotalsRead (id : Nat) (s : State) : Host.Outcome State Fault Refusal :=
  .next (withRequest id .totalsRead (fun x => answer id .done (totalsContent x) x) s)

/-! ## CLOCK-SET (R198) -/

/-- The MRS takes a CLOCK-SET (R198). -/
def takeClockSet (id secs : Nat) (s : State) : State :=
  if secs < Config.daySeconds then
    answer id .done .nothing (onMrs (fun m => { m with clock := { secs := secs, unset := false } }) s)
  else refuseRequest id .badRequest s

/-- CLOCK_SET (R198). -/
def execClockSet (id secs : Nat) (s : State) : Host.Outcome State Fault Refusal :=
  .next (withRequest id (.clockSet secs) (takeClockSet id secs) s)

/-! ## The day requests -/

/-- DAY takes a DAY-CUTOFF (R133). -/
def takeDayCutoff (id : Nat) (s : State) : State :=
  if s.day.state = .opened then
    let s1 := judgeSettle (changeDay .cutoff s)
    answer id .done (.dayState s1.day.state) s1
  else refuseRequest id .wrongDayState s

/-- DAY_CUTOFF (R133). -/
def execDayCutoff (id : Nat) (s : State) : Host.Outcome State Fault Refusal :=
  .next (withRequest id .dayCutoff (takeDayCutoff id) s)

/-- Sign off a station's teller by force, if one is signed on (R63, R135). -/
def forceOff (st : Station) (s : State) : State :=
  match tellerAt st s with
  | some t => forcedSignOff st t s
  | none => s

/-- The tellers signed on, in station order, in which DAY-FORCE reports them (R135) (DESIGN CHOICE, log 30). -/
def signedOnTellers (s : State) : List Nat := Station.all.filterMap fun st => tellerAt st s

/-- The positions a forced close marks, by number (R135) (DESIGN CHOICE, log 30). -/
def forcedPositions (s : State) : List Nat :=
  (allPositions.filter fun p => forceMarks (positionOf p s)).map positionNumber

/-- DAY takes a DAY-FORCE (R135) (DEDUCED, log 25). -/
def takeDayForce (id : Nat) (s : State) : State :=
  if s.day.state ≠ .cutoff then refuseRequest id .wrongDayState s
  else if s.ttr.ott ≠ [] then refuseRequest id .inFlight s
  else
    let s1 := judgeSettle (markUnbalanced (forStations forceOff s))
    answer id .done (.forced (signedOnTellers s) (forcedPositions s) s1.day.state) s1

/-- DAY_FORCE (R135). -/
def execDayForce (id : Nat) (s : State) : Host.Outcome State Fault Refusal :=
  .next (withRequest id .dayForce (takeDayForce id) s)

/-- DAY takes a SETTLE-RETRY (R143). -/
def takeSettleRetry (id : Nat) (s : State) : State :=
  if s.day.state ≠ .settleFailed then refuseRequest id .wrongDayState s
  else
    let c := s.day.settlement.getD (newSettlement .journal)
    answer id .done (.retry c.phase (c.current.map Batch.number))
      (changeDay .settling (onSettlement (fun c => { c with attempts := 0 }) s))

/-- SETTLE_RETRY (R143). -/
def execSettleRetry (id : Nat) (s : State) : Host.Outcome State Fault Refusal :=
  .next (withRequest id .settleRetry (takeSettleRetry id) s)

/-- DAY takes a DATE-ROLL (R145, R146). -/
def takeDateRoll (id : Nat) (d : Date) (s : State) : State :=
  match rollRefusal d s with
  | some why => refuseRequest id why s
  | none =>
    answer id .done (.rolled (lastSequence s) s.jrn.lastAccepted (lastSequence s - s.jrn.lastAccepted)) (rollDay d s)

/-- DATE_ROLL (R146). -/
def execDateRoll (id : Nat) (d : Date) (s : State) : Host.Outcome State Fault Refusal :=
  .next (withRequest id (.dateRoll d) (takeDateRoll id d) s)

/-! ## BROADCAST-TEXT (R73) -/

/-- Set or withdraw the broadcast text and recompose every status line (R72, R73), also at an empty text where none stands
(DESIGN CHOICE, log 39). -/
def setBroadcast (b : Option Broadcast) (s : State) : State := refreshAll (onScm (fun m => { m with broadcast := b }) s)

/-- The SCM takes a BROADCAST-TEXT (R73). -/
def takeBroadcast (id : Nat) (text : Text) (expiry : Nat) (s : State) : State :=
  if text = [] then answer id .done .nothing (setBroadcast none s)
  else if within 1 3600 expiry then
    answer id .done .nothing
      (setBroadcast (some { text := cutText Config.broadcastLength text, ends := secondsAhead expiry s }) s)
  else refuseRequest id .badRequest s

/-- BROADCAST_TEXT (R73). -/
def execBroadcastText (id : Nat) (text : Text) (expiry : Nat) (s : State) : Host.Outcome State Fault Refusal :=
  .next (withRequest id (.broadcastText text expiry) (takeBroadcast id text expiry) s)

/-- BROADCAST_EXPIRY (R73). -/
def execBroadcastExpiry (s : State) : Host.Outcome State Fault Refusal :=
  match s.scm.broadcast with
  | some _ => .next (setBroadcast none s)
  | none => .next s

/-! ## Requests of no kind (R192) -/

/-- BAD_REQUEST (R192): a request that names no kind, or cannot be read as its kind. -/
def execBadRequest (id kind : Nat) (s : State) : Host.Outcome State Fault Refusal :=
  .next (withRequest id (.bad kind) (refuseRequest id .badRequest) s)

end Sys2Proof.Machine
end

