-- ==== Sys2Proof/Machine/Printers.lean ====
section
/-! DEFINITION. The commands of a passbook printer: the frames drop 2 of a TELLER line sends (section 4.1), and the wait
and completion timers. -/

namespace Sys2Proof.Machine
open Sys2Proof

/-- STRIPE_READ (R80). -/
def execStripeRead (st : Station) (b : Book) (s : State) : Host.Outcome State Fault Refusal :=
  match delivered st .d2 (.stripeRead b) s with
  | some s1 => .next (takeStripeRead st b s1)
  | none => .next s

/-- BOOK_REMOVED (R81). -/
def execBookRemoved (st : Station) (s : State) : Host.Outcome State Fault Refusal :=
  match delivered st .d2 .bookRemoved s with
  | some s1 => .next (takeBookRemoved st s1)
  | none => .next s

/-- LINE_DONE (R89). -/
def execLineDone (st : Station) (s : State) : Host.Outcome State Fault Refusal :=
  match delivered st .d2 .lineDone s with
  | some s1 => .next (takeLineDone st s1)
  | none => .next s

/-- WRITE_DONE (R94). -/
def execWriteDone (st : Station) (s : State) : Host.Outcome State Fault Refusal :=
  match delivered st .d2 .writeDone s with
  | some s1 => .next (takeWriteDone st s1)
  | none => .next s

/-- FAULT (R82). -/
def execFault (st : Station) (s : State) : Host.Outcome State Fault Refusal :=
  match delivered st .d2 .fault s with
  | some s1 => .next (takeFault st s1)
  | none => .next s

/-- WAIT_TIMER_EXPIRY (R86): the wait of the head job in BOOK_WAIT or TURN_WAIT ends. -/
def execWaitTimerExpiry (st : Station) (s : State) : Host.Outcome State Fault Refusal := .next (takeWaitExpiry st s)

/-- COMPLETION_TIMER_EXPIRY (R79): an item accepted and not completed in 30 s. -/
def execCompletionTimerExpiry (st : Station) (s : State) : Host.Outcome State Fault Refusal :=
  .next (takeCompletionExpiry st s)

end Sys2Proof.Machine
end

