-- ==== Sys2Proof/Machine/Start.lean ====
section
/-! DEFINITION. Start-up (R199, R200): the cold start, and the warm start with the owners' steps in order. -/

namespace Sys2Proof.Machine
open Sys2Proof

/-! ## Lines at a start -/

/-- The drawer-open timer at a start: running where the drawer is found OPEN (R176). -/
def startWatch (st : Station) (s : State) : State :=
  if drawerReadsOpen (lineOf st s) then startDrawerTimer st s else s

/-- A line's volatile state at a start; its setup and its wire stand (R164 to R178). An exchange, a sweep and a run of characters
that go on at a start end (DESIGN CHOICE, log 22), and so does a release pulse (DESIGN CHOICE, log 37). -/
def restartedLine (l : Line) : Line :=
  { Line.cold with setup := l.setup, drops := freshDrops l.setup, drawerOpen := l.drawerOpen }

/-- The contexts of a station whose line is in role TELLER, composed and made afresh (R64, R77). -/
def restartStation (st : Station) (s : State) : State :=
  if (lineOf st s).setup.role = .teller then freshContext st (makePrinter st s) else s

/-! ## Cold start (R199) -/

/-- The level a cold start finds at DL2, which its setup makes the DRAWER_SENSE wire (R164, R176): the level sensed so far where
that wire was the DRAWER_SENSE wire before, else a free value (logs 7 and 24). -/
def coldDrawerLevel (samples : Nat) (st : Station) (l : Line) : Bool :=
  if lineWith .drawerSense l.setup = some .dl2 then l.drawerOpen else levelAt (samples + st.num) .dl2

/-- A cold start: every item at its cold-start value, RETENTION_LOST raised, the marker written. The commands that
wait, the part's running time and the levels at the wires are not the part's to reset (DESIGN CHOICE, log 24). -/
def coldStart (s : State) : State :=
  forStations startWatch
    { State.reset with
      pending := s.pending
      uptime := s.uptime
      slc := { lines := s.slc.lines.mapWith fun st l =>
                 { Line.cold with drawerOpen := coldDrawerLevel s.slc.samples st l }
               samples := s.slc.samples + 9 } }

/-! ## Warm start (R200) -/

/-- Every volatile item as its own rule gives it at a start (R200). -/
def volatileReset (s : State) : State :=
  { s with
    ttr := { s.ttr with late := [] }
    scm := { s.scm with contexts := Eight.fill none, broadcast := none }
    pbk := { printers := Eight.fill none }
    sda := { s.sda with unmatchedAcks := 0 }
    jrn := { s.jrn with trickle := none, pause := none, unmatchedAcks := 0 }
    day := { s.day with settlement := none }
    tbl := { s.tbl with load := none }
    slc := { s.slc with lines := s.slc.lines.mapWith fun _ l => restartedLine l }
    blc := { State.reset.blc with events := [] }
    mrs := { places := [], flags := EventFlags.clear, unmatchedReplies := 0, overruns := 0, settings := s.mrs.settings,
             clock := Stamp.atStart } }

/-- Step 2: the reserved slots that remain return to free (R119). -/
def returnReserved (s : State) : State :=
  onJrn (fun j => { j with reserved := 0, free := j.free + j.reserved }) s

/-- The reservations of the queue, in its order (DESIGN CHOICE, log 32). -/
def reservationsOf (s : State) : List Reservation :=
  s.sda.queue.filterMap fun q => match q with
    | .reservation r => some r
    | .advice _ => none

/-- The stripe outcome of a job ended by a restart (R97). -/
def restartOutcome (r : Reservation) : StripeOutcome := if 1 ≤ r.printed then .owed else .notDue

/-- A reservation becomes a PASSBOOK_UPDATE advice with cause RESTART and its PASSBOOK entry (R97) (DESIGN CHOICE, log
19). -/
def restartReservation (s : State) (r : Reservation) : State :=
  let st := r.ref.station
  writeEntry 0 (passbookDraft st (tellerAt st s) r .restart (restartOutcome r)) (convertReservation r.ref id .restart s)

/-- Step 3: SENT advices return to UNSENT and every reservation becomes an advice, in the order of the queue, which gives
their numbers and the sequences of their entries (R97, R105, R108) (DESIGN CHOICE, log 32). -/
def restartAdvices (s : State) : State :=
  let s1 := returnAllUnsent s
  (reservationsOf s1).foldl restartReservation s1

/-- A position's total disagrees with its counts. -/
def disagrees (faces : List Nat) (p : Position) : Bool := !totalAgrees faces p

/-- Step 4: reservations cleared, stored totals checked (R32) (DEDUCED, log 20). -/
def restartPositions (s : State) : State :=
  let faces := facesOf s
  raiseIf (s.csh.drawers.toList.any (disagrees faces) || disagrees faces s.csh.reserve) .suspectPosition
    (onCsh (onPositions (checkedPosition faces)) s)

/-- A warm start: the volatile items, then the owners' steps in order, then the screens (R200). -/
def warmStart (s : State) : State :=
  let s1 := abandonAll .abandonedOnRestart (fun _ => true) (volatileReset s)
  let s2 := restartPositions (restartAdvices (returnReserved s1))
  forStations restartStation (forStations startWatch (restartDay s2))

/-- START (R199): a cold start where the validity marker is absent, else a warm start. It finds the retained store as the last
command taken left it: a loss of power falls between two events, so that no run from reset finds a position whose counts and
stored total were written apart (DESIGN CHOICE, log 40). -/
def execStart (s : State) : Host.Outcome State Fault Refusal :=
  if s.rts.marker then .next (warmStart s) else .next (coldStart s)

end Sys2Proof.Machine
end

