-- ==== Sys2Proof/Machine/Timers.lean ====
section
/-! DEFINITION. The expiries of transactions, advices and batches (R24, R27, R113, R125, R142, R144). An expiry of a timer
that does not run changes nothing. -/

namespace Sys2Proof.Machine
open Sys2Proof

/-- DEADLINE_EXPIRY (R24) of an AWAITING entry; DAY then judges the settle condition (R134). -/
def execDeadlineExpiry (ref : Ref) (s : State) : Host.Outcome State Fault Refusal :=
  match ottEntry ref s with
  | some e =>
    match e.state with
    | .awaiting _ => .next (judgeSettle (timeOut e s))
    | .queued => .next s
  | none => .next s

/-- LATE_EXPIRY (R27) of a Late List entry. -/
def execLateExpiry (ref : Ref) (s : State) : Host.Outcome State Fault Refusal :=
  match lateEntry ref s with
  | some l => .next (endLate l .expired s)
  | none => .next s

/-- ADVICE_ACK_TIMEOUT (R113): the SENT advice of the number returns to UNSENT in its place. -/
def execAdviceAckTimeout (number : Nat) (s : State) : Host.Outcome State Fault Refusal :=
  .next (onSda (fun a => { a with queue := a.queue.map fun q => if isSentNumber number q then unsend q else q }) s)

/-- TRICKLE_BATCH_TIMEOUT (R125): the trickle batch is no longer outstanding. -/
def execTrickleBatchTimeout (s : State) : Host.Outcome State Fault Refusal :=
  .next (onJrn (fun j => { j with trickle := none }) s)

/-- REJECTION_PAUSE_END (R125). -/
def execRejectionPauseEnd (s : State) : Host.Outcome State Fault Refusal :=
  .next (onJrn (fun j => { j with pause := none }) s)

/-- SETTLEMENT_BATCH_TIMEOUT (R142): with the outcomes of a rejection. -/
def execSettlementBatchTimeout (s : State) : Host.Outcome State Fault Refusal :=
  match outstandingSettlement s with
  | some _ => .next (settlementFails s)
  | none => .next s

/-- TRAILING_PAUSE_END (R144). -/
def execTrailingPauseEnd (s : State) : Host.Outcome State Fault Refusal :=
  .next (onSettlement (fun c => { c with pause := none }) s)

end Sys2Proof.Machine
end

