-- ==== Sys2Proof/Machine/Dispatch.lean ====
section
/-! DEFINITION. The command dispatch: each command calls its meaning. -/

namespace Sys2Proof.Machine
open Sys2Proof

/-- The effect of a command on everything but the queue. -/
def exec (i : Instr) (s : State) : Host.Outcome State Fault Refusal :=
  match i with
  | .keyRequest st r => Sys2Proof.Machine.execKeyRequest st r s
  | .formCall st code => Sys2Proof.Machine.execFormCall st code s
  | .stripeRead st b => Sys2Proof.Machine.execStripeRead st b s
  | .bookRemoved st => Sys2Proof.Machine.execBookRemoved st s
  | .lineDone st => Sys2Proof.Machine.execLineDone st s
  | .writeDone st => Sys2Proof.Machine.execWriteDone st s
  | .fault st => Sys2Proof.Machine.execFault st s
  | .dropFrame st f => Sys2Proof.Machine.execDropFrame st f s
  | .nothing st => Sys2Proof.Machine.execNothing st s
  | .accept st => Sys2Proof.Machine.execAccept st s
  | .busy st => Sys2Proof.Machine.execBusy st s
  | .failedResponse st why => Sys2Proof.Machine.execFailedResponse st why s
  | .pollResponseTimeout st => Sys2Proof.Machine.execPollResponseTimeout st s
  | .repollDue st d => Sys2Proof.Machine.execRepollDue st d s
  | .busyRetryExpiry st d => Sys2Proof.Machine.execBusyRetryExpiry st d s
  | .issueExchange st => Sys2Proof.Machine.execIssueExchange st s
  | .attention st => Sys2Proof.Machine.execAttention st s
  | .unsolicited st => Sys2Proof.Machine.execUnsolicited st s
  | .echoCharacter st c => Sys2Proof.Machine.execEchoCharacter st c s
  | .loopFrameReturn st how => Sys2Proof.Machine.execLoopFrameReturn st how s
  | .loopFrameTimeout st => Sys2Proof.Machine.execLoopFrameTimeout st s
  | .drawerSenseChange st opened => Sys2Proof.Machine.execDrawerSenseChange st opened s
  | .drawerOpenTimerExpiry st => Sys2Proof.Machine.execDrawerOpenTimerExpiry st s
  | .alarmInRising st => Sys2Proof.Machine.execAlarmInRising st s
  | .drawerPulseEnd st => Sys2Proof.Machine.execDrawerPulseEnd st s
  | .inboundFrame bytes => Sys2Proof.Machine.execInboundFrame bytes s
  | .reply dest r => Sys2Proof.Machine.execReply dest r s
  | .mgmtReq id r => Sys2Proof.Machine.execMgmtReq id r s
  | .adviceAck a => Sys2Proof.Machine.execAdviceAck a s
  | .batchAck a => Sys2Proof.Machine.execBatchAck a s
  | .linkCheck number => Sys2Proof.Machine.execLinkCheck number s
  | .silenceTimerExpiry => Sys2Proof.Machine.execSilenceTimerExpiry s
  | .transmit => Sys2Proof.Machine.execTransmit s
  | .transmitEnd => Sys2Proof.Machine.execTransmitEnd s
  | .deadlineExpiry ref => Sys2Proof.Machine.execDeadlineExpiry ref s
  | .lateExpiry ref => Sys2Proof.Machine.execLateExpiry ref s
  | .adviceAckTimeout number => Sys2Proof.Machine.execAdviceAckTimeout number s
  | .trickleBatchTimeout => Sys2Proof.Machine.execTrickleBatchTimeout s
  | .rejectionPauseEnd => Sys2Proof.Machine.execRejectionPauseEnd s
  | .settlementBatchTimeout => Sys2Proof.Machine.execSettlementBatchTimeout s
  | .trailingPauseEnd => Sys2Proof.Machine.execTrailingPauseEnd s
  | .loadIdleExpiry => Sys2Proof.Machine.execLoadIdleExpiry s
  | .waitTimerExpiry st => Sys2Proof.Machine.execWaitTimerExpiry st s
  | .completionTimerExpiry st => Sys2Proof.Machine.execCompletionTimerExpiry st s
  | .broadcastExpiry => Sys2Proof.Machine.execBroadcastExpiry s
  | .tableLoad id f => Sys2Proof.Machine.execTableLoad id f s
  | .tableAbort id => Sys2Proof.Machine.execTableAbort id s
  | .tableRead id table firstIndex => Sys2Proof.Machine.execTableRead id table firstIndex s
  | .settingsWrite id items => Sys2Proof.Machine.execSettingsWrite id items s
  | .settingsRead id => Sys2Proof.Machine.execSettingsRead id s
  | .lineSetup id r => Sys2Proof.Machine.execLineSetup id r s
  | .lineControl id station op mask => Sys2Proof.Machine.execLineControl id station op mask s
  | .lineTest id line mode count => Sys2Proof.Machine.execLineTest id line mode count s
  | .lineReset id line => Sys2Proof.Machine.execLineReset id line s
  | .statusRead id lines => Sys2Proof.Machine.execStatusRead id lines s
  | .totalsRead id => Sys2Proof.Machine.execTotalsRead id s
  | .clockSet id secs => Sys2Proof.Machine.execClockSet id secs s
  | .dayCutoff id => Sys2Proof.Machine.execDayCutoff id s
  | .dayForce id => Sys2Proof.Machine.execDayForce id s
  | .settleRetry id => Sys2Proof.Machine.execSettleRetry id s
  | .dateRoll id d => Sys2Proof.Machine.execDateRoll id d s
  | .broadcastText id text expiry => Sys2Proof.Machine.execBroadcastText id text expiry s
  | .start => Sys2Proof.Machine.execStart s
  | .badRequest id kind => Sys2Proof.Machine.execBadRequest id kind s

end Sys2Proof.Machine
end

