-- ==== Sys2Proof/Machine/Step.lean ====
section
/-! DEFINITION. One step of the part: the command at the front of the queue, or, on an empty queue, one second of its
time-of-day clock. -/

namespace Sys2Proof.Machine
open Sys2Proof

/-- One second passes with no command waiting: the time-of-day clock goes on, from 86,399 to 0 (R198), and the part's
running time with it (DESIGN CHOICE, log 2). -/
def tick (s : State) : State :=
  onMrs (fun m => { m with clock := { m.clock with secs := (m.clock.secs + 1) % Config.daySeconds } })
    { s with uptime := s.uptime + 1000 }

/-- One step: the command at the front of the queue is carried out with the queue's rest. -/
def step (s : State) : Host.Outcome State Fault Refusal :=
  match s.pending with
  | [] => .next (tick s)
  | c :: rest => exec c { s with pending := rest }

/-- The command a word of the table spells, put at the front of the queue; no row gives bits, so no word spells one
(DEDUCED, log 1). -/
def State.withFetchWord (s : State) (nbits w : Nat) : State :=
  match decodeTableWord nbits w with
  | some c => { s with pending := c :: s.pending }
  | none => s

end Sys2Proof.Machine
end

