-- ==== Sys2Proof/Safety.lean ====
section
/-! DEFINITION. What counts as a safe state and a safe run of the part: what a command leaves as it was, and the
invariants that the rules of the spec state of every state. -/

namespace Sys2Proof.Machine
open Sys2Proof

/-! ## What a command leaves as it was -/

/-- The twelve blocks of the part (spec/00_scope.md). -/
inductive Block where
  | ttr | csh | scm | pbk | sda | jrn | day | tbl | slc | blc | mrs | rts
  deriving DecidableEq, Repr

/-- From s to t nothing has changed but the records of the blocks named: neither the queue of commands, nor the part's
running time, nor any other block's record. -/
def keeps (changed : List Block) (s t : State) : Prop :=
  t.pending = s.pending ∧ t.uptime = s.uptime ∧
    (Block.ttr ∉ changed → t.ttr = s.ttr) ∧ (Block.csh ∉ changed → t.csh = s.csh) ∧
    (Block.scm ∉ changed → t.scm = s.scm) ∧ (Block.pbk ∉ changed → t.pbk = s.pbk) ∧
    (Block.sda ∉ changed → t.sda = s.sda) ∧ (Block.jrn ∉ changed → t.jrn = s.jrn) ∧
    (Block.day ∉ changed → t.day = s.day) ∧ (Block.tbl ∉ changed → t.tbl = s.tbl) ∧
    (Block.slc ∉ changed → t.slc = s.slc) ∧ (Block.blc ∉ changed → t.blc = s.blc) ∧
    (Block.mrs ∉ changed → t.mrs = s.mrs) ∧ (Block.rts ∉ changed → t.rts = s.rts)

/-- Every line but one station's stands as it was. -/
def otherLines (st : Station) (s t : State) : Prop := ∀ x, x ≠ st → lineOf x t = lineOf x s

/-- Every printer context but one station's stands as it was. -/
def otherPrinters (st : Station) (s t : State) : Prop := ∀ x, x ≠ st → printerOf x t = printerOf x s

/-- The sign-on states, the broadcast text and every screen context but one station's stand as they were. -/
def otherScreens (st : Station) (s t : State) : Prop :=
  t.scm.signOn = s.scm.signOn ∧ t.scm.broadcast = s.scm.broadcast ∧ ∀ x, x ≠ st → contextOf x t = contextOf x s

/-- Only screen images changed: the sign-on states and the broadcast text stand. -/
def screensOnly (s t : State) : Prop := t.scm.signOn = s.scm.signOn ∧ t.scm.broadcast = s.scm.broadcast

/-! ## The transactions (R18, R25) -/

/-- The references that the OTT and the Late List hold. -/
def heldRefs (s : State) : List Ref := s.ttr.ott.map OttEntry.ref ++ s.ttr.late.map LateEntry.ref

/-- No reference is held twice, the OTT holds at most 32 entries and the Late List at most 16 (R18, R25). -/
def transactionsOk (s : State) : Prop :=
  (heldRefs s).Nodup ∧ s.ttr.ott.length ≤ Config.ottCapacity ∧ s.ttr.late.length ≤ Config.lateCapacity

/-! ## The journal (R115, R119) -/

/-- The slots held back for outcomes not yet written: 4 for each OTT entry, 2 for each Late List entry (R119). -/
def reservedSlots (s : State) : Nat := Config.ottSlots * s.ttr.ott.length + Config.lateSlots * s.ttr.late.length

/-- The slots that entries take. -/
def slotsOf (es : List Entry) : Nat := (es.map fun e => draftSlots e.draft).sum

/-- The Journal Store accounts for every slot: used, reserved and free sum to 16,384, the reserved slots are those of
R119, and the used slots are those of the entries held (R115, R119). -/
def slotsAccounted (s : State) : Prop :=
  s.jrn.used + s.jrn.reserved + s.jrn.free = Config.journalSlots ∧ s.jrn.reserved = reservedSlots s ∧
    s.jrn.used = slotsOf s.jrn.entries

/-- Entries carry consecutive sequence numbers that end just below a number. -/
def consecutive : List Entry → Nat → Prop
  | [], _ => True
  | e :: rest, next => e.seq + (rest.length + 1) = next ∧ consecutive rest next

/-- The journal's invariant: its slots are accounted for, its entries are consecutive and end at the last sequence
written, over transactions that hold no reference twice (R18, R115, R119). -/
def journalOk (s : State) : Prop :=
  transactionsOk s ∧ slotsAccounted s ∧ consecutive s.jrn.entries s.jrn.nextSeq

/-! ## The Advice Queue (R15, R106 to R108) -/

/-- The alarms of a station that the queue holds. -/
def alarmCount (st : Station) (s : State) : Nat := queueCount (fun q => alarmStation q = some st) s

/-- The areas of the queue stay within their bounds, the ALARM advices stand at its front, and no two advices share a
number (R15, R106, R107, R108). -/
def queueOk (s : State) : Prop :=
  transactionsOk s ∧ queueCount isGeneral s ≤ Config.generalCapacity ∧ reversalSum s ≤ Config.reversalCommitment ∧
    (∀ st, alarmCount st s ≤ 1) ∧ (s.sda.queue.dropWhile isAlarm).all (fun q => !isAlarm q) = true ∧
    (s.sda.queue.filterMap entryNumber).Nodup

/-- At most 64 Teller Day Records stand, no two of one teller, each of a teller from 1 to 9,999 with a transaction count of at
most 65,535; and at most 64 entries of the account map, no two of one account, each with 1 to 65,535 approvals (R61, R103). -/
def recordsOk (s : State) : Prop :=
  (s.sda.tellerDays.length ≤ 64 ∧ (s.sda.tellerDays.map TellerDay.teller).Nodup ∧
      ∀ r ∈ s.sda.tellerDays, 1 ≤ r.teller ∧ r.teller ≤ 9999 ∧ r.txCount ≤ 65535) ∧
    s.sda.accountMap.length ≤ 64 ∧ (s.sda.accountMap.map MapEntry.account).Nodup ∧
      ∀ e ∈ s.sda.accountMap, 1 ≤ e.approvals ∧ e.approvals ≤ 65535

/-! ## Tellers (R58) -/

/-- No teller number appears in the sign-on state of two stations, and a station whose line is not in role TELLER is
SIGNED_OFF (R58). -/
def signOnsOk (s : State) : Prop :=
  (∀ a b : Station, ∀ t : Nat, tellerAt a s = some t → tellerAt b s = some t → a = b) ∧
    ∀ st, (lineOf st s).setup.role ≠ .teller → tellerAt st s = none

/-! ## Lines (R164, R165, R168, R170) -/

/-- A poll whose answer holds a place of the buffer is in progress (R168). -/
def pollHolds (l : Line) : Nat :=
  match l.exchange with
  | some (.poll _) => 1
  | some (.select ..) => 0
  | none => 0

/-- A line's setup lies within the values of R164, its buffer with the place held for a poll within 3 places, and a line
that is OFF has no traffic (R164, R168, R170). -/
def lineOk (l : Line) : Prop :=
  1 ≤ l.setup.depth ∧ l.setup.depth ≤ 4 ∧ l.setup.mirrorKey ≤ 15 ∧ l.setup.mirrorMask ≤ 15 ∧
    functionsDistinct l.setup.functions = true ∧ l.buffer.length + pollHolds l ≤ Config.receivePlaces ∧
    (l.setup.role = .off → l.exchange = none ∧ l.buffer = [] ∧ l.drops = ⟨none, none, none⟩)

/-- Every line is well kept and at most one is in role JOURNAL_PRINTER (R164). -/
def linesOk (s : State) : Prop :=
  (∀ st, lineOk (lineOf st s)) ∧
    ∀ a b, (lineOf a s).setup.role = .journalPrinter → (lineOf b s).setup.role = .journalPrinter → a = b

/-! ## Screens and printers (R64, R67, R77, R83) -/

/-- Rows of an image: 24 rows of 80 characters. -/
def imageOk (rows : List Text) : Prop := rows.length = Config.mainRows + 1 ∧ ∀ r ∈ rows, r.length = Config.columns

/-- A station has a screen context exactly while its line is in role TELLER, with images of 24 rows of 80 characters, and a
printer context exactly while drop 2 is present beside it, with at most 4 jobs (R64, R77). -/
def contextsOk (s : State) : Prop :=
  ∀ st, ((contextOf st s).isSome = true ↔ (lineOf st s).setup.role = .teller) ∧
    ((printerOf st s).isSome = true ↔ (lineOf st s).setup.role = .teller ∧ (lineOf st s).setup.printerPresent = true) ∧
    (∀ c, contextOf st s = some c → imageOk c.terminal.rows ∧ imageOk c.mirror) ∧
    (∀ c, printerOf st s = some c → c.queue.length ≤ Config.printQueueCapacity)

/-! ## Cash (R30) -/

/-- A position holds one count record for each denomination, and its stored total is the value of its committed counts,
except while it is SUSPECT (R30). -/
def positionOk (dnt : List DntRec) (p : Position) : Prop :=
  p.counts.length = dnt.length ∧
    (p.state ≠ .suspect → p.total = countsValue (dnt.map DntRec.face) (committedCounts p))

/-- Every position is well kept (R30). -/
def cashOk (s : State) : Prop := ∀ p : Option Station, positionOk s.tbl.dnt (positionOf p s)

/-- What the legs of a station's OTT entries in one direction reserve of a denomination, counted from 1 (R42). -/
def legsReserve (dir : CashDirection) (st : Station) (i : Nat) (s : State) : Nat :=
  (s.ttr.ott.map fun e => if e.ref.station = st then
      match e.leg with
      | some g => if g.dir = dir then pairCount g.breakdown i else 0
      | none => 0
    else 0).sum

/-- The counts of the positions stay within their bounds: of each denomination no more is reserved-out than committed, and
committed and pending-in together are at most 65,535; the reserve has no reservation and no EXCESS_CASH; the reservations of a
drawer are exactly those of the legs of its station's open transactions; and no transaction count passes 65,535 (R30, R42,
R46). -/
def reservationsOk (s : State) : Prop :=
  transactionsOk s ∧ cashOk s ∧
    (∀ p : Option Station, (positionOf p s).txCount ≤ 65535 ∧
      ∀ c ∈ (positionOf p s).counts, c.reservedOut ≤ c.committed ∧ c.committed + c.pendingIn ≤ 65535) ∧
    (s.csh.reserve.excess = false ∧ ∀ c ∈ s.csh.reserve.counts, c.reservedOut = 0 ∧ c.pendingIn = 0) ∧
    ∀ st i, (countsAt (drawerOf st s) i).reservedOut = legsReserve .cashOut st i s ∧
      (countsAt (drawerOf st s) i).pendingIn = legsReserve .cashIn st i s

/-! ## The day (R130) -/

/-- The day is SETTLING, SETTLED or SETTLE_FAILED. -/
def dayClosed : DayState → Bool
  | .settling => true
  | .settled => true
  | .settleFailed => true
  | .noDate => false
  | .opened => false
  | .cutoff => false

/-- The settlement context stands exactly in the three closed states, in which the OTT is empty and no teller is signed
on; and a business date stands exactly outside NO_DATE (R130). -/
def dayOk (s : State) : Prop :=
  (s.day.settlement.isSome = true ↔ dayClosed s.day.state = true) ∧
    (dayClosed s.day.state = true → s.ttr.ott = [] ∧ ∀ st, tellerAt st s = none) ∧
    (s.day.date = none ↔ s.day.state = .noDate)

/-! ## Management requests (R178, R189, R191) -/

/-- The STOPs that wait for the frame being judged. -/
def waitingStops (s : State) : Nat :=
  s.slc.lines.toList.countP fun l => match l.test with
    | some t => t.stopping.isSome
    | none => false

/-- The buffer holds at most 4 requests, those taken first; each request taken has its reply waiting, or is the one STOP
that waits for its frame; and a STOP waits only while a loop runs (R178, R189, R191). -/
def requestsOk (s : State) : Prop :=
  s.mrs.places.length ≤ Config.mgmtPlaces ∧ (s.mrs.places.dropWhile MgmtPlace.taken).all (fun p => !p.taken) = true ∧
    s.mrs.places.countP MgmtPlace.taken = s.blc.replies.length + waitingStops s ∧ waitingStops s ≤ 1 ∧
    ∀ st t, (lineOf st s).test = some t → t.stopping.isSome = true → ∃ n, t.mode = .loop n

/-! ## Counters and settings (R3, R108, R124, R193, R198) -/

/-- The settings lie within their ranges (R193). -/
def settingsOk (x : Settings) : Prop :=
  (5 ≤ x.linkSilence ∧ x.linkSilence ≤ 120) ∧ (5 ≤ x.adviceAck ∧ x.adviceAck ≤ 60) ∧
    (10 ≤ x.batchAck ∧ x.batchAck ≤ 300) ∧ (30 ≤ x.pageTurn ∧ x.pageTurn ≤ 600) ∧
    (10 ≤ x.drawerOpen ∧ x.drawerOpen ≤ 600) ∧ (50 ≤ x.highWater ∧ x.highWater ≤ 95)

/-- The station sequences and the advice and batch counters lie from 1 to 65,535, the clock below 86,400, and the settings
within their ranges (R3, R108, R124, R193, R198). -/
def countersOk (s : State) : Prop :=
  (∀ st, 1 ≤ s.ttr.seqs.get st ∧ s.ttr.seqs.get st ≤ Config.topSequence) ∧
    (1 ≤ s.sda.nextAdvice ∧ s.sda.nextAdvice ≤ Config.topAdvice) ∧
    (1 ≤ s.jrn.batchCounter ∧ s.jrn.batchCounter ≤ Config.topBatch) ∧ s.mrs.clock.secs < Config.daySeconds ∧
    settingsOk s.mrs.settings

/-! ## What the claims say of an event -/

/-- Between two states only flags of a list have been raised, and only notices of those flags placed: no flag has been
cleared, and the rest of the MRS's and the BLC's records stand (R194, R195). -/
def raisedOnly (fs : List EventFlag) (s t : State) : Prop :=
  { t.mrs with flags := s.mrs.flags } = s.mrs ∧
    (∀ f, flagSet f s.mrs.flags = true → flagSet f t.mrs.flags = true) ∧
    (∀ f, f ∉ fs → flagSet f t.mrs.flags = flagSet f s.mrs.flags) ∧
    { t.blc with events := s.blc.events } = s.blc ∧
    ∃ new, t.blc.events = s.blc.events ++ new ∧ ∀ n ∈ new, n.flag ∈ fs

/-- The flags that the writing of an entry can raise (R61, R121, R122). -/
def journalFlags : List EventFlag := [.journalHighWater, .journalFull, .counterSaturated]

/-- The flags that a posting with its entry can raise (R47, R54). -/
def cashFlags : List EventFlag := .excessCash :: journalFlags

/-- An entry can be stored from k slots of a reservation and the free slots (R118, R120). -/
def canWrite (k : Nat) (d : Draft) (s : State) : Prop :=
  draftSlots d ≤ s.jrn.free + k ∧ s.jrn.nextSeq ≤ Config.topJournal

/-- From s to t the JRN has written one entry, last, releasing a reservation of k slots (R118, R119). -/
def wrote (k : Nat) (d : Draft) (s t : State) : Prop :=
  t.jrn = { s.jrn with
    entries := s.jrn.entries ++ [{ seq := s.jrn.nextSeq, date := s.day.date, time := s.mrs.clock, draft := d }]
    used := s.jrn.used + draftSlots d
    reserved := s.jrn.reserved - k
    free := s.jrn.free + k - draftSlots d
    nextSeq := s.jrn.nextSeq + 1 }

/-- The entries that drafts become, with consecutive sequences from one on and one date and time. -/
def entriesFrom (date : Option Date) (time : Stamp) : Nat → List Draft → List Entry
  | _, [] => []
  | n, d :: ds => { seq := n, date := date, time := time, draft := d } :: entriesFrom date time (n + 1) ds

/-- The journal once the JRN has written entries in order, all at one time, releasing k reserved slots in all (R118,
R119). -/
def journalAfter (k : Nat) (time : Stamp) (ds : List Draft) (s : State) : Jrn :=
  { s.jrn with
    entries := s.jrn.entries ++ entriesFrom s.day.date time s.jrn.nextSeq ds
    used := s.jrn.used + (ds.map draftSlots).sum
    reserved := s.jrn.reserved - k
    free := s.jrn.free + k - (ds.map draftSlots).sum
    nextSeq := s.jrn.nextSeq + ds.length }

/-- The transaction count of a teller's record has risen by one, at most to 65,535, and no other record has changed
(R61). -/
def countedFor (teller : Option Nat) (s t : State) : Prop :=
  t.sda.tellerDays = s.sda.tellerDays.map fun r =>
    if teller = some r.teller then { r with txCount := satCount Config.topCounter r.txCount } else r

/-- A station's context shows a mode and a message, with both images waiting to be sent (R64, R74). -/
def screenShows (st : Station) (mode : ScreenMode) (message : Text) (s : State) : Prop :=
  ∃ c, contextOf st s = some c ∧ c.mode = mode ∧ c.message = message ∧ c.terminalPending = true ∧ c.mirrorPending = true

/-- The MRS takes a management request: no STOP waits for its frame, and the request is the first of the buffer that is
not yet taken, or none waits there and a place is free for it. Only the buffer changes (R178, R191). That a row for which
none waits is the arrival of its request alone, with no frame's effect on the link, is the model's choice (log 8). -/
def mgmtTaken (id : Nat) (r : MgmtRequest) (s s1 : State) : Prop :=
  waitingStops s = 0 ∧ ∃ places, s1 = onMrs (fun m => { m with places := places }) s ∧
    ((∃ before after, s.mrs.places = before ++ ⟨id, r, false⟩ :: after ∧ (∀ p ∈ before, p.taken = true) ∧
        places = before ++ ⟨id, r, true⟩ :: after) ∨
      ((∀ p ∈ s.mrs.places, p.taken = true) ∧ s.mrs.places.length < Config.mgmtPlaces ∧
        places = s.mrs.places ++ [⟨id, r, true⟩]))

/-- From s to t the MRS has placed one reply, last in its class, and the rest of the BLC's record stands (R191). -/
def replied (id : Nat) (status : MgmtStatus) (content : ReplyContent) (s t : State) : Prop :=
  t.blc = { s.blc with replies := s.blc.replies ++ [{ id := id, status := status, content := content }] }

/-- The line of a station is another, and the rest of the SLC's record stands. -/
def lineBecomes (st : Station) (l : Line) (s t : State) : Prop :=
  t.slc.samples = s.slc.samples ∧ lineOf st t = l ∧ otherLines st s t

/-! ### Abandonment (R28) -/

/-- The TXN entry of an abandoned OTT entry: its amounts, no breakdown (R28, R117). -/
def abandonedDraft (e : OttEntry) : Draft :=
  { station := some e.ref.station, teller := some e.teller, body := .txn e.ref.seq e.code .abandoned, account := e.account,
    amounts := e.leg.map fun g => ((g.exact : Int), (g.rounded : Int)), breakdown := [] }

/-- A queue entry is the UNSENT REVERSAL advice of an abandoned OTT entry (R28, R105). -/
def reverses (cause : ReversalCause) (e : OttEntry) (q : QueueEntry) : Prop :=
  ∃ n, q = .advice { number := n
                     body := .reversal e.ref cause e.cashDirection ((e.leg.map Leg.rounded).getD 0)
                     sent := none }

/-- The TXN entry of an OTT entry ended by the loss of the link: its amounts, no breakdown (R20, R117). -/
def linkDownDraft (e : OttEntry) : Draft :=
  { station := some e.ref.station, teller := some e.teller, body := .txn e.ref.seq e.code .linkDown, account := e.account,
    amounts := e.leg.map fun g => ((g.exact : Int), (g.rounded : Int)), breakdown := [] }

/-- A transaction count once the TXN entries of some OTT entries have been counted for its teller (R61). -/
def countedTxns (es : List OttEntry) (r : TellerDay) : Nat :=
  (satCount 65535)^[es.countP fun e => decide (e.teller = r.teller)] r.txCount

/-- What a queue entry is after a warm start: an advice is UNSENT in its place, a reservation is a PASSBOOK_UPDATE advice
with cause RESTART and the fields it last recorded (R97, R105). -/
def afterRestart (before after : QueueEntry) : Prop :=
  match before with
  | .advice a => after = .advice { a with sent := none }
  | .reservation r => ∃ n, after = .advice { number := n, body := .passbookUpdate r .restart, sent := none }

/-- The end cause of a job whose line is set OFF: LINE_OFF, or the cause it had where it waits for its end write (R96). -/
def offCause (j : Job) : EndCause := if j.state = .ended then j.cause.getD .complete else .lineOff

/-- The stripe outcome of a job whose line is set OFF (R96). -/
def offOutcome (j : Job) : StripeOutcome := if j.state ≠ .ended ∧ j.printed = 0 then .notDue else .owed

/-- What a queue entry is after a line is set OFF with some jobs in its print queue: an advice stands, and so does the
reservation of another station's job; a job's own reservation is its PASSBOOK_UPDATE advice (R93, R96). -/
def afterLineOff (jobs : List Job) (before after : QueueEntry) : Prop :=
  match before with
  | .advice a => after = .advice a
  | .reservation r =>
    ((∀ j ∈ jobs, j.ref ≠ r.ref) ∧ after = .reservation r) ∨
      ∃ j ∈ jobs, ∃ n, j.ref = r.ref ∧
        after = .advice { number := n, body := .passbookUpdate (jobReservation j) (offCause j), sent := none }

/-- A code's request passes checks 1 to 6 of intake at a station: its record, its format and what check 4 finds
(R5 to R9). -/
def passesIntake (st : Station) (r : KeyRequest) (rec : TctRec) (fmt : SftFormat) (found : Found) (s : State) : Prop :=
  codeRecord r.code s = some rec ∧ (tellerAt st s ≠ none ∨ isSignOn rec = true) ∧ r.form = rec.requestFormat ∧
    formatOf r.form s = some fmt ∧ checkFields (decimalsOf s) rec fmt (sentFields r.fields) = .ok found ∧
    dayRefusal s.day.state rec.dayClass = none ∧ authorityReaches st rec s = true

/-- A key request fails one of checks 1 to 4, and so receives no number, or check 5, having received one (R3 to R8). -/
def refusedEarly (st : Station) (r : KeyRequest) (s : State) (why : Reason) (numbered : Bool) : Prop :=
  (tellerAt st s = none ∧ (∀ rec, codeRecord r.code s = some rec → isSignOn rec = false) ∧ why = .notSignedOn ∧
      numbered = false) ∨
    (tellerAt st s ≠ none ∧ codeRecord r.code s = none ∧ why = .unknownCode ∧ numbered = false) ∨
    ∃ rec, codeRecord r.code s = some rec ∧ (tellerAt st s ≠ none ∨ isSignOn rec = true) ∧
      (((r.form ≠ rec.requestFormat ∨ formatOf r.form s = none) ∧ why = .formMismatch ∧ numbered = false) ∨
        ∃ fmt, r.form = rec.requestFormat ∧ formatOf r.form s = some fmt ∧
          ((∃ tag, checkFields (decimalsOf s) rec fmt (sentFields r.fields) = .error tag ∧ why = .input tag ∧
              numbered = false) ∨
            ∃ found, checkFields (decimalsOf s) rec fmt (sentFields r.fields) = .ok found ∧ numbered = true ∧
              ((s.day.state = .noDate ∧ why = .noBusinessDate) ∨
                (s.day.state = .cutoff ∧ rec.dayClass = .customer ∧ why = .dayClosed) ∨
                (dayClosed s.day.state = true ∧ why = .dayClosed))))

/-- A stand-in request fails one of the stand-in checks 1 to 4, in their order (R99, R100, R106). -/
def standinFails (teller : Nat) (rec : TctRec) (found : Found) (s : State) (why : Reason) : Prop :=
  (∃ a, found.amount = some a ∧
    ((rec.offlineCeiling < a ∧ why = .standinCeiling) ∨
      (a ≤ rec.offlineCeiling ∧ rec.cashDirection = .cashOut ∧
        ((standinCeiling teller s < standinTotal teller s + a ∧ why = .standinCeiling) ∨
          (standinTotal teller s + a ≤ standinCeiling teller s ∧
            ((found.account = none ∧ why = .accountCeiling) ∨
              ∃ acc, found.account = some acc ∧
                ((∃ e, mapEntry acc s = some e ∧ s.tbl.tltCeiling < e.debit + a ∧ why = .accountCeiling) ∨
                  (mapEntry acc s = none ∧ 64 ≤ s.sda.accountMap.length ∧ why = .accountMapFull) ∨
                  (mapEntry acc s = none ∧ s.sda.accountMap.length < 64 ∧ s.tbl.tltCeiling < a ∧
                    why = .accountCeiling)))))))) ∨
    (72 ≤ queueCount isGeneral s ∧ why = .adviceFull ∧
      (found.amount = none ∨ ∃ a, found.amount = some a ∧ a ≤ rec.offlineCeiling ∧
        (rec.cashDirection = .cashOut → standinTotal teller s + a ≤ standinCeiling teller s ∧
          ∃ acc, found.account = some acc ∧ (∀ e, mapEntry acc s = some e → e.debit + a ≤ s.tbl.tltCeiling) ∧
            (mapEntry acc s = none → s.sda.accountMap.length < 64 ∧ a ≤ s.tbl.tltCeiling))))

/-- A breakdown is keyed: the count of each of n denominations by the tags 48 on, each an entry of digits only up to 65,535,
and no entry with a tag of 48 to 63 beside them (R35). -/
def keyedBreakdown (n : Nat) (fields : List KeyField) (b : Breakdown) : Prop :=
  (∃ f ∈ fields, 48 ≤ f.tag ∧ f.tag ≤ 63) ∧
    (∀ f ∈ fields, 48 ≤ f.tag → f.tag ≤ 63 → f.tag ≤ 47 + n ∧ ∃ v, readDecimal f.text = some v ∧ v ≤ 65535) ∧
    b = keyedPairs ((List.range n).map fun i => (fieldText fields (48 + i)).bind readDecimal)

/-- A leg of an exact amount fails one of the cash checks, in their order: the drawer sense, SUSPECT, then for the rounded
amount R the breakdown and its limits, and for an OUT leg without a breakdown the greedy one (R35 to R41). -/
def cashFails (st : Station) (teller : Nat) (dir : CashDirection) (exact : Nat) (fields : List KeyField) (s : State)
    (why : Reason) : Prop :=
  (lineWith .drawerSense (lineOf st s).setup ≠ none ∧ (lineOf st s).drawerOpen = true ∧ why = .drawerOpen) ∨
    ((lineWith .drawerSense (lineOf st s).setup = none ∨ (lineOf st s).drawerOpen = false) ∧
      (((drawerOf st s).state = .suspect ∧ why = .suspect) ∨
        ((drawerOf st s).state ≠ .suspect ∧ ∃ r, r = roundAmount s.tbl.dntHeader.increment exact ∧
          (((∃ f ∈ fields, 48 ≤ f.tag ∧ f.tag ≤ 63 ∧
              (47 + s.tbl.dnt.length < f.tag ∨ ∀ v, readDecimal f.text = some v → 65535 < v)) ∧
              why = .breakdownMismatch) ∨
            ((∀ f ∈ fields, f.tag < 48 ∨ 63 < f.tag) ∧
              ((dir = .cashIn ∧ r ≠ 0 ∧ why = .breakdownRequired) ∨
                (dir = .cashOut ∧ greedyBreakdown s.tbl.dnt (drawerOf st s) r = none ∧ why = .noExactChange))) ∨
            ∃ b, keyedBreakdown s.tbl.dnt.length fields b ∧
              ((breakdownValue (facesOf s) b ≠ r ∧ why = .breakdownMismatch) ∨
                (breakdownValue (facesOf s) b = r ∧ dir = .cashOut ∧
                  (∃ x ∈ b, (countsAt (drawerOf st s) x.1).committed - (countsAt (drawerOf st s) x.1).reservedOut < x.2) ∧
                  why = .insufficientCash) ∨
                (breakdownValue (facesOf s) b = r ∧ dir = .cashIn ∧
                  (((∃ x ∈ b, 65535 < (countsAt (drawerOf st s) x.1).committed +
                      (countsAt (drawerOf st s) x.1).pendingIn + x.2) ∧ why = .countLimit) ∨
                    ((∀ x ∈ b, (countsAt (drawerOf st s) x.1).committed +
                      (countsAt (drawerOf st s) x.1).pendingIn + x.2 ≤ 65535) ∧
                      (∃ l, tellerRecord teller s = some l ∧ r ≠ 0 ∧ l.hardLimit < (drawerOf st s).total +
                        countsValue (facesOf s) (pendingCounts (drawerOf st s)) + r) ∧
                      why = .drawerLimit))))))))

/-- A transfer fails one of its checks, in their order: a breakdown keyed and well read, not empty; no SUSPECT; the source's
counts; the destination's counts and total; and for FROM_RESERVE the teller's hard limit (R35, R48). -/
def transferFails (toReserve : Bool) (st : Station) (teller : Nat) (fields : List KeyField) (s : State) (why : Reason) :
    Prop :=
  ((∀ f ∈ fields, f.tag < 48 ∨ 63 < f.tag) ∧ why = .breakdownRequired) ∨
    ((∃ f ∈ fields, 48 ≤ f.tag ∧ f.tag ≤ 63 ∧
        (47 + s.tbl.dnt.length < f.tag ∨ ∀ v, readDecimal f.text = some v → 65535 < v)) ∧ why = .breakdownMismatch) ∨
    ∃ b v src dst, keyedBreakdown s.tbl.dnt.length fields b ∧ v = breakdownValue (facesOf s) b ∧
      src = (if toReserve then drawerOf st s else s.csh.reserve) ∧
      dst = (if toReserve then s.csh.reserve else drawerOf st s) ∧
      ((b = [] ∧ why = .breakdownRequired) ∨
        (b ≠ [] ∧
          ((((drawerOf st s).state = .suspect ∨ s.csh.reserve.state = .suspect) ∧ why = .suspect) ∨
            ((drawerOf st s).state ≠ .suspect ∧ s.csh.reserve.state ≠ .suspect ∧
              (((∃ x ∈ b, (countsAt src x.1).committed - (countsAt src x.1).reservedOut < x.2) ∧
                  why = .insufficientCash) ∨
                ((∀ x ∈ b, x.2 ≤ (countsAt src x.1).committed - (countsAt src x.1).reservedOut) ∧
                  ((((∃ x ∈ b, 65535 < (countsAt dst x.1).committed + (countsAt dst x.1).pendingIn + x.2) ∨
                        999999999999 < dst.total + v) ∧ why = .countLimit) ∨
                    ((∀ x ∈ b, (countsAt dst x.1).committed + (countsAt dst x.1).pendingIn + x.2 ≤ 65535) ∧
                      dst.total + v ≤ 999999999999 ∧ toReserve = false ∧
                      (∃ l, tellerRecord teller s = some l ∧
                        l.hardLimit < dst.total + countsValue (facesOf s) (pendingCounts dst) + v) ∧
                      why = .drawerLimit))))))))

/-- A balancing fails one of its checks, in their order: an entry for every denomination, each entry of digits only up to
65,535; for a drawer no transaction of its station in the OTT, for the reserve no reservation anywhere; and the declared value
within its bound (R35, R50). -/
def balanceFails (target : Option Station) (fields : List KeyField) (s : State) (why : Reason) : Prop :=
  ((∃ i, i < s.tbl.dnt.length ∧ ∀ f ∈ fields, f.tag ≠ 48 + i) ∧ why = .breakdownRequired) ∨
    ((∀ i, i < s.tbl.dnt.length → ∃ f ∈ fields, f.tag = 48 + i) ∧
      (((∃ f ∈ fields, 48 ≤ f.tag ∧ f.tag ≤ 63 ∧
          (47 + s.tbl.dnt.length < f.tag ∨ ∀ v, readDecimal f.text = some v → 65535 < v)) ∧ why = .breakdownMismatch) ∨
        ((∀ f ∈ fields, 48 ≤ f.tag → f.tag ≤ 63 →
            f.tag ≤ 47 + s.tbl.dnt.length ∧ ∃ v, readDecimal f.text = some v ∧ v ≤ 65535) ∧
          ∃ flying : Prop, (flying ↔ match target with
              | some st => ∃ e ∈ s.ttr.ott, e.ref.station = st
              | none => ∃ p, ∃ c ∈ (positionOf p s).counts, 0 < c.reservedOut ∨ 0 < c.pendingIn) ∧
            ((flying ∧ why = .inFlight) ∨
              (¬ flying ∧ 999999999999 < countsValue (facesOf s) ((List.range s.tbl.dnt.length).map fun i =>
                  ((fieldText fields (48 + i)).bind readDecimal).getD 0) ∧ why = .countLimit)))))

/-- A numbered key request fails one of checks 6 to 13 of intake, or a stand-in check, in their order: authority; for a
LOCAL code 4 free slots; journal space, station depth, the OTT's capacity, the passbook condition, the link, the reversal
commitment, the cash checks (R9 to R16, R98 to R102). -/
def refusedLater (st : Station) (r : KeyRequest) (s : State) (why : Reason) : Prop :=
  ∃ rec fmt found, codeRecord r.code s = some rec ∧ (tellerAt st s ≠ none ∨ isSignOn rec = true) ∧
    r.form = rec.requestFormat ∧ formatOf r.form s = some fmt ∧
    checkFields (decimalsOf s) rec fmt (sentFields r.fields) = .ok found ∧ dayRefusal s.day.state rec.dayClass = none ∧
    ((authorityReaches st rec s = false ∧ why = .authority) ∨
      (authorityReaches st rec s = true ∧ rec.routing = .localCode ∧ rec.localAction ≠ none ∧ s.jrn.free < 4 ∧
        why = .journalFull) ∨
      (authorityReaches st rec s = true ∧ rec.routing ≠ .localCode ∧ ∃ teller, tellerAt st s = some teller ∧
        ((s.jrn.free < (if rec.dayClass = .customer then 68 else 4) ∧ why = .journalFull) ∨
          ((if rec.dayClass = .customer then 68 else 4) ≤ s.jrn.free ∧
            (((lineOf st s).setup.depth ≤ stationCount st s ∧ why = .stationDepth) ∨
              (stationCount st s < (lineOf st s).setup.depth ∧ 32 ≤ s.ttr.ott.length ∧ why = .trackerFull) ∨
              (stationCount st s < (lineOf st s).setup.depth ∧ s.ttr.ott.length < 32 ∧
                ((rec.passbookUse = .required ∧ insertedBook st s = none ∧ why = .passbookRequired) ∨
                  ((rec.passbookUse = .required → insertedBook st s ≠ none) ∧
                    ((s.blc.link ≠ .lost ∧ 48 ≤ reversalSum s ∧ why = .adviceFull) ∨
                      (s.blc.link = .lost ∧ rec.routing = .online ∧ why = .linkDown) ∨
                      (s.blc.link = .lost ∧ rec.routing = .onlineStandin ∧ standinFails teller rec found s why) ∨
                      (((s.blc.link ≠ .lost ∧ reversalSum s < 48) ∨
                          (s.blc.link = .lost ∧ rec.routing = .onlineStandin ∧
                            ∀ y, ¬ standinFails teller rec found s y)) ∧
                        ∃ a, found.amount = some a ∧ rec.cashDirection ≠ .noCash ∧
                          cashFails st teller rec.cashDirection a (usableFields fmt (sentFields r.fields)) s
                            why))))))))))

/-- A sign-on fails one of its checks, in their order: the station is SIGNED_OFF, the number keyed is not signed on at another
station, it is 1 to 4 digits with a value of 1 to 9,999 and a record of the TLT, whose authority reaches the code's, and a
Teller Day Record stands or can be made (R59). -/
def signOnFails (st : Station) (rec : TctRec) (fields : List KeyField) (s : State) (why : Reason) : Prop :=
  (tellerAt st s ≠ none ∧ why = .stationInUse) ∨
    (tellerAt st s = none ∧
      ((∃ x n a, fieldText fields 1 = some x ∧ readDecimal x = some n ∧ a ≠ st ∧ tellerAt a s = some n ∧
          why = .tellerActive) ∨
        ((∀ x n a, fieldText fields 1 = some x → readDecimal x = some n → a ≠ st → tellerAt a s ≠ some n) ∧
          (((∀ x n, fieldText fields 1 = some x → readDecimal x = some n → x.length ≤ 4 → 1 ≤ n → n ≤ 9999 →
              tellerRecord n s = none) ∧ why = .unknownTeller) ∨
            ∃ x n l, fieldText fields 1 = some x ∧ readDecimal x = some n ∧ x.length ≤ 4 ∧ 1 ≤ n ∧ n ≤ 9999 ∧
              tellerRecord n s = some l ∧
              ((reaches l.authority rec.minAuthority = false ∧ why = .authority) ∨
                (reaches l.authority rec.minAuthority = true ∧ tellerDay n s = none ∧ 64 ≤ s.sda.tellerDays.length ∧
                  why = .tellerListFull))))))

/-- The first number that is not held, from a counter on and from the top to 1 (R3, R108). -/
def firstFree (top counter : Nat) (held : Nat → Prop) (n : Nat) : Prop :=
  ∃ k, n = (counter - 1 + k) % top + 1 ∧ ¬ held n ∧ ∀ j, j < k → held ((counter - 1 + j) % top + 1)

/-- The sequence counters after a station's next number has been given: its counter stands at the number after it, from 65,535
at 1 (R3). -/
def numberGiven (st : Station) (s : State) : Eight Nat :=
  s.ttr.seqs.set st (if nextNumber st s < 65535 then nextNumber st s + 1 else 1)

/-- A position after a leg, if there is one. -/
def afterLeg (f : Leg → Position → Position) (leg : Option Leg) (p : Position) : Position :=
  match leg with
  | some g => f g p
  | none => p

/-- Two positions differ at most in their EXCESS_CASH flag. -/
def sameButExcess (p q : Position) : Prop := { p with excess := false } = { q with excess := false }

/-- EXCESS_CASH of a station's drawer follows its total against the soft limit of a teller whom the TLT holds: it stands
exactly where the total is above the limit, and the event flag rises exactly where it has newly come to stand (R47). -/
def excessFollows (st : Station) (teller : Nat) (s t : State) : Prop :=
  ∀ l, tellerRecord teller s = some l →
    (drawerOf st t).excess = decide (l.softLimit < (drawerOf st t).total) ∧
      (flagSet .excessCash t.mrs.flags = true ↔ flagSet .excessCash s.mrs.flags = true ∨
        ((drawerOf st s).excess = false ∧ l.softLimit < (drawerOf st t).total))

/-- EXCESS_CASH of a station's drawer and its event flag stand as they were. -/
def excessStands (st : Station) (s t : State) : Prop :=
  (drawerOf st t).excess = (drawerOf st s).excess ∧
    flagSet .excessCash t.mrs.flags = flagSet .excessCash s.mrs.flags

/-- The value of a branch setting, the journal mode as coded (R193). -/
def settingOf (x : Settings) : SettingName → Nat
  | .linkSilence => x.linkSilence
  | .adviceAck => x.adviceAck
  | .batchAck => x.batchAck
  | .pageTurn => x.pageTurn
  | .drawerOpen => x.drawerOpen
  | .highWater => x.highWater
  | .journalMode => journalModeCode x.journalMode

/-- What a cold start leaves in every block but the queue of commands and the part's running time (R30, R115, R130, R148,
R164, R191, R193, R194, R198, R199). The drawer level at a line is not the part's to reset; a drawer that reads OPEN starts
its timer (R176). -/
def coldValues (t : State) : Prop :=
  t.ttr = { ott := [], late := [], seqs := Eight.fill 1 } ∧
    (∀ p, positionOf p t = { state := .notOpened, counts := [], total := 0, cashIn := 0, cashOut := 0, rounding := 0,
                             overShort := .absent, txCount := 0, excess := false }) ∧
    t.scm = { signOn := Eight.fill none, contexts := Eight.fill none, broadcast := none } ∧
    t.pbk = { printers := Eight.fill none } ∧
    t.sda = { tellerDays := [], accountMap := [], queue := [], nextAdvice := 1, unmatchedAcks := 0 } ∧
    t.jrn = { entries := [], used := 0, reserved := 0, free := 16384, nextSeq := 1, lastAccepted := 0, printedCursor := 0,
              notStored := 0, batchCounter := 1, trickle := none, pause := none, unmatchedAcks := 0 } ∧
    t.day = { state := .noDate, date := none, drawerMarks := Eight.fill false, reserveMark := false, settlement := none } ∧
    t.tbl = { tct := [], tctId := none, sft := [], sftId := none, dnt := [], dntHeader := { decimals := 0, increment := 1 },
              dntId := none, tlt := [], tltCeiling := 0, tltId := none, plt := [], pltId := none, load := none } ∧
    (∀ st, lineOf st t =
      { setup := { role := .off, printerPresent := false, mirrorPresent := false,
                   functions := ⟨.drawerRelease, .drawerSense, .alarmIn, .lamp⟩, depth := 2, mirrorKey := 0,
                   mirrorMask := 15, mirrorFill := ' ' }
        drops := ⟨none, none, none⟩, exchange := none, buffer := [], lastPolled := none, lastSelected := none,
        lastWasSelect := false, sweeping := false, sweep := [], errors := ⟨0, 0, 0, 0⟩, unsolicitedRun := false,
        latches := Four.fill false, drawerOpen := (lineOf st t).drawerOpen, pulse := none,
        openTimer := if (lineOf st t).drawerOpen = true then some (t.uptime + 60000) else none,
        leftOpen := false, test := none, echoed := none }) ∧
    t.blc = { link := .lost, silence := none, reassembly := none, sending := none, linkAnswer := none, replies := [],
              requests := [], events := [⟨.retentionLost, ⟨0, true⟩, none⟩], frameCheck := 0, frameForm := 0 } ∧
    (t.mrs.places = [] ∧ (∀ f, flagSet f t.mrs.flags = decide (f = .retentionLost)) ∧ t.mrs.unmatchedReplies = 0 ∧
      t.mrs.overruns = 0 ∧ t.mrs.clock = ⟨0, true⟩ ∧
      t.mrs.settings = { linkSilence := 20, adviceAck := 15, batchAck := 60, pageTurn := 120, drawerOpen := 60,
                         highWater := 80, journalMode := .hold }) ∧
    t.rts.marker = true

/-! ## What the claims say of a request, a screen, a line and a printer -/

/-- A result screen of a station shows a format of a number, as the active SFT holds it, and each field of an OUTPUT format
the text that its source gives, fitted to the field (R65, R67 to R69). -/
def resultShows (st : Station) (number : Nat) (text : SftField → Text) (s t : State) : Prop :=
  ∃ c, contextOf st t = some c ∧ c.format = some number ∧ c.shown = formatOf number s ∧ c.errorTag = none ∧
    ∀ fmt (i : Nat) f, formatOf number s = some fmt → fmt.kind = .output → fmt.fields[i]? = some f →
      c.texts[i]? = some (fitField (decimalsOf s) f.kind f.length (text f))

/-- The text that the source of a result field gives (R68): of the reply's fields, the breakdown of the event, the total of
the position shown, the words of PASSBOOK_STATUS, the business date, the teller, the reference and the reason. -/
def shownText (st : Station) (replied : Nat → Text) (b : Breakdown) (total : Nat) (passbook : Text) (ref : Ref)
    (reason : Text) (s : State) (f : SftField) : Text :=
  match f.source with
  | .replyTag => replied f.tag
  | .breakdown => breakdownText (facesOf s) b
  | .positionTotal => amountText (decimalsOf s) (total : Int)
  | .passbookStatus => passbook
  | .businessDate => (s.day.date.map dateText).getD []
  | .teller => ((tellerAt st s).map natText).getD []
  | .reference => refText ref
  | .reason => reason

/-- What a local action reaches beside its own position: the station's number, its screen, its teller's record, the journal,
its line's buffer and pulse, and the flags with their notices. -/
def localBlocks : List Block := [.ttr, .csh, .scm, .sda, .jrn, .day, .slc, .blc, .mrs]

/-- A LOCAL entry of a station (R10, R117). -/
def localEntry (st : Station) (teller code : Nat) (action : LocalAction) (refusal : Option Reason) (target : Nat)
    (amounts : Option (Int × Int)) (b : Breakdown) (s : State) : Draft :=
  { station := some st, teller := some teller, body := .localAction (nextNumber st s) code action refusal target,
    account := none, amounts := amounts, breakdown := b }

/-- A local action has been carried out: its number given, its LOCAL entry written and counted, and the approve format
shown with its words and the breakdown and position it speaks of (R3, R10, R61, R65, R70). -/
def localCarried (st : Station) (rec : TctRec) (teller : Nat) (d : Draft) (shown : Breakdown) (position : Option Station)
    (words : Text) (s s1 t : State) : Prop :=
  keeps localBlocks s t ∧ t.ttr = { s.ttr with seqs := numberGiven st s } ∧ otherLines st s1 t ∧ otherScreens st s t ∧
    { t.sda with tellerDays := s.sda.tellerDays } = s.sda ∧
    (canWrite 0 d s → wrote 0 d s t ∧ countedFor (some teller) s t ∧ raisedOnly cashFlags s t) ∧
    ((contextOf st s).isSome = true → screenShows st .result words t ∧
      resultShows st rec.approveFormat
        (shownText st (fun _ => []) shown (positionOf position t).total [] ⟨st, nextNumber st s⟩ words s) s t)

/-- A local action has been refused by its owner: its LOCAL entry with the reason is written and not counted, and the
refusal shown; nothing else changes (R4, R10, R61). -/
def localRefused (st : Station) (d : Draft) (why : Reason) (s s1 t : State) : Prop :=
  keeps [.ttr, .scm, .jrn, .slc, .blc, .mrs] s t ∧ t.ttr = { s.ttr with seqs := numberGiven st s } ∧ t.slc = s1.slc ∧
    otherScreens st s t ∧ (canWrite 0 d s → wrote 0 d s t ∧ raisedOnly journalFlags s t) ∧
    ∀ c, contextOf st s = some c → ∃ c', contextOf st t = some c' ∧ c'.message = refusalMessage why

/-- A request to pulse the drawer release of a station has been taken: a pulse of 200 ms begins at a line whose latch is INACTIVE
and that no pulse drives; a running pulse, which ends at its own time, an ACTIVE latch and the lack of a DRAWER_RELEASE line
each leave the line as it was; and nothing else of the SLC's record changes (R175). -/
def drawerPulsed (st : Station) (s t : State) : Prop :=
  ∃ begins : Bool,
    (begins = true ↔ (lineOf st s).pulse = none ∧
      ∃ w, lineWith .drawerRelease (lineOf st s).setup = some w ∧ (lineOf st s).latches.get w = false) ∧
    lineBecomes st { lineOf st s with
      pulse := if begins = true then some (s.uptime + 200) else (lineOf st s).pulse } s t

/-- A management request has been taken and its reply placed; beside the buffer, the replies and the blocks named nothing
has changed. -/
def requestDone (id : Nat) (status : MgmtStatus) (content : ReplyContent) (changed : List Block) (s s1 t : State) : Prop :=
  keeps (.mrs :: .blc :: changed) s t ∧ t.mrs = s1.mrs ∧ replied id status content s t

/-- A management request is refused: the reply with its reason is all that follows (R192). -/
def requestRefused (id : Nat) (why : MgmtStatus) (s s1 t : State) : Prop := requestDone id why .nothing [] s s1 t

/-- The number of the sign-on prompt's format: the request format of the SIGN_ON record with the lowest code; none where the TCT
holds no such record (R64). -/
def promptFormat (s : State) (n : Option Nat) : Prop :=
  n = signOnPrompt s ∧ ((∀ r ∈ s.tbl.tct, r.localAction ≠ some .signOn) → n = none) ∧
    ∀ r ∈ s.tbl.tct, r.localAction = some .signOn →
      (∀ y ∈ s.tbl.tct, y.localAction = some .signOn → y = r ∨ r.code < y.code) → n = some r.requestFormat

/-- A station's screen as it is made: the sign-on prompt at a SIGNED_OFF station, FORM without a format at a SIGNED_ON one; the
fields of what is shown empty, no message and no error tag, and both images composed and to be sent (R64, R67). -/
def freshScreen (st : Station) (s t : State) : Prop :=
  ∃ c, contextOf st t = some c ∧ c = recomposed st t c ∧ c.terminalPending = true ∧ c.mirrorPending = true ∧
    c.message = [] ∧ c.errorTag = none ∧ c.mode = (if tellerAt st s = none then .signOnPrompt else .form) ∧
    (tellerAt st s = none → promptFormat s c.format) ∧ (tellerAt st s ≠ none → c.format = none) ∧
    c.shown = c.format.bind (fun n => formatOf n s) ∧
    c.texts = ((c.shown.map SftFormat.fields).getD []).map fun _ => []

/-- A line as a role begins: its drops in NEW with 0 missed, no exchange and no frame, and its rounds from the start (R166; the
rounds are the model's choice, log 22). Its error summary, latches and pulse stand (R173, R174). -/
def roleBegins (x : LineSetup) (l : Line) : Line :=
  { l with
    drops := Three.ofFn fun d => if dropPresent x d = true then
      some { state := .new, missed := 0, busy := none, repoll := none, repollDue := false } else none
    exchange := none
    buffer := []
    lastPolled := none
    lastSelected := none
    lastWasSelect := false
    sweeping := false
    sweep := [] }

/-- A line as a role ends: its drops without a state, its exchange, frames and sweep dropped; its error summary, latches and pulse
stand (R167). -/
def roleEnds (l : Line) : Line :=
  { l with drops := ⟨none, none, none⟩, exchange := none, buffer := [], sweeping := false, sweep := [] }

/-- A line that was l has the setup x, and beside it the fields of y but those of its drawer. Where the wire of DRAWER_SENSE
stands, the sensed level, the drawer-open timer and the condition stand; where it leaves or comes to a wire, the condition
ends, and the timer runs, for the drawer-open time from now, exactly where there is such a wire and it reads OPEN (R176). -/
def setUpAs (x : LineSetup) (l y v : Line) (s : State) : Prop :=
  v = { y with setup := x, drawerOpen := v.drawerOpen, openTimer := v.openTimer, leftOpen := v.leftOpen } ∧
    (lineWith .drawerSense x = lineWith .drawerSense l.setup →
      v.drawerOpen = l.drawerOpen ∧ v.openTimer = l.openTimer ∧ v.leftOpen = l.leftOpen) ∧
    (lineWith .drawerSense x ≠ lineWith .drawerSense l.setup → v.leftOpen = false ∧
      v.openTimer = if lineWith .drawerSense x ≠ none ∧ v.drawerOpen = true then
        some (s.uptime + 1000 * s.mrs.settings.drawerOpen) else none)

/-- Every screen context has been recomposed with the status line as the later state gives it (R72). -/
def statusLinesFollow (s t : State) : Prop :=
  t.scm.signOn = s.scm.signOn ∧ ∀ st, contextOf st t = (contextOf st s).map (recomposed st t)

/-- The sweep of a line goes on while it has a drop to poll (R172). -/
def sweepGoesOn (l : Line) : Bool := l.sweeping && l.sweep ≠ []

/-- A line after a valid answer of a drop: the exchange is over, the drop is UP with 0 missed (R169). -/
def answeredLine (d : Drop) (l : Line) : Line :=
  { l with
    exchange := none
    sweeping := sweepGoesOn l
    drops := l.drops.set d ((l.drops.get d).map fun x =>
      { x with state := .up, missed := 0, repoll := none, repollDue := false }) }

/-- A line after a failed answer of a drop, with its error counts and the drop as they then stand (R169, R173). -/
def failedLine (d : Drop) (y : DropStatus) (e : ErrorSummary) (l : Line) : Line :=
  { l with exchange := none, sweeping := sweepGoesOn l, errors := e, drops := l.drops.set d (some y) }

/-- The number of drops that come before a drop in drop order from the one after the last taken; from drop 1 where none has been
taken (R168; the start is the model's choice, log 22). -/
def turnsAfter (last : Option Drop) (d : Drop) : Nat := (d.num + 2 - (last.map Drop.num).getD 0) % 3

/-- A DOWN drop's re-poll is due (R169). -/
def repollWaits (l : Line) (d : Drop) : Prop := ∃ x, l.drops.get d = some x ∧ x.state = .down ∧ x.repollDue = true

/-- A drop takes its turn in the round robin: it is present and not DOWN (R168). -/
def inTurn (l : Line) (d : Drop) : Prop := ∃ x, l.drops.get d = some x ∧ x.state ≠ .down

/-- The poll that a line issues next, which needs a free place of the buffer: the head of the sweep, else a due re-poll, the
lowest drop's first (log 22), else the first drop of the round robin after the one last polled (R168, R172). -/
def pollsNext (l : Line) (d : Drop) : Prop :=
  l.buffer.length < 3 ∧
    (l.sweep.head? = some d ∨
      (l.sweep = [] ∧
        ((repollWaits l d ∧ ∀ a, repollWaits l a → d.num ≤ a.num) ∨
          ((∀ a, ¬ repollWaits l a) ∧ inTurn l d ∧
            ∀ a, inTurn l a → turnsAfter l.lastPolled d ≤ turnsAfter l.lastPolled a))))

/-- An output is ready at a drop that is UP and not BUSY: a pending image while no alarm stands at the station, the printer's
item not yet accepted, or the entry after the printed cursor (R76, R126, R171). -/
def outputReady (st : Station) (s : State) (d : Drop) (item : SelectItem) : Prop :=
  (∃ x, (lineOf st s).drops.get d = some x ∧ x.state = .up ∧ x.busy = none) ∧
    match (lineOf st s).setup.role, d with
    | .teller, .d1 => ∃ c, contextOf st s = some c ∧ c.terminalPending = true ∧
        (∀ q ∈ s.sda.queue, alarmStation q ≠ some st) ∧ item = .terminal c.terminal
    | .teller, .d2 => ∃ c i, printerOf st s = some c ∧ c.item = some i ∧ i.accepted = false ∧ item = .printer i.body
    | .teller, .d3 => ∃ c, contextOf st s = some c ∧ c.mirrorPending = true ∧
        (∀ q ∈ s.sda.queue, alarmStation q ≠ some st) ∧ item = .mirror c.mirror
    | .journalPrinter, .d1 => ∃ e, (s.jrn.entries.find? fun y => y.seq = s.jrn.printedCursor + 1) = some e ∧
        item = .journalLine e
    | .journalPrinter, _ => False
    | .off, _ => False

/-- The select that a line issues next: of the outputs ready, that of the first drop after the one last selected (R168). -/
def selectsNext (st : Station) (s : State) (d : Drop) (item : SelectItem) : Prop :=
  outputReady st s d item ∧ ∀ a y, outputReady st s a y →
    turnsAfter (lineOf st s).lastSelected d ≤ turnsAfter (lineOf st s).lastSelected a

/-- The setup that a LINE-SETUP carries, where every item lies within its values: drop 1 present, and drops 2 and 3 absent for
a journal printer; no two discrete lines sharing a function but the spare ones; a printable fill, codes 32 to 126 (log 22)
(R164, R165). -/
def setupCarried (r : LineSetupRequest) (x : LineSetup) : Prop :=
  roleOfCode r.role = some x.role ∧ (∀ d, lineFunctionOfCode (r.functions.get d) = some (x.functions.get d)) ∧
    r.drop1 = true ∧ x.printerPresent = r.drop2 ∧ x.mirrorPresent = r.drop3 ∧
    (x.role = .journalPrinter → r.drop2 = false ∧ r.drop3 = false) ∧
    (∀ a b, a ≠ b → x.functions.get a = x.functions.get b →
      x.functions.get a = .spareIn ∨ x.functions.get a = .spareOut) ∧
    (1 ≤ r.depth ∧ r.depth ≤ 4 ∧ x.depth = r.depth) ∧ (r.mirrorKey ≤ 15 ∧ x.mirrorKey = r.mirrorKey) ∧
    (r.mirrorMask ≤ 15 ∧ x.mirrorMask = r.mirrorMask) ∧
    (32 ≤ r.mirrorFill ∧ r.mirrorFill ≤ 126 ∧ x.mirrorFill = Char.ofNat r.mirrorFill)

/-- A setup fails one of checks 2 to 4 at its line, in their order: another role than the line's own, or a role while a test
runs; a second journal printer; a changed drop presence or function under the role the line has (R165). -/
def setupFails (st : Station) (x : LineSetup) (s : State) (why : MgmtStatus) : Prop :=
  x.role ≠ .off ∧
    ((((lineOf st s).setup.role ≠ .off ∧ x.role ≠ (lineOf st s).setup.role) ∨ testRuns (lineOf st s) = true) ∧
        why = .roleOrder ∨
      (testRuns (lineOf st s) = false ∧ (lineOf st s).setup.role = .off ∧ x.role = .journalPrinter ∧
        (∃ a, (lineOf a s).setup.role = .journalPrinter) ∧ why = .roleConflict) ∨
      (testRuns (lineOf st s) = false ∧ x.role = (lineOf st s).setup.role ∧
        (x.printerPresent ≠ (lineOf st s).setup.printerPresent ∨ x.mirrorPresent ≠ (lineOf st s).setup.mirrorPresent ∨
          x.functions ≠ (lineOf st s).setup.functions) ∧ why = .roleOrder))

/-- The blocks that an event of a printer reaches: its context, the screen of its station, the queue and the journal that
its job's end writes to, and the flags with their notices. -/
def printerBlocks : List Block := [.pbk, .scm, .sda, .jrn, .blc, .mrs]

/-- An event of one station's printer reached no other station and raised no flag but the journal's. -/
def ofPrinter (st : Station) (s t : State) : Prop :=
  keeps printerBlocks s t ∧ otherPrinters st s t ∧ otherScreens st s t ∧ raisedOnly journalFlags s t

/-- A job's end has been completed: its reservation has become its advice in place, and its PASSBOOK entry is written
(R93). -/
def jobReported (st : Station) (j : Job) (cause : EndCause) (outcome : StripeOutcome) (s t : State) : Prop :=
  wrote 0 (passbookDraft st (tellerAt st s) (jobReservation j) cause outcome) s t ∧
    t.sda = { s.sda with
      queue := convertFirst j.ref
        (fun _ => { number := adviceNumber s, body := .passbookUpdate (jobReservation j) cause, sent := none }) s.sda.queue
      nextAdvice := wrapNext 65535 (adviceNumber s) }

/-- An item is a PRINT_LINE. -/
def isPrintLine : ItemBody → Bool
  | .printLine .. => true
  | .stripeWrite .. => false

/-- An item is the end write of a job. -/
def isEndWrite : ItemBody → Bool
  | .stripeWrite _ .endWrite => true
  | .stripeWrite .. => false
  | .printLine .. => false

/-- An item handed to the printer and not yet accepted (R78, R79). -/
def handed (body : ItemBody) : PrinterItem := { body := body, accepted := false, timer := none }

/-- The job that an approval's lines ask for: its book is the snapshot's, else the entry's account alone (R83, R84). -/
def askedJob (e : OttEntry) (r : Reply) (account : Text) : Job :=
  { ref := e.ref, account := account, serial := e.snapshot.map Book.serial, bookType := e.snapshot.map Book.bookType,
    met := false, lines := r.lines, balance := r.balance, next := 1, printed := 0, lastBalance := none, layout := none,
    place := none, state := .queued, cause := none, outcome := none, timer := none }

/-- A job in BOOK_WAIT with its wait timer (R85). -/
def waitsForBook (j : Job) (s : State) : Job :=
  { j with state := .bookWait, timer := some (s.uptime + 1000 * s.mrs.settings.pageTurn) }

/-- A job's next line can be placed at a book: the layout of the job, or of the book's type where it has none, and the line,
raised on page 1 to the first line, lie within the book (R87). -/
def lineStarts (j : Job) (b : Book) (layout : PltRec) (l : PassLine) (line : Nat) (s : State) : Prop :=
  (j.layout = some layout ∨ (j.layout = none ∧ layoutOf b.bookType s = some layout)) ∧
    line = (if b.page = 1 ∧ b.line < layout.firstLine then layout.firstLine else b.line) ∧ 1 ≤ b.page ∧
    b.page ≤ layout.pages ∧ 1 ≤ line ∧ line ≤ layout.linesPerPage ∧ j.lines[j.next - 1]? = some l

/-- A job that has met its book and waits no longer: it has the book's serial and type if it had none (R83, R85 to R87). -/
def metBook (j : Job) (b : Book) : Job :=
  { j with
    serial := some (j.serial.getD b.serial), bookType := some (j.bookType.getD b.bookType), met := true, timer := none }

/-- The head job as a book read has been offered to it and no placement begun: in BOOK_WAIT it has met a book that matches, and
its wait goes on (R86, R94). -/
def shownBook (j : Job) (b : Book) : Job := if j.state = .bookWait then { metBook j b with timer := j.timer } else j

/-- A printer context once placement has handed the head job's next line: TURN PAGE and WRONG BOOK withdrawn, the job
PRINTING at its place with its copy of the layout (R86 to R88, R91). -/
def lineHanded (j : Job) (rest : List Job) (b : Book) (layout : PltRec) (l : PassLine) (line : Nat) (s : State)
    (c : PrinterContext) : PrinterContext :=
  { c with
    prompt := if c.prompt = .bookFull then .bookFull else .noPrompt
    state := .printing
    item := some (handed (.printLine ⟨b.page, line⟩ (lineTexts (decimalsOf s) layout l (printedBalance j j.next l))
      (printedBalance j j.next l)))
    queue := { metBook j b with layout := some layout, place := some ⟨b.page, line⟩, state := .printing } :: rest }

/-- The jobs behind one that has left the queue, where no book of the next is inserted: it begins and waits for it
(R85). -/
def nextWaits (rest : List Job) (s : State) : List Job :=
  match rest with
  | [] => []
  | k :: more => waitsForBook k s :: more

/-- A placement of a job at a book starts at a line of a layout: of the job's layout, or of the book's type where it has none,
the line raised on page 1 to the first line (R87). -/
def startsAt (j : Job) (b : Book) (layout : PltRec) (line : Nat) (s : State) : Prop :=
  (j.layout = some layout ∨ (j.layout = none ∧ layoutOf b.bookType s = some layout)) ∧
    line = if b.page = 1 ∧ b.line < layout.firstLine then layout.firstLine else b.line

/-- A job's placement ends it at its start with no stripe write due: no layout, a stripe outside the book, or the book's last
page full before its first line is printed (R87, R90, R93). -/
def endsAtStart (j : Job) (b : Book) (s : State) (cause : EndCause) : Prop :=
  (j.layout = none ∧ layoutOf b.bookType s = none ∧ j.printed = 0 ∧ cause = .noLayout) ∨
    ∃ layout line, startsAt j b layout line s ∧
      (((b.page < 1 ∨ layout.pages < b.page ∨ line < 1 ∨ layout.linesPerPage + 1 < line) ∧ cause = .badStripe) ∨
        (1 ≤ b.page ∧ b.page = layout.pages ∧ line = layout.linesPerPage + 1 ∧ j.printed = 0 ∧ cause = .bookFull))

/-- A job's placement starts at a full page that is not the book's last (R90). -/
def turnsAtStart (j : Job) (b : Book) (layout : PltRec) (s : State) : Prop :=
  startsAt j b layout (layout.linesPerPage + 1) s ∧ 1 ≤ b.page ∧ b.page < layout.pages

/-- The jobs behind one that ends with a book inserted: the next begins at a book not its own and waits (R85). -/
def nextAtOtherBook (rest : List Job) (b : Book) : Prop :=
  ∀ k, rest.head? = some k → k.state = .queued ∧ bookMatches k b = false

/-- A printer context once placement has ended its head job with no stripe write due; the next job waits (R85, R87, R93). -/
def endedAtStart (rest : List Job) (cause : EndCause) (s : State) (c : PrinterContext) : PrinterContext :=
  { c with prompt := if cause = .bookFull ∨ c.prompt = .bookFull then .bookFull else .noPrompt, queue := nextWaits rest s }

/-- A printer context once placement has found the page full: the turn write handed, TURN PAGE shown, the head job in
TURN_WAIT at the next page (R90). -/
def turnedAtStart (j : Job) (rest : List Job) (b : Book) (layout : PltRec) (s : State) (c : PrinterContext) :
    PrinterContext :=
  { c with
    prompt := .turnPage
    state := .printing
    item := some (handed (.stripeWrite ⟨b.page + 1, 1⟩ .turn))
    queue := { metBook j b with
      layout := some layout, place := some ⟨b.page + 1, 1⟩, state := .turnWait,
      timer := some (s.uptime + 1000 * s.mrs.settings.pageTurn) } :: rest }

/-- A placement that hands no line: it ends its job at its start, with its advice and entry; it turns the page; or, lines of
the job being printed, it finds the book full and hands the end write (R87, R90, R93, R94). -/
def placedWithoutLine (st : Station) (j : Job) (rest : List Job) (b : Book) (s : State) (c c' : PrinterContext) (t : State) :
    Prop :=
  (∀ cause, endsAtStart j b s cause → nextAtOtherBook rest b →
    canWrite 0 (passbookDraft st (tellerAt st s) (jobReservation (metBook j b)) cause .notDue) s →
    c' = endedAtStart rest cause s c ∧ jobReported st (metBook j b) cause .notDue s t) ∧
  (∀ layout, turnsAtStart j b layout s →
    c' = turnedAtStart j rest b layout s c ∧ t.sda = s.sda ∧ t.jrn = s.jrn) ∧
  ∀ layout, startsAt j b layout (layout.linesPerPage + 1) s → 1 ≤ b.page → b.page = layout.pages → 0 < j.printed →
    j.account = b.account → (metBook j b).serial = some b.serial → j.outcome = none →
    c' = { c with
      prompt := .bookFull
      state := .printing
      item := some (handed (.stripeWrite ⟨b.page, layout.linesPerPage + 1⟩ .endWrite))
      queue := { metBook j b with
        layout := some layout, place := some ⟨b.page, layout.linesPerPage + 1⟩, state := .ended,
        cause := some .bookFull } :: rest } ∧ t.sda = s.sda ∧ t.jrn = s.jrn

/-- A created job joins the end of its station's queue and, where it is the head and the printer is not PRINTING, begins:
placement at a matching book, the owed write of that book first where the stripe is behind it, or BOOK_WAIT. Placement hands
the line, turns a full page, or ends the job at its start; with the words of PASSBOOK_STATUS, of a job so ended its end cause
(log 15) (R68, R84 to R87, R90, R94). -/
def jobJoins (j : Job) (s : State) (c c' : PrinterContext) (words : Text) : Prop :=
  (∀ k rest, c.queue = k :: rest → (k.state = .queued → c.state = .printing) → (k.state = .ended → k.outcome = none) →
    c' = { c with queue := c.queue ++ [j] } ∧ words = "QUEUED".toList) ∧
  (c.queue = [] → c.state = .printing → c' = { c with queue := [j] } ∧ words = "QUEUED".toList) ∧
  (c.queue = [] → c.state ≠ .printing → (∀ b, c.book = some b → bookMatches j b = false ∨ c.state ≠ .ready) →
    c' = { c with queue := [waitsForBook j s] } ∧ words = "BOOK WAIT".toList) ∧
  ∀ b, c.queue = [] → c.state = .ready → c.book = some b → bookMatches j b = true →
    (∀ o, owedFor c b = true → c.owed = some o → placeBefore (bookPlace b) o.place = true →
      c' = { c with
        state := .printing, item := some (handed (.stripeWrite o.place .owed)), queue := [waitsForBook (metBook j b) s] } ∧
      words = "BOOK WAIT".toList) ∧
    ∀ c0, ((owedFor c b = false ∧ c0 = c) ∨
        (∃ o, owedFor c b = true ∧ c.owed = some o ∧ placeBefore (bookPlace b) o.place = false ∧
          c0 = { c with owed := none })) →
      (∀ layout l line, lineStarts j b layout l line s →
        c' = lineHanded j [] b layout l line s c0 ∧ words = "PRINTING".toList) ∧
      (∀ layout, turnsAtStart j b layout s → c' = turnedAtStart j [] b layout s c0 ∧ words = "TURN WAIT".toList) ∧
      ∀ cause, endsAtStart j b s cause → (∀ r, QueueEntry.reservation r ∈ s.sda.queue → r.ref ≠ j.ref) →
        c' = endedAtStart [] cause s c0 ∧ words = (match cause with
          | .noLayout => "NO LAYOUT".toList
          | .badStripe => "BAD STRIPE".toList
          | _ => "BOOK FULL".toList)

/-- The QUEUED head job of a printer that is not PRINTING begins: it waits for a book where none is inserted, where the book is
not its own and where the printer is not READY; else it has met its book, whose owed write is handed, where the stripe is behind
it, or placement begins (R85, R94). -/
def headBegins (st : Station) (k : Job) (more : List Job) (c : PrinterContext) (s t : State) : Prop :=
  ∃ c', printerOf st t = some c' ∧
    (((∀ b, c.book = some b → bookMatches k b = false) ∨ c.state ≠ .ready) →
      c' = { c with queue := waitsForBook k s :: more } ∧ t.sda = s.sda ∧ t.jrn = s.jrn) ∧
    ∀ b, c.book = some b → bookMatches k b = true → c.state = .ready →
      (∀ o, owedFor c b = true → c.owed = some o → placeBefore (bookPlace b) o.place = true →
        c' = { c with
          state := .printing, item := some (handed (.stripeWrite o.place .owed))
          queue := waitsForBook (metBook k b) s :: more } ∧
        t.sda = s.sda ∧ t.jrn = s.jrn) ∧
      ∀ c0, ((owedFor c b = false ∧ c0 = c) ∨
          (∃ o, owedFor c b = true ∧ c.owed = some o ∧ placeBefore (bookPlace b) o.place = false ∧
            c0 = { c with owed := none })) →
        (∀ layout l line, lineStarts k b layout l line s →
          c' = lineHanded k more b layout l line s c0 ∧ t.sda = s.sda ∧ t.jrn = s.jrn) ∧
        placedWithoutLine st k more b s c0 c' t

/-- The end of a head job is complete: its advice and its PASSBOOK entry are made, it has left the queue of the printer context
given, and the QUEUED job behind it, if there is one, begins unless the printer is PRINTING (R85, R93). -/
def jobLeaves (st : Station) (j : Job) (rest : List Job) (cause : EndCause) (outcome : StripeOutcome) (c : PrinterContext)
    (s t : State) : Prop :=
  ∃ m, ofPrinter st s m ∧ jobReported st j cause outcome s m ∧ printerOf st m = some { c with queue := rest } ∧
    ofPrinter st s t ∧ ((rest = [] ∨ c.state = .printing) → t = m) ∧
    ∀ k more, rest = k :: more → c.state ≠ .printing → headBegins st k more { c with queue := rest } m t

/-- The account of the book an approval's lines belong to: of the snapshot, or of the entry (R84). -/
def linesAccount (e : OttEntry) : Option Text :=
  match e.snapshot with
  | some b => some b.account
  | none => e.account

/-- The reservation that the SDA grants a job as it is created (R84). -/
def grantedReservation (j : Job) : QueueEntry :=
  .reservation { ref := j.ref, account := j.account, serial := j.serial, received := j.lines.length, printed := 0,
                 lastBalance := none }

/-- An owed write that a job leaves: of its book and place, or none where it has met no book (R94). -/
def leavesOwed (j : Job) (owed : Option OwedWrite) : Option OwedWrite :=
  match j.serial, j.place with
  | some n, some p => some { account := j.account, serial := n, place := p }
  | _, _ => owed

/-- What a printer context is before a STRIPE_READ's book is recorded: as it stands where no item is outstanding. An
outstanding item has failed: a line has ended its job, an end write is owed, and either job has left the queue; a turn, repair
or owed write has left the wait as it was (R79, R80, R92 to R94). -/
def failureLeaves (c c1 : PrinterContext) : Prop :=
  (c.item = none ∧ c.state ≠ .printing ∧ c1 = c) ∨
    ∃ i x, c.item = some i ∧ c.state = .printing ∧ x = { c with item := none, state := .ready, book := none } ∧
      ((isPrintLine i.body = false ∧ isEndWrite i.body = false ∧ c1 = x) ∨
        ∃ j rest, c.queue = j :: rest ∧
          ((isPrintLine i.body = true ∧ j.state = .printing ∧
              c1 = { x with
                queue := rest
                prompt := if c.prompt = .bookFull then .bookFull else .noPrompt
                owed := if j.printed = 0 then c.owed else leavesOwed j c.owed }) ∨
            (isEndWrite i.body = true ∧ j.state = .ended ∧
              c1 = { x with queue := rest, owed := leavesOwed j c.owed })))

/-- What the failure of an outstanding item reports as a book is read: the job that a line ends BOOK_REMOVED, or that waited
for its end write, and nothing where no job ends (R92, R93). -/
def failureReported (st : Station) (c : PrinterContext) (s t : State) : Prop :=
  ((∀ i, c.item = some i → isPrintLine i.body = false ∧ isEndWrite i.body = false) → t.sda = s.sda ∧ t.jrn = s.jrn) ∧
    ∀ i j rest cause outcome, c.item = some i → c.queue = j :: rest →
      ((isPrintLine i.body = true ∧ cause = .bookRemoved ∧ outcome = (if j.printed = 0 then .notDue else .owed)) ∨
        (isEndWrite i.body = true ∧ cause = j.cause.getD .complete ∧ outcome = .owed)) →
      canWrite 0 (passbookDraft st (tellerAt st s) (jobReservation j) cause outcome) s →
      jobReported st j cause outcome s t

/-- A book read at a printer that is not PRINTING, with no item outstanding: the book is recorded, FAULT and BOOK FULL end,
and an owed write that stands for that book is handed to a READY printer where the stripe is behind it, cleared where it is
not (R80, R94). -/
def readRecorded (b : Book) (c base : PrinterContext) : Prop :=
  ∃ x : PrinterContext, x = { c with
      book := some b
      state := if c.state = .fault then .ready else c.state
      prompt := if c.prompt = .bookFull then .noPrompt else c.prompt } ∧
    ((owedFor c b = false ∧ base = x) ∨
      ∃ o, owedFor c b = true ∧ c.owed = some o ∧
        base = if placeBefore (bookPlace b) o.place = true then
            (if x.state = .ready then
              { x with state := .printing, item := some (handed (.stripeWrite o.place .owed)) } else x)
          else { x with owed := none })

/-- A printer's report has cleared the inserted-book record and left the printer in a state: no item is outstanding; a head
job that waits for a book goes on waiting, the turn, repair or owed write that was outstanding having left the owed write
and the job as they were; a line that was outstanding has ended its job with a cause; and an end write that was outstanding
is owed. The job behind one that has ended begins its wait for a book (R79, R81, R82, R85, R90 to R94). -/
def bookCleared (st : Station) (cause : EndCause) (state : PrinterState) (c : PrinterContext) (s t : State) : Prop :=
  ofPrinter st s t ∧ ∃ c', printerOf st t = some c' ∧ c'.book = none ∧ c'.item = none ∧ c'.state = state ∧
    (∀ j rest, c.queue = j :: rest → (j.state = .bookWait ∨ j.state = .turnWait) →
      (∀ i, c.item = some i → isPrintLine i.body = false ∧ isEndWrite i.body = false) →
      c'.queue = c.queue ∧ c'.owed = c.owed) ∧
    ∀ i j rest, c.item = some i → c.queue = j :: rest → (∀ k, rest.head? = some k → k.state = .queued) →
      (isEndWrite i.body = true → j.state = .ended →
        canWrite 0 (passbookDraft st (tellerAt st s) (jobReservation j) (j.cause.getD .complete) .owed) s →
        c'.queue = nextWaits rest s ∧ c'.owed = leavesOwed j c.owed ∧
          jobReported st j (j.cause.getD .complete) .owed s t) ∧
      (isPrintLine i.body = true →
        canWrite 0 (passbookDraft st (tellerAt st s) (jobReservation j) cause
          (if j.printed = 0 then .notDue else .owed)) s →
        c'.queue = nextWaits rest s ∧ c'.owed = (if j.printed = 0 then c.owed else leavesOwed j c.owed) ∧
          jobReported st j cause (if j.printed = 0 then .notDue else .owed) s t)

/-- A TABLE-READ carries whole records from a first index on, as many as leave the reply within 1,024 bytes, and names the last
index carried, 0 where it carries none (R163). -/
def readsFrom {α : Type} (size : List α → Nat) (first : Nat) (all carried : List α) (last : Nat) : Prop :=
  (carried <+: all.drop (first - 1) ∧ last = if carried.length = 0 then 0 else first + carried.length - 1) ∧
    size carried ≤ 1024 ∧ ∀ x rest, all.drop (first - 1) = carried ++ x :: rest → 1024 < size (carried ++ [x])

/-- Each station that shows the sign-on prompt shows the prompt of the new tables, with empty texts, no error tag and its message
kept; every other screen stands (R162). -/
def promptsFollow (s t : State) : Prop :=
  ∀ st c, contextOf st s = some c →
    (c.mode ≠ .signOnPrompt → contextOf st t = some c) ∧
    (c.mode = .signOnPrompt → ∃ c', contextOf st t = some c' ∧ c' = recomposed st t c' ∧ c'.mode = .signOnPrompt ∧
      c'.format = signOnPrompt t ∧ c'.shown = (signOnPrompt t).bind (fun n => formatOf n t) ∧
      (∀ x ∈ c'.texts, x = []) ∧ c'.errorTag = none ∧ c'.message = c.message)

/-- A table of the active copies as a commit of a checked table leaves it; the load has ended (R162). -/
def committedTables (table : CheckedTable) (loadId : Nat) (x : Tbl) : Tbl :=
  match table with
  | .tct rs => { x with tct := rs, tctId := some loadId, load := none }
  | .sft rs => { x with sft := rs, sftId := some loadId, load := none }
  | .dnt h rs => { x with dnt := rs, dntHeader := h, dntId := some loadId, load := none }
  | .tlt c rs => { x with tlt := rs, tltCeiling := c, tltId := some loadId, load := none }
  | .plt rs => { x with plt := rs, pltId := some loadId, load := none }

/-! ### What a committed table has passed (R150 to R154, R160, R161) -/

/-- A code names a value of a list by its place, counted from 1 (R201). -/
def coded {α : Type} (values : List α) (n : Nat) (x : α) : Prop := 1 ≤ n ∧ values[n - 1]? = some x

/-- A TCT record is what was loaded, field by field; an action of 0 is none, and a direction or a use NONE is coded by its place
in its list (log 12) (R150, R201). -/
def tctLoaded (r : RawTct) (x : TctRec) : Prop :=
  x.code = r.code ∧ x.name = r.name ∧ coded [.online, .onlineStandin, .localCode] r.routing x.routing ∧
    (r.localAction = 0 ∧ x.localAction = none ∨
      ∃ a, coded [.signOn, .signOff, .toReserve, .fromReserve, .balance, .positionEnquiry] r.localAction a ∧
        x.localAction = some a) ∧
    coded [.customer, .admin] r.dayClass x.dayClass ∧ coded [.teller, .supervisor] r.minAuthority x.minAuthority ∧
    x.requestFormat = r.requestFormat ∧ x.approveFormat = r.approveFormat ∧ x.declineFormat = r.declineFormat ∧
    coded [.noCash, .cashIn, .cashOut] r.cashDirection x.cashDirection ∧ x.replyTimeout = r.replyTimeout ∧
    x.offlineCeiling = r.offlineCeiling ∧ coded [.notUsed, .optional, .required] r.passbookUse x.passbookUse ∧
    x.accountTag = r.accountTag ∧ x.amountTag = r.amountTag

/-- A field of a format is what was loaded (R151, R201). -/
def fieldLoaded (r : RawField) (x : SftField) : Prop :=
  x.tag = r.tag ∧ x.row = r.row ∧ x.column = r.column ∧ x.length = r.length ∧ x.cls = r.cls ∧
    coded [.text, .numeric, .amount, .protectedField] r.kind x.kind ∧ x.required = r.required ∧
    coded [.replyTag, .breakdown, .positionTotal, .passbookStatus, .businessDate, .teller, .reference, .reason] r.source
      x.source

/-- A format is what was loaded, its fields in their order (R151, R201). -/
def formatLoaded (r : RawFormat) (x : SftFormat) : Prop :=
  x.number = r.number ∧ coded [.input, .output] r.kind x.kind ∧ x.title = r.title ∧
    List.Forall₂ fieldLoaded r.fields x.fields

/-- A denomination is what was loaded (R152, R201). -/
def dntLoaded (r : RawDnt) (x : DntRec) : Prop := x.face = r.face ∧ coded [.note, .coin] r.kind x.kind ∧ x.floor = r.floor

/-- A TLT record is what was loaded (R153, R201). -/
def tltLoaded (r : RawTlt) (x : TltRec) : Prop :=
  x.teller = r.teller ∧ coded [.teller, .supervisor] r.authority x.authority ∧ x.softLimit = r.softLimit ∧
    x.hardLimit = r.hardLimit ∧ x.standinCeiling = r.standinCeiling

/-- The ranges and rules of a TCT (R150). -/
def tctRules (xs : List TctRec) : Prop :=
  (xs.map TctRec.code).Nodup ∧ ∀ r ∈ xs,
    (1 ≤ r.code ∧ r.code ≤ 999) ∧ r.name.length ≤ 12 ∧ (1 ≤ r.requestFormat ∧ r.requestFormat ≤ 64) ∧
      (1 ≤ r.approveFormat ∧ r.approveFormat ≤ 64) ∧ (1 ≤ r.declineFormat ∧ r.declineFormat ≤ 64) ∧
      (5 ≤ r.replyTimeout ∧ r.replyTimeout ≤ 120) ∧ r.offlineCeiling ≤ 99999999999 ∧ r.accountTag ≤ 63 ∧
      r.amountTag ≤ 63 ∧
      (r.routing = .localCode → r.localAction ≠ none ∧ r.cashDirection = .noCash ∧ r.passbookUse = .notUsed) ∧
      (r.routing ≠ .localCode → r.localAction = none) ∧
      (r.routing = .onlineStandin → r.passbookUse ≠ .required)

/-- The formats and tags that the records of a TCT name suit an SFT (R160). -/
def tctSuits (sft : List SftFormat) (xs : List TctRec) : Prop :=
  ∀ r ∈ xs,
    (∃ g, (sft.find? fun f => f.number = r.requestFormat) = some g ∧ g.kind = .input ∧
      (r.accountTag ≠ 0 → ∃ f, formatField g r.accountTag = some f ∧ f.kind = .numeric) ∧
      (r.amountTag ≠ 0 → ∃ f, formatField g r.amountTag = some f ∧ f.kind = .amount)) ∧
    (∃ g, (sft.find? fun f => f.number = r.approveFormat) = some g ∧ g.kind = .output) ∧
    ∃ g, (sft.find? fun f => f.number = r.declineFormat) = some g ∧ g.kind = .output

/-- The ranges and rules of an SFT (R151). -/
def sftRules (xs : List SftFormat) : Prop :=
  (xs.map SftFormat.number).Nodup ∧ ∀ g ∈ xs,
    (1 ≤ g.number ∧ g.number ≤ 64) ∧ g.title.length ≤ 30 ∧ g.fields.length ≤ 24 ∧ (g.fields.map SftField.tag).Nodup ∧
      ∀ f ∈ g.fields, (1 ≤ f.tag ∧ f.tag ≤ 63) ∧ (1 ≤ f.row ∧ f.row ≤ 23) ∧ (1 ≤ f.column ∧ f.column ≤ 80) ∧
        (1 ≤ f.length ∧ f.length ≤ 40) ∧ f.column + f.length ≤ 81 ∧ f.cls ≤ 15

/-- The ranges and rules of a DNT (R152). -/
def dntRules (h : DntHeader) (xs : List DntRec) : Prop :=
  h.decimals ≤ 3 ∧ h.increment ∈ [1, 5, 10, 25, 50, 100] ∧ xs ≠ [] ∧ (xs.map DntRec.face).Pairwise (· > ·) ∧
    ∀ r ∈ xs, (1 ≤ r.face ∧ r.face ≤ 1000000000) ∧ r.floor ≤ 65535 ∧ r.face % h.increment = 0

/-- A position holds a count above 0 in a denomination of the active DNT, counted from 1 (R56, R161). -/
def countsHeld (p : Option Station) (i : Nat) (s : State) : Prop :=
  1 ≤ i ∧ i ≤ s.tbl.dnt.length ∧ countsAt (positionOf p s) i ≠ ⟨0, 0, 0⟩

/-- The ranges and rules of a TLT (R153). -/
def tltRules (ceiling : Nat) (xs : List TltRec) : Prop :=
  ceiling ≤ 999999999999 ∧ (xs.map TltRec.teller).Nodup ∧ ∀ r ∈ xs,
    (1 ≤ r.teller ∧ r.teller ≤ 9999) ∧ r.softLimit ≤ r.hardLimit ∧ r.hardLimit ≤ 999999999999 ∧
      r.standinCeiling ≤ 999999999999

/-- The ranges and rules of a PLT (R154): no two fields of a layout share a column. -/
def pltRules (xs : List PltRec) : Prop :=
  (xs.map PltRec.bookType).Nodup ∧ ∀ r ∈ xs,
    (1 ≤ r.bookType ∧ r.bookType ≤ 8) ∧ (10 ≤ r.linesPerPage ∧ r.linesPerPage ≤ 30) ∧ (1 ≤ r.pages ∧ r.pages ≤ 32) ∧
      (1 ≤ r.firstLine ∧ r.firstLine ≤ 30) ∧ r.firstLine ≤ r.linesPerPage ∧
      (∀ x ∈ [r.date, r.code, r.amount, r.balance],
        (1 ≤ x.column ∧ x.column ≤ 80) ∧ (1 ≤ x.width ∧ x.width ≤ 40) ∧ x.column + x.width ≤ 81) ∧
      [r.date, r.code, r.amount, r.balance].Pairwise fun x y =>
        x.column + x.width ≤ y.column ∨ y.column + y.width ≤ x.column

/-- The day has changed state with the effects of R131: its DAY entry is written where it can be, and every status line
follows. -/
def dayEntered (d : DayState) (s t : State) : Prop :=
  statusLinesFollow s t ∧ raisedOnly journalFlags s t ∧
    (canWrite 0 (dayDraft d s.day.date) s → wrote 0 (dayDraft d s.day.date) s t)

/-- A journal batch of the first entries of a list: up to 64, with their first and last sequences, their count, and the sum of
the rounded amounts of their amount parts (R124). -/
def batchOf (es : List Entry) (b : JournalBatch) : Prop :=
  b.entries = es.take 64 ∧ b.entries.head?.map Entry.seq = some b.first ∧ b.entries.getLast?.map Entry.seq = some b.last ∧
    b.count = b.last - b.first + 1 ∧ b.control = (b.entries.map fun e => (e.draft.amounts.map Prod.snd).getD 0).sum

/-- A sum within the bound of R54, added in order; a sum that has met the bound stays there (the model's reading, log 26). -/
def boundedSum (xs : List Int) : Int :=
  xs.foldl (fun a x => if a = 999999999999 ∨ a = -999999999999 then a else max (-999999999999) (min 999999999999 (a + x))) 0

/-- A figure of the nine positions: those of the drawers, then that of the reserve. -/
def nineOf {α : Type} (f : Position → α) (s : State) : List α :=
  (Station.all.map fun st => f (drawerOf st s)) ++ [f s.csh.reserve]

/-- The branch sums of the nine positions; that of the over/short totals stands where each is a value (R55). The order in which a
sum is added and held at its bound is the model's choice (log 26). -/
def sumsHold (x : BranchSums) (s : State) : Prop :=
  x.total = boundedSum (nineOf (fun q => (q.total : Int)) s) ∧ x.cashIn = boundedSum (nineOf Position.cashIn s) ∧
    x.cashOut = boundedSum (nineOf Position.cashOut s) ∧ x.rounding = boundedSum (nineOf Position.rounding s) ∧
    (∀ vs : List Int, nineOf Position.overShort s = vs.map OverShort.value → x.overShort = some (boundedSum vs)) ∧
    ((∃ q ∈ nineOf id s, ∀ v, q.overShort ≠ .value v) → x.overShort = none)

/-- A TOTALS-READ gives the nine positions by number as they stand, their branch sums, and the numbers of the marked positions;
that both stand in the order of the numbers is the model's choice (R55, R197; log 30), and so is the order in which a sum is
added and held at its bound (log 26). -/
def totalsReads (snap : Snapshot) (marks : List Nat) (s : State) : Prop :=
  snap.positions = [1, 2, 3, 4, 5, 6, 7, 8, 9].zip (nineOf id s) ∧ sumsHold snap.sums s ∧ marks.Pairwise (· < ·) ∧
    ∀ n, n ∈ marks ↔ (∃ st : Station, n = st.num ∧ s.day.drawerMarks.get st = true) ∨ (n = 9 ∧ s.day.reserveMark = true)

/-- The advices of a kind in the queue. -/
def advicesOf (k : AdviceKind) (s : State) : Nat :=
  s.sda.queue.countP fun q => match q with
    | .advice a => decide (adviceKind a.body = k)
    | .reservation _ => false

/-- A STATUS-READ gives the state as it stands: flags and counts, day and settlement, link, transactions, queue, journal, lines,
the error summaries of the lines named, and the time of day (R115, R196). That the error summaries stand in the order of
their lines is the model's choice (log 30). -/
def statusReads (lines : List Nat) (r : StatusReport) (s : State) : Prop :=
  (r.flags = s.mrs.flags ∧ r.unmatchedReplies = s.mrs.unmatchedReplies ∧ r.overruns = s.mrs.overruns) ∧
    (r.day = s.day.state ∧ r.date = s.day.date ∧
      r.settlement = (if s.day.state = .settling ∨ s.day.state = .settleFailed then
        s.day.settlement.map fun c => (c.phase, c.current.map Batch.number, c.attempts) else none)) ∧
    (r.link = s.blc.link ∧ r.frameCheck = s.blc.frameCheck ∧ r.frameForm = s.blc.frameForm) ∧
    (r.ottEntries = s.ttr.ott.length ∧ r.lateEntries = s.ttr.late.length ∧
      ∀ st, r.ottPerStation.get st = s.ttr.ott.countP fun e => decide (e.ref.station = st)) ∧
    (r.standins = advicesOf .standin s ∧ r.reversals = advicesOf .reversal s ∧
      r.passbookUpdates = advicesOf .passbookUpdate s ∧ r.alarms = advicesOf .alarm s ∧
      r.standins + r.reversals + r.passbookUpdates + r.alarms + r.reservations = s.sda.queue.length ∧
      r.sent = (s.sda.queue.countP fun q => match q with
        | .advice a => a.sent.isSome
        | .reservation _ => false) ∧
      r.unmatchedAcks = s.sda.unmatchedAcks ∧ r.mapEntries = s.sda.accountMap.length) ∧
    (r.used = s.jrn.used ∧ r.reserved = s.jrn.reserved ∧ r.free = s.jrn.free ∧ r.entriesHeld = s.jrn.entries.length ∧
      r.entryReservations = s.ttr.ott.length + s.ttr.late.length ∧ r.entriesFree = s.jrn.free / 4 ∧
      r.oldestHeld = s.jrn.entries.head?.map Entry.seq ∧ r.nextSeq = s.jrn.nextSeq ∧
      r.lastAccepted = s.jrn.lastAccepted ∧ r.printedCursor = s.jrn.printedCursor ∧ r.notStored = s.jrn.notStored ∧
      r.unmatchedBatchAcks = s.jrn.unmatchedAcks) ∧
    (∀ st, (r.lines.get st).setup = (lineOf st s).setup ∧ (r.lines.get st).test = (lineOf st s).test ∧
      (∀ d, (r.lines.get st).drops.get d = ((lineOf st s).drops.get d).map DropStatus.state) ∧
      (r.lines.get st).printer = (printerOf st s).map PrinterContext.state ∧
      ((r.lines.get st).bookInserted = true ↔ ∃ c, printerOf st s = some c ∧ c.book ≠ none) ∧
      (r.lines.get st).queueLength = ((printerOf st s).map fun c => c.queue.length).getD 0) ∧
    ((r.errors.Pairwise fun a b => a.1.num < b.1.num) ∧
      ∀ st e, (st, e) ∈ r.errors ↔ st.num ∈ lines ∧ e = (lineOf st s).errors) ∧
    r.clock = s.mrs.clock

/-- The parts of the totals batch: the positions part with the nine positions, their close flags, figures and sums, and the
Teller Day Records in order of teller number, the first 32 in part 2 and the rest in part 3 (R140, R141). That the positions
stand in the order of their numbers is the model's choice (log 30), and so is the order in which a sum is added and held at
its bound (log 26). -/
def partsCarry (parts : List TotalsPart) (s : State) : Prop :=
  ∃ ts count closes sums, sumsHold sums s ∧ ts.Perm s.sda.tellerDays ∧ (ts.Pairwise fun a b => a.teller ≤ b.teller) ∧
    count = (if ts = [] then 1 else if ts.length ≤ 32 then 2 else 3) ∧
    parts = TotalsPart.positions 1 count s.day.date s.jrn.lastAccepted closes sums ::
      ((if ts = [] then [] else [TotalsPart.tellers 2 count (ts.take 32)]) ++
        if ts.length ≤ 32 then [] else [TotalsPart.tellers 3 count (ts.drop 32)]) ∧
    closes.map ClosePosition.number = [1, 2, 3, 4, 5, 6, 7, 8, 9] ∧
    ∀ (p : Option Station) (q : Position), q = positionOf p s → ∃ x ∈ closes, x.number = positionNumber p ∧
      x.flag = (match q.state with
        | .notOpened => .notOpened
        | .balanced => .balanced
        | .active => .unbalanced
        | .suspect => .suspect) ∧
      x.marked = marked p s ∧ x.counts = committedCounts q ∧ x.total = q.total ∧
      x.figures = (if q.state = .notOpened then none else
        some { cashIn := q.cashIn, cashOut := q.cashOut, rounding := q.rounding, overShort := q.overShort,
               txCount := q.txCount }) ∧
      x.excess = p.map fun _ => q.excess

/-! ## What the claims say of the branch link -/

/-- A valid inbound frame has been taken at the link: in UP and RECOVERING the silence timer restarts; a LOST link is restored,
RECOVERING where the queue holds a STANDIN advice and UP where it holds none, with LINK_RESTORED raised and the status lines
recomposed (R185, R187). -/
def linkTaken (s v : State) : Prop :=
  (s.blc.link ≠ .lost →
    v = onBlc (fun b => { b with silence := some (s.uptime + 1000 * s.mrs.settings.linkSilence) }) s) ∧
  (s.blc.link = .lost → keeps [.scm, .blc, .mrs] s v ∧ statusLinesFollow s v ∧
    flagSet .linkRestored v.mrs.flags = true ∧
    raisedOnly [.linkRestored] (onBlc (fun b => { b with
      link := if s.sda.queue.any (isKind .standin) = true then .recovering else .up
      silence := some (s.uptime + 1000 * s.mrs.settings.linkSilence) }) s) v)

/-- The first UNSENT advice of the queue, passing over reservations and SENT advices, while the link is not LOST and fewer than
4 advices are SENT (R111). -/
def adviceOffered (s : State) (x : Advice) : Prop :=
  s.blc.link ≠ .lost ∧ s.sda.queue.countP isSent < 4 ∧ x.sent = none ∧
    ∃ before after, s.sda.queue = before ++ .advice x :: after ∧ ∀ q ∈ before, isUnsent q = false

/-- A batch is the current one of a settlement, or, where it has none, the next of its phase under the batch counter's number
(R138 to R140, R144). -/
def settlementBatch (c : Settlement) (b : Batch) (s : State) : Prop :=
  c.current = some b ∨
    (c.current = none ∧ b.number = s.jrn.batchCounter ∧
      ((c.phase ≠ .totals ∧ ∃ j, b.content = .journal j ∧
          batchOf (s.jrn.entries.filter fun e => decide (s.jrn.lastAccepted < e.seq)) j) ∨
        (c.phase = .totals ∧ ∃ part rest, c.parts = part :: rest ∧ b.content = .totals part)))

/-- A message is ready in its class: the answer to a LINK_CHECK; the advice offered, in the ALARM class exactly where it is an
ALARM advice; the oldest reply, REQUEST or notice that waits; the batch that DAY offers, in SETTLING or trailing, with no batch
outstanding and no pause; and the trickle batch of the entries eligible, in TRICKLE, OPEN and UP, with no batch outstanding and
no pause (R111, R123, R138, R189, R190). -/
def classReady (s : State) (c : OutClass) (m : OutMsg) : Prop :=
  match c with
  | .linkAnswer => ∃ n, s.blc.linkAnswer = some n ∧
      m = .linkAnswer n s.blc.link s.day.state s.blc.requests.length (s.sda.queue.countP isUnsent)
  | .alarmAdvice => ∃ x, adviceOffered s x ∧ adviceKind x.body = .alarm ∧ m = .advice x.number x.body
  | .otherAdvice => ∃ x, adviceOffered s x ∧ adviceKind x.body ≠ .alarm ∧ m = .advice x.number x.body
  | .mgmtReply => ∃ r rest, s.blc.replies = r :: rest ∧ m = .mgmtReply r
  | .request => ∃ r rest, s.blc.requests = r :: rest ∧ m = .request r
  | .settlement => ∃ x b, s.day.settlement = some x ∧ m = .batch b ∧
      (s.day.state = .settling ∨ (s.day.state = .settled ∧ x.phase = .trailing)) ∧ s.blc.link ≠ .lost ∧
      s.jrn.trickle = none ∧ x.outstanding = none ∧ x.pause = none ∧ settlementBatch x b s
  | .event => ∃ n rest, s.blc.events = n :: rest ∧ m = .event n
  | .trickle => ∃ j, m = .batch { number := s.jrn.batchCounter, content := .journal j } ∧
      s.mrs.settings.journalMode = .trickle ∧ s.day.state = .opened ∧ s.blc.link = .up ∧ s.jrn.trickle = none ∧
      (∀ x, s.day.settlement = some x → x.outstanding = none) ∧ s.jrn.pause = none ∧
      batchOf (s.jrn.entries.filter fun e => decide (s.jrn.lastAccepted < e.seq) &&
        (!printerRoleHeld s || decide (e.seq ≤ s.jrn.printedCursor))) j

/-- The frames of an outbound message: destination 255, the station of a REQUEST or 0 as source, the code of its kind; its payload
in segments of 1,024 bytes but for the last, numbered from 0, the last flag on the last alone (R182, section 12.1). -/
def framesCarry (m : OutMsg) (fs : List LinkFrame) : Prop :=
  fs.length = max 1 (((outPayload m).length + 1023) / 1024) ∧ (fs.flatMap LinkFrame.payload) = outPayload m ∧
    ∀ i f, fs[i]? = some f →
      f.dest.toNat = 255 ∧
      f.source.toNat = (match m with
        | .request r => r.ref.station.num
        | _ => 0) ∧
      f.kind.toNat = (match m with
        | .request _ => 17
        | .advice .. => 18
        | .mgmtReply _ => 19
        | .batch _ => 20
        | .linkAnswer .. => 21
        | .event _ => 22) ∧
      f.segment.toNat = i + (if i + 1 = fs.length then 128 else 0) ∧ (i + 1 < fs.length → f.payload.length = 1024)

/-- The frame check register after one more bit: shifted, with the generator 1 + x^2 + x^15 + x^16 taken in where the bit that
leaves it differs from the bit that enters (R202). -/
def checkAfter (r : BitVec 16) (bit : Bool) : BitVec 16 := if r.msb = bit then r <<< 1 else (r <<< 1) ^^^ 0x8005#16

/-- The bits of a byte, most significant first (R202). -/
def bitsOf (b : Byte) : List Bool := [7, 6, 5, 4, 3, 2, 1, 0].map b.getLsbD

/-- The bytes of a frame with two check bytes (section 12.1). -/
def frameWith (dest source kind segment : Byte) (payload : List Byte) (high low : Byte) : List Byte :=
  [dest, source, kind, segment, BitVec.ofNat 8 (payload.length / 256), BitVec.ofNat 8 (payload.length % 256)] ++ payload ++
    [high, low]

/-- The code of an inbound kind (section 12.1). -/
def inboundCode : InboundKind → Nat
  | .reply => 1
  | .mgmtReq => 2
  | .adviceAck => 3
  | .batchAck => 4
  | .linkCheck => 5

/-! ## Safe steps -/

/-- A step is safe: it answers a next state. -/
def safeStep (s : State) : Prop := ∃ t, step s = .next t

/-- An invariant that every step keeps. -/
def everyStepKeeps (inv : State → Prop) : Prop := ∀ s t, inv s → step s = .next t → inv t

end Sys2Proof.Machine
end

