-- ==== Sys2Proof/Certificates/Slice0/Obligations.lean ====
section
/-! DEFINITION. The statements for the provers: each says what a command or an operation of the part does, or an invariant
that every step keeps. -/

open Sys2Proof Sys2Proof.Machine

/-! ## The step -/

/-- A step carries out the command at the front of the queue on the state with the queue's rest. -/
def Obligations.StepRunsTheFrontCommand : Prop :=
  ∀ (c : Instr) (rest : List Instr) (s : State),
    step { s with pending := c :: rest } = exec c { s with pending := rest }

/-- THE MODEL'S CHOICE (log 2): a step with no command waiting is one second of the time-of-day clock, which goes from
86,399 to 0, and of the part's running time; nothing else changes. -/
def Obligations.IdleStepIsOneSecond : Prop :=
  ∀ s : State, s.pending = [] → ∃ t, step s = .next t ∧ keeps [.mrs] { s with uptime := s.uptime + 1000 } t ∧
    t.mrs = { s.mrs with clock := { s.mrs.clock with
      secs := if s.mrs.clock.secs = 86399 then 0 else (s.mrs.clock.secs + 1) % 86400 } }

/-- Every command is carried out to a next state from every state; it touches neither the commands that wait nor the
part's running time. -/
def Obligations.EveryCommandAnswersNext : Prop :=
  ∀ (c : Instr) (s : State), ∃ t, exec c s = .next t ∧ t.pending = s.pending ∧ t.uptime = s.uptime

/-! ## Invariants -/

/-- The state after reset meets every invariant, those of the counts and of the records among them. -/
def Obligations.ResetMeetsTheInvariants : Prop :=
  journalOk State.reset ∧ queueOk State.reset ∧ signOnsOk State.reset ∧ linesOk State.reset ∧ contextsOk State.reset ∧
    cashOk State.reset ∧ dayOk State.reset ∧ requestsOk State.reset ∧ countersOk State.reset ∧
    reservationsOk State.reset ∧ recordsOk State.reset

/-- Every step keeps the journal's slots accounted for, its reservations equal to those of the open transactions, and its
entries consecutive. -/
def Obligations.JournalInvariantKept : Prop := everyStepKeeps journalOk

/-- Every step keeps the Advice Queue within its areas, its ALARM advices in front and its numbers distinct; and it keeps at
most 64 Teller Day Records, no two of one teller, and at most 64 entries of the account map, no two of one account, with
their counts within their bounds. -/
def Obligations.AdviceQueueInvariantKept : Prop := everyStepKeeps queueOk ∧ everyStepKeeps recordsOk

/-- Every step keeps each teller signed on at one station at most, and no teller at a line that is not in role TELLER. -/
def Obligations.SignOnInvariantKept : Prop := everyStepKeeps signOnsOk

/-- Every step keeps the line setups within their values, the receive buffers within 3 places, lines that are OFF without
traffic, and at most one journal printer. -/
def Obligations.LineInvariantKept : Prop := everyStepKeeps linesOk

/-- Every step keeps a screen context at exactly the stations in role TELLER, with whole images, and a printer context at
exactly those with a printer, with at most 4 jobs. -/
def Obligations.ContextInvariantKept : Prop := everyStepKeeps contextsOk

/-- Every step keeps the stored total of each position equal to the value of its committed counts, except at a SUSPECT
position. And every step keeps the counts in their bounds: reserved-out within committed, committed and pending-in together
within 65,535, no reservation at the reserve, and those of each drawer equal to the legs of its station's open transactions. -/
def Obligations.CashInvariantKept : Prop := everyStepKeeps cashOk ∧ everyStepKeeps reservationsOk

/-- Every step keeps the settlement context standing exactly in the closed states, in which the OTT is empty and no teller
is signed on, and a business date standing exactly outside NO_DATE. -/
def Obligations.DayInvariantKept : Prop := everyStepKeeps dayOk

/-- Every step keeps the request buffer at most 4 places long, the requests taken in front, each of them with its reply waiting,
but for one STOP at most that waits without a reply for the frame of its running loop. The model's choices: when a place is
taken and when it is freed (log 8), and that a STOP waits for its frame, still in hand (log 23). -/
def Obligations.RequestInvariantKept : Prop := everyStepKeeps requestsOk

/-- Every step keeps the station sequences and the advice and batch counters from 1 to 65,535, the clock below 86,400 and the
settings within their ranges. -/
def Obligations.CounterInvariantKept : Prop := everyStepKeeps countersOk

/-- While the day is closed no step but a cold start moves cash: every stored total stays, and every committed count too
unless a commit has changed the denominations. -/
def Obligations.ClosedDayMovesNoCash : Prop :=
  ∀ s t : State, dayOk s → cashOk s → dayClosed s.day.state = true → s.rts.marker = true → step s = .next t →
    ∀ p, (positionOf p t).total = (positionOf p s).total ∧
      (t.tbl.dnt = s.tbl.dnt → committedCounts (positionOf p t) = committedCounts (positionOf p s))

/-- A written entry stands: every command but a date roll leaves the entries held in place, save entries at the oldest end
that head office has accepted, and places new ones behind them under higher numbers. A write that finds its slots and a
sequence is stored, and raises JOURNAL_HIGH_WATER exactly where it carries the used slots above the threshold and
JOURNAL_FULL exactly where it carries the free slots from 68 or more to below 68; one that does not is counted, raises
JOURNAL_FULL and leaves the next sequence. A reservation raises JOURNAL_FULL at the same fall. -/
def Obligations.WrittenEntriesStand : Prop :=
  (∀ (k : Nat) (d : Draft) (s t : State), t = writeEntry k d s →
    (canWrite k d s → keeps [.sda, .jrn, .blc, .mrs] s t ∧ wrote k d s t ∧ raisedOnly journalFlags s t ∧
      (flagSet .journalHighWater t.mrs.flags = true ↔ flagSet .journalHighWater s.mrs.flags = true ∨
        (s.jrn.used ≤ 16384 * s.mrs.settings.highWater / 100 ∧ 16384 * s.mrs.settings.highWater / 100 < t.jrn.used)) ∧
      (flagSet .journalFull t.mrs.flags = true ↔ flagSet .journalFull s.mrs.flags = true ∨
        (68 ≤ s.jrn.free ∧ t.jrn.free < 68))) ∧
    ((s.jrn.free + k < draftSlots d ∨ 4294967295 < s.jrn.nextSeq) → keeps [.jrn, .blc, .mrs] s t ∧
      t.jrn = { s.jrn with
        reserved := s.jrn.reserved - k, free := s.jrn.free + k, notStored := satCount 65535 s.jrn.notStored } ∧
      raisedOnly [.journalFull] s t ∧ flagSet .journalFull t.mrs.flags = true)) ∧
  (∀ (n : Nat) (s t : State), t = reserveSlots n s →
    keeps [.jrn, .blc, .mrs] s t ∧ t.jrn = { s.jrn with reserved := s.jrn.reserved + n, free := s.jrn.free - n } ∧
      raisedOnly [.journalFull] s t ∧
      (flagSet .journalFull t.mrs.flags = true ↔ flagSet .journalFull s.mrs.flags = true ∨
        (68 ≤ s.jrn.free ∧ s.jrn.free - n < 68))) ∧
  ∀ (c : Instr) (s t : State), (∀ id d, c ≠ .dateRoll id d) → s.rts.marker = true → exec c s = .next t →
    ∃ k new, t.jrn.entries = s.jrn.entries.drop k ++ new ∧ (∀ e ∈ new, s.jrn.nextSeq ≤ e.seq) ∧
      ∀ e ∈ s.jrn.entries.take k, e.seq ≤ t.jrn.lastAccepted

/-- An event flag that is set stays set under every command but a STATUS-READ and a start. A flag of the notify set that a
command other than a start takes from clear to set places one notice in the EVENT class, with the time of day and, for ALARM
alone, the station, unless a notice of the flag still waits there, which then stands for both risings. -/
def Obligations.FlagsStandUntilRead : Prop :=
  (∀ (c : Instr) (s t : State) (f : EventFlag), (∀ id lines, c ≠ .statusRead id lines) → c ≠ .start →
    exec c s = .next t → flagSet f s.mrs.flags = true → flagSet f t.mrs.flags = true) ∧
  ∀ (c : Instr) (s t : State) (f : EventFlag), c ≠ .start → exec c s = .next t →
    f ∈ [.alarm, .linkRestored, .journalFull, .settleFailed, .retentionLost] →
    flagSet f s.mrs.flags = false → flagSet f t.mrs.flags = true →
    ∃ st : Option Station,
      (f = .alarm → ∃ a, c = .alarmInRising a ∧ st = some a) ∧ (f ≠ .alarm → st = none) ∧
      (t.blc.events.filter fun n => n.flag = f) =
        if (∃ n ∈ s.blc.events, n.flag = f) then s.blc.events.filter (fun n => n.flag = f)
        else [{ flag := f, time := s.mrs.clock, station := st }]

/-! ## Starts -/

/-- START with the validity marker absent is a cold start: every item of every block takes its cold-start value, and
RETENTION_LOST is raised with its notice. The state after reset holds the same values. The model's choices: that the
commands that wait, the running time and the level of a DRAWER_SENSE wire that stays one, DL2, are not reset (log 24),
the level of another DL2 being free (log 7), that no drop counts as last polled or selected and the last exchange as no
select, and that no exchange, sweep or run of characters goes on (log 22), and that no release pulse runs (log 37). -/
def Obligations.ColdStartValues : Prop :=
  (coldValues State.reset ∧ State.reset.pending = []) ∧
    ∀ s : State, s.rts.marker = false → ∃ t, exec .start s = .next t ∧ coldValues t ∧ t.pending = s.pending ∧
      t.uptime = s.uptime ∧ t.slc.samples = s.slc.samples + 9 ∧ ∀ st, lineWith .drawerSense (lineOf st s).setup = some .dl2 →
        (lineOf st t).drawerOpen = (lineOf st s).drawerOpen

/-- START with the marker present is a warm start. Every OTT entry is abandoned with its REVERSAL advice and TXN ABANDONED
entry; the reserved slots return; SENT advices are UNSENT and reservations become PASSBOOK_UPDATE RESTART advices with
their PASSBOOK entries; reservations of cash are cleared and a total that disagrees makes its position SUSPECT; the day
acts by its state; the screens are made afresh, the sign-on prompt or an empty FORM, and so are the printers; the
volatile is cleared and every other retained item stands. The order of the positions in the parts built (log 30), the
teller of a PASSBOOK entry (log 19), the flag at a position that stays SUSPECT (log 20), what a start does not reset
(log 24), that no drop counts as last polled or selected and that an exchange, a sweep and a run of characters end (log 22), that
a release pulse ends (log 37), and the order of the abandoned entries, that of their
acceptance (log 32), are the model's readings. -/
def Obligations.WarmStartKeepsTheRetained : Prop :=
  ∀ s : State, s.rts.marker = true → ∃ t, exec .start s = .next t ∧ t.pending = s.pending ∧ t.uptime = s.uptime ∧
    t.rts = s.rts ∧ t.ttr = { s.ttr with ott := [], late := [] } ∧ t.tbl = { s.tbl with load := none } ∧
    (∃ kept reversals, t.sda.queue = kept ++ reversals ∧ List.Forall₂ afterRestart s.sda.queue kept ∧
      List.Forall₂ (reverses .abandonedOnRestart) s.ttr.ott reversals) ∧
    (t.sda.accountMap = s.sda.accountMap ∧ t.sda.unmatchedAcks = 0 ∧
      (s.ttr.ott = [] → s.sda.queue.all (fun q => !isReservation q) = true →
        t.sda.nextAdvice = s.sda.nextAdvice ∧ t.sda.tellerDays = s.sda.tellerDays)) ∧
    (∃ new, t.jrn = { s.jrn with
      entries := s.jrn.entries ++ new, used := t.jrn.used, reserved := 0, free := t.jrn.free,
      nextSeq := s.jrn.nextSeq + new.length, notStored := t.jrn.notStored, trickle := none, pause := none,
      unmatchedAcks := 0 }) ∧
    (∀ drafts : List Draft,
      drafts = s.ttr.ott.map abandonedDraft ++
        (s.sda.queue.filterMap (fun q => match q with
          | .reservation r => some (passbookDraft r.ref.station (tellerAt r.ref.station s) r .restart
              (if r.printed = 0 then .notDue else .owed))
          | .advice _ => none)) ++
        (if s.day.state = .cutoff ∧ settleCondition t = true then [dayDraft .settling s.day.date] else []) →
      s.jrn.reserved = reservedSlots s → 2 * s.sda.queue.countP isReservation + 1 ≤ s.jrn.free →
      s.jrn.nextSeq + drafts.length ≤ 4294967296 →
      t.jrn = { journalAfter s.jrn.reserved ⟨0, true⟩ drafts s with trickle := none, pause := none, unmatchedAcks := 0 } ∧
        t.sda.tellerDays = s.sda.tellerDays.map fun r => { r with txCount := countedTxns s.ttr.ott r }) ∧
    (∀ p, positionOf p t = { positionOf p s with
      counts := (positionOf p s).counts.map fun c => { c with reservedOut := 0, pendingIn := 0 }
      state := if (positionOf p s).total = countsValue (facesOf s) (committedCounts (positionOf p s)) then
          (positionOf p s).state else .suspect }) ∧
    (t.day = { s.day with
        state := if s.day.state = .cutoff ∧ settleCondition t = true then .settling else s.day.state
        settlement := t.day.settlement } ∧
      (t.day.settlement = none ↔ t.day.state = .noDate ∨ t.day.state = .opened ∨ t.day.state = .cutoff) ∧
      ∀ c, t.day.settlement = some c → c.current = none ∧ c.outstanding = none ∧ c.attempts = 0 ∧ c.pause = none ∧
        c.phase = (if s.day.state = .settled then .trailing
          else if (∀ e ∈ t.jrn.entries, e.seq ≤ s.jrn.lastAccepted) then .totals else .journal) ∧
        c.parts = if c.phase = .totals then totalsParts t else []) ∧
    (t.scm.signOn = s.scm.signOn ∧ t.scm.broadcast = none ∧
      ∀ st, ((contextOf st t).isSome = true ↔ (lineOf st s).setup.role = .teller) ∧
        ((lineOf st s).setup.role = .teller → freshScreen st s t) ∧
        printerOf st t =
          if (lineOf st s).setup.role = .teller ∧ (lineOf st s).setup.printerPresent = true then
            some { book := none, state := .ready, item := none, owed := none, prompt := .noPrompt, queue := [] }
          else none) ∧
    (t.slc.samples = s.slc.samples ∧ ∀ st, lineOf st t =
      { setup := (lineOf st s).setup
        drops := Three.ofFn fun d => if dropPresent (lineOf st s).setup d = true then
          some { state := .new, missed := 0, busy := none, repoll := none, repollDue := false } else none
        exchange := none, buffer := [], lastPolled := none, lastSelected := none, lastWasSelect := false, sweeping := false,
        sweep := [], errors := ⟨0, 0, 0, 0⟩, unsolicitedRun := false, latches := Four.fill false,
        drawerOpen := (lineOf st s).drawerOpen, pulse := none,
        openTimer := if lineWith .drawerSense (lineOf st s).setup ≠ none ∧ (lineOf st s).drawerOpen = true then
          some (s.uptime + 1000 * s.mrs.settings.drawerOpen) else none
        leftOpen := false, test := none, echoed := none }) ∧
    (t.blc = { link := .lost, silence := none, reassembly := none, sending := none, linkAnswer := none, replies := [],
               requests := [], events := t.blc.events, frameCheck := 0, frameForm := 0 } ∧
      ∀ n ∈ t.blc.events, n.flag = .journalFull) ∧
    t.mrs = { places := [], flags := t.mrs.flags, unmatchedReplies := 0, overruns := 0, settings := s.mrs.settings,
              clock := ⟨0, true⟩ } ∧
    (flagSet .suspectPosition t.mrs.flags = true ↔
      ∃ p, (positionOf p s).total ≠ countsValue (facesOf s) (committedCounts (positionOf p s))) ∧
    ∀ f, f ∉ EventFlag.suspectPosition :: journalFlags → flagSet f t.mrs.flags = false

/-! ## Intake -/

/-- A key request that intake refuses at any of its checks, the cash checks among them, or the stand-in decision at any of its
own, changes only the station's screen, the place it held in the receive buffer and, where it had passed check 4, the
station's sequence counter: no entry is written, nothing reserved and no advice queued. DAY then judges the settle
condition. Where among the cash checks a failing breakdown entry is refused is the model's choice (log 38). -/
def Obligations.RefusedRequestChangesTheScreen : Prop :=
  ∀ (st : Station) (r : KeyRequest) (s s1 : State) (why : Reason) (numbered : Bool),
    delivered st .d1 (.keyRequest r) s = some s1 →
    (refusedEarly st r s why numbered ∨ (numbered = true ∧ refusedLater st r s why)) →
    ∃ u, exec (.keyRequest st r) s = .next (judgeSettle u) ∧ keeps [.ttr, .scm, .slc] s u ∧ u.slc = s1.slc ∧
      u.ttr = (if numbered then { s.ttr with seqs := numberGiven st s } else s.ttr) ∧ otherScreens st s u ∧
      ∀ c, contextOf st s = some c → ∃ c', contextOf st u = some c' ∧ c'.message = refusalMessage why ∧
        c'.terminalPending = true ∧ c'.mirrorPending = true

/-- An accepted request enters the OTT in state QUEUED with its number, moves 4 journal slots to reserved, raising
JOURNAL_FULL where the free slots fall below 68, reserves its cash leg, gives the BLC its REQUEST frame and puts the
screen in mode AWAITING. That the frame carries the field list as keyed, a text keyed into a PROTECTED field with it, is
the model's choice (log 31). The number of a station's next numbered request is the first, from its counter on, of no
transaction of the station in the OTT or the Late List, and the counter then stands at the number after it. -/
def Obligations.AcceptedRequestIsQueued : Prop :=
  (∀ (st : Station) (s : State), transactionsOk s → countersOk s →
    firstFree 65535 (s.ttr.seqs.get st) (fun n => ⟨st, n⟩ ∈ heldRefs s) (nextNumber st s)) ∧
  ∀ (st : Station) (r : KeyRequest) (s s1 : State) (teller : Nat) (rec : TctRec) (fmt : SftFormat) (found : Found)
    (book : Option Book) (leg : Option Leg),
    delivered st .d1 (.keyRequest r) s = some s1 → passesIntake st r rec fmt found s → tellerAt st s = some teller →
    rec.routing ≠ .localCode → s.blc.link ≠ .lost → journalRoom rec.dayClass s = true → depthRefusal st s = none →
    passbookCheck st rec.passbookUse s = .ok book → reversalSum s < 48 →
    legOf { st := st, teller := teller, tct := rec, request := r, fields := usableFields fmt (sentFields r.fields),
            found := found, ref := ⟨st, nextNumber st s⟩, snapshot := book } s = .ok leg →
    ∃ t, exec (.keyRequest st r) s = .next t ∧ keeps [.ttr, .csh, .scm, .jrn, .slc, .blc, .mrs] s t ∧ t.slc = s1.slc ∧
      t.ttr = { s.ttr with
        seqs := numberGiven st s
        ott := s.ttr.ott ++
          [{ ref := ⟨st, nextNumber st s⟩, teller := teller, code := rec.code, state := .queued,
             approveFormat := rec.approveFormat, declineFormat := rec.declineFormat, replyTimeout := rec.replyTimeout,
             passbookUse := rec.passbookUse, cashDirection := rec.cashDirection, account := found.account, leg := leg,
             snapshot := book }] } ∧
      t.jrn = { s.jrn with reserved := s.jrn.reserved + 4, free := s.jrn.free - 4 } ∧
      (∀ p, positionOf p t =
        if p = some st then afterLeg reservedPosition leg (positionOf p s) else positionOf p s) ∧
      raisedOnly [.journalFull]
        (onBlc (fun b => { b with requests := b.requests ++
          [{ ref := ⟨st, nextNumber st s⟩, teller := teller, code := rec.code, form := r.form, snapshot := book,
             leg := leg, fields := sentFields r.fields }] }) s) t ∧
      (flagSet .journalFull t.mrs.flags = true ↔ flagSet .journalFull s.mrs.flags = true ∨
        (68 ≤ s.jrn.free ∧ s.jrn.free - 4 < 68)) ∧
      otherScreens st s t ∧
      ((contextOf st s).isSome = true →
        screenShows st .awaiting (refMessage "AWAITING".toList ⟨st, nextNumber st s⟩) t)

/-- A stand-in approval posts its leg at once, queues a STANDIN advice with the next number, asks for a pulse of the drawer
release where R is not 0 (begun, merged into a running one, or absorbed), evaluates EXCESS_CASH, and writes its TXN
entry from free slots. An OUT leg adds A to the teller's stand-in day total and to the debit total of the account's map
entry, whose approval count rises by 1; a new account's entry is made. Every other total and entry stands. That the map
holds its entries in the order in which they were made is the model's choice (log 30). -/
def Obligations.StandinApprovalIsRecorded : Prop :=
  ∀ (st : Station) (r : KeyRequest) (s s1 : State) (teller : Nat) (rec : TctRec) (fmt : SftFormat) (found : Found)
    (book : Option Book) (leg : Option Leg) (q : Admitted) (d : Draft),
    delivered st .d1 (.keyRequest r) s = some s1 → passesIntake st r rec fmt found s → tellerAt st s = some teller →
    rec.routing = .onlineStandin → s.blc.link = .lost → journalRoom rec.dayClass s = true → depthRefusal st s = none →
    passbookCheck st rec.passbookUse s = .ok book →
    q = { st := st, teller := teller, tct := rec, request := r, fields := usableFields fmt (sentFields r.fields),
          found := found, ref := ⟨st, nextNumber st s⟩, snapshot := book } →
    standinRefusal q s = none → legOf q s = .ok leg →
    d = { station := some st, teller := some teller, body := .txn (nextNumber st s) rec.code .standinApproved,
          account := found.account, amounts := leg.map fun g => ((g.exact : Int), (g.rounded : Int)),
          breakdown := (leg.map Leg.breakdown).getD [] } →
    canWrite 0 d s →
    ∃ t, exec (.keyRequest st r) s = .next t ∧ keeps [.ttr, .csh, .scm, .sda, .jrn, .slc, .blc, .mrs] s t ∧
      t.ttr = { s.ttr with seqs := numberGiven st s } ∧ wrote 0 d s t ∧
      t.sda.queue = s.sda.queue ++
        [.advice { number := adviceNumber s
                   body := .standin ⟨st, nextNumber st s⟩ teller rec.code found.account
                     (leg.map fun g => (g.exact, g.rounded)) s.mrs.clock
                   sent := none }] ∧
      t.sda.nextAdvice = wrapNext 65535 (adviceNumber s) ∧
      (∀ p, p ≠ some st → positionOf p t = positionOf p s) ∧
      sameButExcess (drawerOf st t)
        (afterLeg (fun g p => postedFigures g (retotal (facesOf s) (standinCounts g p))) leg (drawerOf st s)) ∧
      (∀ g acc, leg = some g → g.dir = .cashOut → found.account = some acc →
        (mapEntry acc s = none → t.sda.accountMap = s.sda.accountMap ++ [⟨acc, g.exact, 1⟩]) ∧
        (mapEntry acc s ≠ none → t.sda.accountMap = s.sda.accountMap.map fun e =>
          if e.account = acc then
            { e with debit := e.debit + g.exact, approvals := if e.approvals < 65535 then e.approvals + 1 else 65535 }
          else e) ∧
        t.sda.tellerDays = s.sda.tellerDays.map fun y => if y.teller = teller then
          { y with standinTotal := y.standinTotal + g.exact, txCount := satCount 65535 y.txCount } else y) ∧
      ((∀ g, leg = some g → g.dir ≠ .cashOut ∨ found.account = none) →
        t.sda.accountMap = s.sda.accountMap ∧ countedFor (some teller) s t) ∧
      t.sda.unmatchedAcks = s.sda.unmatchedAcks ∧
      (∀ g, leg = some g → g.rounded ≠ 0 → drawerPulsed st s1 t) ∧
      ((∀ g, leg = some g → g.rounded = 0) → t.slc = s1.slc) ∧
      raisedOnly cashFlags s t ∧ (leg = none → excessStands st s t) ∧ (leg ≠ none → excessFollows st teller s t) ∧
      otherLines st s1 t ∧ otherScreens st s t ∧
      ((contextOf st s).isSome = true →
        screenShows st .result (refMessage "STAND-IN".toList ⟨st, nextNumber st s⟩) t)

/-- A sign-on signs the keyed teller on at the station, sets the teller's day record to it and writes a LOCAL entry that
names the teller, EXCESS_CASH following the teller's soft limit; a sign-off signs the teller off, stamps the record and
shows the sign-on prompt. A sign-on that fails a check of R59, and a sign-off at a station with a transaction in the
OTT, is refused: the LOCAL entry records the reason, and no sign-on state or Teller Day Record changes. A record found
keeps its first sign-on time and stand-in total, one made has them at the moment and 0, each action carried out counts 1
in it, and every other record stands. The model's readings: a refused sign-on's entry names the number keyed only where
it is one of 1 to 9,999 (log 16), and a record made stands behind the others (log 30). -/
def Obligations.SignOnAndSignOff : Prop :=
  ∀ (st : Station) (r : KeyRequest) (s s1 : State) (rec : TctRec) (fmt : SftFormat) (found : Found) (n : Nat),
    delivered st .d1 (.keyRequest r) s = some s1 → passesIntake st r rec fmt found s → rec.routing = .localCode →
    4 ≤ s.jrn.free → s.jrn.nextSeq ≤ 4294967295 →
    (∀ (x : Text) (limits : TltRec), rec.localAction = some .signOn → tellerAt st s = none →
      fieldText (usableFields fmt (sentFields r.fields)) 1 = some x → x.length ≤ 4 → readDecimal x = some n → 1 ≤ n →
      n ≤ 9999 → (∀ a, tellerAt a s ≠ some n) → tellerRecord n s = some limits →
      reaches limits.authority rec.minAuthority = true → (tellerDay n s ≠ none ∨ s.sda.tellerDays.length < 64) →
      ∃ t, exec (.keyRequest st r) s = .next t ∧ keeps [.ttr, .csh, .scm, .sda, .jrn, .slc, .blc, .mrs] s t ∧
        t.slc = s1.slc ∧ t.ttr = { s.ttr with seqs := numberGiven st s } ∧
        (∀ a, tellerAt a t = if a = st then some n else tellerAt a s) ∧
        { t.sda with tellerDays := s.sda.tellerDays } = s.sda ∧
        (tellerDay n s ≠ none → t.sda.tellerDays = s.sda.tellerDays.map fun y => if y.teller = n then
          { y with station := some st, txCount := satCount 65535 y.txCount } else y) ∧
        (tellerDay n s = none → t.sda.tellerDays = s.sda.tellerDays ++
          [{ teller := n, station := some st, standinTotal := 0, txCount := 1, firstOn := s.mrs.clock, lastOff := none }]) ∧
        wrote 0 { station := some st, teller := some n, body := .localAction (nextNumber st s) rec.code .signOn none 0,
                  account := none, amounts := none, breakdown := [] } s t ∧
        (∀ p, sameButExcess (positionOf p t) (positionOf p s)) ∧ raisedOnly cashFlags s t ∧ excessFollows st n s t ∧
        (∀ p, p ≠ some st → positionOf p t = positionOf p s) ∧
        ((contextOf st s).isSome = true → screenShows st .result "SIGNED ON".toList t)) ∧
    (rec.localAction = some .signOff → tellerAt st s = some n → (∀ e ∈ s.ttr.ott, e.ref.station ≠ st) →
      ∃ u, exec (.keyRequest st r) s = .next (judgeSettle u) ∧ keeps [.ttr, .scm, .sda, .jrn, .slc, .blc, .mrs] s u ∧
        u.slc = s1.slc ∧ u.ttr = { s.ttr with seqs := numberGiven st s } ∧
        (∀ a, tellerAt a u = if a = st then none else tellerAt a s) ∧
        u.sda = { s.sda with tellerDays := s.sda.tellerDays.map fun y => if y.teller = n then
          { y with station := none, lastOff := some s.mrs.clock, txCount := satCount 65535 y.txCount } else y } ∧
        wrote 0 { station := some st, teller := some n, body := .localAction (nextNumber st s) rec.code .signOff none 0,
                  account := none, amounts := none, breakdown := [] } s u ∧
        raisedOnly journalFlags s u ∧
        ((contextOf st s).isSome = true → screenShows st .signOnPrompt "SIGNED OFF".toList u)) ∧
    (∀ why keyed, rec.localAction = some .signOn → signOnFails st rec (usableFields fmt (sentFields r.fields)) s why →
      keyed = (((fieldText (usableFields fmt (sentFields r.fields)) 1).bind readDecimal).filter fun k =>
        decide (1 ≤ k) && decide (k ≤ 9999)) →
      ∃ u, exec (.keyRequest st r) s = .next (judgeSettle u) ∧ localRefused st
        { station := some st, teller := keyed, body := .localAction (nextNumber st s) rec.code .signOn (some why) 0,
          account := none, amounts := none, breakdown := [] } why s s1 u) ∧
    (rec.localAction = some .signOff → tellerAt st s = some n → (∃ e ∈ s.ttr.ott, e.ref.station = st) →
      ∃ u, exec (.keyRequest st r) s = .next (judgeSettle u) ∧
        localRefused st (localEntry st n rec.code .signOff (some .inFlight) 0 none [] s) .inFlight s s1 u)

/-- A form call: an unknown code, or a code other than SIGN_ON at a station without a teller, is refused with the screen
kept; else the context takes the code's request format in mode FORM. It gives no number, writes no entry and touches no
transaction, in any mode. The model's choices: a refused form call keeps the mode and the error tag (log 17), and one
that waits behind another frame leaves the state as it was (log 5). -/
def Obligations.FormCallIsJudged : Prop :=
  ∀ (st : Station) (code : Nat) (s : State),
    (delivered st .d1 (.formCall code) s = none → exec (.formCall st code) s = .next s) ∧
    ∀ s1, delivered st .d1 (.formCall code) s = some s1 →
      ∃ t, exec (.formCall st code) s = .next t ∧ keeps [.scm, .slc] s t ∧ t.slc = s1.slc ∧ otherScreens st s t ∧
        ∀ c, contextOf st s = some c → ∃ c', contextOf st t = some c' ∧ c'.terminalPending = true ∧
          c'.mirrorPending = true ∧
          (codeRecord code s = none →
            c'.message = "UNKNOWN CODE".toList ∧ c'.mode = c.mode ∧ c'.format = c.format ∧ c'.shown = c.shown ∧
              c'.texts = c.texts ∧ c'.errorTag = c.errorTag) ∧
          ∀ rec, codeRecord code s = some rec →
            (tellerAt st s = none → rec.localAction ≠ some .signOn →
              c'.message = "NOT SIGNED ON".toList ∧ c'.mode = c.mode ∧ c'.format = c.format ∧ c'.shown = c.shown ∧
                c'.texts = c.texts ∧ c'.errorTag = c.errorTag) ∧
            ((tellerAt st s ≠ none ∨ rec.localAction = some .signOn) →
              c'.mode = .form ∧ c'.format = some rec.requestFormat ∧ c'.shown = formatOf rec.requestFormat s ∧
                (∀ x ∈ c'.texts, x = []) ∧ c'.errorTag = none ∧ c'.message = [])

/-! ## Replies, deadlines and the Late List -/

/-- A DECLINED reply for an AWAITING entry ends it unposted, as R23 states: the leg is released, the TXN entry carries no
breakdown and its unused slots return, the decline format is composed from the reply's fields and reason (a REPLY_TAG
field whose tag the reply carries with one text shows that text, one whose tag it does not carry is blank), the entry
leaves the OTT, and no line is printed and no pulse given. -/
def Obligations.DeclinedReplyEndsTheEntry : Prop :=
  ∀ (dest : Station) (r : Reply) (s : State) (e : OttEntry) (deadline : Nat),
    r.station = dest.num → r.outcome = 2 → r.lines.length ≤ 24 → ottEntry ⟨dest, r.seq⟩ s = some e →
    e.state = .awaiting deadline → s.jrn.nextSeq ≤ 4294967295 →
    ∃ u, exec (.reply dest (some r)) s = .next (judgeSettle u) ∧
      keeps [.ttr, .csh, .scm, .sda, .jrn, .blc, .mrs] s u ∧
      u.ttr = { s.ttr with ott := s.ttr.ott.filter fun x => x.ref ≠ ⟨dest, r.seq⟩ } ∧
      (∀ p, positionOf p u =
        if p = some dest then afterLeg releasedPosition e.leg (positionOf p s) else positionOf p s) ∧
      wrote 4 { station := some dest, teller := some e.teller, body := .txn r.seq e.code .declined, account := e.account,
                amounts := e.leg.map fun g => ((g.exact : Int), (g.rounded : Int)), breakdown := [] } s u ∧
      countedFor (some e.teller) s u ∧ { u.sda with tellerDays := s.sda.tellerDays } = s.sda ∧
      raisedOnly journalFlags (arrive s) u ∧ otherScreens dest (arrive s) u ∧
      ((contextOf dest s).isSome = true →
        screenShows dest .result (refMessage "DECLINED".toList ⟨dest, r.seq⟩) u ∧
        ∃ c, contextOf dest u = some c ∧ c.format = some e.declineFormat ∧ c.shown = formatOf e.declineFormat s ∧
          c.errorTag = none ∧
          ∀ fmt (i : Nat) f, formatOf e.declineFormat s = some fmt → fmt.kind = .output → fmt.fields[i]? = some f →
            (∀ x, f.source = .replyTag → (∀ y ∈ r.fields, y.tag = f.tag → y.text = x) →
              (x ≠ [] → ∃ y ∈ r.fields, y.tag = f.tag) →
              c.texts[i]? = some (fitField (decimalsOf s) f.kind f.length x)) ∧
            (f.source = .reason → c.texts[i]? = some (fitField (decimalsOf s) f.kind f.length r.reason)))

/-- An APPROVED reply for an AWAITING entry posts its leg, asks for a pulse of the drawer release where R is not 0, shows
the approve format with the texts of its sources, evaluates EXCESS_CASH, writes its TXN entry and removes the entry. Its
lines become a print job: one that the queue, the account or the general area refuses is not made; a job made has its
reservation, joins the queue, and begins where it is the head; one that its placement ends at its start has its advice
and its PASSBOOK entry. The model's readings: the end cause that PASSBOOK_STATUS then shows (log 15), that entry before
the TXN entry (log 32), that a job meets its book also while an owed write stands for it (log 29), and of two reply
fields with one tag the first shown (log 33). -/
def Obligations.ApprovedReplyPostsTheLeg : Prop :=
  ∀ (dest : Station) (r : Reply) (s : State) (e : OttEntry) (deadline : Nat) (d : Draft),
    r.station = dest.num → r.outcome = 1 → r.lines.length ≤ 24 → ottEntry ⟨dest, r.seq⟩ s = some e →
    e.state = .awaiting deadline →
    d = { station := some dest, teller := some e.teller, body := .txn r.seq e.code .approved, account := e.account,
          amounts := e.leg.map fun g => ((g.exact : Int), (g.rounded : Int)),
          breakdown := (e.leg.map Leg.breakdown).getD [] } →
    ∃ u words, exec (.reply dest (some r)) s = .next (judgeSettle u) ∧
      keeps [.ttr, .csh, .scm, .pbk, .sda, .jrn, .slc, .blc, .mrs] s u ∧
      u.ttr = { s.ttr with ott := s.ttr.ott.filter fun x => x.ref ≠ ⟨dest, r.seq⟩ } ∧
      (∀ p, p ≠ some dest → positionOf p u = positionOf p s) ∧
      sameButExcess (drawerOf dest u)
        (afterLeg (fun g p => postedFigures g (retotal (facesOf s) (postedCounts g p))) e.leg (drawerOf dest s)) ∧
      otherLines dest s u ∧ ((∀ g, e.leg = some g → g.rounded = 0) → u.slc = s.slc) ∧
      (∀ g, e.leg = some g → g.rounded ≠ 0 → drawerPulsed dest s u) ∧
      otherPrinters dest s u ∧
      ((r.lines = [] ∨ e.passbookUse = .notUsed) → words = "NO LINES".toList ∧ (canWrite 4 d s →
        wrote 4 d s u ∧ u.pbk = s.pbk ∧ countedFor (some e.teller) s u ∧
          { u.sda with tellerDays := s.sda.tellerDays } = s.sda ∧ raisedOnly cashFlags (arrive s) u)) ∧
      (r.lines ≠ [] → e.passbookUse ≠ .notUsed →
        (∀ c, printerOf dest s = some c →
          4 ≤ c.queue.length ∨ linesAccount e = none ∨ 72 ≤ queueCount isGeneral s) →
        words = "QUEUE FULL".toList ∧ (canWrite 4 d s → wrote 4 d s u ∧ u.pbk = s.pbk ∧ countedFor (some e.teller) s u ∧
          { u.sda with tellerDays := s.sda.tellerDays } = s.sda ∧ raisedOnly cashFlags (arrive s) u)) ∧
      (∀ c account j, r.lines ≠ [] → e.passbookUse ≠ .notUsed → printerOf dest s = some c → c.queue.length < 4 →
        linesAccount e = some account → queueCount isGeneral s < 72 → j = askedJob e r account →
        ∃ c', printerOf dest u = some c' ∧ jobJoins j s c c' words ∧
          (c'.queue.length = c.queue.length + 1 → canWrite 4 d s →
            wrote 4 d s u ∧ countedFor (some e.teller) s u ∧
              { u.sda with tellerDays := s.sda.tellerDays } =
                { s.sda with queue := s.sda.queue ++ [grantedReservation j] } ∧
              raisedOnly cashFlags (arrive s) u) ∧
          ∀ b cause k p, c.queue = [] → c'.queue = [] → c.book = some b → endsAtStart j b s cause → k = metBook j b →
            (∀ y, QueueEntry.reservation y ∈ s.sda.queue → y.ref ≠ j.ref) →
            p = passbookDraft dest (tellerAt dest s) (jobReservation k) cause .notDue →
            draftSlots p ≤ s.jrn.free → draftSlots p + draftSlots d ≤ s.jrn.free + 4 → s.jrn.nextSeq + 1 ≤ 4294967295 →
            u.jrn = journalAfter 4 s.mrs.clock [p, d] s ∧ countedFor (some e.teller) s u ∧
              { u.sda with tellerDays := s.sda.tellerDays } = { s.sda with
                queue := s.sda.queue ++ [.advice { number := adviceNumber s
                                                   body := .passbookUpdate (jobReservation k) cause
                                                   sent := none }]
                nextAdvice := wrapNext 65535 (adviceNumber s) } ∧
              raisedOnly cashFlags (arrive s) u) ∧
      (e.leg = none → excessStands dest s u) ∧ (e.leg ≠ none → excessFollows dest e.teller s u) ∧
      ((contextOf dest s).isSome = true →
        screenShows dest .result (refMessage "APPROVED".toList ⟨dest, r.seq⟩) u ∧
        resultShows dest e.approveFormat
          (shownText dest (fun tag => (fieldText r.fields tag).getD []) ((e.leg.map Leg.breakdown).getD [])
            (drawerOf dest u).total words ⟨dest, r.seq⟩ r.reason s) s u)

/-- A late reply removes its Late List entry and writes its LATE entry; an approval becomes a REVERSAL advice. No cash,
screen, drawer or print job follows. -/
def Obligations.LateReplyReverses : Prop :=
  ∀ (dest : Station) (r : Reply) (s : State) (l : LateEntry),
    r.station = dest.num → (r.outcome = 1 ∨ r.outcome = 2) → r.lines.length ≤ 24 → ottEntry ⟨dest, r.seq⟩ s = none →
    lateEntry ⟨dest, r.seq⟩ s = some l → s.jrn.nextSeq ≤ 4294967295 →
    ∃ u, exec (.reply dest (some r)) s = .next (judgeSettle u) ∧ keeps [.ttr, .scm, .sda, .jrn, .blc, .mrs] s u ∧
      u.scm = (arrive s).scm ∧ u.ttr = { s.ttr with late := s.ttr.late.filter fun x => x.ref ≠ ⟨dest, r.seq⟩ } ∧
      wrote 2 { station := some dest, teller := none,
                body := .late (if r.outcome = 1 then .lateApproval else .lateDecline) r.seq l.code 0 none,
                account := none,
                amounts := if l.rounded = 0 then none else some ((l.rounded : Int), (l.rounded : Int)),
                breakdown := [] } s u ∧
      u.sda = (if r.outcome = 1 then
        { s.sda with
          queue := s.sda.queue ++
            [.advice { number := adviceNumber s, body := .reversal ⟨dest, r.seq⟩ .lateApproval l.dir l.rounded,
                       sent := none }]
          nextAdvice := wrapNext 65535 (adviceNumber s) } else s.sda) ∧
      raisedOnly journalFlags (arrive s) u

/-- The deadline of an AWAITING entry ends it TIMED_OUT: its leg is released, its TXN entry written without a breakdown, NO
REPLY shown, and the transaction placed last in the Late List for 300 s, the oldest entry of a full list displaced with
its LATE entry. Of the journal the 4 slots of the entry and the 2 of the entry displaced return, each entry takes its
own, and 2 are reserved for the Late List entry; the teller's transaction counts; and the rest of the SDA's record
stands. -/
def Obligations.DeadlineMovesToTheLateList : Prop :=
  ∀ (ref : Ref) (s : State) (e : OttEntry) (deadline : Nat),
    ottEntry ref s = some e → e.state = .awaiting deadline → s.jrn.nextSeq + 1 ≤ 4294967295 →
    ∃ u, exec (.deadlineExpiry ref) s = .next (judgeSettle u) ∧
      keeps [.ttr, .csh, .scm, .sda, .jrn, .blc, .mrs] s u ∧
      u.ttr.ott = (s.ttr.ott.filter fun x => x.ref ≠ ref) ∧ u.ttr.seqs = s.ttr.seqs ∧
      (∃ kept gone, u.ttr.late = kept ++
          [{ ref := ref, code := e.code, dir := e.cashDirection, rounded := (e.leg.map Leg.rounded).getD 0,
             expiry := s.uptime + 300000 }] ∧
        (s.ttr.late.length < 16 → kept = s.ttr.late ∧ gone = []) ∧
        (∀ l rest, s.ttr.late = l :: rest → 16 ≤ s.ttr.late.length →
          kept = (s.ttr.late.filter fun x => x.ref ≠ l.ref) ∧ gone = [l]) ∧
        ∀ drafts after, drafts =
            { station := some ref.station, teller := some e.teller, body := .txn ref.seq e.code .timedOut,
              account := e.account, amounts := e.leg.map fun g => ((g.exact : Int), (g.rounded : Int)),
              breakdown := [] } ::
            gone.map (fun l =>
              { station := some l.ref.station, teller := none, body := .late .expired l.ref.seq l.code 0 none,
                account := none, amounts := if l.rounded = 0 then none else some ((l.rounded : Int), (l.rounded : Int)),
                breakdown := [] }) →
          after = journalAfter (4 + 2 * gone.length) s.mrs.clock drafts s →
          u.jrn = { after with reserved := after.reserved + 2, free := after.free - 2 }) ∧
      countedFor (some e.teller) s u ∧ { u.sda with tellerDays := s.sda.tellerDays } = s.sda ∧
      (∀ p, positionOf p u =
        if p = some ref.station then afterLeg releasedPosition e.leg (positionOf p s) else positionOf p s) ∧
      raisedOnly journalFlags s u ∧ otherScreens ref.station s u ∧
      ((contextOf ref.station s).isSome = true →
        screenShows ref.station .result (refMessage "NO REPLY".toList ref) u)

/-- The expiry of a Late List entry, as R27 states: the entry is removed and a LATE entry with cause EXPIRED written from
its 2 reserved slots; a reply that arrives afterwards is unmatched; and where the reply is taken first, the expiry does
not happen. -/
def Obligations.LateExpiryEndsTheEntry : Prop :=
  ∀ (ref : Ref) (s : State) (l : LateEntry) (r : Reply),
    (heldRefs s).Nodup → lateEntry ref s = some l → s.jrn.nextSeq ≤ 4294967295 → r.station = ref.station.num →
    r.seq = ref.seq →
    (∃ t, exec (.lateExpiry ref) s = .next t ∧ keeps [.ttr, .jrn, .blc, .mrs] s t ∧
      t.ttr = { s.ttr with late := s.ttr.late.filter fun x => x.ref ≠ ref } ∧
      wrote 2 { station := some ref.station, teller := none, body := .late .expired ref.seq l.code 0 none,
                account := none,
                amounts := if l.rounded = 0 then none else some ((l.rounded : Int), (l.rounded : Int)),
                breakdown := [] } s t ∧
      raisedOnly journalFlags s t ∧
      ∃ u, exec (.reply ref.station (some r)) t = .next (judgeSettle u) ∧ u.ttr = t.ttr ∧ u.sda = t.sda ∧
        u.jrn = t.jrn ∧ u.mrs.unmatchedReplies = satCount 65535 t.mrs.unmatchedReplies ∧
        flagSet .unmatchedReply u.mrs.flags = true) ∧
    ((r.outcome = 1 ∨ r.outcome = 2) → r.lines.length ≤ 24 →
      ∃ u, exec (.reply ref.station (some r)) s = .next u ∧ lateEntry ref u = none ∧
        exec (.lateExpiry ref) u = .next u)

/-! ## Cash -/

/-- The rounded amount is a multiple of the increment that lies nearest to the exact amount, a tie rounding up. The greedy
breakdown takes of each denomination, the largest face first, the smaller of what the drawer has available over its
floor and the times its face goes into what remains; it is the list of the takes above 0 where nothing remains, and none
where something does. A breakdown so built pays exactly its amount, each pair above 0 and within what is available. -/
def Obligations.RoundingAndBreakdown : Prop :=
  (∀ c a : Nat, 0 < c → roundAmount c a % c = 0 ∧ 2 * roundAmount c a ≤ 2 * a + c ∧ 2 * a < 2 * roundAmount c a + c) ∧
  (∀ (dnt : List DntRec) (p : Position) (amount : Nat) (rest take : Nat → Nat), rest 0 = amount →
    (∀ i d, dnt[i]? = some d →
      take i = min ((countsAt p (i + 1)).committed - (countsAt p (i + 1)).reservedOut - d.floor) (rest i / d.face) ∧
        rest (i + 1) = rest i - take i * d.face) →
    greedyBreakdown dnt p amount = if rest dnt.length = 0 then
      some (((List.range dnt.length).filter fun i => take i ≠ 0).map fun i => (i + 1, take i)) else none) ∧
  ∀ (dnt : List DntRec) (p : Position) (amount : Nat) (b : Breakdown), greedyBreakdown dnt p amount = some b →
    breakdownValue (dnt.map DntRec.face) b = amount ∧
      ∀ x ∈ b, 1 ≤ x.1 ∧ 0 < x.2 ∧ ∃ d, dnt[x.1 - 1]? = some d ∧
        x.2 ≤ (countsAt p x.1).committed - (countsAt p x.1).reservedOut - d.floor

/-- A reservation raises the counts of its direction by the breakdown, and its release takes it back exactly; a posting moves
the reserved leg into the committed counts, recomputes the committed total, adds R to the cash-in or cash-out total and D to
or from the rounding total, counts one transaction and moves the position to ACTIVE, within the bounds of R54, whose passing
raises COUNTER_SATURATED. EXCESS_CASH is set where the total is above the teller's soft limit and cleared where it is not,
the status line following each change. That a figure at its bound stays there, and raises the flag only where an addition
would pass the bound, is the model's reading (log 26). -/
def Obligations.ReservationPostingAndRelease : Prop :=
  (∀ a b : Int, satAdd a b =
    if a = 999999999999 ∨ a = -999999999999 then a else max (-999999999999) (min 999999999999 (a + b))) ∧
  (∀ (leg : Leg) (p : Position) (r d : Int), r = (leg.rounded : Int) → d = r - (leg.exact : Int) →
    leg.dir = .cashIn ∨ leg.dir = .cashOut →
    postedFigures leg p = { p with
      cashIn := if leg.dir = .cashIn then satAdd p.cashIn r else p.cashIn
      cashOut := if leg.dir = .cashOut then satAdd p.cashOut r else p.cashOut
      rounding := satAdd p.rounding (if leg.dir = .cashIn then d else -d)
      txCount := if p.txCount < 65535 then p.txCount + 1 else 65535
      state := if p.state = .suspect then .suspect else .active }) ∧
  (∀ (faces : List Nat) (p : Position),
    retotal faces p = { p with total := ((faces.zip (committedCounts p)).map fun x => x.1 * x.2).sum }) ∧
  (∀ (st : Station) (teller : Nat) (leg : Leg) (s t : State) (p : Position) (r d : Int), p = drawerOf st s →
    (t = postLeg st teller leg s ∨ t = postStandin st teller leg s) → r = (leg.rounded : Int) →
    d = r - (leg.exact : Int) → leg.dir = .cashIn ∨ leg.dir = .cashOut →
    excessFollows st teller s t ∧
      (flagSet .counterSaturated t.mrs.flags = true ↔ flagSet .counterSaturated s.mrs.flags = true ∨
        999999999999 < ((if leg.dir = .cashIn then p.cashIn else p.cashOut) + r).natAbs ∨
        999999999999 < (p.rounding + (if leg.dir = .cashIn then d else -d)).natAbs ∨ 65535 ≤ p.txCount)) ∧
  (∀ (st : Station) (teller : Nat) (s t : State) (l : TltRec), t = evaluateExcess st teller s →
    tellerRecord teller s = some l →
    excessFollows st teller s t ∧ sameButExcess (drawerOf st t) (drawerOf st s) ∧
      (∀ p, p ≠ some st → positionOf p t = positionOf p s) ∧
      ((drawerOf st t).excess = (drawerOf st s).excess → t = s) ∧
      ((drawerOf st t).excess ≠ (drawerOf st s).excess → keeps [.csh, .scm, .mrs] s t ∧ otherScreens st s t ∧
        raisedOnly [.excessCash] s t ∧ contextOf st t = (contextOf st s).map (recomposed st t))) ∧
  ∀ (leg : Leg) (p : Position),
    releasedPosition leg (reservedPosition leg p) = p ∧
    { reservedPosition leg p with counts := p.counts } = p ∧
    ∀ i, 1 ≤ i → i ≤ p.counts.length →
      (leg.dir = .cashOut →
        countsAt (reservedPosition leg p) i =
          { countsAt p i with reservedOut := (countsAt p i).reservedOut + pairCount leg.breakdown i } ∧
        countsAt (postedCounts leg p) i =
          { countsAt p i with committed := (countsAt p i).committed - pairCount leg.breakdown i
                              reservedOut := (countsAt p i).reservedOut - pairCount leg.breakdown i } ∧
        countsAt (standinCounts leg p) i =
          { countsAt p i with committed := (countsAt p i).committed - pairCount leg.breakdown i }) ∧
      (leg.dir = .cashIn →
        countsAt (reservedPosition leg p) i =
          { countsAt p i with pendingIn := (countsAt p i).pendingIn + pairCount leg.breakdown i } ∧
        countsAt (postedCounts leg p) i =
          { countsAt p i with committed := (countsAt p i).committed + pairCount leg.breakdown i
                              pendingIn := (countsAt p i).pendingIn - pairCount leg.breakdown i } ∧
        countsAt (standinCounts leg p) i =
          { countsAt p i with committed := (countsAt p i).committed + pairCount leg.breakdown i })

/-- A transfer that passes its checks moves its value V between the drawer and the reserve, leaves the sum of their totals
and every other position as they were, and changes no figure of the day but the two transaction counts. TO_RESERVE and
FROM_RESERVE carry it out, evaluate EXCESS_CASH, pulse the drawer, write the LOCAL entry with V and the breakdown and show
TRANSFERRED; where a check fails, in the order of R48, the entry and the screen record the refusal and no cash moves. That a
PASSBOOK_STATUS field of the screen is blank is the model's reading (log 15), and that a failing entry is refused before
SUSPECT is its choice (log 38). -/
def Obligations.TransferKeepsTheCash : Prop :=
  (∀ (toReserve : Bool) (st : Station) (teller : Nat) (fields : List KeyField) (s : State) (b : Breakdown),
     cashOk s → checkTransfer toReserve st teller fields s = .ok b →
     let t := carryTransfer toReserve st teller b s
     let v := breakdownValue (facesOf s) b
     (if toReserve then (drawerOf st t).total + v = (drawerOf st s).total ∧ t.csh.reserve.total = s.csh.reserve.total + v
       else (drawerOf st t).total = (drawerOf st s).total + v ∧ t.csh.reserve.total + v = s.csh.reserve.total) ∧
     (∀ p, p ≠ some st → p ≠ none → positionOf p t = positionOf p s) ∧
     ∀ p, p = some st ∨ p = none →
       (positionOf p t).state = .active ∧ (positionOf p t).cashIn = (positionOf p s).cashIn ∧
         (positionOf p t).cashOut = (positionOf p s).cashOut ∧ (positionOf p t).rounding = (positionOf p s).rounding ∧
         (positionOf p t).overShort = (positionOf p s).overShort ∧
         (positionOf p t).txCount = satCount 65535 (positionOf p s).txCount) ∧
  ∀ (toReserve : Bool) (st : Station) (r : KeyRequest) (s s1 : State) (rec : TctRec) (fmt : SftFormat) (found : Found)
    (teller : Nat) (action : LocalAction) (fields : List KeyField),
    delivered st .d1 (.keyRequest r) s = some s1 → passesIntake st r rec fmt found s → rec.routing = .localCode →
    4 ≤ s.jrn.free → tellerAt st s = some teller → action = (if toReserve then .toReserve else .fromReserve) →
    rec.localAction = some action → fields = usableFields fmt (sentFields r.fields) →
    (∀ b v, checkTransfer toReserve st teller fields s = .ok b → v = (breakdownValue (facesOf s) b : Int) →
      ∃ u, exec (.keyRequest st r) s = .next (judgeSettle u) ∧
        localCarried st rec teller (localEntry st teller rec.code action none 0 (some (v, v)) b s) b (some st)
          "TRANSFERRED".toList s s1 u ∧
        u.csh = (carryTransfer toReserve st teller b s).csh ∧ u.day = s.day ∧ drawerPulsed st s1 u ∧
        excessFollows st teller s u) ∧
    (∀ b, checkTransfer toReserve st teller fields s = .ok b → keyedBreakdown s.tbl.dnt.length fields b ∧ b ≠ []) ∧
    ∀ why, (checkTransfer toReserve st teller fields s = .error why ∨ transferFails toReserve st teller fields s why) →
      ∃ u, exec (.keyRequest st r) s = .next (judgeSettle u) ∧
        localRefused st (localEntry st teller rec.code action (some why) 0 none [] s) why s s1 u

/-- A balancing sets the committed counts to the declared counts, recomputes the total, adds its over/short, moves the
position to BALANCED and takes it out of the unbalanced marks; the other figures and positions stand. BALANCE carries it
out on the position its code names, writes the LOCAL entry and shows the counts, the total and the over/short, a drawer
being pulsed and its EXCESS_CASH evaluated; where a check fails, in the order of R50, the entry and the screen record
the refusal. POSITION_ENQUIRY shows the drawer's state, counts and total and moves nothing. The model's readings: a
LOCAL entry carries the target of a refused balancing and the screen lists the counts of 0 (log 14), a PASSBOOK_STATUS
field is blank (log 15), an over/short total that has met its bound stays there (log 26), and a missing entry is refused
before a failing one (log 38). -/
def Obligations.BalancingDeclaresTheCounts : Prop :=
  (∀ (target : Option Station) (teller : Nat) (declared : List Nat) (s : State),
     cashOk s → declared.length = s.tbl.dnt.length →
     let t := carryBalance target teller declared s
     let p := positionOf target s
     let q := positionOf target t
     let v := (countsValue (facesOf s) declared : Int) - (p.total : Int)
     committedCounts q = declared ∧ q.counts.map Counts.reservedOut = p.counts.map Counts.reservedOut ∧
       q.counts.map Counts.pendingIn = p.counts.map Counts.pendingIn ∧ q.total = countsValue (facesOf s) declared ∧
       q.state = .balanced ∧
       q.overShort = (match p.state, p.overShort with
         | .suspect, _ => .unknown
         | _, .unknown => .unknown
         | _, .absent => .value v
         | _, .value w => .value (satAdd w v)) ∧
       q.txCount = p.txCount ∧ q.cashIn = p.cashIn ∧ q.cashOut = p.cashOut ∧ q.rounding = p.rounding ∧
       marked target t = false ∧ ∀ x, x ≠ target → positionOf x t = positionOf x s ∧ marked x t = marked x s) ∧
  ∀ (st : Station) (r : KeyRequest) (s s1 : State) (rec : TctRec) (fmt : SftFormat) (found : Found) (teller : Nat)
    (fields : List KeyField),
    delivered st .d1 (.keyRequest r) s = some s1 → passesIntake st r rec fmt found s → rec.routing = .localCode →
    4 ≤ s.jrn.free → tellerAt st s = some teller → fields = usableFields fmt (sentFields r.fields) →
    (∀ target : Option Station, rec.localAction = some .balance →
      target = (if rec.minAuthority = .teller then some st else none) →
      (∀ declared v, checkBalance target fields s = .ok declared →
        v = (countsValue (facesOf s) declared : Int) - ((positionOf target s).total : Int) →
        ∃ u, exec (.keyRequest st r) s = .next (judgeSettle u) ∧
          localCarried st rec teller
            (localEntry st teller rec.code .balance none (positionNumber target)
              (some (((positionOf target s).total : Int), v)) (nonZeroPairs 1 declared) s)
            (countPairs 1 declared) target ("BALANCED ".toList ++ amountText (decimalsOf s) v) s s1 u ∧
          u.csh = (carryBalance target teller declared s).csh ∧ u.day = (carryBalance target teller declared s).day ∧
          (target = some st → drawerPulsed st s1 u) ∧ (target = none → u.slc = s1.slc) ∧
          (target = some st → excessFollows st teller s u)) ∧
      (∀ declared, checkBalance target fields s = .ok declared →
        declared = (List.range s.tbl.dnt.length).map fun i =>
          ((fieldText fields (48 + i)).bind readDecimal).getD 0) ∧
      ∀ why, (checkBalance target fields s = .error why ∨ balanceFails target fields s why) →
        ∃ u, exec (.keyRequest st r) s = .next (judgeSettle u) ∧
          localRefused st (localEntry st teller rec.code .balance (some why) (positionNumber target) none [] s) why s s1
            u) ∧
    (rec.localAction = some .positionEnquiry →
      ∃ u, exec (.keyRequest st r) s = .next (judgeSettle u) ∧
        localCarried st rec teller (localEntry st teller rec.code .positionEnquiry none 0 none [] s)
          (nonZeroPairs 1 (committedCounts (drawerOf st s))) (some st)
          (match (drawerOf st s).state with
            | .notOpened => "NOT OPENED".toList
            | .active => "ACTIVE".toList
            | .balanced => "BALANCED".toList
            | .suspect => "SUSPECT".toList) s s1 u ∧
        u.csh = s.csh ∧ u.day = s.day ∧ u.slc = s1.slc)


/-! ## Screens -/

/-- The mirror redacts a field where, for each of the weights 8, 4, 2 and 1 that the mask does not contain, the class and
the key agree: a mask of 15 redacts every field, a mask of 0 only the class equal to the key. A redacted field shows the
fill, every other field its text; row 24 of the mirror is blank. -/
def Obligations.MirrorRedaction : Prop :=
  (∀ key mask cls : Nat, redacts key mask cls = true ↔
    ∀ w ∈ [8, 4, 2, 1], mask / w % 2 = 0 → cls / w % 2 = key / w % 2) ∧
  (∀ key cls : Nat, redacts key 15 cls = true) ∧
  (∀ key cls : Nat, key < 16 → cls < 16 → (redacts key 0 cls = true ↔ cls = key)) ∧
  (∀ (x : LineSetup) (f : SftField) (t : Text),
    mirrorText x f t =
      if redacts x.mirrorKey x.mirrorMask f.cls = true then List.replicate f.length x.mirrorFill else t) ∧
  ∀ (x : LineSetup) (c : ScreenContext), (mirrorImage x c).getLast? = some (List.replicate 80 ' ')

/-- BROADCAST-TEXT sets the text, cut to 40 characters, and its expiry, or withdraws it where the text is empty, and
recomposes every status line; an expiry outside 1 to 3,600 s is refused. BROADCAST_EXPIRY withdraws the text; where none
stands it leaves the state as it was (the model's choice, log 4). That an empty text recomposes the lines where none stands
too is the model's choice (log 39). A command of a request that does not wait in the
buffer is taken as its arrival alone (the model's choice, log 8). -/
def Obligations.BroadcastIsShown : Prop :=
  (∀ (id : Nat) (text : Text) (expiry : Nat) (s s1 : State), mgmtTaken id (.broadcastText text expiry) s s1 →
    ∃ t, exec (.broadcastText id text expiry) s = .next t ∧
      (text = [] → requestDone id .done .nothing [.scm] s s1 t ∧ statusLinesFollow s t ∧ t.scm.broadcast = none) ∧
      (text ≠ [] → 1 ≤ expiry → expiry ≤ 3600 →
        requestDone id .done .nothing [.scm] s s1 t ∧ statusLinesFollow s t ∧
          t.scm.broadcast = some { text := if text.length ≤ 40 then text else text.take 39 ++ ['*'],
                                   ends := s.uptime + 1000 * expiry }) ∧
      (text ≠ [] → expiry = 0 ∨ 3600 < expiry → requestRefused id .badRequest s s1 t)) ∧
  ∀ s : State, ∃ t, exec .broadcastExpiry s = .next t ∧ (s.scm.broadcast = none → t = s) ∧
    (s.scm.broadcast ≠ none → keeps [.scm] s t ∧ statusLinesFollow s t ∧ t.scm.broadcast = none)

/-! ## Passbook printers -/

/-- A STRIPE_READ first fails an outstanding item, a line ending its job and an end write becoming owed; then it records its
book, ends a FAULT and BOOK FULL, and has an owed write for that book handed or cleared. A head job that waits shows
WRONG BOOK for a book not its own, whatever the printer's state. A READY printer begins placement at the book of a
BOOK_WAIT; in TURN_WAIT the job's own book is repaired where its stripe is behind the job's place, with prompt and timer
kept, and placement resumes where it is not: placement hands a line, turns a full page, or ends the job with NO_LAYOUT,
BAD_STRIPE or BOOK_FULL. A QUEUED head, also one that follows a job so ended, begins at the recorded book without WRONG
BOOK. The model's readings: the order of these steps (log 18), and that a job meets its book as a book that matches is
compared with it, an owed write standing or not, and takes its serial then (log 29). -/
def Obligations.StripeReadIsRecorded : Prop :=
  ∀ (st : Station) (b : Book) (s s1 : State) (c : PrinterContext),
    delivered st .d2 (.stripeRead b) s = some s1 → printerOf st s = some c →
    ∃ t c', exec (.stripeRead st b) s = .next t ∧ t.slc = s1.slc ∧ ofPrinter st s1 t ∧ printerOf st t = some c' ∧
      c'.book = some b ∧ (c.state = .down → c'.state = .down) ∧
      (c.state ≠ .down → c'.state = .ready ∨ c'.state = .printing) ∧
      ∀ c1 base, failureLeaves c c1 → readRecorded b c1 base →
        (c1.queue = [] → c' = base ∧ failureReported st c s t) ∧
        ∀ j rest own, c1.queue = j :: rest →
          own = (match j.state with
            | .bookWait => bookMatches j b
            | .turnWait => isJobsBook j b
            | .queued => bookMatches j b
            | .printing => false
            | .ended => false) →
          (((j.state = .bookWait ∨ (j.state = .turnWait ∧ j.place ≠ none)) → own = false →
            c' = { base with prompt := .wrongBook } ∧ failureReported st c s t) ∧
          (j.state = .queued → base.state ≠ .printing → own = false ∨ base.state ≠ .ready →
            c' = { base with queue := waitsForBook j s :: rest } ∧ failureReported st c s t) ∧
          ((own = true ∨ j.state = .queued) → base.state = .printing →
            c' = { base with queue := shownBook j b :: rest } ∧ failureReported st c s t) ∧
          (own = true → j.state ≠ .queued → base.state ≠ .ready →
            c' = { base with queue := shownBook j b :: rest } ∧ failureReported st c s t) ∧
          (∀ p, own = true → base.state = .ready → j.state = .turnWait → j.place = some p →
            placeBefore (bookPlace b) p = true →
            c' = { base with state := .printing, item := some (handed (.stripeWrite p .repair)) } ∧
              failureReported st c s t) ∧
          ∀ layout l line, own = true → base.state = .ready →
            (j.state = .turnWait → ∃ p, j.place = some p ∧ placeBefore (bookPlace b) p = false) →
            lineStarts j b layout l line s →
            c' = lineHanded j rest b layout l line s base ∧ failureReported st c s t) ∧
          (own = true → base.state = .ready →
            (j.state = .turnWait → ∃ p, j.place = some p ∧ placeBefore (bookPlace b) p = false) →
            (∀ i, c.item = some i → isPrintLine i.body = false ∧ isEndWrite i.body = false) →
            placedWithoutLine st j rest b s base c' t)

/-- A BOOK_REMOVED, a FAULT and the expiry of a completion timer clear the inserted-book record and fail any outstanding
item, with their own causes and printer states: a line ends its job, an end write is owed, a turn, repair or owed write
leaves the wait as it was. The job behind one so ended begins its wait for a book, the owed write standing beside it.
The removal also ends the prompts that only an inserted book warrants. The model's readings: the record is cleared
before the item fails, so that an end write and the next job find no book (log 18), a completion timer that does not run
ends nothing (log 4), and an ended job's serial is its book's, once it has met it (log 29). -/
def Obligations.PrinterReportsClearTheBook : Prop :=
  ∀ (st : Station) (s : State) (c : PrinterContext), printerOf st s = some c →
    (∀ s1, delivered st .d2 .bookRemoved s = some s1 →
      ∃ t, exec (.bookRemoved st) s = .next t ∧ t.slc = s1.slc ∧
        bookCleared st .bookRemoved (reportedState c) c s1 t ∧
        ∀ j rest, c.queue = j :: rest → (j.state = .bookWait ∨ j.state = .turnWait) → c.item = none →
          (printerOf st t).map PrinterContext.prompt = some (match c.prompt with
            | .bookFull => .noPrompt
            | .wrongBook => if j.state = .turnWait then .turnPage else .noPrompt
            | .turnPage => .turnPage
            | .noPrompt => .noPrompt)) ∧
    (∀ s1, delivered st .d2 .fault s = some s1 →
      ∃ t, exec (.fault st) s = .next t ∧ t.slc = s1.slc ∧
        bookCleared st .printerFault (if c.state = .down then .down else .fault) c s1 t) ∧
    ((c.item.bind PrinterItem.timer).isSome = true →
      ∃ t, exec (.completionTimerExpiry st) s = .next t ∧ t.slc = s.slc ∧
        bookCleared st .printerFault (if c.state = .down then .down else .fault) c s t) ∧
    ((c.item.bind PrinterItem.timer).isSome = false → exec (.completionTimerExpiry st) s = .next s)

/-- A LINE_DONE advances the head job by one line. The next line goes to the printer one line lower; where the page is
full, the job turns to the next page, its stripe write first; after its last line, or on the book's last page, the job
ends COMPLETE or BOOK_FULL and its end write goes to its own book. Without an outstanding PRINT_LINE the frame is
discarded. That the line counts whether or not its ACCEPT was seen is the model's reading (log 18). -/
def Obligations.PrintedLineAdvancesTheJob : Prop :=
  ∀ (st : Station) (s s1 : State) (c : PrinterContext),
    delivered st .d2 .lineDone s = some s1 → printerOf st s = some c →
    ((∀ i, c.item = some i → isPrintLine i.body = false) → exec (.lineDone st) s = .next s1) ∧
    ∀ (i : PrinterItem) (old : Place) (texts : List (Nat × Text)) (balance : Option Int) (j done : Job) (rest : List Job)
      (layout : PltRec) (p : Place) (told : Sda),
      c.item = some i → i.body = .printLine old texts balance → c.state = .printing → c.queue = j :: rest →
      j.layout = some layout → j.place = some p →
      done = { j with printed := j.printed + 1, next := j.next + 1, lastBalance := balance.or j.lastBalance,
                      place := some ⟨p.page, p.line + 1⟩ } →
      told = { s.sda with
        queue := updateReservation j.ref
          (fun r => { r with printed := done.printed, lastBalance := done.lastBalance }) s.sda.queue } →
      ∃ t c', exec (.lineDone st) s = .next t ∧ ofPrinter st s1 t ∧ printerOf st t = some c' ∧
        (∀ l, j.next < j.lines.length → p.line ≠ layout.linesPerPage → j.lines[j.next]? = some l →
          keeps [.pbk, .sda] s1 t ∧ t.sda = told ∧
          c' = { c with
            item := some { body := .printLine ⟨p.page, p.line + 1⟩
                             (lineTexts (decimalsOf s) layout l (printedBalance j (j.next + 1) l))
                             (printedBalance j (j.next + 1) l)
                           accepted := false, timer := none }
            queue := { done with state := .printing } :: rest }) ∧
        (j.next < j.lines.length → p.line = layout.linesPerPage → p.page < layout.pages →
          keeps [.pbk, .scm, .sda] s1 t ∧ t.sda = told ∧
          c' = { c with
            prompt := .turnPage
            item := some { body := .stripeWrite ⟨p.page + 1, 1⟩ .turn, accepted := false, timer := none }
            queue := { done with state := .turnWait, place := some ⟨p.page + 1, 1⟩,
                                 timer := some (s.uptime + 1000 * s.mrs.settings.pageTurn) } :: rest }) ∧
        ∀ cause b, (j.lines.length ≤ j.next ∧ cause = .complete) ∨
            (j.next < j.lines.length ∧ p.line = layout.linesPerPage ∧ layout.pages ≤ p.page ∧ cause = .bookFull) →
          c.book = some b → j.account = b.account → j.serial = some b.serial → j.outcome = none →
          placeBefore ⟨p.page, p.line + 1⟩ (bookPlace b) = false →
          keeps [.pbk, .scm, .sda] s1 t ∧ t.sda = told ∧
          c' = { c with
            prompt := if cause = .bookFull ∨ c.prompt = .bookFull then .bookFull else .noPrompt
            item := some { body := .stripeWrite ⟨p.page, p.line + 1⟩ .endWrite, accepted := false, timer := none }
            queue := { done with state := .ended, cause := some cause, timer := none } :: rest }

/-- A WRITE_DONE gives the record the place written. A completed repair resumes the placement of its job; a completed owed
write is cleared, one that has replaced it meanwhile standing, and the job that waited for that book begins placement;
after the end write of the head job the job is completed with stripe outcome WRITTEN and leaves the queue. A placement
so begun hands a line, turns a full page, or ends the job with NO_LAYOUT, BAD_STRIPE or BOOK_FULL. The wait timer ends a
job in BOOK_WAIT with BOOK_ABSENT and one in TURN_WAIT with TURN_TIMEOUT, whose end write, due where lines are printed,
is handed to a READY printer with the job's own book, counts as completed where its place is before the stripe's, and is
else owed. Wherever a job leaves, the QUEUED job behind it begins. The model's readings: WRONG BOOK is withdrawn as an
owed write's completion begins a placement (log 18), a job meets its book, whose serial it then reports, as a book that
matches is compared with it (log 29), and a head job in any other state has no wait (log 4). -/
def Obligations.StripeWriteAndWaitEnd : Prop :=
  ∀ (st : Station) (s : State) (c : PrinterContext), printerOf st s = some c →
    (∀ s1, delivered st .d2 .writeDone s = some s1 →
      ((∀ i, c.item = some i → isPrintLine i.body = true) → exec (.writeDone st) s = .next s1) ∧
      ∀ i p purpose j rest, c.item = some i → i.body = .stripeWrite p purpose → c.state = .printing →
        c.queue = j :: rest →
        (purpose = .turn → j.state = .turnWait →
          exec (.writeDone st) s = .next (setPrinter st (some { c with
            item := none, state := .ready,
            book := c.book.map fun b => { b with page := p.page, line := p.line } }) s1)) ∧
        (∀ b done layout l line, purpose = .repair → j.state = .turnWait → c.book = some b →
          done = { b with page := p.page, line := p.line } → lineStarts j done layout l line s →
          ∃ t, exec (.writeDone st) s = .next t ∧ t.slc = s1.slc ∧ ofPrinter st s1 t ∧ t.sda = s.sda ∧ t.jrn = s.jrn ∧
            printerOf st t = some (lineHanded j rest done layout l line s
              { c with item := none, state := .ready, book := some done })) ∧
        (∀ b done, purpose = .repair → j.state = .turnWait → c.book = some b →
          done = { b with page := p.page, line := p.line } →
          ∃ t c', exec (.writeDone st) s = .next t ∧ t.slc = s1.slc ∧ ofPrinter st s1 t ∧ printerOf st t = some c' ∧
            placedWithoutLine st j rest done s { c with item := none, state := .ready, book := some done } c' t) ∧
        (purpose = .endWrite → j.state = .ended → (∀ k, rest.head? = some k → k.state = .queued) →
          canWrite 0 (passbookDraft st (tellerAt st s) (jobReservation j) (j.cause.getD .complete) .written) s →
          ∃ t, exec (.writeDone st) s = .next t ∧
            jobLeaves st j rest (j.cause.getD .complete) .written { c with
              item := none, state := .ready, book := c.book.map fun b => { b with page := p.page, line := p.line } } s1 t)) ∧
    (∀ s1 i p after, delivered st .d2 .writeDone s = some s1 → c.item = some i → i.body = .stripeWrite p .owed →
      c.state = .printing →
      after = { c with
        item := none, state := .ready,
        owed := if c.owed = c.book.map (fun b => { account := b.account, serial := b.serial, place := p }) then none
          else c.owed,
        book := c.book.map fun b => { b with page := p.page, line := p.line } } →
      ((∀ j rest, c.queue = j :: rest → j.state = .turnWait ∨ (j.state = .bookWait ∧
          ∀ b, after.book = some b → bookMatches j b = false ∨ owedFor after b = true)) →
        exec (.writeDone st) s = .next (setPrinter st (some after) s1)) ∧
      ∀ j rest b layout l line, c.queue = j :: rest → j.state = .bookWait → after.book = some b →
        bookMatches j b = true → owedFor after b = false → lineStarts j b layout l line s →
        ∃ t, exec (.writeDone st) s = .next t ∧ t.slc = s1.slc ∧ ofPrinter st s1 t ∧ t.sda = s.sda ∧ t.jrn = s.jrn ∧
          printerOf st t = some (lineHanded j rest b layout l line s after)) ∧
    (∀ s1 i p after j rest b, delivered st .d2 .writeDone s = some s1 → c.item = some i →
      i.body = .stripeWrite p .owed → c.state = .printing →
      after = { c with
        item := none, state := .ready,
        owed := if c.owed = c.book.map (fun b => { account := b.account, serial := b.serial, place := p }) then none
          else c.owed,
        book := c.book.map fun b => { b with page := p.page, line := p.line } } →
      c.queue = j :: rest → j.state = .bookWait → after.book = some b → bookMatches j b = true →
      owedFor after b = false →
      ∃ t c', exec (.writeDone st) s = .next t ∧ t.slc = s1.slc ∧ ofPrinter st s1 t ∧ printerOf st t = some c' ∧
        placedWithoutLine st j rest b s after c' t) ∧
    (∀ j rest x, c.queue = j :: rest → (∀ k, rest.head? = some k → k.state = .queued) →
      x = { c with prompt := if c.prompt = .bookFull then .bookFull else .noPrompt } →
      (∀ cause, ((j.state = .bookWait ∧ cause = .bookAbsent) ∨ (j.state = .turnWait ∧ cause = .turnTimeout)) →
        j.printed = 0 → canWrite 0 (passbookDraft st (tellerAt st s) (jobReservation j) cause .notDue) s →
        ∃ t, exec (.waitTimerExpiry st) s = .next t ∧ jobLeaves st j rest cause .notDue x s t) ∧
      (j.state = .turnWait → 0 < j.printed → (c.state ≠ .ready ∨ j.place = none ∨ ∀ b, c.book = some b → isJobsBook j b = false) →
        canWrite 0 (passbookDraft st (tellerAt st s) (jobReservation j) .turnTimeout .owed) s →
        ∃ t, exec (.waitTimerExpiry st) s = .next t ∧
          jobLeaves st j rest .turnTimeout .owed { x with owed := leavesOwed j c.owed } s t) ∧
      ∀ b p, j.state = .turnWait → 0 < j.printed → c.state = .ready → c.book = some b → isJobsBook j b = true →
        j.place = some p →
        (placeBefore p (bookPlace b) = false → j.outcome = none →
          ∃ t, exec (.waitTimerExpiry st) s = .next t ∧ ofPrinter st s t ∧ t.sda = s.sda ∧ t.jrn = s.jrn ∧
            printerOf st t = some { x with
              state := .printing, item := some (handed (.stripeWrite p .endWrite))
              queue := { j with state := .ended, cause := some .turnTimeout, timer := none } :: rest }) ∧
        (placeBefore p (bookPlace b) = true →
          canWrite 0 (passbookDraft st (tellerAt st s) (jobReservation j) .turnTimeout .written) s →
          ∃ t, exec (.waitTimerExpiry st) s = .next t ∧ jobLeaves st j rest .turnTimeout .written x s t)) ∧
    ((∀ j, c.queue.head? = some j → j.state ≠ .bookWait ∧ j.state ≠ .turnWait) →
      exec (.waitTimerExpiry st) s = .next s)

/-! ## Station lines -/

/-- A valid answer to a poll ends the exchange and leaves the drop UP with 0 missed. A frame of its drop takes the place
held for it, any other frame is discarded and counted CHECK_ERROR, and NOTHING frees the place. The owner of a drop that
was not UP is told: a printer that was DOWN is READY without a book, an image is to be sent. -/
def Obligations.PollAnswers : Prop :=
  ∀ (st : Station) (f : DropFrame) (s : State) (d : Drop) (x : DropStatus) (c : Instr) (l : Line),
    (lineOf st s).exchange = some (.poll d) → (lineOf st s).drops.get d = some x →
    ((c = .dropFrame st f ∧ sentByDrop (lineOf st s).setup.role d f = true ∧
        l = { answeredLine d (lineOf st s) with buffer := (lineOf st s).buffer ++ [(d, f)] }) ∨
      (c = .dropFrame st f ∧ sentByDrop (lineOf st s).setup.role d f = false ∧
        l = { answeredLine d (lineOf st s) with errors := { (lineOf st s).errors with
          checkError := satCount 255 (lineOf st s).errors.checkError } }) ∨
      (c = .nothing st ∧ l = answeredLine d (lineOf st s))) →
    (x.state = .up → exec c s = .next (setLine st l s)) ∧
    (x.state ≠ .up → ∃ t, exec c s = .next t ∧ lineBecomes st l s t ∧
      keeps [.slc, .scm, .pbk, .sda, .jrn, .blc, .mrs] s t ∧ otherPrinters st s t ∧ otherScreens st s t ∧
      raisedOnly journalFlags s t ∧
      ((lineOf st s).setup.role ≠ .teller → keeps [.slc] s t) ∧
      (∀ y, (lineOf st s).setup.role = .teller → d = .d1 → contextOf st s = some y →
        t.pbk = s.pbk ∧ contextOf st t = some { y with terminalPending := true }) ∧
      (∀ y, (lineOf st s).setup.role = .teller → d = .d3 → contextOf st s = some y →
        t.pbk = s.pbk ∧ contextOf st t = some { y with mirrorPending := true }) ∧
      ∀ y, (lineOf st s).setup.role = .teller → d = .d2 → printerOf st s = some y → y.state = .down → y.queue = [] →
        printerOf st t = some { y with state := .ready, book := none })

/-- ACCEPT ends a select and its owner is told: an image is no longer pending unless it was recomposed since the copy was
taken, a printer item's completion timer of 30 s starts, and a journal line moves the printed cursor and frees the entries
accepted and printed. BUSY keeps the drop from being selected for 1 s, and its output waits. That the item accepted is the
one outstanding with the body that the select carried, also where the select's own item has failed meanwhile, is the model's
choice (log 42). -/
def Obligations.SelectAnswers : Prop :=
  ∀ (st : Station) (s : State) (d : Drop) (item : SelectItem) (x : DropStatus),
    (lineOf st s).exchange = some (.select d item) → (lineOf st s).drops.get d = some x → x.state = .up →
    (∀ image c, item = .terminal image → contextOf st s = some c →
      exec (.accept st) s = .next (setContext st
        (some { c with terminalPending := c.terminalPending && c.terminalRecomposed })
        (setLine st (answeredLine d (lineOf st s)) s))) ∧
    (∀ rows c, item = .mirror rows → contextOf st s = some c →
      exec (.accept st) s = .next (setContext st
        (some { c with mirrorPending := c.mirrorPending && c.mirrorRecomposed })
        (setLine st (answeredLine d (lineOf st s)) s))) ∧
    (∀ i c, item = .printer i.body → i.accepted = false → printerOf st s = some c → c.item = some i →
      exec (.accept st) s = .next (setPrinter st
        (some { c with item := some { i with accepted := true, timer := some (s.uptime + 30000) } })
        (setLine st (answeredLine d (lineOf st s)) s))) ∧
    (∀ e, item = .journalLine e → (lineOf st s).setup.role = .journalPrinter →
      ∃ t, exec (.accept st) s = .next t ∧ keeps [.slc, .jrn] s t ∧ t.slc = (setLine st (answeredLine d (lineOf st s)) s).slc ∧
        t.jrn.printedCursor = e.seq ∧
        t.jrn.entries = (s.jrn.entries.dropWhile fun y =>
          decide (y.seq ≤ s.jrn.lastAccepted) && decide (y.seq ≤ e.seq)) ∧
        (slotsAccounted s → slotsAccounted t) ∧
        { t.jrn with entries := s.jrn.entries, used := s.jrn.used, free := s.jrn.free,
                     printedCursor := s.jrn.printedCursor } = s.jrn) ∧
    exec (.busy st) s = .next (setLine st
      { answeredLine d (lineOf st s) with
        drops := (lineOf st s).drops.set d (some { x with state := .up, missed := 0, repoll := none, repollDue := false,
                                                          busy := some (s.uptime + 1000) }) } s)

/-- A failed response or a silence of 150 ms ends its exchange, adds 1 to its own error count and is a missed response; at
the third in a row the drop is DOWN, DROP_DOWN is raised, its next poll is due in 5 s, and a printer is told. An answer of
the other kind of exchange is a failed response (log 22). A command out of its case changes nothing (log 4). -/
def Obligations.MissedResponses : Prop :=
  ∀ (st : Station) (s : State),
    ((lineOf st s).exchange = none → exec (.pollResponseTimeout st) s = .next s ∧
      ∀ why, exec (.failedResponse st why) s = .next s) ∧
    (∀ d, (lineOf st s).exchange = some (.poll d) →
      exec (.accept st) s = exec (.failedResponse st .checkError) s ∧
      exec (.busy st) s = exec (.failedResponse st .checkError) s) ∧
    (∀ d item, (lineOf st s).exchange = some (.select d item) →
      exec (.nothing st) s = exec (.failedResponse st .checkError) s ∧
      ∀ f, exec (.dropFrame st f) s = exec (.failedResponse st .checkError) s) ∧
    ∀ (e0 e : ErrorSummary) (x : Exchange) (d : Drop) (y : DropStatus) (c : Instr),
      e0 = (lineOf st s).errors → (lineOf st s).exchange = some x → (x = .poll d ∨ ∃ item, x = .select d item) →
      (lineOf st s).drops.get d = some y →
      ((c = .failedResponse st .checkError ∧ e = { e0 with checkError := satCount 255 e0.checkError }) ∨
        (c = .failedResponse st .framing ∧ e = { e0 with framing := satCount 255 e0.framing }) ∨
        (c = .pollResponseTimeout st ∧ e = { e0 with noResponse := satCount 255 e0.noResponse })) →
      (y.state = .down → exec c s = .next (setLine st (failedLine d y e (lineOf st s)) s)) ∧
      (y.state ≠ .down → y.missed < 2 →
        exec c s = .next (setLine st (failedLine d { y with missed := y.missed + 1 } e (lineOf st s)) s)) ∧
      ∀ u, y.state ≠ .down → 2 ≤ y.missed →
        u = raise (.dropDown st) (setLine st (failedLine d
          { y with state := .down, missed := 3, repoll := some (s.uptime + 5000), repollDue := false } e
          (lineOf st s)) s) →
        flagSet (.dropDown st) u.mrs.flags = true ∧
        (((lineOf st s).setup.role ≠ .teller ∨ d ≠ .d2 ∨ printerOf st s = none) → exec c s = .next u) ∧
        ∀ p, (lineOf st s).setup.role = .teller → d = .d2 → printerOf st s = some p →
          ∃ t, exec c s = .next t ∧ t.slc = u.slc ∧ bookCleared st .printerDown .down p u t

/-- The other events of a line: a frame that the buffer holds is taken from its front alone, which frees its place, and at a
line in role TELLER alone; the 5 s of a DOWN drop make its poll due; the 1 s of a BUSY drop ends; an attention starts
a sweep of the present drops where none runs; an unsolicited run is counted once between two exchanges and not while a
test runs; and while ECHO runs a character is sent back as received. The model's choices: out of its case each leaves
the state as it was (log 4), a frame that no place holds is taken as it arrives (log 5), sweeps and runs (log 22). -/
def Obligations.LineEvents : Prop :=
  ∀ (st : Station) (s : State) (l : Line), l = lineOf st s →
    (∀ d f s1, delivered st d f s = some s1 ↔ l.setup.role = .teller ∧ ((l.buffer = [] ∧ s1 = s) ∨
      ∃ rest, l.buffer = (d, f) :: rest ∧ s1 = setLine st { l with buffer := rest } s)) ∧
    (∀ d x, l.drops.get d = some x →
      exec (.repollDue st d) s = .next (if x.state = .down ∧ x.repoll.isSome = true then
        setLine st { l with drops := l.drops.set d (some { x with repoll := none, repollDue := true }) } s else s) ∧
      exec (.busyRetryExpiry st d) s =
        .next (setLine st { l with drops := l.drops.set d (some { x with busy := none }) } s)) ∧
    (∀ d, l.drops.get d = none → exec (.repollDue st d) s = .next s ∧ exec (.busyRetryExpiry st d) s = .next s) ∧
    exec (.attention st) s = .next (if l.setup.role ≠ .off ∧ l.sweeping = false then
      setLine st { l with sweeping := true, sweep := [Drop.d1, .d2, .d3].filter fun d =>
        d = .d1 || (l.setup.role = .teller && (if d = .d2 then l.setup.printerPresent else l.setup.mirrorPresent)) } s
      else s) ∧
    exec (.unsolicited st) s = .next (if l.exchange = none ∧ testRuns l = false ∧ l.unsolicitedRun = false then
      setLine st { l with
        unsolicitedRun := true, errors := { l.errors with unsolicited := satCount 255 l.errors.unsolicited } } s
      else s) ∧
    ∀ signal, exec (.echoCharacter st signal) s = .next (if l.test.map TestRecord.mode = some .echo then
      setLine st { l with echoed := some signal } s else s)

/-- A free line with a role issues its next exchange, polls and selects taking turns where both can be made. A poll needs a
free place of the buffer and goes to the next drop of a sweep, else to a DOWN drop whose poll is due, else round the drops
that are not DOWN, from the one after the last polled; a select goes to the first drop after the last selected that is UP,
not BUSY and has an output ready, with that output. Which of several due re-polls goes first, and where the rounds begin
after a start, is the model's choice (log 22). -/
def Obligations.ExchangesAlternate : Prop :=
  ∀ (st : Station) (s : State) (l : Line), l = lineOf st s →
    ((l.setup.role = .off ∨ l.exchange ≠ none) → exec (.issueExchange st) s = .next s) ∧
    (l.setup.role ≠ .off → l.exchange = none →
      ((∀ d, ¬ pollsNext l d) → (∀ d item, ¬ outputReady st s d item) → exec (.issueExchange st) s = .next s) ∧
      (∀ d, pollsNext l d → (l.lastWasSelect = true ∨ ∀ a item, ¬ outputReady st s a item) →
        exec (.issueExchange st) s = .next (setLine st { l with
          exchange := some (.poll d), lastPolled := some d, lastWasSelect := false, sweep := l.sweep.tail,
          unsolicitedRun := false,
          drops := match l.sweep, l.drops.get d with
            | [], some x => if x.state = .down ∧ x.repollDue = true then
                l.drops.set d (some { x with repollDue := false, repoll := some (s.uptime + 5000) }) else l.drops
            | _, _ => l.drops } s)) ∧
      ∀ d item, selectsNext st s d item → (l.lastWasSelect = false ∨ ∀ a, ¬ pollsNext l a) →
        ∃ t, exec (.issueExchange st) s = .next t ∧ keeps [.slc, .scm] s t ∧ otherScreens st s t ∧
          lineBecomes st { l with exchange := some (.select d item), lastSelected := some d, lastWasSelect := true,
                                  unsolicitedRun := false } s t ∧
          ∀ c, contextOf st s = some c → ∃ c', contextOf st t = some c' ∧
            c' = { c with terminalRecomposed := c'.terminalRecomposed, mirrorRecomposed := c'.mirrorRecomposed } ∧
            (∀ image, item = .terminal image → c'.terminalRecomposed = false) ∧
            ∀ rows, item = .mirror rows → c'.mirrorRecomposed = false) ∧
    (∀ d, pollChoice l = some d ↔ pollsNext l d) ∧
    ∀ d item, selectChoice st s = some (d, item) ↔ selectsNext st s d item

/-- LINE-TEST runs on a line that is OFF: ECHO, or a LOOP of 1 to 255 frames that sends its first at once; a frame that
comes back equal is matched, any other mismatched, and the next is sent until the last. STOP replies with the counts, at
once or, while a loop runs, when the frame on its way has been judged. That a waiting STOP is answered then, and the
counts 0 where no loop has run, are the model's choices (log 23); so is that a return or a timeout where no loop runs
leaves the state as it was (log 4). A command of a request that does not wait in the buffer is taken as its arrival
alone (the model's choice, log 8). -/
def Obligations.LineTests : Prop :=
  (∀ (id line mode count : Nat) (s s1 : State), mgmtTaken id (.lineTest line mode count) s s1 →
    ∃ t, exec (.lineTest id line mode count) s = .next t ∧
      ((Station.ofNat? line = none ∨ mode < 1 ∨ 3 < mode ∨ (mode = 2 ∧ (count < 1 ∨ 255 < count))) →
        requestRefused id .badRequest s s1 t) ∧
      ∀ st l, line = st.num → l = lineOf st s →
        (1 ≤ mode → mode ≤ 3 → (mode = 2 → 1 ≤ count ∧ count ≤ 255) →
          (l.setup.role ≠ .off ∨ (mode ≠ 3 ∧ testRuns l = true)) → requestRefused id .roleOrder s s1 t) ∧
        (l.setup.role = .off → testRuns l = false → mode = 1 →
          requestDone id .done .nothing [.slc] s s1 t ∧
            lineBecomes st { l with test := some { (testRecord l) with mode := .echo } } s t) ∧
        (l.setup.role = .off → testRuns l = false → mode = 2 → 1 ≤ count → count ≤ 255 →
          requestDone id .done .nothing [.slc] s s1 t ∧
            lineBecomes st { l with test := some { mode := .loop count, sent := 1, matched := 0, mismatched := 0,
                                                   stopping := none } } s t) ∧
        (l.setup.role = .off → mode = 3 →
          (l.test = none → requestDone id .done (.testCounts 0 0 0) [] s s1 t) ∧
          ∀ r, l.test = some r →
            ((∀ n, r.mode ≠ .loop n) →
              requestDone id .done (.testCounts r.sent r.matched r.mismatched) [.slc] s s1 t ∧
                lineBecomes st { l with test := some { r with mode := .idle } } s t) ∧
            ∀ n, r.mode = .loop n → keeps [.slc, .mrs] s t ∧ t.mrs = s1.mrs ∧
              lineBecomes st { l with test := some { r with stopping := some id } } s t)) ∧
  ∀ (st : Station) (how : LoopReturn) (c : Instr) (equal : Bool) (s : State) (l : Line), l = lineOf st s →
    ((c = .loopFrameReturn st how ∧ equal = decide (how = .equal)) ∨ (c = .loopFrameTimeout st ∧ equal = false)) →
    ((∀ r n, l.test = some r → r.mode ≠ .loop n) → exec c s = .next s) ∧
    ∀ r r' n, l.test = some r → r.mode = .loop n →
      r' = { r with matched := if equal then r.matched + 1 else r.matched
                    mismatched := if equal then r.mismatched else r.mismatched + 1 } →
      (r.stopping = none → r.sent < n →
        exec c s = .next (setLine st { l with test := some { r' with sent := r.sent + 1 } } s)) ∧
      (r.stopping = none → n ≤ r.sent →
        exec c s = .next (setLine st { l with test := some { r' with mode := .idle } } s)) ∧
      ∀ id, r.stopping = some id →
        exec c s = .next (answer id .done (.testCounts r'.sent r'.matched r'.mismatched)
          (setLine st { l with test := some { r' with mode := .idle, stopping := none } } s))

/-- A LINE-SETUP that passes gives a line that was OFF its role: its present drops NEW with 0 missed, no exchange, its buffer
empty, its error summary, latches and test record kept; for role TELLER a screen context that shows the sign-on prompt, or
an empty FORM, with a printer context where drop 2 is present, and for a journal printer a cursor before the oldest entry
held. A setup of an OFF line as OFF replaces its items alone. Where DRAWER_SENSE stays on its wire the drawer watch stands;
where it leaves or comes to a wire the condition ends, and the timer starts where the wire found reads OPEN. A setup of the
role a line has changes the station depth and the mirror setting alone. A setup with an item outside its values is refused
BAD_REQUEST, one of another role or beside a running test ROLE_ORDER, a second journal printer ROLE_CONFLICT, and one that
changes drops or functions under a role ROLE_ORDER. The model's readings and choices: which fill characters are printable,
and that the rounds begin at the lowest drop (log 22); that a running pulse stands (log 37); the level of a wire that
becomes DRAWER_SENSE is a free value (log 7). A command of a request that does not wait in the buffer is taken as its
arrival alone (the model's choice, log 8). -/
def Obligations.LineSetupGivesTheRole : Prop :=
  ∀ (id : Nat) (r : LineSetupRequest) (s s1 : State), mgmtTaken id (.lineSetup r) s s1 →
    ∃ u, exec (.lineSetup id r) s = .next (judgeSettle u) ∧
      ((∀ st : Station, r.line ≠ st.num) ∨ (∀ x, ¬ setupCarried r x) → requestRefused id .badRequest s s1 u) ∧
      (∀ x, readSetup r = some x ↔ setupCarried r x) ∧
      ∀ st x l, r.line = st.num → setupCarried r x → l = lineOf st s →
        (∀ why, setupFails st x s why → requestRefused id why s s1 u) ∧
        (l.setup.role = .off → x.role = .off →
          requestDone id .done (.role .off) [.scm, .slc] s s1 u ∧ otherLines st s u ∧ setUpAs x l l (lineOf st u) s ∧
            otherScreens st s u) ∧
        (l.setup.role = .off → testRuns l = false →
          (x.role = .teller → requestDone id .done (.role .teller) [.scm, .pbk, .slc] s s1 u ∧ otherLines st s u ∧
            otherScreens st s u ∧ otherPrinters st s u ∧ setUpAs x l (roleBegins x l) (lineOf st u) s ∧ freshScreen st s u ∧
            printerOf st u = if x.printerPresent = true then
              some { book := none, state := .ready, item := none, owed := none, prompt := .noPrompt, queue := [] }
              else none) ∧
          (x.role = .journalPrinter → (∀ a, (lineOf a s).setup.role ≠ .journalPrinter) →
            requestDone id .done (.role .journalPrinter) [.scm, .jrn, .slc] s s1 u ∧ otherLines st s u ∧
            otherScreens st s u ∧ setUpAs x l (roleBegins x l) (lineOf st u) s ∧
            u.jrn = { s.jrn with printedCursor := match s.jrn.entries with
              | [] => s.jrn.nextSeq - 1
              | e :: _ => e.seq - 1 })) ∧
        (l.setup.role ≠ .off → x.role = l.setup.role → testRuns l = false →
          x.printerPresent = l.setup.printerPresent → x.mirrorPresent = l.setup.mirrorPresent →
          x.functions = l.setup.functions →
          requestDone id .done (.role x.role) [.slc] s s1 u ∧ lineBecomes st { l with setup := x } s u)

/-- A line set OFF from role TELLER signs its teller off, clears its screen and its printer, drops its traffic, and abandons
its transactions: each leaves the OTT with its leg released, its REVERSAL advice and its TXN ABANDONED entry, no other
station's leaves it, and each print job ends, LINE_OFF or with the cause it had, its reservation an advice and its
PASSBOOK entry written. A journal printer set OFF ends the print condition: the entries head office has accepted are
freed, printed or not, and the cursor stands. In both roles the line keeps its error summary, latches and test record, and
the drawer watch stands where DRAWER_SENSE stays on its wire; else the condition ends and the timer starts where the wire
found reads OPEN, its level being a free value (log 7). LINE-RESET puts the drops in NEW, empties the buffer, clears the error
counts and the test, and has the images sent again. The model's readings: the order of the entries, those of the
transactions by acceptance and then those of the jobs (log 32), that a job has met its book, whose serial it reports,
once a book that matches was compared with it (log 29), that a sweep that runs survives a LINE-RESET (log 22), and that a
running pulse stands (log 37). A command of a request that does not wait in the buffer is taken as its arrival alone (the model's choice, log 8). -/
def Obligations.LineSetOffAndReset : Prop :=
  (∀ (id : Nat) (r : LineSetupRequest) (s s1 : State) (st : Station) (x : LineSetup) (gone : List OttEntry),
    mgmtTaken id (.lineSetup r) s s1 → r.line = st.num → readSetup r = some x → x.role = .off →
    (lineOf st s).setup.role = .teller → gone = s.ttr.ott.filter (fun e => e.ref.station = st) →
    ∃ u, exec (.lineSetup id r) s = .next (judgeSettle u) ∧
      keeps [.ttr, .csh, .scm, .pbk, .sda, .jrn, .slc, .blc, .mrs] s u ∧
      (∀ a, tellerAt a u = if a = st then none else tellerAt a s) ∧ contextOf st u = none ∧ printerOf st u = none ∧
      otherPrinters st s u ∧ otherLines st s u ∧ (∀ a, a ≠ st → contextOf a u = contextOf a s) ∧
      setUpAs x (lineOf st s) (roleEnds (lineOf st s)) (lineOf st u) s ∧
      u.ttr = { s.ttr with ott := s.ttr.ott.filter fun e => e.ref.station ≠ st } ∧
      (∀ p, p ≠ some st → positionOf p u = positionOf p s) ∧ (drawerOf st u).total = (drawerOf st s).total ∧
      drawerOf st u = gone.foldl (fun p e => afterLeg releasedPosition e.leg p) (drawerOf st s) ∧
      u.blc.requests = (s.blc.requests.filter fun m =>
        !(s.ttr.ott.any fun e => decide (e.ref.station = st) && decide (e.ref = m.ref))) ∧
      u.blc.replies = s.blc.replies ++ [{ id := id, status := .done, content := .role .off }] ∧
      raisedOnly journalFlags (onBlc (fun b => { b with requests := u.blc.requests, replies := u.blc.replies }) s1) u ∧
      (∃ kept reversals, u.sda.queue = kept ++ reversals ∧ List.Forall₂ (reverses .abandonedOnLineOff) gone reversals ∧
        (printerOf st s = none → kept = s.sda.queue) ∧
        ∀ c, printerOf st s = some c →
          (s.sda.queue.filterMap fun q => match q with
            | .reservation y => some y.ref
            | .advice _ => none).Nodup →
          List.Forall₂ (afterLineOff c.queue) s.sda.queue kept) ∧
      u.sda.accountMap = s.sda.accountMap ∧ u.sda.unmatchedAcks = s.sda.unmatchedAcks ∧
      ∀ jobs drafts, jobs = ((printerOf st s).map PrinterContext.queue).getD [] →
        drafts = gone.map abandonedDraft ++ jobs.map (fun j =>
          passbookDraft st (tellerAt st s) (jobReservation j) (offCause j) (offOutcome j)) →
        s.jrn.reserved = reservedSlots s → 2 * jobs.length ≤ s.jrn.free →
        s.jrn.nextSeq + drafts.length ≤ 4294967296 →
        u.jrn = journalAfter (4 * gone.length) s.mrs.clock drafts s ∧
          u.sda.tellerDays = s.sda.tellerDays.map fun y => { y with
            station := if tellerAt st s = some y.teller then none else y.station
            lastOff := if tellerAt st s = some y.teller then some s.mrs.clock else y.lastOff
            txCount := countedTxns gone y }) ∧
  (∀ (id : Nat) (r : LineSetupRequest) (s s1 : State) (st : Station) (x : LineSetup),
    mgmtTaken id (.lineSetup r) s s1 → r.line = st.num → readSetup r = some x → x.role = .off →
    (lineOf st s).setup.role = .journalPrinter → linesOk s →
    ∃ u, exec (.lineSetup id r) s = .next (judgeSettle u) ∧ requestDone id .done (.role .off) [.scm, .jrn, .slc] s s1 u ∧
      otherLines st s u ∧ otherScreens st s u ∧
      setUpAs x (lineOf st s) (roleEnds (lineOf st s)) (lineOf st u) s ∧
      u.jrn = { s.jrn with
        entries := s.jrn.entries.dropWhile fun e => decide (e.seq ≤ s.jrn.lastAccepted)
        used := u.jrn.used
        free := u.jrn.free } ∧
      (slotsAccounted s → slotsAccounted u)) ∧
  ∀ (id line : Nat) (s s1 : State), mgmtTaken id (.lineReset line) s s1 →
    ∃ t, exec (.lineReset id line) s = .next t ∧
      (Station.ofNat? line = none → requestRefused id .badRequest s s1 t) ∧
      ∀ st, line = st.num →
        requestDone id .done .nothing [.scm, .slc] s s1 t ∧ otherScreens st s t ∧
        lineBecomes st { lineOf st s with
          exchange := none
          buffer := []
          sweeping := sweepGoesOn (lineOf st s)
          drops := Three.ofFn fun d => if dropPresent (lineOf st s).setup d = true then
            some { state := .new, missed := 0, busy := none, repoll := none, repollDue := false } else none
          errors := ⟨0, 0, 0, 0⟩
          test := none } s t ∧
        ∀ c, contextOf st s = some c →
          contextOf st t = some { c with terminalPending := true, mirrorPending := true }

/-- LINE-CONTROL sets or clears the latches of the lines in its mask, latches each other line as it reads, and replies with
the four values. An output drives its latch, a LAMP also while its station is SIGNED_ON in an OPEN day, a DRAWER_RELEASE
also during a pulse; an input drives nothing. The levels of ALARM_IN and SPARE_IN are free values (log 7); that a
running pulse drives whichever line has DRAWER_RELEASE, after a LINE-SETUP too, is the model's choice (log 37). A
command of a request that does not wait in the buffer is taken as its arrival alone (the model's choice, log 8). -/
def Obligations.LineControlWritesLatches : Prop :=
  (∀ (id n op : Nat) (mask : Four Bool) (s s1 : State), mgmtTaken id (.lineControl n op mask) s s1 →
    ∃ t, exec (.lineControl id n op mask) s = .next t ∧
      ((Station.ofNat? n = none ∨ (op ≠ 1 ∧ op ≠ 2)) → requestRefused id .badRequest s s1 t) ∧
      ∀ st, n = st.num → (op = 1 ∨ op = 2) →
        ∃ v : Four Bool, requestDone id .done (.latches v) [.slc] s s1 t ∧ otherLines st s t ∧
          lineOf st t = { lineOf st s with latches := v } ∧
          ∀ d, v.get d =
            if mask.get d = true then decide (op = 1)
            else match (lineOf st s).setup.functions.get d with
              | .spareOut => (lineOf st s).latches.get d
              | .lamp => (lineOf st s).latches.get d
              | .drawerRelease => (lineOf st s).latches.get d
              | .drawerSense => (lineOf st s).drawerOpen
              | .alarmIn => v.get d
              | .spareIn => v.get d) ∧
  ∀ (st : Station) (d : DiscreteLine) (s : State),
    drivenLevel st d s = match (lineOf st s).setup.functions.get d with
      | .spareOut => some ((lineOf st s).latches.get d)
      | .lamp => some ((lineOf st s).latches.get d || ((tellerAt st s).isSome && decide (s.day.state = .opened)))
      | .drawerRelease => some ((lineOf st s).latches.get d || (lineOf st s).pulse.isSome)
      | .drawerSense => none
      | .alarmIn => none
      | .spareIn => none

/-- A drawer found OPEN starts the drawer-open timer of the settings; its expiry raises DRAWER_LEFT_OPEN and shows it; a
drawer found CLOSED stops the timer and ends the condition. The end of a pulse withdraws it. A line without DRAWER_SENSE
senses no change (the model's choice, log 4). -/
def Obligations.DrawerIsWatched : Prop :=
  ∀ (st : Station) (s : State) (l : Line), l = lineOf st s →
    (∀ opened, (lineWith .drawerSense l.setup = none ∨ l.drawerOpen = opened) →
      exec (.drawerSenseChange st opened) s = .next s) ∧
    (lineWith .drawerSense l.setup ≠ none → l.drawerOpen = false →
      exec (.drawerSenseChange st true) s = .next (setLine st { l with
        drawerOpen := true, openTimer := some (s.uptime + 1000 * s.mrs.settings.drawerOpen) } s)) ∧
    (lineWith .drawerSense l.setup ≠ none → l.drawerOpen = true →
      ∃ t, exec (.drawerSenseChange st false) s = .next t ∧ keeps [.slc, .scm] s t ∧ otherScreens st s t ∧
        lineBecomes st { l with drawerOpen := false, openTimer := none, leftOpen := false } s t ∧
        (l.leftOpen = false → t.scm = s.scm) ∧
        (l.leftOpen = true → contextOf st t = (contextOf st s).map (recomposed st t))) ∧
    (l.openTimer = none → exec (.drawerOpenTimerExpiry st) s = .next s) ∧
    (l.openTimer ≠ none →
      ∃ t, exec (.drawerOpenTimerExpiry st) s = .next t ∧ keeps [.slc, .scm, .blc, .mrs] s t ∧ otherScreens st s t ∧
        lineBecomes st { l with openTimer := none, leftOpen := true } s t ∧ raisedOnly [.drawerLeftOpen] s t ∧
        flagSet .drawerLeftOpen t.mrs.flags = true ∧ contextOf st t = (contextOf st s).map (recomposed st t)) ∧
    exec (.drawerPulseEnd st) s = .next (setLine st { l with pulse := none } s)

/-- A rising ALARM_IN queues an ALARM advice behind the other ALARM advices and ahead of everything else, or raises the
repeat count of the one that stands for the station; it raises ALARM and writes an ALARM entry that carries the time of
first raising and the repeat count. The number an advice is given is the first, from the counter on, that no advice of the
queue holds. The model's choices: the entry names no teller (log 19), and a rise at a station without
ALARM_IN changes nothing (log 4). -/
def Obligations.AlarmIsQueued : Prop :=
  (∀ s : State, queueOk s → countersOk s →
    firstFree 65535 s.sda.nextAdvice (fun n => ∃ a, .advice a ∈ s.sda.queue ∧ a.number = n) (adviceNumber s)) ∧
  ∀ (st : Station) (s : State),
    (lineWith .alarmIn (lineOf st s).setup = none → exec (.alarmInRising st) s = .next s) ∧
    (lineWith .alarmIn (lineOf st s).setup ≠ none →
      ∃ t, exec (.alarmInRising st) s = .next t ∧ keeps [.sda, .jrn, .blc, .mrs] s t ∧
        raisedOnly (.alarm :: journalFlags) s t ∧ flagSet .alarm t.mrs.flags = true ∧
        (alarmStands st s = false →
          (∃ front back, s.sda.queue = front ++ back ∧ front.all isAlarm = true ∧
            (back.head?.map isAlarm).getD false = false ∧
            t.sda = { s.sda with
              queue := front ++
                .advice { number := adviceNumber s, body := .alarm st s.mrs.clock 1, sent := none } :: back
              nextAdvice := if adviceNumber s < 65535 then adviceNumber s + 1 else 1 }) ∧
          (canWrite 0 (alarmDraft st s.mrs.clock 1) s → wrote 0 (alarmDraft st s.mrs.clock 1) s t)) ∧
        ∀ a front back first n, s.sda.queue = front ++ .advice a :: back → a.body = .alarm st first n →
          (front.all fun q => alarmStation q ≠ some st) = true → (back.all fun q => alarmStation q ≠ some st) = true →
          t.sda = { s.sda with
            queue := front ++ .advice { a with body := .alarm st first (if n < 255 then n + 1 else 255) } :: back } ∧
          (canWrite 0 (alarmDraft st first (if n < 255 then n + 1 else 255)) s →
            wrote 0 (alarmDraft st first (if n < 255 then n + 1 else 255)) s t))

/-! ## The branch link -/

/-- A frame is read back as it was written: its own check bytes make its frame check 0, and the part judges exactly its
destination, source, kind, segment and payload. So no field of a frame is dropped on the wire. Bytes that are no
complete frame of up to 1,024 payload bytes, and a complete frame whose check does not agree, fail as frame check. A
frame whose check agrees is valid exactly where its kind is an inbound kind, its source 255, its destination 1 to 8 for
a REPLY and 0 for every other kind, and bits 6 to 4 of its segment byte are 0; every other fails as frame form. The frame
check is that of R202: a register that starts at all ones takes in the bits of the bytes, most significant first. -/
def Obligations.FrameIsReadBack : Prop :=
  (∀ bytes : List Byte, frameCheck bytes = (bytes.flatMap bitsOf).foldl checkAfter 0xFFFF#16) ∧
  (∀ f : LinkFrame, f.payload.length ≤ 1024 →
    frameCheck (frameBytes f) = 0#16 ∧ (frameBytes f).length = f.payload.length + 8 ∧
      judgeFrame (frameBytes f) = judgeForm f.dest f.source f.kind f.segment f.payload) ∧
  (∀ bytes : List Byte,
    (∀ dest source kind segment payload high low, payload.length ≤ 1024 →
      bytes ≠ frameWith dest source kind segment payload high low) → judgeFrame bytes = .frameCheck) ∧
  (∀ (bytes payload : List Byte) (dest source kind segment high low : Byte), payload.length ≤ 1024 →
    bytes = frameWith dest source kind segment payload high low →
    (frameCheck bytes ≠ 0#16 → judgeFrame bytes = .frameCheck) ∧
    (frameCheck bytes = 0#16 → judgeFrame bytes = judgeForm dest source kind segment payload)) ∧
  ∀ (dest source kind segment : Byte) (payload : List Byte),
    ((∀ k n m last p, judgeForm dest source kind segment payload ≠ .valid k n m last p) →
      judgeForm dest source kind segment payload = .frameForm) ∧
    ∀ k n m last p, judgeForm dest source kind segment payload = .valid k n m last p ↔
      kind.toNat = inboundCode k ∧ source.toNat = 255 ∧ (k = .reply → 1 ≤ dest.toNat ∧ dest.toNat ≤ 8) ∧
        (k ≠ .reply → dest.toNat = 0) ∧
        (segment.getLsbD 6 = false ∧ segment.getLsbD 5 = false ∧ segment.getLsbD 4 = false) ∧
        n = dest.toNat ∧ m = segment.toNat % 16 ∧ last = segment.getLsbD 7 ∧ p = payload

/-- An inbound frame that fails its check or its form is counted, and nothing else follows. A valid frame that is a whole
message is that message's command. A first segment begins a reassembly and each next one is appended; the last segment
completes the message, which is that message's command on the payload gathered; a frame out of its order costs the part
gathered. Every valid frame restarts the silence timer or restores a LOST link, its message complete or not. A
management request takes a place of the buffer, or is an overrun at a full one. That a whole message is dispatched in
the step of its frame, and with the destination of its last frame, is the model's choice (log 9), as are the bytes a
payload is read from where chapter 12 lists no layout (log 12) and the characters that the bytes of a text are (log 41). -/
def Obligations.WholeFrameIsItsMessage : Prop :=
  ∀ (bytes : List Byte) (s : State),
    (judgeFrame bytes = .frameCheck → exec (.inboundFrame bytes) s =
      .next (onBlc (fun b => { b with frameCheck := satCount 65535 b.frameCheck }) s)) ∧
    (judgeFrame bytes = .frameForm → exec (.inboundFrame bytes) s =
      .next (onBlc (fun b => { b with frameForm := satCount 65535 b.frameForm }) s)) ∧
    (∀ dest payload, s.blc.reassembly = none →
      (∀ st, judgeFrame bytes = .valid .reply dest 0 true payload → dest = st.num →
        exec (.inboundFrame bytes) s = exec (.reply st (readReply payload)) s) ∧
      (∀ id r, judgeFrame bytes = .valid .mgmtReq dest 0 true payload → readMgmt payload = some (id, r) →
        exec (.inboundFrame bytes) s = exec (.mgmtReq id r) s) ∧
      (judgeFrame bytes = .valid .mgmtReq dest 0 true payload → readMgmt payload = none →
        exec (.inboundFrame bytes) s =
          .next (onBlc (fun b => { b with frameForm := satCount 65535 b.frameForm }) (arrive s))) ∧
      (judgeFrame bytes = .valid .adviceAck dest 0 true payload →
        exec (.inboundFrame bytes) s = exec (.adviceAck (readAck payload)) s) ∧
      (judgeFrame bytes = .valid .batchAck dest 0 true payload →
        exec (.inboundFrame bytes) s = exec (.batchAck (readAck payload)) s) ∧
      (judgeFrame bytes = .valid .linkCheck dest 0 true payload →
        exec (.inboundFrame bytes) s = exec (.linkCheck (readCheckNumber payload)) s)) ∧
    ∃ v, linkTaken s v ∧
    (∀ k dest segment last payload, judgeFrame bytes = .valid k dest segment last payload →
      (s.blc.reassembly = none → segment = 0 → last = false → exec (.inboundFrame bytes) s =
        .next (onBlc (fun b => { b with reassembly := some { kind := k, expected := 1, payload := payload } }) v)) ∧
      (s.blc.reassembly = none → segment ≠ 0 → exec (.inboundFrame bytes) s =
        .next (onBlc (fun b => { b with frameForm := satCount 65535 b.frameForm }) v)) ∧
      ∀ g, s.blc.reassembly = some g →
        (g.kind = k → g.expected = segment → last = false → segment < 15 → exec (.inboundFrame bytes) s =
          .next (onBlc (fun b => { b with
            reassembly := some { kind := k, expected := segment + 1, payload := g.payload ++ payload } }) v)) ∧
        (g.kind = k → g.expected = segment → last = false → segment = 15 → exec (.inboundFrame bytes) s =
          .next (onBlc (fun b => { b with reassembly := none, frameForm := satCount 65535 b.frameForm }) v)) ∧
        (∀ whole done, g.kind = k → g.expected = segment → last = true → whole = g.payload ++ payload →
          done = onBlc (fun b => { b with reassembly := none }) s →
          (∀ st, k = .reply → dest = st.num →
            exec (.inboundFrame bytes) s = exec (.reply st (readReply whole)) done) ∧
          (∀ id r, k = .mgmtReq → readMgmt whole = some (id, r) →
            exec (.inboundFrame bytes) s = exec (.mgmtReq id r) done) ∧
          (k = .mgmtReq → readMgmt whole = none → exec (.inboundFrame bytes) s =
            .next (onBlc (fun b => { b with reassembly := none, frameForm := satCount 65535 b.frameForm }) v)) ∧
          (k = .adviceAck → exec (.inboundFrame bytes) s = exec (.adviceAck (readAck whole)) done) ∧
          (k = .batchAck → exec (.inboundFrame bytes) s = exec (.batchAck (readAck whole)) done) ∧
          (k = .linkCheck → exec (.inboundFrame bytes) s = exec (.linkCheck (readCheckNumber whole)) done)) ∧
        ((g.kind ≠ k ∨ g.expected ≠ segment) → exec (.inboundFrame bytes) s = exec (.inboundFrame bytes)
          (onBlc (fun b => { b with reassembly := none, frameForm := satCount 65535 b.frameForm }) s))) ∧
    ∀ id r, s.blc.reassembly = none →
      (s.mrs.places.length < 4 → exec (.mgmtReq id r) s =
        .next (onMrs (fun m => { m with places := m.places ++ [⟨id, r, false⟩] }) v)) ∧
      (4 ≤ s.mrs.places.length → ∃ t, exec (.mgmtReq id r) s = .next t ∧ keeps [.blc, .mrs] v t ∧
        raisedOnly [.mgmtOverrun] (onMrs (fun m => { m with overruns := satCount 65535 s.mrs.overruns }) v) t ∧
        flagSet .mgmtOverrun t.mrs.flags = true)

/-- An ADVICE_ACK takes its SENT advice out of the queue; the last STANDIN advice to leave a RECOVERING link makes it UP,
and an ALARM advice that leaves ends its alarm. A refusal also raises ADVICE_REFUSED and writes a LATE entry; that the
entry of a REVERSAL with amount 0 has no amount part is the model's reading (log 13). An acknowledgement that matches no
SENT advice is counted. A SENT advice whose time is over is UNSENT again in its place. -/
def Obligations.AdviceAcknowledged : Prop :=
  ∀ (s a : State), a = arrive s →
    (∀ ack, (∀ n, ack = some ⟨n, 1⟩ ∨ ack = some ⟨n, 2⟩ → sentAdvice n s = none) →
      exec (.adviceAck ack) s = .next (judgeSettle
        (onSda (fun d => { d with unmatchedAcks := satCount 65535 d.unmatchedAcks }) a))) ∧
    (∀ n x b, sentAdvice n s = some x →
      b = onBlc (fun d => { d with
          link := if adviceKind x.body = .standin ∧ d.link = .recovering ∧
              (s.sda.queue.any fun q => isKind .standin q && !(isSent q && decide (entryNumber q = some n))) = false
            then .up else d.link }) a →
      (∃ u, exec (.adviceAck (some ⟨n, 1⟩)) s = .next (judgeSettle u) ∧ keeps [.scm, .sda, .blc] a u ∧
        u.sda = { s.sda with queue := s.sda.queue.filter fun q => !(isSent q && decide (entryNumber q = some n)) } ∧
        u.blc = b.blc ∧ (adviceKind x.body ≠ .alarm → b.blc.link = a.blc.link → u.scm = a.scm) ∧
        (b.blc.link ≠ a.blc.link → statusLinesFollow a u) ∧
        ∀ st first k c, x.body = .alarm st first k → contextOf st a = some c →
          contextOf st u = some { c with terminalPending := true, mirrorPending := true } ∧ otherScreens st a u) ∧
      ∃ u, exec (.adviceAck (some ⟨n, 2⟩)) s = .next (judgeSettle u) ∧ keeps [.scm, .sda, .jrn, .blc, .mrs] a u ∧
        u.sda = { s.sda with queue := s.sda.queue.filter fun q => !(isSent q && decide (entryNumber q = some n)) } ∧
        raisedOnly (.adviceRefused :: journalFlags) b u ∧ flagSet .adviceRefused u.mrs.flags = true ∧
        (adviceKind x.body ≠ .alarm → b.blc.link = a.blc.link → u.scm = a.scm) ∧
        (b.blc.link ≠ a.blc.link → statusLinesFollow a u) ∧
        (∀ st first k c, x.body = .alarm st first k → contextOf st a = some c →
          contextOf st u = some { c with terminalPending := true, mirrorPending := true } ∧ otherScreens st a u) ∧
        ∀ draft, draft = { station := some (adviceStation x.body), teller := none,
                           body := .late .adviceRefused (adviceSeq x.body) (adviceCode x.body) n
                             (some (adviceKind x.body)),
                           account := adviceAccount x.body, amounts := adviceAmounts x.body, breakdown := [] } →
          canWrite 0 draft s → wrote 0 draft a u) ∧
    ∀ n, exec (.adviceAckTimeout n) s = .next (onSda (fun d => { d with
      queue := d.queue.map fun q => if isSent q && decide (entryNumber q = some n) then unsend q else q }) s)

/-- An accepted journal batch sets the last accepted sequence and frees the entries accepted and, under a journal printer,
printed. A refused trickle batch starts the pause. A refused settlement batch, or one whose time is over, counts an
attempt and is offered again; the third failure fails the day; a trailing batch is dropped for a pause. The acceptance
that leaves no entry in phase JOURNAL, of a settlement batch or of a trickle batch sent before it, begins the phase
TOTALS with its parts, and the last totals part settles the day. An acknowledgement of no outstanding batch is counted.
The model's choices: a timeout or the end of a pause where none is outstanding or runs leaves the state as it was (log
4), the positions of a part stand in the order of their numbers (log 30), and a branch sum of a part is added in that order
and held at its bound (log 26). -/
def Obligations.BatchAnswered : Prop :=
  ∀ (s a : State), a = arrive s →
    (∀ ack, (∀ n, ack = some ⟨n, 1⟩ ∨ ack = some ⟨n, 2⟩ → trickleOf n s = none ∧ settlementOf n s = none) →
      exec (.batchAck ack) s = .next (onJrn (fun j => { j with unmatchedAcks := satCount 65535 j.unmatchedAcks }) a)) ∧
    (∀ b, s.jrn.trickle = some b →
      (∃ t, exec (.batchAck (some ⟨b.number, 1⟩)) s = .next t ∧ keeps [.jrn, .day] a t ∧ t.jrn.trickle = none ∧
        (s.day.settlement = none → t.day = s.day) ∧
        (∀ c, s.day.settlement = some c →
          (c.phase = .journal → (∀ e ∈ s.jrn.entries, e.seq ≤ b.batch.last) → ∃ parts,
            t.day = { s.day with settlement := some { c with
              phase := .totals, current := none, attempts := 0, parts := parts } } ∧
            parts = totalsParts t ∧ partsCarry parts t) ∧
          (c.phase ≠ .journal ∨ (∃ e ∈ s.jrn.entries, b.batch.last < e.seq) → t.day = s.day)) ∧
        t.jrn.lastAccepted = b.batch.last ∧
        t.jrn.entries = (s.jrn.entries.dropWhile fun e => decide (e.seq ≤ b.batch.last) &&
          (!printerRoleHeld s || decide (e.seq ≤ s.jrn.printedCursor))) ∧
        (slotsAccounted s → slotsAccounted t)) ∧
      exec (.batchAck (some ⟨b.number, 2⟩)) s = .next (onJrn (fun j => { j with
        trickle := none, pause := some (s.uptime + 1000 * s.mrs.settings.batchAck) }) a)) ∧
    exec .trickleBatchTimeout s = .next (onJrn (fun j => { j with trickle := none }) s) ∧
    exec .rejectionPauseEnd s = .next (onJrn (fun j => { j with pause := none }) s) ∧
    exec .trailingPauseEnd s =
      .next (onDay (fun d => { d with settlement := d.settlement.map fun c => { c with pause := none } }) s) ∧
    (outstandingSettlement s = none → exec .settlementBatchTimeout s = .next s) ∧
    ∀ (b : Batch) (c : Settlement), s.day.settlement = some c → c.outstanding.isSome = true → c.current = some b →
      (∀ x, s.jrn.trickle = some x → x.number ≠ b.number) →
      (∀ j, b.content = .journal j →
        ∃ t c', exec (.batchAck (some ⟨b.number, 1⟩)) s = .next t ∧ keeps [.jrn, .day] a t ∧
          t.jrn.lastAccepted = j.last ∧
          t.jrn.entries = (s.jrn.entries.dropWhile fun e => decide (e.seq ≤ j.last) &&
            (!printerRoleHeld s || decide (e.seq ≤ s.jrn.printedCursor))) ∧
          t.day = { s.day with settlement := some c' } ∧ c'.current = none ∧ c'.outstanding = none ∧
          c'.attempts = 0 ∧ c'.pause = c.pause ∧
          if c.phase = .journal ∧ (∀ e ∈ s.jrn.entries, e.seq ≤ j.last) then
            c'.phase = .totals ∧ c'.parts = totalsParts t ∧ partsCarry c'.parts t
          else c'.phase = c.phase ∧ c'.parts = c.parts) ∧
      (∀ p part rest, b.content = .totals p → c.parts = part :: rest →
        (rest ≠ [] → exec (.batchAck (some ⟨b.number, 1⟩)) s = .next (onDay (fun d => { d with
          settlement := some { c with current := none, outstanding := none, attempts := 0, parts := rest } }) a)) ∧
        (rest = [] → ∃ t, exec (.batchAck (some ⟨b.number, 1⟩)) s = .next t ∧
          keeps [.scm, .jrn, .day, .blc, .mrs] a t ∧ statusLinesFollow a t ∧ raisedOnly journalFlags a t ∧
          t.day = { s.day with
            state := .settled
            settlement := some { c with
              current := none, outstanding := none, attempts := 0, parts := [], phase := .trailing } } ∧
          (canWrite 0 (dayDraft .settled s.day.date) s → wrote 0 (dayDraft .settled s.day.date) a t))) ∧
      ∀ cmd x, ((cmd = .batchAck (some ⟨b.number, 2⟩) ∧ x = a) ∨ (cmd = .settlementBatchTimeout ∧ x = s)) →
        (c.phase = .trailing → exec cmd s = .next (onDay (fun d => { d with settlement := some { c with
          current := none, outstanding := none,
          pause := some (s.uptime + 1000 * s.mrs.settings.batchAck) } }) x)) ∧
        (c.phase ≠ .trailing → c.attempts < 2 → exec cmd s = .next (onDay (fun d => { d with
          settlement := some { c with outstanding := none, attempts := c.attempts + 1 } }) x)) ∧
        (c.phase ≠ .trailing → 2 ≤ c.attempts → ∃ t, exec cmd s = .next t ∧
          keeps [.scm, .jrn, .day, .blc, .mrs] x t ∧ statusLinesFollow x t ∧
          raisedOnly (.settleFailed :: journalFlags) x t ∧ flagSet .settleFailed t.mrs.flags = true ∧
          t.day = { s.day with
            state := .settleFailed
            settlement := some { c with outstanding := none, attempts := c.attempts + 1 } } ∧
          (canWrite 0 (dayDraft .settleFailed s.day.date) s → wrote 0 (dayDraft .settleFailed s.day.date) x t))

/-- A LINK_CHECK of a check number places the one answer of its class with that number, and restarts the silence timer or
restores a LOST link as any valid frame; one that cannot be read is counted as frame form and not answered. The answer
that TRANSMIT takes carries the number, the link state, the day state and the two counts as they then stand. -/
def Obligations.LinkCheckIsAnswered : Prop :=
  (∀ b : Byte, readCheckNumber [b] = some b.toNat) ∧
  (∀ (n : Option Nat) (s : State), ∃ t, exec (.linkCheck n) s = .next t ∧
    (∀ k, n = some k → t = onBlc (fun b => { b with linkAnswer := some k }) (arrive s)) ∧
    (n = none → t = onBlc (fun b => { b with frameForm := satCount 65535 b.frameForm }) (arrive s)) ∧
    (s.blc.link ≠ .lost → keeps [.blc] s t ∧
      t.blc.silence = some (s.uptime + 1000 * s.mrs.settings.linkSilence) ∧ t.blc.link = s.blc.link) ∧
    (s.blc.link = .lost → keeps [.scm, .blc, .mrs] s t ∧
      t.blc.link = (if (s.sda.queue.any (isKind .standin)) = true then .recovering else .up) ∧
      t.blc.silence = some (s.uptime + 1000 * s.mrs.settings.linkSilence) ∧
      flagSet .linkRestored t.mrs.flags = true ∧ statusLinesFollow s t)) ∧
  ∀ (k : Nat) (s : State), s.blc.sending = none → s.blc.link ≠ .lost → s.blc.linkAnswer = some k →
    ∃ m, m = OutMsg.linkAnswer k s.blc.link s.day.state s.blc.requests.length (s.sda.queue.countP isUnsent) ∧
      exec .transmit s = .next (onBlc (fun b => { b with linkAnswer := none, sending := some (m, outFrames m) }) s)

/-- The expiry of the silence timer makes the link LOST: LINK_LOST is raised, every QUEUED entry ends LINK_DOWN with its
REQUEST withdrawn, its leg released, its TXN entry written and its LINK DOWN screen shown, every SENT advice is UNSENT, no
batch is outstanding and no attempt counted, and the waiting LINK_ANSWER and the part being gathered are discarded. The
model's choices: the entries end in the order of their acceptance, so that a station keeps the screen of its last (log 32),
and in LOST the expiry changes nothing (log 4). -/
def Obligations.SilenceLosesTheLink : Prop :=
  ∀ s : State, (s.blc.link = .lost → exec .silenceTimerExpiry s = .next s) ∧
    (s.blc.link ≠ .lost → (heldRefs s).Nodup →
      ∃ u, exec .silenceTimerExpiry s = .next (judgeSettle u) ∧
        keeps [.ttr, .csh, .scm, .sda, .jrn, .day, .blc, .mrs] s u ∧
        u.ttr = { s.ttr with ott := s.ttr.ott.filter fun e => e.state ≠ .queued } ∧
        raisedOnly (.linkLost :: journalFlags) (onBlc (fun b => { b with
          link := .lost, silence := none, reassembly := none, linkAnswer := none,
          requests := b.requests.filter fun m =>
            !(s.ttr.ott.any fun e => decide (e.state = .queued) && decide (e.ref = m.ref)) }) s) u ∧
        flagSet .linkLost u.mrs.flags = true ∧
        u.sda.queue = s.sda.queue.map unsend ∧ u.sda.accountMap = s.sda.accountMap ∧
        u.sda.nextAdvice = s.sda.nextAdvice ∧
        u.jrn.trickle = none ∧ u.jrn.lastAccepted = s.jrn.lastAccepted ∧
        u.day = { s.day with settlement := s.day.settlement.map fun c => { c with outstanding := none } } ∧
        (∀ p, (positionOf p u).total = (positionOf p s).total) ∧ positionOf none u = positionOf none s ∧
        u.scm.signOn = s.scm.signOn ∧
        (∀ st, (∀ e ∈ s.ttr.ott, e.state = .queued → e.ref.station ≠ st) →
          positionOf (some st) u = positionOf (some st) s ∧
            contextOf st u = (contextOf st s).map (recomposed st u)) ∧
        ((∀ e ∈ s.ttr.ott, e.state ≠ .queued) → u.jrn = { s.jrn with trickle := none }) ∧
        ∀ gone, gone = (s.ttr.ott.filter fun x => x.state = .queued) →
          (s.jrn.nextSeq + gone.length ≤ 4294967296 →
            u.jrn = { journalAfter (4 * gone.length) s.mrs.clock (gone.map linkDownDraft) s with trickle := none } ∧
              u.sda.tellerDays = s.sda.tellerDays.map fun r => { r with txCount := countedTxns gone r }) ∧
          (∀ st, drawerOf st u = (gone.filter fun e => e.ref.station = st).foldl
            (fun p e => afterLeg releasedPosition e.leg p) (drawerOf st s)) ∧
          ∀ st e, (gone.filter fun x => x.ref.station = st).getLast? = some e → (contextOf st s).isSome = true →
            screenShows st .result (refMessage "LINK DOWN".toList e.ref) u ∧
              (contextOf st u).bind ScreenContext.format = some e.declineFormat)

/-- The idle transmitter takes one message whole, from the highest ranked class with a ready message, and its owner takes it
as sent: a REQUEST's entry is AWAITING with its deadline, an advice SENT with its, a batch outstanding with its, and the
place of an answered management request is free. A trickle batch carries the first of the unaccepted entries, under a
journal printer of those printed, and a journal batch of a settlement the first of the unaccepted entries: up to 64,
with their control total. While it sends, while the link is LOST and where nothing is ready, it takes none. A class is
ready exactly as its rule states, the ALARM class where the advice offered is an ALARM advice. The message goes out
whole, in frames to 255 from the station of a REQUEST and else from 0, its payload in segments of 1,024 bytes but for
the last, which has the last flag. That an offer is judged and built as it is taken is the model's reading (log 11). -/
def Obligations.TransmitterTakesByRank : Prop :=
  classOrder .up =
    [.linkAnswer, .alarmAdvice, .mgmtReply, .request, .otherAdvice, .settlement, .event, .trickle] ∧
  classOrder .recovering =
    [.linkAnswer, .alarmAdvice, .mgmtReply, .otherAdvice, .request, .settlement, .event, .trickle] ∧
  (∀ (s : State) (c : OutClass) (m : OutMsg), readyMessage s c = some m ↔ classReady s c m) ∧
  (∀ m : OutMsg, (outPayload m).length ≤ 16384 → ∃ fs : List LinkFrame, outFrames m = fs.map frameBytes ∧ framesCarry m fs) ∧
  ∀ s : State,
    exec .transmitEnd s = .next (onBlc (fun b => { b with sending := none }) s) ∧
    ((s.blc.sending ≠ none ∨ s.blc.link = .lost ∨ ∀ c, readyMessage s c = none) → exec .transmit s = .next s) ∧
    ∀ (c : OutClass) (m : OutMsg) (before after : List OutClass), s.blc.sending = none →
      classOrder s.blc.link = before ++ c :: after → (∀ x ∈ before, readyMessage s x = none) →
      readyMessage s c = some m →
      ∃ t, exec .transmit s = .next t ∧ t.blc.sending = some (m, outFrames m) ∧
        (c = .linkAnswer → t = onBlc (fun b => { b with linkAnswer := none, sending := some (m, outFrames m) }) s) ∧
        (c = .mgmtReply → ∃ r rest, s.blc.replies = r :: rest ∧ m = .mgmtReply r ∧
          t = onMrs (fun x => { x with places := x.places.tail })
            (onBlc (fun b => { b with replies := rest, sending := some (m, outFrames m) }) s)) ∧
        (c = .request → ∃ r rest, s.blc.requests = r :: rest ∧ m = .request r ∧
          t = onTtr (fun x => { x with ott := x.ott.map fun e => if e.ref = r.ref then
              { e with state := .awaiting (s.uptime + 1000 * e.replyTimeout) } else e })
            (onBlc (fun b => { b with requests := rest, sending := some (m, outFrames m) }) s)) ∧
        ((c = .alarmAdvice ∨ c = .otherAdvice) → ∃ x, adviceOffered s x ∧ m = .advice x.number x.body ∧
          t = onSda (fun d => { d with queue := d.queue.map fun q => match q with
              | .advice y => .advice (if y.number = x.number then
                  { y with sent := some (s.uptime + 1000 * s.mrs.settings.adviceAck) } else y)
              | .reservation r => .reservation r })
            (onBlc (fun b => { b with sending := some (m, outFrames m) }) s)) ∧
        (c = .event → ∃ n rest, s.blc.events = n :: rest ∧ m = .event n ∧
          t = onBlc (fun b => { b with events := rest, sending := some (m, outFrames m) }) s) ∧
        (c = .settlement → ∃ b x, s.day.settlement = some x ∧ m = .batch b ∧ settlementBatch x b s ∧
          keeps [.jrn, .day, .blc] s t ∧
          t.day = { s.day with settlement := some { x with
            current := some b, outstanding := some (s.uptime + 1000 * s.mrs.settings.batchAck) } } ∧
          t.jrn = { s.jrn with
            batchCounter := if x.current = none then wrapNext 65535 s.jrn.batchCounter else s.jrn.batchCounter }) ∧
        (c = .trickle → ∃ j, m = .batch { number := s.jrn.batchCounter, content := .journal j } ∧
            t = onJrn (fun x => { x with
                trickle := some { number := s.jrn.batchCounter, batch := j,
                                  deadline := s.uptime + 1000 * s.mrs.settings.batchAck }
                batchCounter := wrapNext 65535 s.jrn.batchCounter })
              (onBlc (fun b => { b with sending := some (m, outFrames m) }) s))

/-! ## Loaded tables -/

/-- A TABLE-LOAD fragment begins, goes on with or ends a load, or is refused by its reason; its last fragment commits the
table whole or not at all, and a commit makes it the active copy with its load id, writes a TABLE entry and, for the TCT
and the SFT, recomposes the sign-on prompts shown. Each of the five tables commits exactly where its records are read as
they were loaded, field by field, and pass their ranges and rules, their cross-references and, for the TLT and the DNT,
the IN_USE test. A fragment whose records pass the table's capacity is refused, and a committed DNT leaves each position
the counts of the faces that stand where they stood and 0 in every other denomination. TABLE-ABORT and the load idle
time end a load, and TABLE-READ carries as many whole records of the active copy as fit in 1,024 bytes. The model's
choices: the idle time where no load runs leaves the state as it was (log 4), the bytes that a reply takes beside its
records and the code 1 of a direction or a use NONE (log 12), and which of several failures of a table is reported (log
35). A command of a request that does not wait in the buffer is taken as its arrival alone (the model's choice, log 8). -/
def Obligations.TablesAreLoadedAndRead : Prop :=
  (∀ (id : Nat) (f : Fragment) (s s1 : State), mgmtTaken id (.tableLoad f) s s1 →
    ∃ t, exec (.tableLoad id f) s = .next t ∧
      (badHeader f = true → requestRefused id .badRequest s s1 t) ∧
      (badHeader f = false →
        (s.tbl.load = none → f.number ≠ 0 → requestRefused id .notLoading s s1 t) ∧
        (∀ c, s.tbl.load = some c → (bodyTable c.shadow ≠ bodyTable f.body ∨ c.loadId ≠ f.loadId) →
          requestRefused id .loadBusy s s1 t) ∧
        (∀ c, s.tbl.load = some c → bodyTable c.shadow = bodyTable f.body → c.loadId = f.loadId → f.number ≠ 0 →
          f.number ≠ c.next →
          requestDone id .sequence .nothing [.tbl] s s1 t ∧ t.tbl = { s.tbl with load := none }) ∧
        ∀ shadow,
          ((f.number = 0 ∧ shadow = f.body ∧ ∀ c, s.tbl.load = some c →
              bodyTable c.shadow = bodyTable f.body ∧ c.loadId = f.loadId) ∨
            (f.number ≠ 0 ∧ ∃ c, s.tbl.load = some c ∧ bodyTable c.shadow = bodyTable f.body ∧ c.loadId = f.loadId ∧
              f.number = c.next ∧ shadow = appendBody c.shadow f.body)) →
          (fits shadow = false →
            requestDone id .capacity .nothing [.tbl] s s1 t ∧ t.tbl = { s.tbl with load := none }) ∧
          (fits shadow = true → f.last = false →
            requestDone id .accepted (.records (recordCount shadow)) [.tbl] s s1 t ∧
              t.tbl = { s.tbl with
                load := some { loadId := f.loadId, next := f.number + 1, deadline := s.uptime + 60000,
                               shadow := shadow } }) ∧
          (∀ why, fits shadow = true → f.last = true → commitCheck shadow s = .error why →
            requestDone id why .nothing [.tbl] s s1 t ∧ t.tbl = { s.tbl with load := none }) ∧
          ∀ table, fits shadow = true → f.last = true → commitCheck shadow s = .ok table →
            keeps [.csh, .scm, .jrn, .tbl, .blc, .mrs] s t ∧ t.tbl = committedTables table f.loadId s.tbl ∧
              t.blc.replies =
                s.blc.replies ++ [{ id := id, status := .committed, content := .records (checkedCount table) }] ∧
              raisedOnly journalFlags (onBlc (fun b => { b with replies := t.blc.replies }) s1) t ∧
              screensOnly s t ∧ ((∀ rs xs, table ≠ .tct rs ∧ table ≠ .sft xs) → t.scm = s.scm) ∧
              ((∃ rs, table = .tct rs) ∨ (∃ xs, table = .sft xs) → promptsFollow s t) ∧
              (canWrite 0 (tableDraft (checkedId table) f.loadId (checkedCount table)) s →
                wrote 0 (tableDraft (checkedId table) f.loadId (checkedCount table)) s t) ∧
              ((∀ h rs, table ≠ .dnt h rs) → t.csh = s.csh) ∧
              ∀ h rs, table = .dnt h rs → ∀ p,
                positionOf p t = { positionOf p s with counts := recount rs s.tbl.dnt (positionOf p s).counts })) ∧
  (∀ b : FragmentBody, fits b = true ↔ match b with
    | .tct rs => rs.length ≤ 128
    | .sft rs => rs.length ≤ 64 ∧ (rs.map fun f => f.fields.length).sum ≤ 1024
    | .dnt _ rs => rs.length ≤ 16
    | .tlt _ rs => rs.length ≤ 64
    | .plt rs => rs.length ≤ 8) ∧
  ((∀ a b, appendBody (.tct a) (.tct b) = .tct (a ++ b)) ∧ (∀ a b, appendBody (.sft a) (.sft b) = .sft (a ++ b)) ∧
    (∀ h g a b, appendBody (.dnt h a) (.dnt g b) = .dnt h (a ++ b)) ∧
    (∀ h g a b, appendBody (.tlt h a) (.tlt g b) = .tlt h (a ++ b)) ∧
    ∀ a b, appendBody (.plt a) (.plt b) = .plt (a ++ b)) ∧
  (∀ (new old : List DntRec) (cs : List Counts), (recount new old cs).length = new.length ∧
    ∀ (i : Nat) (r : DntRec), new[i]? = some r → (recount new old cs)[i]? =
      some (if (old[i]?).map DntRec.face = some r.face then (cs[i]?).getD ⟨0, 0, 0⟩ else ⟨0, 0, 0⟩)) ∧
  (∀ (b : FragmentBody) (table : CheckedTable) (s : State), commitCheck b s = .ok table →
    checkedId table = bodyTable b ∧ checkedCount table = recordCount b) ∧
  (∀ (rs : List RawTct) (xs : List TctRec) (s : State), commitCheck (.tct rs) s = .ok (.tct xs) ↔
    List.Forall₂ tctLoaded rs xs ∧ tctRules xs ∧ tctSuits s.tbl.sft xs ∧
      ((∃ r ∈ xs, r.cashDirection ≠ .noCash ∨ r.localAction = some .toReserve ∨ r.localAction = some .fromReserve ∨
        r.localAction = some .balance ∨ r.localAction = some .positionEnquiry) → s.tbl.dnt ≠ [])) ∧
  (∀ (rs : List RawFormat) (xs : List SftFormat) (s : State), commitCheck (.sft rs) s = .ok (.sft xs) ↔
    List.Forall₂ formatLoaded rs xs ∧ sftRules xs ∧ tctSuits xs s.tbl.tct) ∧
  (∀ (h : Option DntHeader) (x : DntHeader) (rs : List RawDnt) (xs : List DntRec) (s : State),
    commitCheck (.dnt h rs) s = .ok (.dnt x xs) ↔
    (s.day.state = .noDate ∨ s.day.state = .settled) ∧ h = some x ∧ List.Forall₂ dntLoaded rs xs ∧ dntRules x xs ∧
      ((∃ p i, countsHeld p i s) → xs.length = s.tbl.dnt.length ∧
        ∀ p i, countsHeld p i s → (xs[i - 1]?).map DntRec.face = (s.tbl.dnt[i - 1]?).map DntRec.face)) ∧
  (∀ (h : Option Nat) (c : Nat) (rs : List RawTlt) (xs : List TltRec) (s : State),
    commitCheck (.tlt h rs) s = .ok (.tlt c xs) ↔
    c = h.getD 0 ∧ List.Forall₂ tltLoaded rs xs ∧ tltRules c xs ∧
      ∀ st t, tellerAt st s = some t → ∃ r ∈ xs, r.teller = t) ∧
  (∀ (rs xs : List PltRec) (s : State), commitCheck (.plt rs) s = .ok (.plt xs) ↔ xs = rs ∧ pltRules xs) ∧
  (∀ (id : Nat) (s s1 : State), mgmtTaken id .tableAbort s s1 → ∃ t, exec (.tableAbort id) s = .next t ∧
    (s.tbl.load = none → requestRefused id .notLoading s s1 t) ∧
    (s.tbl.load ≠ none → requestDone id .done .nothing [.tbl] s s1 t ∧ t.tbl = { s.tbl with load := none })) ∧
  (∀ s : State, exec .loadIdleExpiry s =
    .next (if s.tbl.load = none then s
      else raise .loadAbandoned (onTbl (fun x => { x with load := none }) s))) ∧
  ∀ (id code first : Nat) (s s1 : State), mgmtTaken id (.tableRead code first) s s1 →
    ∃ t, exec (.tableRead id code first) s = .next t ∧
      ((tableIdOfCode code = none ∨ first = 0) → requestRefused id .badRequest s s1 t) ∧
      ∀ table, tableIdOfCode code = some table → first ≠ 0 →
        ∃ loadId total records last, requestDone id .done (.tableRead table loadId total records last) [] s s1 t ∧
          ∃ size : TableRecords → Nat,
          (∀ x, size x = (mgmtReplyBytes ⟨id, .done, .tableRead table loadId total x last⟩).length) ∧
          match table with
          | .tct => loadId = s.tbl.tctId ∧ total = s.tbl.tct.length ∧
            ∃ rs, records = .tct rs ∧ readsFrom (fun y => size (.tct y)) first s.tbl.tct rs last
          | .sft => loadId = s.tbl.sftId ∧ total = s.tbl.sft.length ∧
            ∃ rs, records = .sft rs ∧ readsFrom (fun y => size (.sft y)) first s.tbl.sft rs last
          | .dnt => loadId = s.tbl.dntId ∧ total = s.tbl.dnt.length ∧
            ∃ rs, records = .dnt s.tbl.dntHeader rs ∧ readsFrom (fun y => size (.dnt s.tbl.dntHeader y)) first s.tbl.dnt rs last
          | .tlt => loadId = s.tbl.tltId ∧ total = s.tbl.tlt.length ∧
            ∃ rs, records = .tlt s.tbl.tltCeiling rs ∧ readsFrom (fun y => size (.tlt s.tbl.tltCeiling y)) first s.tbl.tlt rs last
          | .plt => loadId = s.tbl.pltId ∧ total = s.tbl.plt.length ∧
            ∃ rs, records = .plt rs ∧ readsFrom (fun y => size (.plt y)) first s.tbl.plt rs last

/-! ## Management -/

/-- SETTINGS-WRITE clamps each named setting to its range and reports those clamped; the settings not named stand. CLOCK-SET
sets the clock and clears its unset flag. STATUS-READ gives every item of R196 and of R115 as it stands, TOTALS-READ the
nine positions with their branch sums, the Teller Day Records, the account map, the day and the marks. The reads change
nothing but, for STATUS-READ, the flags and counts it has reported. A request of no kind is refused. The order of the lists
in these replies, where their rules give none, is the model's choice (log 30), and so is the order in which a branch sum is
added and held at its bound (log 26). A command of a request that does not wait in the buffer is taken as its arrival alone (the
model's choice, log 8). -/
def Obligations.SettingsClockAndReads : Prop :=
  (∀ (id : Nat) (items : List (SettingName × Nat)) (s s1 : State), mgmtTaken id (.settingsWrite items) s s1 →
    ∃ t, exec (.settingsWrite id items) s = .next t ∧
      ((¬ (items.map Prod.fst).Nodup ∨ ∃ v, (.journalMode, v) ∈ items ∧ v ≠ 1 ∧ v ≠ 2) →
        requestRefused id .badRequest s s1 t) ∧
      ((items.map Prod.fst).Nodup → (∀ v, (.journalMode, v) ∈ items → v = 1 ∨ v = 2) →
        keeps [.mrs, .blc] s t ∧ (∃ x, t.mrs = { s1.mrs with settings := x }) ∧
        (∀ name v, (name, v) ∈ items → settingOf t.mrs.settings name = match name with
          | .linkSilence => clampNat 5 120 v
          | .adviceAck => clampNat 5 60 v
          | .batchAck => clampNat 10 300 v
          | .pageTurn => clampNat 30 600 v
          | .drawerOpen => clampNat 10 600 v
          | .highWater => clampNat 50 95 v
          | .journalMode => v) ∧
        (∀ name, name ∉ items.map Prod.fst → settingOf t.mrs.settings name = settingOf s.mrs.settings name) ∧
        ((∀ p ∈ items, storedValue p.1 p.2 = p.2) → replied id .done .nothing s t) ∧
        ((∃ p ∈ items, storedValue p.1 p.2 ≠ p.2) → replied id .doneClamped (.clamped
          ((items.filter fun p => storedValue p.1 p.2 ≠ p.2).map fun p => (p.1, storedValue p.1 p.2))) s t))) ∧
  (∀ (id : Nat) (s s1 : State), mgmtTaken id .settingsRead s s1 →
    ∃ t, exec (.settingsRead id) s = .next t ∧ requestDone id .done (.settings s.mrs.settings) [] s s1 t) ∧
  (∀ (id secs : Nat) (s s1 : State), mgmtTaken id (.clockSet secs) s s1 → ∃ t, exec (.clockSet id secs) s = .next t ∧
    (86400 ≤ secs → requestRefused id .badRequest s s1 t) ∧
    (secs < 86400 → keeps [.mrs, .blc] s t ∧ t.mrs = { s1.mrs with clock := ⟨secs, false⟩ } ∧
      replied id .done .nothing s t)) ∧
  (∀ (id : Nat) (lines : List Nat) (s s1 : State), mgmtTaken id (.statusRead lines) s s1 →
    ∃ t r, exec (.statusRead id lines) s = .next t ∧
      ((∃ n ∈ lines, Station.ofNat? n = none) → requestRefused id .badRequest s s1 t) ∧
      ((∀ n ∈ lines, Station.ofNat? n ≠ none) →
        keeps [.sda, .jrn, .slc, .blc, .mrs] s t ∧ statusReads lines r s ∧
        t.blc = { s.blc with
          frameCheck := 0, frameForm := 0,
          replies := s.blc.replies ++ [{ id := id, status := .done, content := .status r }] } ∧
        (∀ f, flagSet f t.mrs.flags = false) ∧
        { t.mrs with flags := s1.mrs.flags } = { s1.mrs with unmatchedReplies := 0, overruns := 0 } ∧
        t.sda = { s.sda with unmatchedAcks := 0 } ∧ t.jrn = { s.jrn with notStored := 0, unmatchedAcks := 0 } ∧
        t.slc.samples = s.slc.samples ∧
        ∀ st, lineOf st t = if st.num ∈ lines then { lineOf st s with errors := ⟨0, 0, 0, 0⟩ } else lineOf st s)) ∧
  (∀ (id : Nat) (s s1 : State), mgmtTaken id .totalsRead s s1 →
    ∃ t snap marks, exec (.totalsRead id) s = .next t ∧ totalsReads snap marks s ∧ requestDone id .done
      (.totals snap s.sda.tellerDays s.sda.accountMap s.day.state s.day.date marks) [] s s1 t) ∧
  ∀ (id kind : Nat) (s s1 : State), mgmtTaken id (.bad kind) s s1 →
    ∃ t, exec (.badRequest id kind) s = .next t ∧ requestRefused id .badRequest s s1 t

/-! ## The day -/

/-- The settle condition holds with no open transaction, an empty Advice Queue, no teller signed on, and every position
NOT_OPENED, BALANCED or marked. In CUTOFF, where it holds, the day becomes SETTLING with its DAY entry, and a settlement
context is set up: in phase JOURNAL, or, where no entry is to be sent, in phase TOTALS with its parts, which carry the
nine positions, their branch sums and the Teller Day Records. In every other case judging it changes nothing. That the positions of a part
stand in the order of their numbers is the model's choice (log 30), and so is the order in which a sum is added and held at
its bound (log 26). -/
def Obligations.SettleConditionIsJudged : Prop :=
  ∀ s : State,
    (settleCondition s = true ↔ s.ttr.ott = [] ∧ s.sda.queue = [] ∧ (∀ st, tellerAt st s = none) ∧
      ∀ p, (positionOf p s).state = .notOpened ∨ (positionOf p s).state = .balanced ∨ marked p s = true) ∧
    ((s.day.state ≠ .cutoff ∨ settleCondition s = false) → judgeSettle s = s) ∧
    (s.day.state = .cutoff → settleCondition s = true →
      keeps [.scm, .jrn, .day, .blc, .mrs] s (judgeSettle s) ∧ dayEntered .settling s (judgeSettle s) ∧
        ∃ c, (judgeSettle s).day = { s.day with state := .settling, settlement := some c } ∧ c.current = none ∧
          c.outstanding = none ∧ c.attempts = 0 ∧ c.pause = none ∧
          if (∀ e ∈ (judgeSettle s).jrn.entries, e.seq ≤ s.jrn.lastAccepted) then
            c.phase = .totals ∧ c.parts = totalsParts (judgeSettle s) ∧ partsCarry c.parts (judgeSettle s)
          else c.phase = .journal ∧ c.parts = [])

/-- DAY-CUTOFF closes an OPEN day to customers, DAY-FORCE signs every teller off and marks the positions in use,
SETTLE-RETRY resumes a failed settlement, and DATE-ROLL opens the next day with an empty journal, its DAY entry sequence
1, and every position's day figures cleared. In another day state each is refused WRONG_DAY_STATE. That DAY-FORCE
reports every position in use, those marked before among them, is the model's reading (log 25). A command of a request
that does not wait in the buffer is taken as its arrival alone (the model's choice, log 8). -/
def Obligations.DayRequests : Prop :=
  (∀ (id : Nat) (s s1 : State), mgmtTaken id .dayCutoff s s1 → ∃ t, exec (.dayCutoff id) s = .next t ∧
    (s.day.state ≠ .opened → requestRefused id .wrongDayState s s1 t) ∧
    (s.day.state = .opened → ∃ u, dayEntered .cutoff s1 u ∧ keeps [.scm, .jrn, .day, .blc, .mrs] s1 u ∧
      u.day = { s.day with state := .cutoff } ∧
      t = answer id .done (.dayState (judgeSettle u).day.state) (judgeSettle u))) ∧
  (∀ (id : Nat) (s s1 : State), mgmtTaken id .dayForce s s1 → ∃ t, exec (.dayForce id) s = .next t ∧
    (s.day.state ≠ .cutoff → requestRefused id .wrongDayState s s1 t) ∧
    (s.day.state = .cutoff → s.ttr.ott ≠ [] → requestRefused id .inFlight s s1 t) ∧
    (s.day.state = .cutoff → s.ttr.ott = [] → ∃ u tellers positions,
      t = answer id .done (.forced tellers positions (judgeSettle u).day.state) (judgeSettle u) ∧
      keeps [.scm, .sda, .day] s1 u ∧ (∀ st, tellerAt st u = none) ∧
      (∀ st n, tellerAt st s = some n → (contextOf st s).isSome = true →
        screenShows st .signOnPrompt "SIGNED OFF".toList u) ∧
      (∀ st, tellerAt st s = none → contextOf st u = contextOf st s) ∧
      u.sda = { s.sda with tellerDays := s.sda.tellerDays.map fun r =>
        if (Station.all.any fun st => tellerAt st s = some r.teller) = true then
          { r with station := none, lastOff := some s.mrs.clock } else r } ∧
      (∀ n, n ∈ tellers ↔ ∃ st, tellerAt st s = some n) ∧
      (∀ k, k ∈ positions ↔ ∃ p, k = positionNumber p ∧
        ((positionOf p s).state = .active ∨ (positionOf p s).state = .suspect)) ∧
      ∀ p, marked p u =
        (marked p s || decide ((positionOf p s).state = .active) || decide ((positionOf p s).state = .suspect)))) ∧
  (∀ (id : Nat) (s s1 : State), mgmtTaken id .settleRetry s s1 → ∃ t, exec (.settleRetry id) s = .next t ∧
    (s.day.state ≠ .settleFailed → requestRefused id .wrongDayState s s1 t) ∧
    ∀ c, s.day.state = .settleFailed → s.day.settlement = some c → ∃ u, dayEntered .settling s1 u ∧
      keeps [.scm, .jrn, .day, .blc, .mrs] s1 u ∧
      u.day = { s.day with state := .settling, settlement := some { c with attempts := 0 } } ∧
      t = answer id .done (.retry c.phase (c.current.map Batch.number)) u) ∧
  ∀ (id : Nat) (d : Date) (s s1 : State), mgmtTaken id (.dateRoll d) s s1 → ∃ t, exec (.dateRoll id d) s = .next t ∧
    (s.day.state ≠ .noDate → s.day.state ≠ .settled → requestRefused id .wrongDayState s s1 t) ∧
    ((s.day.state = .noDate ∨ s.day.state = .settled) →
      (validDate d = false ∨ (∃ old, s.day.date = some old ∧ laterDate d old = false)) →
      requestRefused id .badDate s s1 t) ∧
    ((s.day.state = .noDate ∨ s.day.state = .settled) → validDate d = true →
      (∀ old, s.day.date = some old → laterDate d old = true) →
      ((∃ e, printerRoleHeld s = true ∧ s.jrn.entries.getLast? = some e ∧ s.jrn.printedCursor < e.seq) →
        requestRefused id .journalUnprinted s s1 t) ∧
      ((∀ e, s.jrn.entries.getLast? = some e → printerRoleHeld s = false ∨ e.seq ≤ s.jrn.printedCursor) →
        1 ≤ s.jrn.free + s.jrn.used → ∃ u, keeps [.csh, .scm, .sda, .jrn, .day, .blc, .mrs] s1 u ∧
        t = answer id .done (.rolled (s.jrn.nextSeq - 1) s.jrn.lastAccepted
          (s.jrn.nextSeq - 1 - s.jrn.lastAccepted)) u ∧
        u.day = { state := .opened, date := some d, drawerMarks := Eight.fill false, reserveMark := false,
                  settlement := none } ∧
        u.jrn = { s.jrn with
          entries := [{ seq := 1, date := some d, time := s.mrs.clock, draft := dayDraft .opened (some d) }]
          used := 1
          free := s.jrn.free + s.jrn.used - 1
          nextSeq := 2
          lastAccepted := 0
          printedCursor := 0
          batchCounter := 1 } ∧
        u.sda = { s.sda with tellerDays := [], accountMap := [], nextAdvice := 1 } ∧
        (∀ p, positionOf p u = { positionOf p s with
          state := if (positionOf p s).state = .suspect then .suspect else .notOpened
          cashIn := 0
          cashOut := 0
          rounding := 0
          overShort := .absent
          txCount := 0 }) ∧
        statusLinesFollow s u ∧ raisedOnly journalFlags s1 u))
end

