-- ==== Sys2Proof/Laws/State.lean ====
section
/-! SUPPORT. What each update of one block's record leaves: one lemma for each field, true by computation; and the reading of
one station's item after the replacing of another's. -/

namespace Sys2Proof.Machine
open Sys2Proof

/-! ## Banks -/

@[simp] theorem Eight.get_set {α : Type} (v : Eight α) (a b : Station) (x : α) :
    (v.set a x).get b = if b = a then x else v.get b := by cases a <;> cases b <;> rfl

@[simp] theorem Eight.get_fill {α : Type} (x : α) (a : Station) : (Eight.fill x).get a = x := by cases a <;> rfl

@[simp] theorem Eight.get_mapWith {α β : Type} (f : Station → α → β) (v : Eight α) (a : Station) :
    (v.mapWith f).get a = f a (v.get a) := by cases a <;> rfl

@[simp] theorem Four.get_set {α : Type} (v : Four α) (a b : DiscreteLine) (x : α) :
    (v.set a x).get b = if b = a then x else v.get b := by cases a <;> cases b <;> rfl

@[simp] theorem Four.get_fill {α : Type} (x : α) (a : DiscreteLine) : (Four.fill x).get a = x := by cases a <;> rfl

@[simp] theorem Four.get_ofFn {α : Type} (f : DiscreteLine → α) (a : DiscreteLine) : (Four.ofFn f).get a = f a := by
  cases a <;> rfl

@[simp] theorem Three.get_set {α : Type} (v : Three α) (a b : Drop) (x : α) :
    (v.set a x).get b = if b = a then x else v.get b := by cases a <;> cases b <;> rfl

@[simp] theorem Three.get_ofFn {α : Type} (f : Drop → α) (a : Drop) : (Three.ofFn f).get a = f a := by cases a <;> rfl

theorem Eight.ext_get {α : Type} {v w : Eight α} (h : ∀ a, v.get a = w.get a) : v = w := by
  cases v; cases w
  have h1 := h .s1; have h2 := h .s2; have h3 := h .s3; have h4 := h .s4
  have h5 := h .s5; have h6 := h .s6; have h7 := h .s7; have h8 := h .s8
  simp only [Eight.get] at h1 h2 h3 h4 h5 h6 h7 h8
  simp only [h1, h2, h3, h4, h5, h6, h7, h8]

theorem Eight.mem_toList {α : Type} (v : Eight α) (x : α) : x ∈ v.toList ↔ ∃ a, v.get a = x := by
  constructor
  · intro h
    simp only [Eight.toList, List.mem_cons, List.not_mem_nil, or_false] at h
    rcases h with h | h | h | h | h | h | h | h
    · exact ⟨.s1, h.symm⟩
    · exact ⟨.s2, h.symm⟩
    · exact ⟨.s3, h.symm⟩
    · exact ⟨.s4, h.symm⟩
    · exact ⟨.s5, h.symm⟩
    · exact ⟨.s6, h.symm⟩
    · exact ⟨.s7, h.symm⟩
    · exact ⟨.s8, h.symm⟩
  · rintro ⟨a, rfl⟩
    cases a <;> simp [Eight.toList, Eight.get]

theorem Station.mem_all (a : Station) : a ∈ Station.all := by cases a <;> decide

theorem Station.ofNat?_num (a : Station) : Station.ofNat? a.num = some a := by cases a <;> rfl

/-! ## Ttr -/

@[simp] theorem onTtr_pending (g : Ttr → Ttr) (s : State) : (onTtr g s).pending = s.pending := rfl
@[simp] theorem onTtr_uptime (g : Ttr → Ttr) (s : State) : (onTtr g s).uptime = s.uptime := rfl
@[simp] theorem onTtr_ttr (g : Ttr → Ttr) (s : State) : (onTtr g s).ttr = g s.ttr := rfl
@[simp] theorem onTtr_csh (g : Ttr → Ttr) (s : State) : (onTtr g s).csh = s.csh := rfl
@[simp] theorem onTtr_scm (g : Ttr → Ttr) (s : State) : (onTtr g s).scm = s.scm := rfl
@[simp] theorem onTtr_pbk (g : Ttr → Ttr) (s : State) : (onTtr g s).pbk = s.pbk := rfl
@[simp] theorem onTtr_sda (g : Ttr → Ttr) (s : State) : (onTtr g s).sda = s.sda := rfl
@[simp] theorem onTtr_jrn (g : Ttr → Ttr) (s : State) : (onTtr g s).jrn = s.jrn := rfl
@[simp] theorem onTtr_day (g : Ttr → Ttr) (s : State) : (onTtr g s).day = s.day := rfl
@[simp] theorem onTtr_tbl (g : Ttr → Ttr) (s : State) : (onTtr g s).tbl = s.tbl := rfl
@[simp] theorem onTtr_slc (g : Ttr → Ttr) (s : State) : (onTtr g s).slc = s.slc := rfl
@[simp] theorem onTtr_blc (g : Ttr → Ttr) (s : State) : (onTtr g s).blc = s.blc := rfl
@[simp] theorem onTtr_mrs (g : Ttr → Ttr) (s : State) : (onTtr g s).mrs = s.mrs := rfl
@[simp] theorem onTtr_rts (g : Ttr → Ttr) (s : State) : (onTtr g s).rts = s.rts := rfl

/-! ## Csh -/

@[simp] theorem onCsh_pending (g : Csh → Csh) (s : State) : (onCsh g s).pending = s.pending := rfl
@[simp] theorem onCsh_uptime (g : Csh → Csh) (s : State) : (onCsh g s).uptime = s.uptime := rfl
@[simp] theorem onCsh_ttr (g : Csh → Csh) (s : State) : (onCsh g s).ttr = s.ttr := rfl
@[simp] theorem onCsh_csh (g : Csh → Csh) (s : State) : (onCsh g s).csh = g s.csh := rfl
@[simp] theorem onCsh_scm (g : Csh → Csh) (s : State) : (onCsh g s).scm = s.scm := rfl
@[simp] theorem onCsh_pbk (g : Csh → Csh) (s : State) : (onCsh g s).pbk = s.pbk := rfl
@[simp] theorem onCsh_sda (g : Csh → Csh) (s : State) : (onCsh g s).sda = s.sda := rfl
@[simp] theorem onCsh_jrn (g : Csh → Csh) (s : State) : (onCsh g s).jrn = s.jrn := rfl
@[simp] theorem onCsh_day (g : Csh → Csh) (s : State) : (onCsh g s).day = s.day := rfl
@[simp] theorem onCsh_tbl (g : Csh → Csh) (s : State) : (onCsh g s).tbl = s.tbl := rfl
@[simp] theorem onCsh_slc (g : Csh → Csh) (s : State) : (onCsh g s).slc = s.slc := rfl
@[simp] theorem onCsh_blc (g : Csh → Csh) (s : State) : (onCsh g s).blc = s.blc := rfl
@[simp] theorem onCsh_mrs (g : Csh → Csh) (s : State) : (onCsh g s).mrs = s.mrs := rfl
@[simp] theorem onCsh_rts (g : Csh → Csh) (s : State) : (onCsh g s).rts = s.rts := rfl

/-! ## Scm -/

@[simp] theorem onScm_pending (g : Scm → Scm) (s : State) : (onScm g s).pending = s.pending := rfl
@[simp] theorem onScm_uptime (g : Scm → Scm) (s : State) : (onScm g s).uptime = s.uptime := rfl
@[simp] theorem onScm_ttr (g : Scm → Scm) (s : State) : (onScm g s).ttr = s.ttr := rfl
@[simp] theorem onScm_csh (g : Scm → Scm) (s : State) : (onScm g s).csh = s.csh := rfl
@[simp] theorem onScm_scm (g : Scm → Scm) (s : State) : (onScm g s).scm = g s.scm := rfl
@[simp] theorem onScm_pbk (g : Scm → Scm) (s : State) : (onScm g s).pbk = s.pbk := rfl
@[simp] theorem onScm_sda (g : Scm → Scm) (s : State) : (onScm g s).sda = s.sda := rfl
@[simp] theorem onScm_jrn (g : Scm → Scm) (s : State) : (onScm g s).jrn = s.jrn := rfl
@[simp] theorem onScm_day (g : Scm → Scm) (s : State) : (onScm g s).day = s.day := rfl
@[simp] theorem onScm_tbl (g : Scm → Scm) (s : State) : (onScm g s).tbl = s.tbl := rfl
@[simp] theorem onScm_slc (g : Scm → Scm) (s : State) : (onScm g s).slc = s.slc := rfl
@[simp] theorem onScm_blc (g : Scm → Scm) (s : State) : (onScm g s).blc = s.blc := rfl
@[simp] theorem onScm_mrs (g : Scm → Scm) (s : State) : (onScm g s).mrs = s.mrs := rfl
@[simp] theorem onScm_rts (g : Scm → Scm) (s : State) : (onScm g s).rts = s.rts := rfl

/-! ## Pbk -/

@[simp] theorem onPbk_pending (g : Pbk → Pbk) (s : State) : (onPbk g s).pending = s.pending := rfl
@[simp] theorem onPbk_uptime (g : Pbk → Pbk) (s : State) : (onPbk g s).uptime = s.uptime := rfl
@[simp] theorem onPbk_ttr (g : Pbk → Pbk) (s : State) : (onPbk g s).ttr = s.ttr := rfl
@[simp] theorem onPbk_csh (g : Pbk → Pbk) (s : State) : (onPbk g s).csh = s.csh := rfl
@[simp] theorem onPbk_scm (g : Pbk → Pbk) (s : State) : (onPbk g s).scm = s.scm := rfl
@[simp] theorem onPbk_pbk (g : Pbk → Pbk) (s : State) : (onPbk g s).pbk = g s.pbk := rfl
@[simp] theorem onPbk_sda (g : Pbk → Pbk) (s : State) : (onPbk g s).sda = s.sda := rfl
@[simp] theorem onPbk_jrn (g : Pbk → Pbk) (s : State) : (onPbk g s).jrn = s.jrn := rfl
@[simp] theorem onPbk_day (g : Pbk → Pbk) (s : State) : (onPbk g s).day = s.day := rfl
@[simp] theorem onPbk_tbl (g : Pbk → Pbk) (s : State) : (onPbk g s).tbl = s.tbl := rfl
@[simp] theorem onPbk_slc (g : Pbk → Pbk) (s : State) : (onPbk g s).slc = s.slc := rfl
@[simp] theorem onPbk_blc (g : Pbk → Pbk) (s : State) : (onPbk g s).blc = s.blc := rfl
@[simp] theorem onPbk_mrs (g : Pbk → Pbk) (s : State) : (onPbk g s).mrs = s.mrs := rfl
@[simp] theorem onPbk_rts (g : Pbk → Pbk) (s : State) : (onPbk g s).rts = s.rts := rfl

/-! ## Sda -/

@[simp] theorem onSda_pending (g : Sda → Sda) (s : State) : (onSda g s).pending = s.pending := rfl
@[simp] theorem onSda_uptime (g : Sda → Sda) (s : State) : (onSda g s).uptime = s.uptime := rfl
@[simp] theorem onSda_ttr (g : Sda → Sda) (s : State) : (onSda g s).ttr = s.ttr := rfl
@[simp] theorem onSda_csh (g : Sda → Sda) (s : State) : (onSda g s).csh = s.csh := rfl
@[simp] theorem onSda_scm (g : Sda → Sda) (s : State) : (onSda g s).scm = s.scm := rfl
@[simp] theorem onSda_pbk (g : Sda → Sda) (s : State) : (onSda g s).pbk = s.pbk := rfl
@[simp] theorem onSda_sda (g : Sda → Sda) (s : State) : (onSda g s).sda = g s.sda := rfl
@[simp] theorem onSda_jrn (g : Sda → Sda) (s : State) : (onSda g s).jrn = s.jrn := rfl
@[simp] theorem onSda_day (g : Sda → Sda) (s : State) : (onSda g s).day = s.day := rfl
@[simp] theorem onSda_tbl (g : Sda → Sda) (s : State) : (onSda g s).tbl = s.tbl := rfl
@[simp] theorem onSda_slc (g : Sda → Sda) (s : State) : (onSda g s).slc = s.slc := rfl
@[simp] theorem onSda_blc (g : Sda → Sda) (s : State) : (onSda g s).blc = s.blc := rfl
@[simp] theorem onSda_mrs (g : Sda → Sda) (s : State) : (onSda g s).mrs = s.mrs := rfl
@[simp] theorem onSda_rts (g : Sda → Sda) (s : State) : (onSda g s).rts = s.rts := rfl

/-! ## Jrn -/

@[simp] theorem onJrn_pending (g : Jrn → Jrn) (s : State) : (onJrn g s).pending = s.pending := rfl
@[simp] theorem onJrn_uptime (g : Jrn → Jrn) (s : State) : (onJrn g s).uptime = s.uptime := rfl
@[simp] theorem onJrn_ttr (g : Jrn → Jrn) (s : State) : (onJrn g s).ttr = s.ttr := rfl
@[simp] theorem onJrn_csh (g : Jrn → Jrn) (s : State) : (onJrn g s).csh = s.csh := rfl
@[simp] theorem onJrn_scm (g : Jrn → Jrn) (s : State) : (onJrn g s).scm = s.scm := rfl
@[simp] theorem onJrn_pbk (g : Jrn → Jrn) (s : State) : (onJrn g s).pbk = s.pbk := rfl
@[simp] theorem onJrn_sda (g : Jrn → Jrn) (s : State) : (onJrn g s).sda = s.sda := rfl
@[simp] theorem onJrn_jrn (g : Jrn → Jrn) (s : State) : (onJrn g s).jrn = g s.jrn := rfl
@[simp] theorem onJrn_day (g : Jrn → Jrn) (s : State) : (onJrn g s).day = s.day := rfl
@[simp] theorem onJrn_tbl (g : Jrn → Jrn) (s : State) : (onJrn g s).tbl = s.tbl := rfl
@[simp] theorem onJrn_slc (g : Jrn → Jrn) (s : State) : (onJrn g s).slc = s.slc := rfl
@[simp] theorem onJrn_blc (g : Jrn → Jrn) (s : State) : (onJrn g s).blc = s.blc := rfl
@[simp] theorem onJrn_mrs (g : Jrn → Jrn) (s : State) : (onJrn g s).mrs = s.mrs := rfl
@[simp] theorem onJrn_rts (g : Jrn → Jrn) (s : State) : (onJrn g s).rts = s.rts := rfl

/-! ## Day -/

@[simp] theorem onDay_pending (g : Day → Day) (s : State) : (onDay g s).pending = s.pending := rfl
@[simp] theorem onDay_uptime (g : Day → Day) (s : State) : (onDay g s).uptime = s.uptime := rfl
@[simp] theorem onDay_ttr (g : Day → Day) (s : State) : (onDay g s).ttr = s.ttr := rfl
@[simp] theorem onDay_csh (g : Day → Day) (s : State) : (onDay g s).csh = s.csh := rfl
@[simp] theorem onDay_scm (g : Day → Day) (s : State) : (onDay g s).scm = s.scm := rfl
@[simp] theorem onDay_pbk (g : Day → Day) (s : State) : (onDay g s).pbk = s.pbk := rfl
@[simp] theorem onDay_sda (g : Day → Day) (s : State) : (onDay g s).sda = s.sda := rfl
@[simp] theorem onDay_jrn (g : Day → Day) (s : State) : (onDay g s).jrn = s.jrn := rfl
@[simp] theorem onDay_day (g : Day → Day) (s : State) : (onDay g s).day = g s.day := rfl
@[simp] theorem onDay_tbl (g : Day → Day) (s : State) : (onDay g s).tbl = s.tbl := rfl
@[simp] theorem onDay_slc (g : Day → Day) (s : State) : (onDay g s).slc = s.slc := rfl
@[simp] theorem onDay_blc (g : Day → Day) (s : State) : (onDay g s).blc = s.blc := rfl
@[simp] theorem onDay_mrs (g : Day → Day) (s : State) : (onDay g s).mrs = s.mrs := rfl
@[simp] theorem onDay_rts (g : Day → Day) (s : State) : (onDay g s).rts = s.rts := rfl

/-! ## Tbl -/

@[simp] theorem onTbl_pending (g : Tbl → Tbl) (s : State) : (onTbl g s).pending = s.pending := rfl
@[simp] theorem onTbl_uptime (g : Tbl → Tbl) (s : State) : (onTbl g s).uptime = s.uptime := rfl
@[simp] theorem onTbl_ttr (g : Tbl → Tbl) (s : State) : (onTbl g s).ttr = s.ttr := rfl
@[simp] theorem onTbl_csh (g : Tbl → Tbl) (s : State) : (onTbl g s).csh = s.csh := rfl
@[simp] theorem onTbl_scm (g : Tbl → Tbl) (s : State) : (onTbl g s).scm = s.scm := rfl
@[simp] theorem onTbl_pbk (g : Tbl → Tbl) (s : State) : (onTbl g s).pbk = s.pbk := rfl
@[simp] theorem onTbl_sda (g : Tbl → Tbl) (s : State) : (onTbl g s).sda = s.sda := rfl
@[simp] theorem onTbl_jrn (g : Tbl → Tbl) (s : State) : (onTbl g s).jrn = s.jrn := rfl
@[simp] theorem onTbl_day (g : Tbl → Tbl) (s : State) : (onTbl g s).day = s.day := rfl
@[simp] theorem onTbl_tbl (g : Tbl → Tbl) (s : State) : (onTbl g s).tbl = g s.tbl := rfl
@[simp] theorem onTbl_slc (g : Tbl → Tbl) (s : State) : (onTbl g s).slc = s.slc := rfl
@[simp] theorem onTbl_blc (g : Tbl → Tbl) (s : State) : (onTbl g s).blc = s.blc := rfl
@[simp] theorem onTbl_mrs (g : Tbl → Tbl) (s : State) : (onTbl g s).mrs = s.mrs := rfl
@[simp] theorem onTbl_rts (g : Tbl → Tbl) (s : State) : (onTbl g s).rts = s.rts := rfl

/-! ## Slc -/

@[simp] theorem onSlc_pending (g : Slc → Slc) (s : State) : (onSlc g s).pending = s.pending := rfl
@[simp] theorem onSlc_uptime (g : Slc → Slc) (s : State) : (onSlc g s).uptime = s.uptime := rfl
@[simp] theorem onSlc_ttr (g : Slc → Slc) (s : State) : (onSlc g s).ttr = s.ttr := rfl
@[simp] theorem onSlc_csh (g : Slc → Slc) (s : State) : (onSlc g s).csh = s.csh := rfl
@[simp] theorem onSlc_scm (g : Slc → Slc) (s : State) : (onSlc g s).scm = s.scm := rfl
@[simp] theorem onSlc_pbk (g : Slc → Slc) (s : State) : (onSlc g s).pbk = s.pbk := rfl
@[simp] theorem onSlc_sda (g : Slc → Slc) (s : State) : (onSlc g s).sda = s.sda := rfl
@[simp] theorem onSlc_jrn (g : Slc → Slc) (s : State) : (onSlc g s).jrn = s.jrn := rfl
@[simp] theorem onSlc_day (g : Slc → Slc) (s : State) : (onSlc g s).day = s.day := rfl
@[simp] theorem onSlc_tbl (g : Slc → Slc) (s : State) : (onSlc g s).tbl = s.tbl := rfl
@[simp] theorem onSlc_slc (g : Slc → Slc) (s : State) : (onSlc g s).slc = g s.slc := rfl
@[simp] theorem onSlc_blc (g : Slc → Slc) (s : State) : (onSlc g s).blc = s.blc := rfl
@[simp] theorem onSlc_mrs (g : Slc → Slc) (s : State) : (onSlc g s).mrs = s.mrs := rfl
@[simp] theorem onSlc_rts (g : Slc → Slc) (s : State) : (onSlc g s).rts = s.rts := rfl

/-! ## Blc -/

@[simp] theorem onBlc_pending (g : Blc → Blc) (s : State) : (onBlc g s).pending = s.pending := rfl
@[simp] theorem onBlc_uptime (g : Blc → Blc) (s : State) : (onBlc g s).uptime = s.uptime := rfl
@[simp] theorem onBlc_ttr (g : Blc → Blc) (s : State) : (onBlc g s).ttr = s.ttr := rfl
@[simp] theorem onBlc_csh (g : Blc → Blc) (s : State) : (onBlc g s).csh = s.csh := rfl
@[simp] theorem onBlc_scm (g : Blc → Blc) (s : State) : (onBlc g s).scm = s.scm := rfl
@[simp] theorem onBlc_pbk (g : Blc → Blc) (s : State) : (onBlc g s).pbk = s.pbk := rfl
@[simp] theorem onBlc_sda (g : Blc → Blc) (s : State) : (onBlc g s).sda = s.sda := rfl
@[simp] theorem onBlc_jrn (g : Blc → Blc) (s : State) : (onBlc g s).jrn = s.jrn := rfl
@[simp] theorem onBlc_day (g : Blc → Blc) (s : State) : (onBlc g s).day = s.day := rfl
@[simp] theorem onBlc_tbl (g : Blc → Blc) (s : State) : (onBlc g s).tbl = s.tbl := rfl
@[simp] theorem onBlc_slc (g : Blc → Blc) (s : State) : (onBlc g s).slc = s.slc := rfl
@[simp] theorem onBlc_blc (g : Blc → Blc) (s : State) : (onBlc g s).blc = g s.blc := rfl
@[simp] theorem onBlc_mrs (g : Blc → Blc) (s : State) : (onBlc g s).mrs = s.mrs := rfl
@[simp] theorem onBlc_rts (g : Blc → Blc) (s : State) : (onBlc g s).rts = s.rts := rfl

/-! ## Mrs -/

@[simp] theorem onMrs_pending (g : Mrs → Mrs) (s : State) : (onMrs g s).pending = s.pending := rfl
@[simp] theorem onMrs_uptime (g : Mrs → Mrs) (s : State) : (onMrs g s).uptime = s.uptime := rfl
@[simp] theorem onMrs_ttr (g : Mrs → Mrs) (s : State) : (onMrs g s).ttr = s.ttr := rfl
@[simp] theorem onMrs_csh (g : Mrs → Mrs) (s : State) : (onMrs g s).csh = s.csh := rfl
@[simp] theorem onMrs_scm (g : Mrs → Mrs) (s : State) : (onMrs g s).scm = s.scm := rfl
@[simp] theorem onMrs_pbk (g : Mrs → Mrs) (s : State) : (onMrs g s).pbk = s.pbk := rfl
@[simp] theorem onMrs_sda (g : Mrs → Mrs) (s : State) : (onMrs g s).sda = s.sda := rfl
@[simp] theorem onMrs_jrn (g : Mrs → Mrs) (s : State) : (onMrs g s).jrn = s.jrn := rfl
@[simp] theorem onMrs_day (g : Mrs → Mrs) (s : State) : (onMrs g s).day = s.day := rfl
@[simp] theorem onMrs_tbl (g : Mrs → Mrs) (s : State) : (onMrs g s).tbl = s.tbl := rfl
@[simp] theorem onMrs_slc (g : Mrs → Mrs) (s : State) : (onMrs g s).slc = s.slc := rfl
@[simp] theorem onMrs_blc (g : Mrs → Mrs) (s : State) : (onMrs g s).blc = s.blc := rfl
@[simp] theorem onMrs_mrs (g : Mrs → Mrs) (s : State) : (onMrs g s).mrs = g s.mrs := rfl
@[simp] theorem onMrs_rts (g : Mrs → Mrs) (s : State) : (onMrs g s).rts = s.rts := rfl

/-! ## Rts -/

@[simp] theorem onRts_pending (g : Rts → Rts) (s : State) : (onRts g s).pending = s.pending := rfl
@[simp] theorem onRts_uptime (g : Rts → Rts) (s : State) : (onRts g s).uptime = s.uptime := rfl
@[simp] theorem onRts_ttr (g : Rts → Rts) (s : State) : (onRts g s).ttr = s.ttr := rfl
@[simp] theorem onRts_csh (g : Rts → Rts) (s : State) : (onRts g s).csh = s.csh := rfl
@[simp] theorem onRts_scm (g : Rts → Rts) (s : State) : (onRts g s).scm = s.scm := rfl
@[simp] theorem onRts_pbk (g : Rts → Rts) (s : State) : (onRts g s).pbk = s.pbk := rfl
@[simp] theorem onRts_sda (g : Rts → Rts) (s : State) : (onRts g s).sda = s.sda := rfl
@[simp] theorem onRts_jrn (g : Rts → Rts) (s : State) : (onRts g s).jrn = s.jrn := rfl
@[simp] theorem onRts_day (g : Rts → Rts) (s : State) : (onRts g s).day = s.day := rfl
@[simp] theorem onRts_tbl (g : Rts → Rts) (s : State) : (onRts g s).tbl = s.tbl := rfl
@[simp] theorem onRts_slc (g : Rts → Rts) (s : State) : (onRts g s).slc = s.slc := rfl
@[simp] theorem onRts_blc (g : Rts → Rts) (s : State) : (onRts g s).blc = s.blc := rfl
@[simp] theorem onRts_mrs (g : Rts → Rts) (s : State) : (onRts g s).mrs = s.mrs := rfl
@[simp] theorem onRts_rts (g : Rts → Rts) (s : State) : (onRts g s).rts = g s.rts := rfl

/-! ## One station's item -/

@[simp] theorem setLine_pending (st : Station) (l : Line) (s : State) : (setLine st l s).pending = s.pending := rfl
@[simp] theorem setLine_uptime (st : Station) (l : Line) (s : State) : (setLine st l s).uptime = s.uptime := rfl
@[simp] theorem setLine_ttr (st : Station) (l : Line) (s : State) : (setLine st l s).ttr = s.ttr := rfl
@[simp] theorem setLine_csh (st : Station) (l : Line) (s : State) : (setLine st l s).csh = s.csh := rfl
@[simp] theorem setLine_scm (st : Station) (l : Line) (s : State) : (setLine st l s).scm = s.scm := rfl
@[simp] theorem setLine_pbk (st : Station) (l : Line) (s : State) : (setLine st l s).pbk = s.pbk := rfl
@[simp] theorem setLine_sda (st : Station) (l : Line) (s : State) : (setLine st l s).sda = s.sda := rfl
@[simp] theorem setLine_jrn (st : Station) (l : Line) (s : State) : (setLine st l s).jrn = s.jrn := rfl
@[simp] theorem setLine_day (st : Station) (l : Line) (s : State) : (setLine st l s).day = s.day := rfl
@[simp] theorem setLine_tbl (st : Station) (l : Line) (s : State) : (setLine st l s).tbl = s.tbl := rfl
@[simp] theorem setLine_blc (st : Station) (l : Line) (s : State) : (setLine st l s).blc = s.blc := rfl
@[simp] theorem setLine_mrs (st : Station) (l : Line) (s : State) : (setLine st l s).mrs = s.mrs := rfl
@[simp] theorem setLine_rts (st : Station) (l : Line) (s : State) : (setLine st l s).rts = s.rts := rfl

@[simp] theorem onLine_pending (st : Station) (f : Line → Line) (s : State) : (onLine st f s).pending = s.pending := rfl
@[simp] theorem onLine_uptime (st : Station) (f : Line → Line) (s : State) : (onLine st f s).uptime = s.uptime := rfl
@[simp] theorem onLine_ttr (st : Station) (f : Line → Line) (s : State) : (onLine st f s).ttr = s.ttr := rfl
@[simp] theorem onLine_csh (st : Station) (f : Line → Line) (s : State) : (onLine st f s).csh = s.csh := rfl
@[simp] theorem onLine_scm (st : Station) (f : Line → Line) (s : State) : (onLine st f s).scm = s.scm := rfl
@[simp] theorem onLine_pbk (st : Station) (f : Line → Line) (s : State) : (onLine st f s).pbk = s.pbk := rfl
@[simp] theorem onLine_sda (st : Station) (f : Line → Line) (s : State) : (onLine st f s).sda = s.sda := rfl
@[simp] theorem onLine_jrn (st : Station) (f : Line → Line) (s : State) : (onLine st f s).jrn = s.jrn := rfl
@[simp] theorem onLine_day (st : Station) (f : Line → Line) (s : State) : (onLine st f s).day = s.day := rfl
@[simp] theorem onLine_tbl (st : Station) (f : Line → Line) (s : State) : (onLine st f s).tbl = s.tbl := rfl
@[simp] theorem onLine_blc (st : Station) (f : Line → Line) (s : State) : (onLine st f s).blc = s.blc := rfl
@[simp] theorem onLine_mrs (st : Station) (f : Line → Line) (s : State) : (onLine st f s).mrs = s.mrs := rfl
@[simp] theorem onLine_rts (st : Station) (f : Line → Line) (s : State) : (onLine st f s).rts = s.rts := rfl

@[simp] theorem setContext_pending (st : Station) (c : Option ScreenContext) (s : State) : (setContext st c s).pending = s.pending := rfl
@[simp] theorem setContext_uptime (st : Station) (c : Option ScreenContext) (s : State) : (setContext st c s).uptime = s.uptime := rfl
@[simp] theorem setContext_ttr (st : Station) (c : Option ScreenContext) (s : State) : (setContext st c s).ttr = s.ttr := rfl
@[simp] theorem setContext_csh (st : Station) (c : Option ScreenContext) (s : State) : (setContext st c s).csh = s.csh := rfl
@[simp] theorem setContext_pbk (st : Station) (c : Option ScreenContext) (s : State) : (setContext st c s).pbk = s.pbk := rfl
@[simp] theorem setContext_sda (st : Station) (c : Option ScreenContext) (s : State) : (setContext st c s).sda = s.sda := rfl
@[simp] theorem setContext_jrn (st : Station) (c : Option ScreenContext) (s : State) : (setContext st c s).jrn = s.jrn := rfl
@[simp] theorem setContext_day (st : Station) (c : Option ScreenContext) (s : State) : (setContext st c s).day = s.day := rfl
@[simp] theorem setContext_tbl (st : Station) (c : Option ScreenContext) (s : State) : (setContext st c s).tbl = s.tbl := rfl
@[simp] theorem setContext_slc (st : Station) (c : Option ScreenContext) (s : State) : (setContext st c s).slc = s.slc := rfl
@[simp] theorem setContext_blc (st : Station) (c : Option ScreenContext) (s : State) : (setContext st c s).blc = s.blc := rfl
@[simp] theorem setContext_mrs (st : Station) (c : Option ScreenContext) (s : State) : (setContext st c s).mrs = s.mrs := rfl
@[simp] theorem setContext_rts (st : Station) (c : Option ScreenContext) (s : State) : (setContext st c s).rts = s.rts := rfl

@[simp] theorem setPrinter_pending (st : Station) (c : Option PrinterContext) (s : State) : (setPrinter st c s).pending = s.pending := rfl
@[simp] theorem setPrinter_uptime (st : Station) (c : Option PrinterContext) (s : State) : (setPrinter st c s).uptime = s.uptime := rfl
@[simp] theorem setPrinter_ttr (st : Station) (c : Option PrinterContext) (s : State) : (setPrinter st c s).ttr = s.ttr := rfl
@[simp] theorem setPrinter_csh (st : Station) (c : Option PrinterContext) (s : State) : (setPrinter st c s).csh = s.csh := rfl
@[simp] theorem setPrinter_scm (st : Station) (c : Option PrinterContext) (s : State) : (setPrinter st c s).scm = s.scm := rfl
@[simp] theorem setPrinter_sda (st : Station) (c : Option PrinterContext) (s : State) : (setPrinter st c s).sda = s.sda := rfl
@[simp] theorem setPrinter_jrn (st : Station) (c : Option PrinterContext) (s : State) : (setPrinter st c s).jrn = s.jrn := rfl
@[simp] theorem setPrinter_day (st : Station) (c : Option PrinterContext) (s : State) : (setPrinter st c s).day = s.day := rfl
@[simp] theorem setPrinter_tbl (st : Station) (c : Option PrinterContext) (s : State) : (setPrinter st c s).tbl = s.tbl := rfl
@[simp] theorem setPrinter_slc (st : Station) (c : Option PrinterContext) (s : State) : (setPrinter st c s).slc = s.slc := rfl
@[simp] theorem setPrinter_blc (st : Station) (c : Option PrinterContext) (s : State) : (setPrinter st c s).blc = s.blc := rfl
@[simp] theorem setPrinter_mrs (st : Station) (c : Option PrinterContext) (s : State) : (setPrinter st c s).mrs = s.mrs := rfl
@[simp] theorem setPrinter_rts (st : Station) (c : Option PrinterContext) (s : State) : (setPrinter st c s).rts = s.rts := rfl

@[simp] theorem setSignOn_pending (st : Station) (t : Option Nat) (s : State) : (setSignOn st t s).pending = s.pending := rfl
@[simp] theorem setSignOn_uptime (st : Station) (t : Option Nat) (s : State) : (setSignOn st t s).uptime = s.uptime := rfl
@[simp] theorem setSignOn_ttr (st : Station) (t : Option Nat) (s : State) : (setSignOn st t s).ttr = s.ttr := rfl
@[simp] theorem setSignOn_csh (st : Station) (t : Option Nat) (s : State) : (setSignOn st t s).csh = s.csh := rfl
@[simp] theorem setSignOn_pbk (st : Station) (t : Option Nat) (s : State) : (setSignOn st t s).pbk = s.pbk := rfl
@[simp] theorem setSignOn_sda (st : Station) (t : Option Nat) (s : State) : (setSignOn st t s).sda = s.sda := rfl
@[simp] theorem setSignOn_jrn (st : Station) (t : Option Nat) (s : State) : (setSignOn st t s).jrn = s.jrn := rfl
@[simp] theorem setSignOn_day (st : Station) (t : Option Nat) (s : State) : (setSignOn st t s).day = s.day := rfl
@[simp] theorem setSignOn_tbl (st : Station) (t : Option Nat) (s : State) : (setSignOn st t s).tbl = s.tbl := rfl
@[simp] theorem setSignOn_slc (st : Station) (t : Option Nat) (s : State) : (setSignOn st t s).slc = s.slc := rfl
@[simp] theorem setSignOn_blc (st : Station) (t : Option Nat) (s : State) : (setSignOn st t s).blc = s.blc := rfl
@[simp] theorem setSignOn_mrs (st : Station) (t : Option Nat) (s : State) : (setSignOn st t s).mrs = s.mrs := rfl
@[simp] theorem setSignOn_rts (st : Station) (t : Option Nat) (s : State) : (setSignOn st t s).rts = s.rts := rfl

@[simp] theorem setPosition_pending (p : Option Station) (x : Position) (s : State) : (setPosition p x s).pending = s.pending := by
  cases p <;> rfl
@[simp] theorem setPosition_uptime (p : Option Station) (x : Position) (s : State) : (setPosition p x s).uptime = s.uptime := by
  cases p <;> rfl
@[simp] theorem setPosition_ttr (p : Option Station) (x : Position) (s : State) : (setPosition p x s).ttr = s.ttr := by
  cases p <;> rfl
@[simp] theorem setPosition_scm (p : Option Station) (x : Position) (s : State) : (setPosition p x s).scm = s.scm := by
  cases p <;> rfl
@[simp] theorem setPosition_pbk (p : Option Station) (x : Position) (s : State) : (setPosition p x s).pbk = s.pbk := by
  cases p <;> rfl
@[simp] theorem setPosition_sda (p : Option Station) (x : Position) (s : State) : (setPosition p x s).sda = s.sda := by
  cases p <;> rfl
@[simp] theorem setPosition_jrn (p : Option Station) (x : Position) (s : State) : (setPosition p x s).jrn = s.jrn := by
  cases p <;> rfl
@[simp] theorem setPosition_day (p : Option Station) (x : Position) (s : State) : (setPosition p x s).day = s.day := by
  cases p <;> rfl
@[simp] theorem setPosition_tbl (p : Option Station) (x : Position) (s : State) : (setPosition p x s).tbl = s.tbl := by
  cases p <;> rfl
@[simp] theorem setPosition_slc (p : Option Station) (x : Position) (s : State) : (setPosition p x s).slc = s.slc := by
  cases p <;> rfl
@[simp] theorem setPosition_blc (p : Option Station) (x : Position) (s : State) : (setPosition p x s).blc = s.blc := by
  cases p <;> rfl
@[simp] theorem setPosition_mrs (p : Option Station) (x : Position) (s : State) : (setPosition p x s).mrs = s.mrs := by
  cases p <;> rfl
@[simp] theorem setPosition_rts (p : Option Station) (x : Position) (s : State) : (setPosition p x s).rts = s.rts := by
  cases p <;> rfl

@[simp] theorem onPrinter_pending (st : Station) (g : PrinterContext → PrinterContext) (s : State) :
    (onPrinter st g s).pending = s.pending := by
  unfold onPrinter; split <;> rfl
@[simp] theorem onPrinter_uptime (st : Station) (g : PrinterContext → PrinterContext) (s : State) :
    (onPrinter st g s).uptime = s.uptime := by
  unfold onPrinter; split <;> rfl
@[simp] theorem onPrinter_ttr (st : Station) (g : PrinterContext → PrinterContext) (s : State) :
    (onPrinter st g s).ttr = s.ttr := by
  unfold onPrinter; split <;> rfl
@[simp] theorem onPrinter_csh (st : Station) (g : PrinterContext → PrinterContext) (s : State) :
    (onPrinter st g s).csh = s.csh := by
  unfold onPrinter; split <;> rfl
@[simp] theorem onPrinter_scm (st : Station) (g : PrinterContext → PrinterContext) (s : State) :
    (onPrinter st g s).scm = s.scm := by
  unfold onPrinter; split <;> rfl
@[simp] theorem onPrinter_sda (st : Station) (g : PrinterContext → PrinterContext) (s : State) :
    (onPrinter st g s).sda = s.sda := by
  unfold onPrinter; split <;> rfl
@[simp] theorem onPrinter_jrn (st : Station) (g : PrinterContext → PrinterContext) (s : State) :
    (onPrinter st g s).jrn = s.jrn := by
  unfold onPrinter; split <;> rfl
@[simp] theorem onPrinter_day (st : Station) (g : PrinterContext → PrinterContext) (s : State) :
    (onPrinter st g s).day = s.day := by
  unfold onPrinter; split <;> rfl
@[simp] theorem onPrinter_tbl (st : Station) (g : PrinterContext → PrinterContext) (s : State) :
    (onPrinter st g s).tbl = s.tbl := by
  unfold onPrinter; split <;> rfl
@[simp] theorem onPrinter_slc (st : Station) (g : PrinterContext → PrinterContext) (s : State) :
    (onPrinter st g s).slc = s.slc := by
  unfold onPrinter; split <;> rfl
@[simp] theorem onPrinter_blc (st : Station) (g : PrinterContext → PrinterContext) (s : State) :
    (onPrinter st g s).blc = s.blc := by
  unfold onPrinter; split <;> rfl
@[simp] theorem onPrinter_mrs (st : Station) (g : PrinterContext → PrinterContext) (s : State) :
    (onPrinter st g s).mrs = s.mrs := by
  unfold onPrinter; split <;> rfl
@[simp] theorem onPrinter_rts (st : Station) (g : PrinterContext → PrinterContext) (s : State) :
    (onPrinter st g s).rts = s.rts := by
  unfold onPrinter; split <;> rfl

@[simp] theorem lineOf_setLine (a b : Station) (l : Line) (s : State) :
    lineOf b (setLine a l s) = if b = a then l else lineOf b s := Eight.get_set _ _ _ _

@[simp] theorem lineOf_onLine (a b : Station) (f : Line → Line) (s : State) :
    lineOf b (onLine a f s) = if b = a then f (lineOf a s) else lineOf b s := Eight.get_set _ _ _ _

@[simp] theorem positionOf_setPosition (p q : Option Station) (x : Position) (s : State) :
    positionOf q (setPosition p x s) = if q = p then x else positionOf q s := by
  cases p <;> cases q <;> simp [positionOf, setPosition, drawerOf]

@[simp] theorem contextOf_setContext (a b : Station) (c : Option ScreenContext) (s : State) :
    contextOf b (setContext a c s) = if b = a then c else contextOf b s := Eight.get_set _ _ _ _

@[simp] theorem signOn_setContext (a : Station) (c : Option ScreenContext) (s : State) :
    (setContext a c s).scm.signOn = s.scm.signOn := rfl

@[simp] theorem broadcast_setContext (a : Station) (c : Option ScreenContext) (s : State) :
    (setContext a c s).scm.broadcast = s.scm.broadcast := rfl

@[simp] theorem printerOf_setPrinter (a b : Station) (c : Option PrinterContext) (s : State) :
    printerOf b (setPrinter a c s) = if b = a then c else printerOf b s := Eight.get_set _ _ _ _

@[simp] theorem printerOf_onPrinter (a b : Station) (f : PrinterContext → PrinterContext) (s : State) :
    printerOf b (onPrinter a f s) = if b = a then (printerOf a s).map f else printerOf b s := by
  unfold onPrinter
  split
  · rename_i c h; by_cases hb : b = a <;> simp [hb, h]
  · rename_i h; by_cases hb : b = a <;> simp [hb, h]

@[simp] theorem tellerAt_setSignOn (a b : Station) (t : Option Nat) (s : State) :
    tellerAt b (setSignOn a t s) = if b = a then t else tellerAt b s := Eight.get_set _ _ _ _

@[simp] theorem tellerAt_setContext (a b : Station) (c : Option ScreenContext) (s : State) :
    tellerAt b (setContext a c s) = tellerAt b s := rfl

@[simp] theorem contextOf_setSignOn (a b : Station) (t : Option Nat) (s : State) :
    contextOf b (setSignOn a t s) = contextOf b s := rfl

@[simp] theorem setPosition_some_reserve (st : Station) (x : Position) (s : State) :
    (setPosition (some st) x s).csh.reserve = s.csh.reserve := rfl

@[simp] theorem setPosition_none_drawers (x : Position) (s : State) :
    (setPosition none x s).csh.drawers = s.csh.drawers := rfl

@[simp] theorem setLine_samples (st : Station) (l : Line) (s : State) : (setLine st l s).slc.samples = s.slc.samples := rfl

@[simp] theorem onLine_samples (st : Station) (f : Line → Line) (s : State) :
    (onLine st f s).slc.samples = s.slc.samples := rfl

@[simp] theorem setSignOn_keeps (st : Station) (t : Option Nat) (s : State) :
    (setSignOn st t s).scm.contexts = s.scm.contexts ∧ (setSignOn st t s).scm.broadcast = s.scm.broadcast := ⟨rfl, rfl⟩

/-- What the delivery of a drop's frame can do: nothing to the state, or one place of the buffer freed. -/
theorem delivered_cases {st : Station} {d : Drop} {f : DropFrame} {s t : State} (h : delivered st d f s = some t) :
    (lineOf st s).setup.role = .teller ∧
      (((lineOf st s).buffer = [] ∧ t = s) ∨
        ∃ rest, (lineOf st s).buffer = (d, f) :: rest ∧ t = onLine st (fun l => { l with buffer := rest }) s) := by
  unfold delivered at h
  split at h
  · cases h
  · rename_i hr
    refine ⟨by simpa using hr, ?_⟩
    split at h
    · rename_i hb; exact .inl ⟨hb, by simpa using h.symm⟩
    · rename_i head rest hb
      split at h
      · rename_i he; exact .inr ⟨rest, by rw [hb, he], by simpa using h.symm⟩
      · cases h

end Sys2Proof.Machine
end

