-- ==== Sys2Proof/Laws/Frames.lean ====
section
/-! SUPPORT. What each shared operation leaves unchanged: for each, one lemma with the items of the state it does not touch.
Each stands as a set of rewriting rules, so that no later proof unfolds an operation to see what it keeps. -/

namespace Sys2Proof.Machine
open Sys2Proof

/-- A fold of operations keeps what each of them keeps. -/
theorem foldl_keeps {α β : Type} (proj : State → β) (f : State → α → State) (h : ∀ s a, proj (f s a) = proj s)
    (xs : List α) (s : State) : proj (xs.foldl f s) = proj s := by
  induction xs generalizing s with
  | nil => rfl
  | cons x rest ih => rw [List.foldl_cons, ih, h]

theorem forStations_keeps {β : Type} (proj : State → β) (f : Station → State → State)
    (h : ∀ st s, proj (f st s) = proj s) (s : State) : proj (forStations f s) = proj s :=
  foldl_keeps proj _ (fun s st => h st s) _ s

@[simp] theorem placeNotice_keeps (f : EventFlag) (st : Option Station) (s : State) :
    (placeNotice f st s).pending = s.pending ∧ (placeNotice f st s).uptime = s.uptime ∧
      (placeNotice f st s).ttr = s.ttr ∧ (placeNotice f st s).csh = s.csh ∧ (placeNotice f st s).scm = s.scm ∧
      (placeNotice f st s).pbk = s.pbk ∧ (placeNotice f st s).sda = s.sda ∧ (placeNotice f st s).jrn = s.jrn ∧
      (placeNotice f st s).day = s.day ∧ (placeNotice f st s).tbl = s.tbl ∧ (placeNotice f st s).slc = s.slc ∧
      (placeNotice f st s).blc.link = s.blc.link ∧ (placeNotice f st s).blc.silence = s.blc.silence ∧
      (placeNotice f st s).blc.reassembly = s.blc.reassembly ∧ (placeNotice f st s).blc.sending = s.blc.sending ∧
      (placeNotice f st s).blc.linkAnswer = s.blc.linkAnswer ∧ (placeNotice f st s).blc.replies = s.blc.replies ∧
      (placeNotice f st s).blc.requests = s.blc.requests ∧ (placeNotice f st s).blc.frameCheck = s.blc.frameCheck ∧
      (placeNotice f st s).blc.frameForm = s.blc.frameForm ∧ (placeNotice f st s).mrs = s.mrs ∧
      (placeNotice f st s).rts = s.rts := by
  unfold placeNotice; (try dsimp only); (repeat' split) <;> simp

@[simp] theorem raiseWith_keeps (f : EventFlag) (st : Option Station) (s : State) :
    (raiseWith f st s).pending = s.pending ∧ (raiseWith f st s).uptime = s.uptime ∧ (raiseWith f st s).ttr = s.ttr ∧
      (raiseWith f st s).csh = s.csh ∧ (raiseWith f st s).scm = s.scm ∧ (raiseWith f st s).pbk = s.pbk ∧
      (raiseWith f st s).sda = s.sda ∧ (raiseWith f st s).jrn = s.jrn ∧ (raiseWith f st s).day = s.day ∧
      (raiseWith f st s).tbl = s.tbl ∧ (raiseWith f st s).slc = s.slc ∧ (raiseWith f st s).blc.link = s.blc.link ∧
      (raiseWith f st s).blc.silence = s.blc.silence ∧ (raiseWith f st s).blc.reassembly = s.blc.reassembly ∧
      (raiseWith f st s).blc.sending = s.blc.sending ∧ (raiseWith f st s).blc.linkAnswer = s.blc.linkAnswer ∧
      (raiseWith f st s).blc.replies = s.blc.replies ∧ (raiseWith f st s).blc.requests = s.blc.requests ∧
      (raiseWith f st s).blc.frameCheck = s.blc.frameCheck ∧ (raiseWith f st s).blc.frameForm = s.blc.frameForm ∧
      (raiseWith f st s).mrs.places = s.mrs.places ∧ (raiseWith f st s).mrs.unmatchedReplies = s.mrs.unmatchedReplies ∧
      (raiseWith f st s).mrs.overruns = s.mrs.overruns ∧ (raiseWith f st s).mrs.settings = s.mrs.settings ∧
      (raiseWith f st s).mrs.clock = s.mrs.clock ∧ (raiseWith f st s).rts = s.rts := by
  unfold raiseWith; (try dsimp only); (repeat' split) <;> simp

@[simp] theorem raise_keeps (f : EventFlag) (s : State) :
    (raise f s).pending = s.pending ∧ (raise f s).uptime = s.uptime ∧ (raise f s).ttr = s.ttr ∧
      (raise f s).csh = s.csh ∧ (raise f s).scm = s.scm ∧ (raise f s).pbk = s.pbk ∧ (raise f s).sda = s.sda ∧
      (raise f s).jrn = s.jrn ∧ (raise f s).day = s.day ∧ (raise f s).tbl = s.tbl ∧ (raise f s).slc = s.slc ∧
      (raise f s).blc.link = s.blc.link ∧ (raise f s).blc.silence = s.blc.silence ∧
      (raise f s).blc.reassembly = s.blc.reassembly ∧ (raise f s).blc.sending = s.blc.sending ∧
      (raise f s).blc.linkAnswer = s.blc.linkAnswer ∧ (raise f s).blc.replies = s.blc.replies ∧
      (raise f s).blc.requests = s.blc.requests ∧ (raise f s).blc.frameCheck = s.blc.frameCheck ∧
      (raise f s).blc.frameForm = s.blc.frameForm ∧ (raise f s).mrs.places = s.mrs.places ∧
      (raise f s).mrs.unmatchedReplies = s.mrs.unmatchedReplies ∧ (raise f s).mrs.overruns = s.mrs.overruns ∧
      (raise f s).mrs.settings = s.mrs.settings ∧ (raise f s).mrs.clock = s.mrs.clock ∧ (raise f s).rts = s.rts := by
  unfold raise; (try dsimp only); (repeat' split) <;> simp

@[simp] theorem raiseIf_keeps (b : Bool) (f : EventFlag) (s : State) :
    (raiseIf b f s).pending = s.pending ∧ (raiseIf b f s).uptime = s.uptime ∧ (raiseIf b f s).ttr = s.ttr ∧
      (raiseIf b f s).csh = s.csh ∧ (raiseIf b f s).scm = s.scm ∧ (raiseIf b f s).pbk = s.pbk ∧
      (raiseIf b f s).sda = s.sda ∧ (raiseIf b f s).jrn = s.jrn ∧ (raiseIf b f s).day = s.day ∧
      (raiseIf b f s).tbl = s.tbl ∧ (raiseIf b f s).slc = s.slc ∧ (raiseIf b f s).blc.link = s.blc.link ∧
      (raiseIf b f s).blc.silence = s.blc.silence ∧ (raiseIf b f s).blc.reassembly = s.blc.reassembly ∧
      (raiseIf b f s).blc.sending = s.blc.sending ∧ (raiseIf b f s).blc.linkAnswer = s.blc.linkAnswer ∧
      (raiseIf b f s).blc.replies = s.blc.replies ∧ (raiseIf b f s).blc.requests = s.blc.requests ∧
      (raiseIf b f s).blc.frameCheck = s.blc.frameCheck ∧ (raiseIf b f s).blc.frameForm = s.blc.frameForm ∧
      (raiseIf b f s).mrs.places = s.mrs.places ∧ (raiseIf b f s).mrs.unmatchedReplies = s.mrs.unmatchedReplies ∧
      (raiseIf b f s).mrs.overruns = s.mrs.overruns ∧ (raiseIf b f s).mrs.settings = s.mrs.settings ∧
      (raiseIf b f s).mrs.clock = s.mrs.clock ∧ (raiseIf b f s).rts = s.rts := by
  unfold raiseIf; (try dsimp only); (repeat' split) <;> simp

@[simp] theorem countUnmatchedReply_keeps (s : State) :
    (countUnmatchedReply s).pending = s.pending ∧ (countUnmatchedReply s).uptime = s.uptime ∧
      (countUnmatchedReply s).ttr = s.ttr ∧ (countUnmatchedReply s).csh = s.csh ∧ (countUnmatchedReply s).scm = s.scm ∧
      (countUnmatchedReply s).pbk = s.pbk ∧ (countUnmatchedReply s).sda = s.sda ∧ (countUnmatchedReply s).jrn = s.jrn ∧
      (countUnmatchedReply s).day = s.day ∧ (countUnmatchedReply s).tbl = s.tbl ∧ (countUnmatchedReply s).slc = s.slc ∧
      (countUnmatchedReply s).blc.link = s.blc.link ∧ (countUnmatchedReply s).blc.silence = s.blc.silence ∧
      (countUnmatchedReply s).blc.reassembly = s.blc.reassembly ∧ (countUnmatchedReply s).blc.sending = s.blc.sending ∧
      (countUnmatchedReply s).blc.linkAnswer = s.blc.linkAnswer ∧ (countUnmatchedReply s).blc.replies = s.blc.replies ∧
      (countUnmatchedReply s).blc.requests = s.blc.requests ∧
      (countUnmatchedReply s).blc.frameCheck = s.blc.frameCheck ∧
      (countUnmatchedReply s).blc.frameForm = s.blc.frameForm ∧ (countUnmatchedReply s).mrs.places = s.mrs.places ∧
      (countUnmatchedReply s).mrs.overruns = s.mrs.overruns ∧ (countUnmatchedReply s).mrs.settings = s.mrs.settings ∧
      (countUnmatchedReply s).mrs.clock = s.mrs.clock ∧ (countUnmatchedReply s).rts = s.rts := by
  unfold countUnmatchedReply; (try dsimp only); (repeat' split) <;> simp

@[simp] theorem countOverrun_keeps (s : State) :
    (countOverrun s).pending = s.pending ∧ (countOverrun s).uptime = s.uptime ∧ (countOverrun s).ttr = s.ttr ∧
      (countOverrun s).csh = s.csh ∧ (countOverrun s).scm = s.scm ∧ (countOverrun s).pbk = s.pbk ∧
      (countOverrun s).sda = s.sda ∧ (countOverrun s).jrn = s.jrn ∧ (countOverrun s).day = s.day ∧
      (countOverrun s).tbl = s.tbl ∧ (countOverrun s).slc = s.slc ∧ (countOverrun s).blc.link = s.blc.link ∧
      (countOverrun s).blc.silence = s.blc.silence ∧ (countOverrun s).blc.reassembly = s.blc.reassembly ∧
      (countOverrun s).blc.sending = s.blc.sending ∧ (countOverrun s).blc.linkAnswer = s.blc.linkAnswer ∧
      (countOverrun s).blc.replies = s.blc.replies ∧ (countOverrun s).blc.requests = s.blc.requests ∧
      (countOverrun s).blc.frameCheck = s.blc.frameCheck ∧ (countOverrun s).blc.frameForm = s.blc.frameForm ∧
      (countOverrun s).mrs.places = s.mrs.places ∧ (countOverrun s).mrs.unmatchedReplies = s.mrs.unmatchedReplies ∧
      (countOverrun s).mrs.settings = s.mrs.settings ∧ (countOverrun s).mrs.clock = s.mrs.clock ∧
      (countOverrun s).rts = s.rts := by
  unfold countOverrun; (try dsimp only); (repeat' split) <;> simp

@[simp] theorem noteUsed_keeps (before : Nat) (s : State) :
    (noteUsed before s).pending = s.pending ∧ (noteUsed before s).uptime = s.uptime ∧
      (noteUsed before s).ttr = s.ttr ∧ (noteUsed before s).csh = s.csh ∧ (noteUsed before s).scm = s.scm ∧
      (noteUsed before s).pbk = s.pbk ∧ (noteUsed before s).sda = s.sda ∧ (noteUsed before s).jrn = s.jrn ∧
      (noteUsed before s).day = s.day ∧ (noteUsed before s).tbl = s.tbl ∧ (noteUsed before s).slc = s.slc ∧
      (noteUsed before s).blc.link = s.blc.link ∧ (noteUsed before s).blc.silence = s.blc.silence ∧
      (noteUsed before s).blc.reassembly = s.blc.reassembly ∧ (noteUsed before s).blc.sending = s.blc.sending ∧
      (noteUsed before s).blc.linkAnswer = s.blc.linkAnswer ∧ (noteUsed before s).blc.replies = s.blc.replies ∧
      (noteUsed before s).blc.requests = s.blc.requests ∧ (noteUsed before s).blc.frameCheck = s.blc.frameCheck ∧
      (noteUsed before s).blc.frameForm = s.blc.frameForm ∧ (noteUsed before s).mrs.places = s.mrs.places ∧
      (noteUsed before s).mrs.unmatchedReplies = s.mrs.unmatchedReplies ∧
      (noteUsed before s).mrs.overruns = s.mrs.overruns ∧ (noteUsed before s).mrs.settings = s.mrs.settings ∧
      (noteUsed before s).mrs.clock = s.mrs.clock ∧ (noteUsed before s).rts = s.rts := by
  unfold noteUsed; (try dsimp only); (repeat' split) <;> simp

@[simp] theorem noteFree_keeps (before : Nat) (s : State) :
    (noteFree before s).pending = s.pending ∧ (noteFree before s).uptime = s.uptime ∧
      (noteFree before s).ttr = s.ttr ∧ (noteFree before s).csh = s.csh ∧ (noteFree before s).scm = s.scm ∧
      (noteFree before s).pbk = s.pbk ∧ (noteFree before s).sda = s.sda ∧ (noteFree before s).jrn = s.jrn ∧
      (noteFree before s).day = s.day ∧ (noteFree before s).tbl = s.tbl ∧ (noteFree before s).slc = s.slc ∧
      (noteFree before s).blc.link = s.blc.link ∧ (noteFree before s).blc.silence = s.blc.silence ∧
      (noteFree before s).blc.reassembly = s.blc.reassembly ∧ (noteFree before s).blc.sending = s.blc.sending ∧
      (noteFree before s).blc.linkAnswer = s.blc.linkAnswer ∧ (noteFree before s).blc.replies = s.blc.replies ∧
      (noteFree before s).blc.requests = s.blc.requests ∧ (noteFree before s).blc.frameCheck = s.blc.frameCheck ∧
      (noteFree before s).blc.frameForm = s.blc.frameForm ∧ (noteFree before s).mrs.places = s.mrs.places ∧
      (noteFree before s).mrs.unmatchedReplies = s.mrs.unmatchedReplies ∧
      (noteFree before s).mrs.overruns = s.mrs.overruns ∧ (noteFree before s).mrs.settings = s.mrs.settings ∧
      (noteFree before s).mrs.clock = s.mrs.clock ∧ (noteFree before s).rts = s.rts := by
  unfold noteFree; (try dsimp only); (repeat' split) <;> simp

@[simp] theorem countTeller_keeps (t : Option Nat) (s : State) :
    (countTeller t s).pending = s.pending ∧ (countTeller t s).uptime = s.uptime ∧ (countTeller t s).ttr = s.ttr ∧
      (countTeller t s).csh = s.csh ∧ (countTeller t s).scm = s.scm ∧ (countTeller t s).pbk = s.pbk ∧
      (countTeller t s).sda.accountMap = s.sda.accountMap ∧ (countTeller t s).sda.queue = s.sda.queue ∧
      (countTeller t s).sda.nextAdvice = s.sda.nextAdvice ∧ (countTeller t s).sda.unmatchedAcks = s.sda.unmatchedAcks ∧
      (countTeller t s).jrn = s.jrn ∧ (countTeller t s).day = s.day ∧ (countTeller t s).tbl = s.tbl ∧
      (countTeller t s).slc = s.slc ∧ (countTeller t s).blc.link = s.blc.link ∧
      (countTeller t s).blc.silence = s.blc.silence ∧ (countTeller t s).blc.reassembly = s.blc.reassembly ∧
      (countTeller t s).blc.sending = s.blc.sending ∧ (countTeller t s).blc.linkAnswer = s.blc.linkAnswer ∧
      (countTeller t s).blc.replies = s.blc.replies ∧ (countTeller t s).blc.requests = s.blc.requests ∧
      (countTeller t s).blc.frameCheck = s.blc.frameCheck ∧ (countTeller t s).blc.frameForm = s.blc.frameForm ∧
      (countTeller t s).mrs.places = s.mrs.places ∧ (countTeller t s).mrs.unmatchedReplies = s.mrs.unmatchedReplies ∧
      (countTeller t s).mrs.overruns = s.mrs.overruns ∧ (countTeller t s).mrs.settings = s.mrs.settings ∧
      (countTeller t s).mrs.clock = s.mrs.clock ∧ (countTeller t s).rts = s.rts := by
  unfold countTeller; (try dsimp only); (repeat' split) <;> simp

@[simp] theorem storeEntry_keeps (k : Nat) (d : Draft) (s : State) :
    (storeEntry k d s).pending = s.pending ∧ (storeEntry k d s).uptime = s.uptime ∧ (storeEntry k d s).ttr = s.ttr ∧
      (storeEntry k d s).csh = s.csh ∧ (storeEntry k d s).scm = s.scm ∧ (storeEntry k d s).pbk = s.pbk ∧
      (storeEntry k d s).sda = s.sda ∧ (storeEntry k d s).jrn.lastAccepted = s.jrn.lastAccepted ∧
      (storeEntry k d s).jrn.printedCursor = s.jrn.printedCursor ∧ (storeEntry k d s).jrn.notStored = s.jrn.notStored ∧
      (storeEntry k d s).jrn.batchCounter = s.jrn.batchCounter ∧ (storeEntry k d s).jrn.trickle = s.jrn.trickle ∧
      (storeEntry k d s).jrn.pause = s.jrn.pause ∧ (storeEntry k d s).jrn.unmatchedAcks = s.jrn.unmatchedAcks ∧
      (storeEntry k d s).day = s.day ∧ (storeEntry k d s).tbl = s.tbl ∧ (storeEntry k d s).slc = s.slc ∧
      (storeEntry k d s).blc = s.blc ∧ (storeEntry k d s).mrs = s.mrs ∧ (storeEntry k d s).rts = s.rts := by
  unfold storeEntry; (try dsimp only); (repeat' split) <;> simp

@[simp] theorem loseEntry_keeps (k : Nat) (s : State) :
    (loseEntry k s).pending = s.pending ∧ (loseEntry k s).uptime = s.uptime ∧ (loseEntry k s).ttr = s.ttr ∧
      (loseEntry k s).csh = s.csh ∧ (loseEntry k s).scm = s.scm ∧ (loseEntry k s).pbk = s.pbk ∧
      (loseEntry k s).sda = s.sda ∧ (loseEntry k s).jrn.entries = s.jrn.entries ∧
      (loseEntry k s).jrn.used = s.jrn.used ∧ (loseEntry k s).jrn.nextSeq = s.jrn.nextSeq ∧
      (loseEntry k s).jrn.lastAccepted = s.jrn.lastAccepted ∧ (loseEntry k s).jrn.printedCursor = s.jrn.printedCursor ∧
      (loseEntry k s).jrn.batchCounter = s.jrn.batchCounter ∧ (loseEntry k s).jrn.trickle = s.jrn.trickle ∧
      (loseEntry k s).jrn.pause = s.jrn.pause ∧ (loseEntry k s).jrn.unmatchedAcks = s.jrn.unmatchedAcks ∧
      (loseEntry k s).day = s.day ∧ (loseEntry k s).tbl = s.tbl ∧ (loseEntry k s).slc = s.slc ∧
      (loseEntry k s).blc.link = s.blc.link ∧ (loseEntry k s).blc.silence = s.blc.silence ∧
      (loseEntry k s).blc.reassembly = s.blc.reassembly ∧ (loseEntry k s).blc.sending = s.blc.sending ∧
      (loseEntry k s).blc.linkAnswer = s.blc.linkAnswer ∧ (loseEntry k s).blc.replies = s.blc.replies ∧
      (loseEntry k s).blc.requests = s.blc.requests ∧ (loseEntry k s).blc.frameCheck = s.blc.frameCheck ∧
      (loseEntry k s).blc.frameForm = s.blc.frameForm ∧ (loseEntry k s).mrs.places = s.mrs.places ∧
      (loseEntry k s).mrs.unmatchedReplies = s.mrs.unmatchedReplies ∧ (loseEntry k s).mrs.overruns = s.mrs.overruns ∧
      (loseEntry k s).mrs.settings = s.mrs.settings ∧ (loseEntry k s).mrs.clock = s.mrs.clock ∧
      (loseEntry k s).rts = s.rts := by
  unfold loseEntry; (try dsimp only); (repeat' split) <;> simp

@[simp] theorem writeEntry_keeps (k : Nat) (d : Draft) (s : State) :
    (writeEntry k d s).pending = s.pending ∧ (writeEntry k d s).uptime = s.uptime ∧ (writeEntry k d s).ttr = s.ttr ∧
      (writeEntry k d s).csh = s.csh ∧ (writeEntry k d s).scm = s.scm ∧ (writeEntry k d s).pbk = s.pbk ∧
      (writeEntry k d s).sda.accountMap = s.sda.accountMap ∧ (writeEntry k d s).sda.queue = s.sda.queue ∧
      (writeEntry k d s).sda.nextAdvice = s.sda.nextAdvice ∧
      (writeEntry k d s).sda.unmatchedAcks = s.sda.unmatchedAcks ∧
      (writeEntry k d s).jrn.lastAccepted = s.jrn.lastAccepted ∧
      (writeEntry k d s).jrn.printedCursor = s.jrn.printedCursor ∧
      (writeEntry k d s).jrn.batchCounter = s.jrn.batchCounter ∧ (writeEntry k d s).jrn.trickle = s.jrn.trickle ∧
      (writeEntry k d s).jrn.pause = s.jrn.pause ∧ (writeEntry k d s).jrn.unmatchedAcks = s.jrn.unmatchedAcks ∧
      (writeEntry k d s).day = s.day ∧ (writeEntry k d s).tbl = s.tbl ∧ (writeEntry k d s).slc = s.slc ∧
      (writeEntry k d s).blc.link = s.blc.link ∧ (writeEntry k d s).blc.silence = s.blc.silence ∧
      (writeEntry k d s).blc.reassembly = s.blc.reassembly ∧ (writeEntry k d s).blc.sending = s.blc.sending ∧
      (writeEntry k d s).blc.linkAnswer = s.blc.linkAnswer ∧ (writeEntry k d s).blc.replies = s.blc.replies ∧
      (writeEntry k d s).blc.requests = s.blc.requests ∧ (writeEntry k d s).blc.frameCheck = s.blc.frameCheck ∧
      (writeEntry k d s).blc.frameForm = s.blc.frameForm ∧ (writeEntry k d s).mrs.places = s.mrs.places ∧
      (writeEntry k d s).mrs.unmatchedReplies = s.mrs.unmatchedReplies ∧
      (writeEntry k d s).mrs.overruns = s.mrs.overruns ∧ (writeEntry k d s).mrs.settings = s.mrs.settings ∧
      (writeEntry k d s).mrs.clock = s.mrs.clock ∧ (writeEntry k d s).rts = s.rts := by
  unfold writeEntry; (try dsimp only); (repeat' split) <;> simp

@[simp] theorem reserveSlots_keeps (n : Nat) (s : State) :
    (reserveSlots n s).pending = s.pending ∧ (reserveSlots n s).uptime = s.uptime ∧ (reserveSlots n s).ttr = s.ttr ∧
      (reserveSlots n s).csh = s.csh ∧ (reserveSlots n s).scm = s.scm ∧ (reserveSlots n s).pbk = s.pbk ∧
      (reserveSlots n s).sda = s.sda ∧ (reserveSlots n s).jrn.entries = s.jrn.entries ∧
      (reserveSlots n s).jrn.used = s.jrn.used ∧ (reserveSlots n s).jrn.nextSeq = s.jrn.nextSeq ∧
      (reserveSlots n s).jrn.lastAccepted = s.jrn.lastAccepted ∧
      (reserveSlots n s).jrn.printedCursor = s.jrn.printedCursor ∧ (reserveSlots n s).jrn.notStored = s.jrn.notStored ∧
      (reserveSlots n s).jrn.batchCounter = s.jrn.batchCounter ∧ (reserveSlots n s).jrn.trickle = s.jrn.trickle ∧
      (reserveSlots n s).jrn.pause = s.jrn.pause ∧ (reserveSlots n s).jrn.unmatchedAcks = s.jrn.unmatchedAcks ∧
      (reserveSlots n s).day = s.day ∧ (reserveSlots n s).tbl = s.tbl ∧ (reserveSlots n s).slc = s.slc ∧
      (reserveSlots n s).blc.link = s.blc.link ∧ (reserveSlots n s).blc.silence = s.blc.silence ∧
      (reserveSlots n s).blc.reassembly = s.blc.reassembly ∧ (reserveSlots n s).blc.sending = s.blc.sending ∧
      (reserveSlots n s).blc.linkAnswer = s.blc.linkAnswer ∧ (reserveSlots n s).blc.replies = s.blc.replies ∧
      (reserveSlots n s).blc.requests = s.blc.requests ∧ (reserveSlots n s).blc.frameCheck = s.blc.frameCheck ∧
      (reserveSlots n s).blc.frameForm = s.blc.frameForm ∧ (reserveSlots n s).mrs.places = s.mrs.places ∧
      (reserveSlots n s).mrs.unmatchedReplies = s.mrs.unmatchedReplies ∧
      (reserveSlots n s).mrs.overruns = s.mrs.overruns ∧ (reserveSlots n s).mrs.settings = s.mrs.settings ∧
      (reserveSlots n s).mrs.clock = s.mrs.clock ∧ (reserveSlots n s).rts = s.rts := by
  unfold reserveSlots; (try dsimp only); (repeat' split) <;> simp

@[simp] theorem freeEntries_keeps (s : State) :
    (freeEntries s).pending = s.pending ∧ (freeEntries s).uptime = s.uptime ∧ (freeEntries s).ttr = s.ttr ∧
      (freeEntries s).csh = s.csh ∧ (freeEntries s).scm = s.scm ∧ (freeEntries s).pbk = s.pbk ∧
      (freeEntries s).sda = s.sda ∧ (freeEntries s).jrn.reserved = s.jrn.reserved ∧
      (freeEntries s).jrn.nextSeq = s.jrn.nextSeq ∧ (freeEntries s).jrn.lastAccepted = s.jrn.lastAccepted ∧
      (freeEntries s).jrn.printedCursor = s.jrn.printedCursor ∧ (freeEntries s).jrn.notStored = s.jrn.notStored ∧
      (freeEntries s).jrn.batchCounter = s.jrn.batchCounter ∧ (freeEntries s).jrn.trickle = s.jrn.trickle ∧
      (freeEntries s).jrn.pause = s.jrn.pause ∧ (freeEntries s).jrn.unmatchedAcks = s.jrn.unmatchedAcks ∧
      (freeEntries s).day = s.day ∧ (freeEntries s).tbl = s.tbl ∧ (freeEntries s).slc = s.slc ∧
      (freeEntries s).blc = s.blc ∧ (freeEntries s).mrs = s.mrs ∧ (freeEntries s).rts = s.rts := by
  unfold freeEntries; (try dsimp only); (repeat' split) <;> simp

@[simp] theorem acceptSequence_keeps (last : Nat) (s : State) :
    (acceptSequence last s).pending = s.pending ∧ (acceptSequence last s).uptime = s.uptime ∧
      (acceptSequence last s).ttr = s.ttr ∧ (acceptSequence last s).csh = s.csh ∧ (acceptSequence last s).scm = s.scm ∧
      (acceptSequence last s).pbk = s.pbk ∧ (acceptSequence last s).sda = s.sda ∧
      (acceptSequence last s).jrn.reserved = s.jrn.reserved ∧ (acceptSequence last s).jrn.nextSeq = s.jrn.nextSeq ∧
      (acceptSequence last s).jrn.printedCursor = s.jrn.printedCursor ∧
      (acceptSequence last s).jrn.notStored = s.jrn.notStored ∧
      (acceptSequence last s).jrn.batchCounter = s.jrn.batchCounter ∧
      (acceptSequence last s).jrn.trickle = s.jrn.trickle ∧ (acceptSequence last s).jrn.pause = s.jrn.pause ∧
      (acceptSequence last s).jrn.unmatchedAcks = s.jrn.unmatchedAcks ∧ (acceptSequence last s).day = s.day ∧
      (acceptSequence last s).tbl = s.tbl ∧ (acceptSequence last s).slc = s.slc ∧ (acceptSequence last s).blc = s.blc ∧
      (acceptSequence last s).mrs = s.mrs ∧ (acceptSequence last s).rts = s.rts := by
  unfold acceptSequence; (try dsimp only); (repeat' split) <;> simp

@[simp] theorem advanceBatchCounter_keeps (s : State) :
    (advanceBatchCounter s).pending = s.pending ∧ (advanceBatchCounter s).uptime = s.uptime ∧
      (advanceBatchCounter s).ttr = s.ttr ∧ (advanceBatchCounter s).csh = s.csh ∧ (advanceBatchCounter s).scm = s.scm ∧
      (advanceBatchCounter s).pbk = s.pbk ∧ (advanceBatchCounter s).sda = s.sda ∧
      (advanceBatchCounter s).jrn.entries = s.jrn.entries ∧ (advanceBatchCounter s).jrn.used = s.jrn.used ∧
      (advanceBatchCounter s).jrn.reserved = s.jrn.reserved ∧ (advanceBatchCounter s).jrn.free = s.jrn.free ∧
      (advanceBatchCounter s).jrn.nextSeq = s.jrn.nextSeq ∧
      (advanceBatchCounter s).jrn.lastAccepted = s.jrn.lastAccepted ∧
      (advanceBatchCounter s).jrn.printedCursor = s.jrn.printedCursor ∧
      (advanceBatchCounter s).jrn.notStored = s.jrn.notStored ∧ (advanceBatchCounter s).jrn.trickle = s.jrn.trickle ∧
      (advanceBatchCounter s).jrn.pause = s.jrn.pause ∧
      (advanceBatchCounter s).jrn.unmatchedAcks = s.jrn.unmatchedAcks ∧ (advanceBatchCounter s).day = s.day ∧
      (advanceBatchCounter s).tbl = s.tbl ∧ (advanceBatchCounter s).slc = s.slc ∧ (advanceBatchCounter s).blc = s.blc ∧
      (advanceBatchCounter s).mrs = s.mrs ∧ (advanceBatchCounter s).rts = s.rts := by
  unfold advanceBatchCounter; (try dsimp only); (repeat' split) <;> simp

@[simp] theorem composeWith_keeps (st : Station) (f : ScreenContext → ScreenContext) (s : State) :
    (composeWith st f s).pending = s.pending ∧ (composeWith st f s).uptime = s.uptime ∧
      (composeWith st f s).ttr = s.ttr ∧ (composeWith st f s).csh = s.csh ∧
      (composeWith st f s).scm.signOn = s.scm.signOn ∧ (composeWith st f s).scm.broadcast = s.scm.broadcast ∧
      (composeWith st f s).pbk = s.pbk ∧ (composeWith st f s).sda = s.sda ∧ (composeWith st f s).jrn = s.jrn ∧
      (composeWith st f s).day = s.day ∧ (composeWith st f s).tbl = s.tbl ∧ (composeWith st f s).slc = s.slc ∧
      (composeWith st f s).blc = s.blc ∧ (composeWith st f s).mrs = s.mrs ∧ (composeWith st f s).rts = s.rts := by
  unfold composeWith; (try dsimp only); (repeat' split) <;> simp

@[simp] theorem refresh_keeps (st : Station) (s : State) :
    (refresh st s).pending = s.pending ∧ (refresh st s).uptime = s.uptime ∧ (refresh st s).ttr = s.ttr ∧
      (refresh st s).csh = s.csh ∧ (refresh st s).scm.signOn = s.scm.signOn ∧
      (refresh st s).scm.broadcast = s.scm.broadcast ∧ (refresh st s).pbk = s.pbk ∧ (refresh st s).sda = s.sda ∧
      (refresh st s).jrn = s.jrn ∧ (refresh st s).day = s.day ∧ (refresh st s).tbl = s.tbl ∧
      (refresh st s).slc = s.slc ∧ (refresh st s).blc = s.blc ∧ (refresh st s).mrs = s.mrs ∧
      (refresh st s).rts = s.rts := by
  unfold refresh; (try dsimp only); (repeat' split) <;> simp

@[simp] theorem composeInput_keeps (st : Station) (mode : ScreenMode) (number : Option Nat) (fields : List KeyField) (err : Option Nat) (message : Text) (s : State) :
    (composeInput st mode number fields err message s).pending = s.pending ∧
      (composeInput st mode number fields err message s).uptime = s.uptime ∧
      (composeInput st mode number fields err message s).ttr = s.ttr ∧
      (composeInput st mode number fields err message s).csh = s.csh ∧
      (composeInput st mode number fields err message s).scm.signOn = s.scm.signOn ∧
      (composeInput st mode number fields err message s).scm.broadcast = s.scm.broadcast ∧
      (composeInput st mode number fields err message s).pbk = s.pbk ∧
      (composeInput st mode number fields err message s).sda = s.sda ∧
      (composeInput st mode number fields err message s).jrn = s.jrn ∧
      (composeInput st mode number fields err message s).day = s.day ∧
      (composeInput st mode number fields err message s).tbl = s.tbl ∧
      (composeInput st mode number fields err message s).slc = s.slc ∧
      (composeInput st mode number fields err message s).blc = s.blc ∧
      (composeInput st mode number fields err message s).mrs = s.mrs ∧
      (composeInput st mode number fields err message s).rts = s.rts := by
  unfold composeInput; (try dsimp only); (repeat' split) <;> simp

@[simp] theorem composePrompt_keeps (st : Station) (message : Text) (s : State) :
    (composePrompt st message s).pending = s.pending ∧ (composePrompt st message s).uptime = s.uptime ∧
      (composePrompt st message s).ttr = s.ttr ∧ (composePrompt st message s).csh = s.csh ∧
      (composePrompt st message s).scm.signOn = s.scm.signOn ∧
      (composePrompt st message s).scm.broadcast = s.scm.broadcast ∧ (composePrompt st message s).pbk = s.pbk ∧
      (composePrompt st message s).sda = s.sda ∧ (composePrompt st message s).jrn = s.jrn ∧
      (composePrompt st message s).day = s.day ∧ (composePrompt st message s).tbl = s.tbl ∧
      (composePrompt st message s).slc = s.slc ∧ (composePrompt st message s).blc = s.blc ∧
      (composePrompt st message s).mrs = s.mrs ∧ (composePrompt st message s).rts = s.rts := by
  unfold composePrompt; (try dsimp only); (repeat' split) <;> simp

@[simp] theorem composeKept_keeps (st : Station) (mode : ScreenMode) (message : Text) (s : State) :
    (composeKept st mode message s).pending = s.pending ∧ (composeKept st mode message s).uptime = s.uptime ∧
      (composeKept st mode message s).ttr = s.ttr ∧ (composeKept st mode message s).csh = s.csh ∧
      (composeKept st mode message s).scm.signOn = s.scm.signOn ∧
      (composeKept st mode message s).scm.broadcast = s.scm.broadcast ∧ (composeKept st mode message s).pbk = s.pbk ∧
      (composeKept st mode message s).sda = s.sda ∧ (composeKept st mode message s).jrn = s.jrn ∧
      (composeKept st mode message s).day = s.day ∧ (composeKept st mode message s).tbl = s.tbl ∧
      (composeKept st mode message s).slc = s.slc ∧ (composeKept st mode message s).blc = s.blc ∧
      (composeKept st mode message s).mrs = s.mrs ∧ (composeKept st mode message s).rts = s.rts := by
  unfold composeKept; (try dsimp only); (repeat' split) <;> simp

@[simp] theorem composeResult_keeps (st : Station) (number : Nat) (info : ResultInfo) (message : Text) (s : State) :
    (composeResult st number info message s).pending = s.pending ∧
      (composeResult st number info message s).uptime = s.uptime ∧
      (composeResult st number info message s).ttr = s.ttr ∧ (composeResult st number info message s).csh = s.csh ∧
      (composeResult st number info message s).scm.signOn = s.scm.signOn ∧
      (composeResult st number info message s).scm.broadcast = s.scm.broadcast ∧
      (composeResult st number info message s).pbk = s.pbk ∧ (composeResult st number info message s).sda = s.sda ∧
      (composeResult st number info message s).jrn = s.jrn ∧ (composeResult st number info message s).day = s.day ∧
      (composeResult st number info message s).tbl = s.tbl ∧ (composeResult st number info message s).slc = s.slc ∧
      (composeResult st number info message s).blc = s.blc ∧ (composeResult st number info message s).mrs = s.mrs ∧
      (composeResult st number info message s).rts = s.rts := by
  unfold composeResult; (try dsimp only); (repeat' split) <;> simp

@[simp] theorem refusalScreen_keeps (st : Station) (r : KeyRequest) (why : Reason) (s : State) :
    (refusalScreen st r why s).pending = s.pending ∧ (refusalScreen st r why s).uptime = s.uptime ∧
      (refusalScreen st r why s).ttr = s.ttr ∧ (refusalScreen st r why s).csh = s.csh ∧
      (refusalScreen st r why s).scm.signOn = s.scm.signOn ∧
      (refusalScreen st r why s).scm.broadcast = s.scm.broadcast ∧ (refusalScreen st r why s).pbk = s.pbk ∧
      (refusalScreen st r why s).sda = s.sda ∧ (refusalScreen st r why s).jrn = s.jrn ∧
      (refusalScreen st r why s).day = s.day ∧ (refusalScreen st r why s).tbl = s.tbl ∧
      (refusalScreen st r why s).slc = s.slc ∧ (refusalScreen st r why s).blc = s.blc ∧
      (refusalScreen st r why s).mrs = s.mrs ∧ (refusalScreen st r why s).rts = s.rts := by
  unfold refusalScreen; (try dsimp only); (repeat' split) <;> simp

@[simp] theorem clearContext_keeps (st : Station) (s : State) :
    (clearContext st s).pending = s.pending ∧ (clearContext st s).uptime = s.uptime ∧
      (clearContext st s).ttr = s.ttr ∧ (clearContext st s).csh = s.csh ∧
      (clearContext st s).scm.signOn = s.scm.signOn ∧ (clearContext st s).scm.broadcast = s.scm.broadcast ∧
      (clearContext st s).pbk = s.pbk ∧ (clearContext st s).sda = s.sda ∧ (clearContext st s).jrn = s.jrn ∧
      (clearContext st s).day = s.day ∧ (clearContext st s).tbl = s.tbl ∧ (clearContext st s).slc = s.slc ∧
      (clearContext st s).blc = s.blc ∧ (clearContext st s).mrs = s.mrs ∧ (clearContext st s).rts = s.rts := by
  unfold clearContext; (try dsimp only); (repeat' split) <;> simp

@[simp] theorem freshContext_keeps (st : Station) (s : State) :
    (freshContext st s).pending = s.pending ∧ (freshContext st s).uptime = s.uptime ∧
      (freshContext st s).ttr = s.ttr ∧ (freshContext st s).csh = s.csh ∧
      (freshContext st s).scm.signOn = s.scm.signOn ∧ (freshContext st s).scm.broadcast = s.scm.broadcast ∧
      (freshContext st s).pbk = s.pbk ∧ (freshContext st s).sda = s.sda ∧ (freshContext st s).jrn = s.jrn ∧
      (freshContext st s).day = s.day ∧ (freshContext st s).tbl = s.tbl ∧ (freshContext st s).slc = s.slc ∧
      (freshContext st s).blc = s.blc ∧ (freshContext st s).mrs = s.mrs ∧ (freshContext st s).rts = s.rts := by
  unfold freshContext; (try dsimp only); (repeat' split) <;> simp

@[simp] theorem pendBoth_keeps (st : Station) (s : State) :
    (pendBoth st s).pending = s.pending ∧ (pendBoth st s).uptime = s.uptime ∧ (pendBoth st s).ttr = s.ttr ∧
      (pendBoth st s).csh = s.csh ∧ (pendBoth st s).scm.signOn = s.scm.signOn ∧
      (pendBoth st s).scm.broadcast = s.scm.broadcast ∧ (pendBoth st s).pbk = s.pbk ∧ (pendBoth st s).sda = s.sda ∧
      (pendBoth st s).jrn = s.jrn ∧ (pendBoth st s).day = s.day ∧ (pendBoth st s).tbl = s.tbl ∧
      (pendBoth st s).slc = s.slc ∧ (pendBoth st s).blc = s.blc ∧ (pendBoth st s).mrs = s.mrs ∧
      (pendBoth st s).rts = s.rts := by
  unfold pendBoth; (try dsimp only); (repeat' split) <;> simp

@[simp] theorem pendImage_keeps (st : Station) (d : Drop) (s : State) :
    (pendImage st d s).pending = s.pending ∧ (pendImage st d s).uptime = s.uptime ∧ (pendImage st d s).ttr = s.ttr ∧
      (pendImage st d s).csh = s.csh ∧ (pendImage st d s).scm.signOn = s.scm.signOn ∧
      (pendImage st d s).scm.broadcast = s.scm.broadcast ∧ (pendImage st d s).pbk = s.pbk ∧
      (pendImage st d s).sda = s.sda ∧ (pendImage st d s).jrn = s.jrn ∧ (pendImage st d s).day = s.day ∧
      (pendImage st d s).tbl = s.tbl ∧ (pendImage st d s).slc = s.slc ∧ (pendImage st d s).blc = s.blc ∧
      (pendImage st d s).mrs = s.mrs ∧ (pendImage st d s).rts = s.rts := by
  unfold pendImage; (try dsimp only); (repeat' split) <;> simp

@[simp] theorem forStations_refresh_keeps (s : State) :
    (forStations refresh s).pending = s.pending ∧ (forStations refresh s).uptime = s.uptime ∧
      (forStations refresh s).ttr = s.ttr ∧ (forStations refresh s).csh = s.csh ∧
      (forStations refresh s).scm.signOn = s.scm.signOn ∧ (forStations refresh s).scm.broadcast = s.scm.broadcast ∧
      (forStations refresh s).pbk = s.pbk ∧ (forStations refresh s).sda = s.sda ∧ (forStations refresh s).jrn = s.jrn ∧
      (forStations refresh s).day = s.day ∧ (forStations refresh s).tbl = s.tbl ∧ (forStations refresh s).slc = s.slc ∧
      (forStations refresh s).blc = s.blc ∧ (forStations refresh s).mrs = s.mrs ∧ (forStations refresh s).rts = s.rts := by
  exact ⟨forStations_keeps (fun x => x.pending) _ (by intros; simp) s,
    forStations_keeps (fun x => x.uptime) _ (by intros; simp) s,
    forStations_keeps (fun x => x.ttr) _ (by intros; simp) s,
    forStations_keeps (fun x => x.csh) _ (by intros; simp) s,
    forStations_keeps (fun x => x.scm.signOn) _ (by intros; simp) s,
    forStations_keeps (fun x => x.scm.broadcast) _ (by intros; simp) s,
    forStations_keeps (fun x => x.pbk) _ (by intros; simp) s,
    forStations_keeps (fun x => x.sda) _ (by intros; simp) s,
    forStations_keeps (fun x => x.jrn) _ (by intros; simp) s,
    forStations_keeps (fun x => x.day) _ (by intros; simp) s,
    forStations_keeps (fun x => x.tbl) _ (by intros; simp) s,
    forStations_keeps (fun x => x.slc) _ (by intros; simp) s,
    forStations_keeps (fun x => x.blc) _ (by intros; simp) s,
    forStations_keeps (fun x => x.mrs) _ (by intros; simp) s,
    forStations_keeps (fun x => x.rts) _ (by intros; simp) s⟩

@[simp] theorem refreshAll_keeps (s : State) :
    (refreshAll s).pending = s.pending ∧ (refreshAll s).uptime = s.uptime ∧ (refreshAll s).ttr = s.ttr ∧
      (refreshAll s).csh = s.csh ∧ (refreshAll s).scm.signOn = s.scm.signOn ∧
      (refreshAll s).scm.broadcast = s.scm.broadcast ∧ (refreshAll s).pbk = s.pbk ∧ (refreshAll s).sda = s.sda ∧
      (refreshAll s).jrn = s.jrn ∧ (refreshAll s).day = s.day ∧ (refreshAll s).tbl = s.tbl ∧
      (refreshAll s).slc = s.slc ∧ (refreshAll s).blc = s.blc ∧ (refreshAll s).mrs = s.mrs ∧
      (refreshAll s).rts = s.rts := by
  unfold refreshAll; simp

@[simp] theorem evaluateExcess_keeps (st : Station) (t : Nat) (s : State) :
    (evaluateExcess st t s).pending = s.pending ∧ (evaluateExcess st t s).uptime = s.uptime ∧
      (evaluateExcess st t s).ttr = s.ttr ∧ (evaluateExcess st t s).csh.reserve = s.csh.reserve ∧
      (evaluateExcess st t s).scm.signOn = s.scm.signOn ∧ (evaluateExcess st t s).scm.broadcast = s.scm.broadcast ∧
      (evaluateExcess st t s).pbk = s.pbk ∧ (evaluateExcess st t s).sda = s.sda ∧ (evaluateExcess st t s).jrn = s.jrn ∧
      (evaluateExcess st t s).day = s.day ∧ (evaluateExcess st t s).tbl = s.tbl ∧ (evaluateExcess st t s).slc = s.slc ∧
      (evaluateExcess st t s).blc.link = s.blc.link ∧ (evaluateExcess st t s).blc.silence = s.blc.silence ∧
      (evaluateExcess st t s).blc.reassembly = s.blc.reassembly ∧ (evaluateExcess st t s).blc.sending = s.blc.sending ∧
      (evaluateExcess st t s).blc.linkAnswer = s.blc.linkAnswer ∧ (evaluateExcess st t s).blc.replies = s.blc.replies ∧
      (evaluateExcess st t s).blc.requests = s.blc.requests ∧
      (evaluateExcess st t s).blc.frameCheck = s.blc.frameCheck ∧
      (evaluateExcess st t s).blc.frameForm = s.blc.frameForm ∧ (evaluateExcess st t s).mrs.places = s.mrs.places ∧
      (evaluateExcess st t s).mrs.unmatchedReplies = s.mrs.unmatchedReplies ∧
      (evaluateExcess st t s).mrs.overruns = s.mrs.overruns ∧ (evaluateExcess st t s).mrs.settings = s.mrs.settings ∧
      (evaluateExcess st t s).mrs.clock = s.mrs.clock ∧ (evaluateExcess st t s).rts = s.rts := by
  unfold evaluateExcess; (try dsimp only); (repeat' split) <;> simp

@[simp] theorem requestPulse_keeps (st : Station) (s : State) :
    (requestPulse st s).pending = s.pending ∧ (requestPulse st s).uptime = s.uptime ∧
      (requestPulse st s).ttr = s.ttr ∧ (requestPulse st s).csh = s.csh ∧ (requestPulse st s).scm = s.scm ∧
      (requestPulse st s).pbk = s.pbk ∧ (requestPulse st s).sda = s.sda ∧ (requestPulse st s).jrn = s.jrn ∧
      (requestPulse st s).day = s.day ∧ (requestPulse st s).tbl = s.tbl ∧
      (requestPulse st s).slc.samples = s.slc.samples ∧ (requestPulse st s).blc = s.blc ∧
      (requestPulse st s).mrs = s.mrs ∧ (requestPulse st s).rts = s.rts := by
  unfold requestPulse; (try dsimp only); (repeat' split) <;> simp

@[simp] theorem postAt_keeps (st : Station) (teller : Nat) (leg : Leg) (counts : Leg → Position → Position) (s : State) :
    (postAt st teller leg counts s).pending = s.pending ∧ (postAt st teller leg counts s).uptime = s.uptime ∧
      (postAt st teller leg counts s).ttr = s.ttr ∧ (postAt st teller leg counts s).csh.reserve = s.csh.reserve ∧
      (postAt st teller leg counts s).scm.signOn = s.scm.signOn ∧
      (postAt st teller leg counts s).scm.broadcast = s.scm.broadcast ∧ (postAt st teller leg counts s).pbk = s.pbk ∧
      (postAt st teller leg counts s).sda = s.sda ∧ (postAt st teller leg counts s).jrn = s.jrn ∧
      (postAt st teller leg counts s).day = s.day ∧ (postAt st teller leg counts s).tbl = s.tbl ∧
      (postAt st teller leg counts s).slc = s.slc ∧ (postAt st teller leg counts s).blc.link = s.blc.link ∧
      (postAt st teller leg counts s).blc.silence = s.blc.silence ∧
      (postAt st teller leg counts s).blc.reassembly = s.blc.reassembly ∧
      (postAt st teller leg counts s).blc.sending = s.blc.sending ∧
      (postAt st teller leg counts s).blc.linkAnswer = s.blc.linkAnswer ∧
      (postAt st teller leg counts s).blc.replies = s.blc.replies ∧
      (postAt st teller leg counts s).blc.requests = s.blc.requests ∧
      (postAt st teller leg counts s).blc.frameCheck = s.blc.frameCheck ∧
      (postAt st teller leg counts s).blc.frameForm = s.blc.frameForm ∧
      (postAt st teller leg counts s).mrs.places = s.mrs.places ∧
      (postAt st teller leg counts s).mrs.unmatchedReplies = s.mrs.unmatchedReplies ∧
      (postAt st teller leg counts s).mrs.overruns = s.mrs.overruns ∧
      (postAt st teller leg counts s).mrs.settings = s.mrs.settings ∧
      (postAt st teller leg counts s).mrs.clock = s.mrs.clock ∧ (postAt st teller leg counts s).rts = s.rts := by
  unfold postAt; (try dsimp only); (repeat' split) <;> simp

@[simp] theorem postLeg_keeps (st : Station) (teller : Nat) (leg : Leg) (s : State) :
    (postLeg st teller leg s).pending = s.pending ∧ (postLeg st teller leg s).uptime = s.uptime ∧
      (postLeg st teller leg s).ttr = s.ttr ∧ (postLeg st teller leg s).csh.reserve = s.csh.reserve ∧
      (postLeg st teller leg s).scm.signOn = s.scm.signOn ∧ (postLeg st teller leg s).scm.broadcast = s.scm.broadcast ∧
      (postLeg st teller leg s).pbk = s.pbk ∧ (postLeg st teller leg s).sda = s.sda ∧
      (postLeg st teller leg s).jrn = s.jrn ∧ (postLeg st teller leg s).day = s.day ∧
      (postLeg st teller leg s).tbl = s.tbl ∧ (postLeg st teller leg s).slc = s.slc ∧
      (postLeg st teller leg s).blc.link = s.blc.link ∧ (postLeg st teller leg s).blc.silence = s.blc.silence ∧
      (postLeg st teller leg s).blc.reassembly = s.blc.reassembly ∧
      (postLeg st teller leg s).blc.sending = s.blc.sending ∧
      (postLeg st teller leg s).blc.linkAnswer = s.blc.linkAnswer ∧
      (postLeg st teller leg s).blc.replies = s.blc.replies ∧ (postLeg st teller leg s).blc.requests = s.blc.requests ∧
      (postLeg st teller leg s).blc.frameCheck = s.blc.frameCheck ∧
      (postLeg st teller leg s).blc.frameForm = s.blc.frameForm ∧ (postLeg st teller leg s).mrs.places = s.mrs.places ∧
      (postLeg st teller leg s).mrs.unmatchedReplies = s.mrs.unmatchedReplies ∧
      (postLeg st teller leg s).mrs.overruns = s.mrs.overruns ∧
      (postLeg st teller leg s).mrs.settings = s.mrs.settings ∧ (postLeg st teller leg s).mrs.clock = s.mrs.clock ∧
      (postLeg st teller leg s).rts = s.rts := by
  unfold postLeg; (try dsimp only); (repeat' split) <;> simp

@[simp] theorem postStandin_keeps (st : Station) (teller : Nat) (leg : Leg) (s : State) :
    (postStandin st teller leg s).pending = s.pending ∧ (postStandin st teller leg s).uptime = s.uptime ∧
      (postStandin st teller leg s).ttr = s.ttr ∧ (postStandin st teller leg s).csh.reserve = s.csh.reserve ∧
      (postStandin st teller leg s).scm.signOn = s.scm.signOn ∧
      (postStandin st teller leg s).scm.broadcast = s.scm.broadcast ∧ (postStandin st teller leg s).pbk = s.pbk ∧
      (postStandin st teller leg s).sda = s.sda ∧ (postStandin st teller leg s).jrn = s.jrn ∧
      (postStandin st teller leg s).day = s.day ∧ (postStandin st teller leg s).tbl = s.tbl ∧
      (postStandin st teller leg s).slc = s.slc ∧ (postStandin st teller leg s).blc.link = s.blc.link ∧
      (postStandin st teller leg s).blc.silence = s.blc.silence ∧
      (postStandin st teller leg s).blc.reassembly = s.blc.reassembly ∧
      (postStandin st teller leg s).blc.sending = s.blc.sending ∧
      (postStandin st teller leg s).blc.linkAnswer = s.blc.linkAnswer ∧
      (postStandin st teller leg s).blc.replies = s.blc.replies ∧
      (postStandin st teller leg s).blc.requests = s.blc.requests ∧
      (postStandin st teller leg s).blc.frameCheck = s.blc.frameCheck ∧
      (postStandin st teller leg s).blc.frameForm = s.blc.frameForm ∧
      (postStandin st teller leg s).mrs.places = s.mrs.places ∧
      (postStandin st teller leg s).mrs.unmatchedReplies = s.mrs.unmatchedReplies ∧
      (postStandin st teller leg s).mrs.overruns = s.mrs.overruns ∧
      (postStandin st teller leg s).mrs.settings = s.mrs.settings ∧
      (postStandin st teller leg s).mrs.clock = s.mrs.clock ∧ (postStandin st teller leg s).rts = s.rts := by
  unfold postStandin; (try dsimp only); (repeat' split) <;> simp

@[simp] theorem reserveLeg_keeps (st : Station) (leg : Option Leg) (s : State) :
    (reserveLeg st leg s).pending = s.pending ∧ (reserveLeg st leg s).uptime = s.uptime ∧
      (reserveLeg st leg s).ttr = s.ttr ∧ (reserveLeg st leg s).csh.reserve = s.csh.reserve ∧
      (reserveLeg st leg s).scm = s.scm ∧ (reserveLeg st leg s).pbk = s.pbk ∧ (reserveLeg st leg s).sda = s.sda ∧
      (reserveLeg st leg s).jrn = s.jrn ∧ (reserveLeg st leg s).day = s.day ∧ (reserveLeg st leg s).tbl = s.tbl ∧
      (reserveLeg st leg s).slc = s.slc ∧ (reserveLeg st leg s).blc = s.blc ∧ (reserveLeg st leg s).mrs = s.mrs ∧
      (reserveLeg st leg s).rts = s.rts := by
  unfold reserveLeg; (try dsimp only); (repeat' split) <;> simp

@[simp] theorem releaseLeg_keeps (st : Station) (leg : Option Leg) (s : State) :
    (releaseLeg st leg s).pending = s.pending ∧ (releaseLeg st leg s).uptime = s.uptime ∧
      (releaseLeg st leg s).ttr = s.ttr ∧ (releaseLeg st leg s).csh.reserve = s.csh.reserve ∧
      (releaseLeg st leg s).scm = s.scm ∧ (releaseLeg st leg s).pbk = s.pbk ∧ (releaseLeg st leg s).sda = s.sda ∧
      (releaseLeg st leg s).jrn = s.jrn ∧ (releaseLeg st leg s).day = s.day ∧ (releaseLeg st leg s).tbl = s.tbl ∧
      (releaseLeg st leg s).slc = s.slc ∧ (releaseLeg st leg s).blc = s.blc ∧ (releaseLeg st leg s).mrs = s.mrs ∧
      (releaseLeg st leg s).rts = s.rts := by
  unfold releaseLeg; (try dsimp only); (repeat' split) <;> simp

@[simp] theorem carryTransfer_keeps (toReserve : Bool) (st : Station) (teller : Nat) (b : Breakdown) (s : State) :
    (carryTransfer toReserve st teller b s).pending = s.pending ∧
      (carryTransfer toReserve st teller b s).uptime = s.uptime ∧ (carryTransfer toReserve st teller b s).ttr = s.ttr ∧
      (carryTransfer toReserve st teller b s).scm.signOn = s.scm.signOn ∧
      (carryTransfer toReserve st teller b s).scm.broadcast = s.scm.broadcast ∧
      (carryTransfer toReserve st teller b s).pbk = s.pbk ∧ (carryTransfer toReserve st teller b s).sda = s.sda ∧
      (carryTransfer toReserve st teller b s).jrn = s.jrn ∧ (carryTransfer toReserve st teller b s).day = s.day ∧
      (carryTransfer toReserve st teller b s).tbl = s.tbl ∧
      (carryTransfer toReserve st teller b s).slc.samples = s.slc.samples ∧
      (carryTransfer toReserve st teller b s).blc.link = s.blc.link ∧
      (carryTransfer toReserve st teller b s).blc.silence = s.blc.silence ∧
      (carryTransfer toReserve st teller b s).blc.reassembly = s.blc.reassembly ∧
      (carryTransfer toReserve st teller b s).blc.sending = s.blc.sending ∧
      (carryTransfer toReserve st teller b s).blc.linkAnswer = s.blc.linkAnswer ∧
      (carryTransfer toReserve st teller b s).blc.replies = s.blc.replies ∧
      (carryTransfer toReserve st teller b s).blc.requests = s.blc.requests ∧
      (carryTransfer toReserve st teller b s).blc.frameCheck = s.blc.frameCheck ∧
      (carryTransfer toReserve st teller b s).blc.frameForm = s.blc.frameForm ∧
      (carryTransfer toReserve st teller b s).mrs.places = s.mrs.places ∧
      (carryTransfer toReserve st teller b s).mrs.unmatchedReplies = s.mrs.unmatchedReplies ∧
      (carryTransfer toReserve st teller b s).mrs.overruns = s.mrs.overruns ∧
      (carryTransfer toReserve st teller b s).mrs.settings = s.mrs.settings ∧
      (carryTransfer toReserve st teller b s).mrs.clock = s.mrs.clock ∧
      (carryTransfer toReserve st teller b s).rts = s.rts := by
  unfold carryTransfer; (try dsimp only); (repeat' split) <;> simp

@[simp] theorem unmark_keeps (target : Option Station) (s : State) :
    (unmark target s).pending = s.pending ∧ (unmark target s).uptime = s.uptime ∧ (unmark target s).ttr = s.ttr ∧
      (unmark target s).csh = s.csh ∧ (unmark target s).scm = s.scm ∧ (unmark target s).pbk = s.pbk ∧
      (unmark target s).sda = s.sda ∧ (unmark target s).jrn = s.jrn ∧ (unmark target s).day.state = s.day.state ∧
      (unmark target s).day.date = s.day.date ∧ (unmark target s).day.settlement = s.day.settlement ∧
      (unmark target s).tbl = s.tbl ∧ (unmark target s).slc = s.slc ∧ (unmark target s).blc = s.blc ∧
      (unmark target s).mrs = s.mrs ∧ (unmark target s).rts = s.rts := by
  unfold unmark; (try dsimp only); (repeat' split) <;> simp

@[simp] theorem carryBalance_keeps (target : Option Station) (teller : Nat) (declared : List Nat) (s : State) :
    (carryBalance target teller declared s).pending = s.pending ∧
      (carryBalance target teller declared s).uptime = s.uptime ∧ (carryBalance target teller declared s).ttr = s.ttr ∧
      (carryBalance target teller declared s).scm.signOn = s.scm.signOn ∧
      (carryBalance target teller declared s).scm.broadcast = s.scm.broadcast ∧
      (carryBalance target teller declared s).pbk = s.pbk ∧ (carryBalance target teller declared s).sda = s.sda ∧
      (carryBalance target teller declared s).jrn = s.jrn ∧
      (carryBalance target teller declared s).day.state = s.day.state ∧
      (carryBalance target teller declared s).day.date = s.day.date ∧
      (carryBalance target teller declared s).day.settlement = s.day.settlement ∧
      (carryBalance target teller declared s).tbl = s.tbl ∧
      (carryBalance target teller declared s).slc.samples = s.slc.samples ∧
      (carryBalance target teller declared s).blc.link = s.blc.link ∧
      (carryBalance target teller declared s).blc.silence = s.blc.silence ∧
      (carryBalance target teller declared s).blc.reassembly = s.blc.reassembly ∧
      (carryBalance target teller declared s).blc.sending = s.blc.sending ∧
      (carryBalance target teller declared s).blc.linkAnswer = s.blc.linkAnswer ∧
      (carryBalance target teller declared s).blc.replies = s.blc.replies ∧
      (carryBalance target teller declared s).blc.requests = s.blc.requests ∧
      (carryBalance target teller declared s).blc.frameCheck = s.blc.frameCheck ∧
      (carryBalance target teller declared s).blc.frameForm = s.blc.frameForm ∧
      (carryBalance target teller declared s).mrs.places = s.mrs.places ∧
      (carryBalance target teller declared s).mrs.unmatchedReplies = s.mrs.unmatchedReplies ∧
      (carryBalance target teller declared s).mrs.overruns = s.mrs.overruns ∧
      (carryBalance target teller declared s).mrs.settings = s.mrs.settings ∧
      (carryBalance target teller declared s).mrs.clock = s.mrs.clock ∧
      (carryBalance target teller declared s).rts = s.rts := by
  unfold carryBalance; (try dsimp only); (repeat' split) <;> simp

@[simp] theorem tellerDayOn_keeps (t : Nat) (st : Station) (s : State) :
    (tellerDayOn t st s).pending = s.pending ∧ (tellerDayOn t st s).uptime = s.uptime ∧
      (tellerDayOn t st s).ttr = s.ttr ∧ (tellerDayOn t st s).csh = s.csh ∧ (tellerDayOn t st s).scm = s.scm ∧
      (tellerDayOn t st s).pbk = s.pbk ∧ (tellerDayOn t st s).sda.accountMap = s.sda.accountMap ∧
      (tellerDayOn t st s).sda.queue = s.sda.queue ∧ (tellerDayOn t st s).sda.nextAdvice = s.sda.nextAdvice ∧
      (tellerDayOn t st s).sda.unmatchedAcks = s.sda.unmatchedAcks ∧ (tellerDayOn t st s).jrn = s.jrn ∧
      (tellerDayOn t st s).day = s.day ∧ (tellerDayOn t st s).tbl = s.tbl ∧ (tellerDayOn t st s).slc = s.slc ∧
      (tellerDayOn t st s).blc = s.blc ∧ (tellerDayOn t st s).mrs = s.mrs ∧ (tellerDayOn t st s).rts = s.rts := by
  unfold tellerDayOn; (try dsimp only); (repeat' split) <;> simp

@[simp] theorem tellerDayOff_keeps (t : Nat) (s : State) :
    (tellerDayOff t s).pending = s.pending ∧ (tellerDayOff t s).uptime = s.uptime ∧ (tellerDayOff t s).ttr = s.ttr ∧
      (tellerDayOff t s).csh = s.csh ∧ (tellerDayOff t s).scm = s.scm ∧ (tellerDayOff t s).pbk = s.pbk ∧
      (tellerDayOff t s).sda.accountMap = s.sda.accountMap ∧ (tellerDayOff t s).sda.queue = s.sda.queue ∧
      (tellerDayOff t s).sda.nextAdvice = s.sda.nextAdvice ∧
      (tellerDayOff t s).sda.unmatchedAcks = s.sda.unmatchedAcks ∧ (tellerDayOff t s).jrn = s.jrn ∧
      (tellerDayOff t s).day = s.day ∧ (tellerDayOff t s).tbl = s.tbl ∧ (tellerDayOff t s).slc = s.slc ∧
      (tellerDayOff t s).blc = s.blc ∧ (tellerDayOff t s).mrs = s.mrs ∧ (tellerDayOff t s).rts = s.rts := by
  unfold tellerDayOff; (try dsimp only); (repeat' split) <;> simp

@[simp] theorem recordDebit_keeps (t : Nat) (account : Text) (a : Nat) (s : State) :
    (recordDebit t account a s).pending = s.pending ∧ (recordDebit t account a s).uptime = s.uptime ∧
      (recordDebit t account a s).ttr = s.ttr ∧ (recordDebit t account a s).csh = s.csh ∧
      (recordDebit t account a s).scm = s.scm ∧ (recordDebit t account a s).pbk = s.pbk ∧
      (recordDebit t account a s).sda.queue = s.sda.queue ∧
      (recordDebit t account a s).sda.nextAdvice = s.sda.nextAdvice ∧
      (recordDebit t account a s).sda.unmatchedAcks = s.sda.unmatchedAcks ∧ (recordDebit t account a s).jrn = s.jrn ∧
      (recordDebit t account a s).day = s.day ∧ (recordDebit t account a s).tbl = s.tbl ∧
      (recordDebit t account a s).slc = s.slc ∧ (recordDebit t account a s).blc = s.blc ∧
      (recordDebit t account a s).mrs = s.mrs ∧ (recordDebit t account a s).rts = s.rts := by
  unfold recordDebit; (try dsimp only); (repeat' split) <;> simp

@[simp] theorem advanceAdvice_keeps (n : Nat) (s : State) :
    (advanceAdvice n s).pending = s.pending ∧ (advanceAdvice n s).uptime = s.uptime ∧
      (advanceAdvice n s).ttr = s.ttr ∧ (advanceAdvice n s).csh = s.csh ∧ (advanceAdvice n s).scm = s.scm ∧
      (advanceAdvice n s).pbk = s.pbk ∧ (advanceAdvice n s).sda.tellerDays = s.sda.tellerDays ∧
      (advanceAdvice n s).sda.accountMap = s.sda.accountMap ∧ (advanceAdvice n s).sda.queue = s.sda.queue ∧
      (advanceAdvice n s).sda.unmatchedAcks = s.sda.unmatchedAcks ∧ (advanceAdvice n s).jrn = s.jrn ∧
      (advanceAdvice n s).day = s.day ∧ (advanceAdvice n s).tbl = s.tbl ∧ (advanceAdvice n s).slc = s.slc ∧
      (advanceAdvice n s).blc = s.blc ∧ (advanceAdvice n s).mrs = s.mrs ∧ (advanceAdvice n s).rts = s.rts := by
  unfold advanceAdvice; (try dsimp only); (repeat' split) <;> simp

@[simp] theorem queueAdvice_keeps (body : AdviceBody) (s : State) :
    (queueAdvice body s).pending = s.pending ∧ (queueAdvice body s).uptime = s.uptime ∧
      (queueAdvice body s).ttr = s.ttr ∧ (queueAdvice body s).csh = s.csh ∧ (queueAdvice body s).scm = s.scm ∧
      (queueAdvice body s).pbk = s.pbk ∧ (queueAdvice body s).sda.tellerDays = s.sda.tellerDays ∧
      (queueAdvice body s).sda.accountMap = s.sda.accountMap ∧
      (queueAdvice body s).sda.unmatchedAcks = s.sda.unmatchedAcks ∧ (queueAdvice body s).jrn = s.jrn ∧
      (queueAdvice body s).day = s.day ∧ (queueAdvice body s).tbl = s.tbl ∧ (queueAdvice body s).slc = s.slc ∧
      (queueAdvice body s).blc = s.blc ∧ (queueAdvice body s).mrs = s.mrs ∧ (queueAdvice body s).rts = s.rts := by
  unfold queueAdvice; (try dsimp only); (repeat' split) <;> simp

@[simp] theorem queueReversal_keeps (ref : Ref) (cause : ReversalCause) (dir : CashDirection) (amount : Nat) (s : State) :
    (queueReversal ref cause dir amount s).pending = s.pending ∧
      (queueReversal ref cause dir amount s).uptime = s.uptime ∧ (queueReversal ref cause dir amount s).ttr = s.ttr ∧
      (queueReversal ref cause dir amount s).csh = s.csh ∧ (queueReversal ref cause dir amount s).scm = s.scm ∧
      (queueReversal ref cause dir amount s).pbk = s.pbk ∧
      (queueReversal ref cause dir amount s).sda.tellerDays = s.sda.tellerDays ∧
      (queueReversal ref cause dir amount s).sda.accountMap = s.sda.accountMap ∧
      (queueReversal ref cause dir amount s).sda.unmatchedAcks = s.sda.unmatchedAcks ∧
      (queueReversal ref cause dir amount s).jrn = s.jrn ∧ (queueReversal ref cause dir amount s).day = s.day ∧
      (queueReversal ref cause dir amount s).tbl = s.tbl ∧ (queueReversal ref cause dir amount s).slc = s.slc ∧
      (queueReversal ref cause dir amount s).blc = s.blc ∧ (queueReversal ref cause dir amount s).mrs = s.mrs ∧
      (queueReversal ref cause dir amount s).rts = s.rts := by
  unfold queueReversal; (try dsimp only); (repeat' split) <;> simp

@[simp] theorem queueAlarm_keeps (st : Station) (s : State) :
    (queueAlarm st s).pending = s.pending ∧ (queueAlarm st s).uptime = s.uptime ∧ (queueAlarm st s).ttr = s.ttr ∧
      (queueAlarm st s).csh = s.csh ∧ (queueAlarm st s).scm = s.scm ∧ (queueAlarm st s).pbk = s.pbk ∧
      (queueAlarm st s).sda.tellerDays = s.sda.tellerDays ∧ (queueAlarm st s).sda.accountMap = s.sda.accountMap ∧
      (queueAlarm st s).sda.unmatchedAcks = s.sda.unmatchedAcks ∧ (queueAlarm st s).jrn = s.jrn ∧
      (queueAlarm st s).day = s.day ∧ (queueAlarm st s).tbl = s.tbl ∧ (queueAlarm st s).slc = s.slc ∧
      (queueAlarm st s).blc = s.blc ∧ (queueAlarm st s).mrs = s.mrs ∧ (queueAlarm st s).rts = s.rts := by
  unfold queueAlarm; (try dsimp only); (repeat' split) <;> simp

@[simp] theorem raiseAlarm_keeps (st : Station) (s : State) :
    (raiseAlarm st s).pending = s.pending ∧ (raiseAlarm st s).uptime = s.uptime ∧ (raiseAlarm st s).ttr = s.ttr ∧
      (raiseAlarm st s).csh = s.csh ∧ (raiseAlarm st s).scm = s.scm ∧ (raiseAlarm st s).pbk = s.pbk ∧
      (raiseAlarm st s).sda.accountMap = s.sda.accountMap ∧ (raiseAlarm st s).sda.unmatchedAcks = s.sda.unmatchedAcks ∧
      (raiseAlarm st s).jrn.lastAccepted = s.jrn.lastAccepted ∧
      (raiseAlarm st s).jrn.printedCursor = s.jrn.printedCursor ∧
      (raiseAlarm st s).jrn.batchCounter = s.jrn.batchCounter ∧ (raiseAlarm st s).jrn.trickle = s.jrn.trickle ∧
      (raiseAlarm st s).jrn.pause = s.jrn.pause ∧ (raiseAlarm st s).jrn.unmatchedAcks = s.jrn.unmatchedAcks ∧
      (raiseAlarm st s).day = s.day ∧ (raiseAlarm st s).tbl = s.tbl ∧ (raiseAlarm st s).slc = s.slc ∧
      (raiseAlarm st s).blc.link = s.blc.link ∧ (raiseAlarm st s).blc.silence = s.blc.silence ∧
      (raiseAlarm st s).blc.reassembly = s.blc.reassembly ∧ (raiseAlarm st s).blc.sending = s.blc.sending ∧
      (raiseAlarm st s).blc.linkAnswer = s.blc.linkAnswer ∧ (raiseAlarm st s).blc.replies = s.blc.replies ∧
      (raiseAlarm st s).blc.requests = s.blc.requests ∧ (raiseAlarm st s).blc.frameCheck = s.blc.frameCheck ∧
      (raiseAlarm st s).blc.frameForm = s.blc.frameForm ∧ (raiseAlarm st s).mrs.places = s.mrs.places ∧
      (raiseAlarm st s).mrs.unmatchedReplies = s.mrs.unmatchedReplies ∧
      (raiseAlarm st s).mrs.overruns = s.mrs.overruns ∧ (raiseAlarm st s).mrs.settings = s.mrs.settings ∧
      (raiseAlarm st s).mrs.clock = s.mrs.clock ∧ (raiseAlarm st s).rts = s.rts := by
  unfold raiseAlarm; (try dsimp only); (repeat' split) <;> simp

@[simp] theorem addReservation_keeps (r : Reservation) (s : State) :
    (addReservation r s).pending = s.pending ∧ (addReservation r s).uptime = s.uptime ∧
      (addReservation r s).ttr = s.ttr ∧ (addReservation r s).csh = s.csh ∧ (addReservation r s).scm = s.scm ∧
      (addReservation r s).pbk = s.pbk ∧ (addReservation r s).sda.tellerDays = s.sda.tellerDays ∧
      (addReservation r s).sda.accountMap = s.sda.accountMap ∧ (addReservation r s).sda.nextAdvice = s.sda.nextAdvice ∧
      (addReservation r s).sda.unmatchedAcks = s.sda.unmatchedAcks ∧ (addReservation r s).jrn = s.jrn ∧
      (addReservation r s).day = s.day ∧ (addReservation r s).tbl = s.tbl ∧ (addReservation r s).slc = s.slc ∧
      (addReservation r s).blc = s.blc ∧ (addReservation r s).mrs = s.mrs ∧ (addReservation r s).rts = s.rts := by
  unfold addReservation; (try dsimp only); (repeat' split) <;> simp

@[simp] theorem tellReservation_keeps (ref : Ref) (f : Reservation → Reservation) (s : State) :
    (tellReservation ref f s).pending = s.pending ∧ (tellReservation ref f s).uptime = s.uptime ∧
      (tellReservation ref f s).ttr = s.ttr ∧ (tellReservation ref f s).csh = s.csh ∧
      (tellReservation ref f s).scm = s.scm ∧ (tellReservation ref f s).pbk = s.pbk ∧
      (tellReservation ref f s).sda.tellerDays = s.sda.tellerDays ∧
      (tellReservation ref f s).sda.accountMap = s.sda.accountMap ∧
      (tellReservation ref f s).sda.nextAdvice = s.sda.nextAdvice ∧
      (tellReservation ref f s).sda.unmatchedAcks = s.sda.unmatchedAcks ∧ (tellReservation ref f s).jrn = s.jrn ∧
      (tellReservation ref f s).day = s.day ∧ (tellReservation ref f s).tbl = s.tbl ∧
      (tellReservation ref f s).slc = s.slc ∧ (tellReservation ref f s).blc = s.blc ∧
      (tellReservation ref f s).mrs = s.mrs ∧ (tellReservation ref f s).rts = s.rts := by
  unfold tellReservation; (try dsimp only); (repeat' split) <;> simp

@[simp] theorem convertReservation_keeps (ref : Ref) (f : Reservation → Reservation) (cause : EndCause) (s : State) :
    (convertReservation ref f cause s).pending = s.pending ∧ (convertReservation ref f cause s).uptime = s.uptime ∧
      (convertReservation ref f cause s).ttr = s.ttr ∧ (convertReservation ref f cause s).csh = s.csh ∧
      (convertReservation ref f cause s).scm = s.scm ∧ (convertReservation ref f cause s).pbk = s.pbk ∧
      (convertReservation ref f cause s).sda.tellerDays = s.sda.tellerDays ∧
      (convertReservation ref f cause s).sda.accountMap = s.sda.accountMap ∧
      (convertReservation ref f cause s).sda.unmatchedAcks = s.sda.unmatchedAcks ∧
      (convertReservation ref f cause s).jrn = s.jrn ∧ (convertReservation ref f cause s).day = s.day ∧
      (convertReservation ref f cause s).tbl = s.tbl ∧ (convertReservation ref f cause s).slc = s.slc ∧
      (convertReservation ref f cause s).blc = s.blc ∧ (convertReservation ref f cause s).mrs = s.mrs ∧
      (convertReservation ref f cause s).rts = s.rts := by
  unfold convertReservation; (try dsimp only); (repeat' split) <;> simp

@[simp] theorem returnAllUnsent_keeps (s : State) :
    (returnAllUnsent s).pending = s.pending ∧ (returnAllUnsent s).uptime = s.uptime ∧
      (returnAllUnsent s).ttr = s.ttr ∧ (returnAllUnsent s).csh = s.csh ∧ (returnAllUnsent s).scm = s.scm ∧
      (returnAllUnsent s).pbk = s.pbk ∧ (returnAllUnsent s).sda.tellerDays = s.sda.tellerDays ∧
      (returnAllUnsent s).sda.accountMap = s.sda.accountMap ∧ (returnAllUnsent s).sda.nextAdvice = s.sda.nextAdvice ∧
      (returnAllUnsent s).sda.unmatchedAcks = s.sda.unmatchedAcks ∧ (returnAllUnsent s).jrn = s.jrn ∧
      (returnAllUnsent s).day = s.day ∧ (returnAllUnsent s).tbl = s.tbl ∧ (returnAllUnsent s).slc = s.slc ∧
      (returnAllUnsent s).blc = s.blc ∧ (returnAllUnsent s).mrs = s.mrs ∧ (returnAllUnsent s).rts = s.rts := by
  unfold returnAllUnsent; (try dsimp only); (repeat' split) <;> simp

@[simp] theorem setHead_keeps (st : Station) (j : Job) (s : State) :
    (setHead st j s).pending = s.pending ∧ (setHead st j s).uptime = s.uptime ∧ (setHead st j s).ttr = s.ttr ∧
      (setHead st j s).csh = s.csh ∧ (setHead st j s).scm = s.scm ∧ (setHead st j s).sda = s.sda ∧
      (setHead st j s).jrn = s.jrn ∧ (setHead st j s).day = s.day ∧ (setHead st j s).tbl = s.tbl ∧
      (setHead st j s).slc = s.slc ∧ (setHead st j s).blc = s.blc ∧ (setHead st j s).mrs = s.mrs ∧
      (setHead st j s).rts = s.rts := by
  unfold setHead; (try dsimp only); (repeat' split) <;> simp

@[simp] theorem setPrompt_keeps (st : Station) (p : Prompt) (s : State) :
    (setPrompt st p s).pending = s.pending ∧ (setPrompt st p s).uptime = s.uptime ∧ (setPrompt st p s).ttr = s.ttr ∧
      (setPrompt st p s).csh = s.csh ∧ (setPrompt st p s).scm.signOn = s.scm.signOn ∧
      (setPrompt st p s).scm.broadcast = s.scm.broadcast ∧ (setPrompt st p s).sda = s.sda ∧
      (setPrompt st p s).jrn = s.jrn ∧ (setPrompt st p s).day = s.day ∧ (setPrompt st p s).tbl = s.tbl ∧
      (setPrompt st p s).slc = s.slc ∧ (setPrompt st p s).blc = s.blc ∧ (setPrompt st p s).mrs = s.mrs ∧
      (setPrompt st p s).rts = s.rts := by
  unfold setPrompt; (try dsimp only); (repeat' split) <;> simp

@[simp] theorem handItem_keeps (st : Station) (body : ItemBody) (s : State) :
    (handItem st body s).pending = s.pending ∧ (handItem st body s).uptime = s.uptime ∧
      (handItem st body s).ttr = s.ttr ∧ (handItem st body s).csh = s.csh ∧ (handItem st body s).scm = s.scm ∧
      (handItem st body s).sda = s.sda ∧ (handItem st body s).jrn = s.jrn ∧ (handItem st body s).day = s.day ∧
      (handItem st body s).tbl = s.tbl ∧ (handItem st body s).slc = s.slc ∧ (handItem st body s).blc = s.blc ∧
      (handItem st body s).mrs = s.mrs ∧ (handItem st body s).rts = s.rts := by
  unfold handItem; (try dsimp only); (repeat' split) <;> simp

@[simp] theorem handLine_keeps (st : Station) (s : State) :
    (handLine st s).pending = s.pending ∧ (handLine st s).uptime = s.uptime ∧ (handLine st s).ttr = s.ttr ∧
      (handLine st s).csh = s.csh ∧ (handLine st s).scm = s.scm ∧ (handLine st s).sda = s.sda ∧
      (handLine st s).jrn = s.jrn ∧ (handLine st s).day = s.day ∧ (handLine st s).tbl = s.tbl ∧
      (handLine st s).slc = s.slc ∧ (handLine st s).blc = s.blc ∧ (handLine st s).mrs = s.mrs ∧
      (handLine st s).rts = s.rts := by
  unfold handLine; (try dsimp only); (repeat' split) <;> simp

@[simp] theorem oweEndWrite_keeps (st : Station) (j : Job) (s : State) :
    (oweEndWrite st j s).pending = s.pending ∧ (oweEndWrite st j s).uptime = s.uptime ∧
      (oweEndWrite st j s).ttr = s.ttr ∧ (oweEndWrite st j s).csh = s.csh ∧ (oweEndWrite st j s).scm = s.scm ∧
      (oweEndWrite st j s).sda = s.sda ∧ (oweEndWrite st j s).jrn = s.jrn ∧ (oweEndWrite st j s).day = s.day ∧
      (oweEndWrite st j s).tbl = s.tbl ∧ (oweEndWrite st j s).slc = s.slc ∧ (oweEndWrite st j s).blc = s.blc ∧
      (oweEndWrite st j s).mrs = s.mrs ∧ (oweEndWrite st j s).rts = s.rts := by
  unfold oweEndWrite; (try dsimp only); (repeat' split) <;> simp

@[simp] theorem endWrite_keeps (st : Station) (j : Job) (s : State) :
    (endWrite st j s).pending = s.pending ∧ (endWrite st j s).uptime = s.uptime ∧ (endWrite st j s).ttr = s.ttr ∧
      (endWrite st j s).csh = s.csh ∧ (endWrite st j s).scm = s.scm ∧ (endWrite st j s).sda = s.sda ∧
      (endWrite st j s).jrn = s.jrn ∧ (endWrite st j s).day = s.day ∧ (endWrite st j s).tbl = s.tbl ∧
      (endWrite st j s).slc = s.slc ∧ (endWrite st j s).blc = s.blc ∧ (endWrite st j s).mrs = s.mrs ∧
      (endWrite st j s).rts = s.rts := by
  unfold endWrite; (try dsimp only); (repeat' split) <;> simp

@[simp] theorem endHead_keeps (st : Station) (cause : EndCause) (s : State) :
    (endHead st cause s).pending = s.pending ∧ (endHead st cause s).uptime = s.uptime ∧
      (endHead st cause s).ttr = s.ttr ∧ (endHead st cause s).csh = s.csh ∧
      (endHead st cause s).scm.signOn = s.scm.signOn ∧ (endHead st cause s).scm.broadcast = s.scm.broadcast ∧
      (endHead st cause s).sda = s.sda ∧ (endHead st cause s).jrn = s.jrn ∧ (endHead st cause s).day = s.day ∧
      (endHead st cause s).tbl = s.tbl ∧ (endHead st cause s).slc = s.slc ∧ (endHead st cause s).blc = s.blc ∧
      (endHead st cause s).mrs = s.mrs ∧ (endHead st cause s).rts = s.rts := by
  unfold endHead; (try dsimp only); (repeat' split) <;> simp

@[simp] theorem finishHead_keeps (st : Station) (teller : Option Nat) (s : State) :
    (finishHead st teller s).pending = s.pending ∧ (finishHead st teller s).uptime = s.uptime ∧
      (finishHead st teller s).ttr = s.ttr ∧ (finishHead st teller s).csh = s.csh ∧
      (finishHead st teller s).scm = s.scm ∧ (finishHead st teller s).sda.accountMap = s.sda.accountMap ∧
      (finishHead st teller s).sda.unmatchedAcks = s.sda.unmatchedAcks ∧
      (finishHead st teller s).jrn.lastAccepted = s.jrn.lastAccepted ∧
      (finishHead st teller s).jrn.printedCursor = s.jrn.printedCursor ∧
      (finishHead st teller s).jrn.batchCounter = s.jrn.batchCounter ∧
      (finishHead st teller s).jrn.trickle = s.jrn.trickle ∧ (finishHead st teller s).jrn.pause = s.jrn.pause ∧
      (finishHead st teller s).jrn.unmatchedAcks = s.jrn.unmatchedAcks ∧ (finishHead st teller s).day = s.day ∧
      (finishHead st teller s).tbl = s.tbl ∧ (finishHead st teller s).slc = s.slc ∧
      (finishHead st teller s).blc.link = s.blc.link ∧ (finishHead st teller s).blc.silence = s.blc.silence ∧
      (finishHead st teller s).blc.reassembly = s.blc.reassembly ∧
      (finishHead st teller s).blc.sending = s.blc.sending ∧
      (finishHead st teller s).blc.linkAnswer = s.blc.linkAnswer ∧
      (finishHead st teller s).blc.replies = s.blc.replies ∧ (finishHead st teller s).blc.requests = s.blc.requests ∧
      (finishHead st teller s).blc.frameCheck = s.blc.frameCheck ∧
      (finishHead st teller s).blc.frameForm = s.blc.frameForm ∧ (finishHead st teller s).mrs.places = s.mrs.places ∧
      (finishHead st teller s).mrs.unmatchedReplies = s.mrs.unmatchedReplies ∧
      (finishHead st teller s).mrs.overruns = s.mrs.overruns ∧ (finishHead st teller s).mrs.settings = s.mrs.settings ∧
      (finishHead st teller s).mrs.clock = s.mrs.clock ∧ (finishHead st teller s).rts = s.rts := by
  unfold finishHead; (try dsimp only); (repeat' split) <;> simp

@[simp] theorem pageFull_keeps (st : Station) (j : Job) (page pages : Nat) (s : State) :
    (pageFull st j page pages s).pending = s.pending ∧ (pageFull st j page pages s).uptime = s.uptime ∧
      (pageFull st j page pages s).ttr = s.ttr ∧ (pageFull st j page pages s).csh = s.csh ∧
      (pageFull st j page pages s).scm.signOn = s.scm.signOn ∧
      (pageFull st j page pages s).scm.broadcast = s.scm.broadcast ∧ (pageFull st j page pages s).sda = s.sda ∧
      (pageFull st j page pages s).jrn = s.jrn ∧ (pageFull st j page pages s).day = s.day ∧
      (pageFull st j page pages s).tbl = s.tbl ∧ (pageFull st j page pages s).slc = s.slc ∧
      (pageFull st j page pages s).blc = s.blc ∧ (pageFull st j page pages s).mrs = s.mrs ∧
      (pageFull st j page pages s).rts = s.rts := by
  unfold pageFull; (try dsimp only); (repeat' split) <;> simp

@[simp] theorem judgeStart_keeps (st : Station) (j : Job) (layout : PltRec) (b : Book) (s : State) :
    (judgeStart st j layout b s).pending = s.pending ∧ (judgeStart st j layout b s).uptime = s.uptime ∧
      (judgeStart st j layout b s).ttr = s.ttr ∧ (judgeStart st j layout b s).csh = s.csh ∧
      (judgeStart st j layout b s).scm.signOn = s.scm.signOn ∧
      (judgeStart st j layout b s).scm.broadcast = s.scm.broadcast ∧ (judgeStart st j layout b s).sda = s.sda ∧
      (judgeStart st j layout b s).jrn = s.jrn ∧ (judgeStart st j layout b s).day = s.day ∧
      (judgeStart st j layout b s).tbl = s.tbl ∧ (judgeStart st j layout b s).slc = s.slc ∧
      (judgeStart st j layout b s).blc = s.blc ∧ (judgeStart st j layout b s).mrs = s.mrs ∧
      (judgeStart st j layout b s).rts = s.rts := by
  unfold judgeStart; (try dsimp only); (repeat' split) <;> simp

@[simp] theorem beginPlacement_keeps (st : Station) (s : State) :
    (beginPlacement st s).pending = s.pending ∧ (beginPlacement st s).uptime = s.uptime ∧
      (beginPlacement st s).ttr = s.ttr ∧ (beginPlacement st s).csh = s.csh ∧
      (beginPlacement st s).scm.signOn = s.scm.signOn ∧ (beginPlacement st s).scm.broadcast = s.scm.broadcast ∧
      (beginPlacement st s).sda = s.sda ∧ (beginPlacement st s).jrn = s.jrn ∧
      (beginPlacement st s).day = s.day ∧ (beginPlacement st s).tbl = s.tbl ∧ (beginPlacement st s).slc = s.slc ∧
      (beginPlacement st s).blc = s.blc ∧ (beginPlacement st s).mrs = s.mrs ∧ (beginPlacement st s).rts = s.rts := by
  unfold beginPlacement; (try dsimp only); (repeat' split) <;> simp

@[simp] theorem dealOwed_keeps (st : Station) (s : State) :
    (dealOwed st s).pending = s.pending ∧ (dealOwed st s).uptime = s.uptime ∧ (dealOwed st s).ttr = s.ttr ∧
      (dealOwed st s).csh = s.csh ∧ (dealOwed st s).scm = s.scm ∧ (dealOwed st s).sda = s.sda ∧
      (dealOwed st s).jrn = s.jrn ∧ (dealOwed st s).day = s.day ∧ (dealOwed st s).tbl = s.tbl ∧
      (dealOwed st s).slc = s.slc ∧ (dealOwed st s).blc = s.blc ∧ (dealOwed st s).mrs = s.mrs ∧
      (dealOwed st s).rts = s.rts := by
  unfold dealOwed; (try dsimp only); (repeat' split) <;> simp

@[simp] theorem resumeBookWait_keeps (st : Station) (s : State) :
    (resumeBookWait st s).pending = s.pending ∧ (resumeBookWait st s).uptime = s.uptime ∧
      (resumeBookWait st s).ttr = s.ttr ∧ (resumeBookWait st s).csh = s.csh ∧
      (resumeBookWait st s).scm.signOn = s.scm.signOn ∧ (resumeBookWait st s).scm.broadcast = s.scm.broadcast ∧
      (resumeBookWait st s).sda = s.sda ∧ (resumeBookWait st s).jrn = s.jrn ∧
      (resumeBookWait st s).day = s.day ∧ (resumeBookWait st s).tbl = s.tbl ∧ (resumeBookWait st s).slc = s.slc ∧
      (resumeBookWait st s).blc = s.blc ∧ (resumeBookWait st s).mrs = s.mrs ∧ (resumeBookWait st s).rts = s.rts := by
  unfold resumeBookWait; (try dsimp only); (repeat' split) <;> simp

@[simp] theorem enterBookWait_keeps (st : Station) (j : Job) (s : State) :
    (enterBookWait st j s).pending = s.pending ∧ (enterBookWait st j s).uptime = s.uptime ∧
      (enterBookWait st j s).ttr = s.ttr ∧ (enterBookWait st j s).csh = s.csh ∧ (enterBookWait st j s).scm = s.scm ∧
      (enterBookWait st j s).sda = s.sda ∧ (enterBookWait st j s).jrn = s.jrn ∧ (enterBookWait st j s).day = s.day ∧
      (enterBookWait st j s).tbl = s.tbl ∧ (enterBookWait st j s).slc = s.slc ∧ (enterBookWait st j s).blc = s.blc ∧
      (enterBookWait st j s).mrs = s.mrs ∧ (enterBookWait st j s).rts = s.rts := by
  unfold enterBookWait; (try dsimp only); (repeat' split) <;> simp

@[simp] theorem beginHead_keeps (st : Station) (s : State) :
    (beginHead st s).pending = s.pending ∧ (beginHead st s).uptime = s.uptime ∧ (beginHead st s).ttr = s.ttr ∧
      (beginHead st s).csh = s.csh ∧ (beginHead st s).scm.signOn = s.scm.signOn ∧
      (beginHead st s).scm.broadcast = s.scm.broadcast ∧ (beginHead st s).sda = s.sda ∧ (beginHead st s).jrn = s.jrn ∧
      (beginHead st s).day = s.day ∧ (beginHead st s).tbl = s.tbl ∧ (beginHead st s).slc = s.slc ∧
      (beginHead st s).blc = s.blc ∧ (beginHead st s).mrs = s.mrs ∧ (beginHead st s).rts = s.rts := by
  unfold beginHead; (try dsimp only); (repeat' split) <;> simp

@[simp] theorem advanceQueue_keeps (k : Nat) (st : Station) (s : State) :
    (advanceQueue k st s).pending = s.pending ∧ (advanceQueue k st s).uptime = s.uptime ∧
      (advanceQueue k st s).ttr = s.ttr ∧ (advanceQueue k st s).csh = s.csh ∧
      (advanceQueue k st s).scm.signOn = s.scm.signOn ∧ (advanceQueue k st s).scm.broadcast = s.scm.broadcast ∧
      (advanceQueue k st s).sda.accountMap = s.sda.accountMap ∧
      (advanceQueue k st s).sda.unmatchedAcks = s.sda.unmatchedAcks ∧
      (advanceQueue k st s).jrn.lastAccepted = s.jrn.lastAccepted ∧
      (advanceQueue k st s).jrn.printedCursor = s.jrn.printedCursor ∧
      (advanceQueue k st s).jrn.batchCounter = s.jrn.batchCounter ∧ (advanceQueue k st s).jrn.trickle = s.jrn.trickle ∧
      (advanceQueue k st s).jrn.pause = s.jrn.pause ∧ (advanceQueue k st s).jrn.unmatchedAcks = s.jrn.unmatchedAcks ∧
      (advanceQueue k st s).day = s.day ∧ (advanceQueue k st s).tbl = s.tbl ∧ (advanceQueue k st s).slc = s.slc ∧
      (advanceQueue k st s).blc.link = s.blc.link ∧ (advanceQueue k st s).blc.silence = s.blc.silence ∧
      (advanceQueue k st s).blc.reassembly = s.blc.reassembly ∧ (advanceQueue k st s).blc.sending = s.blc.sending ∧
      (advanceQueue k st s).blc.linkAnswer = s.blc.linkAnswer ∧ (advanceQueue k st s).blc.replies = s.blc.replies ∧
      (advanceQueue k st s).blc.requests = s.blc.requests ∧ (advanceQueue k st s).blc.frameCheck = s.blc.frameCheck ∧
      (advanceQueue k st s).blc.frameForm = s.blc.frameForm ∧ (advanceQueue k st s).mrs.places = s.mrs.places ∧
      (advanceQueue k st s).mrs.unmatchedReplies = s.mrs.unmatchedReplies ∧
      (advanceQueue k st s).mrs.overruns = s.mrs.overruns ∧ (advanceQueue k st s).mrs.settings = s.mrs.settings ∧
      (advanceQueue k st s).mrs.clock = s.mrs.clock ∧ (advanceQueue k st s).rts = s.rts := by
  induction k generalizing s with
  | zero => simp [advanceQueue]
  | succ k ih => unfold advanceQueue; (repeat' split) <;> simp [ih]

@[simp] theorem goOn_keeps (st : Station) (s : State) :
    (goOn st s).pending = s.pending ∧ (goOn st s).uptime = s.uptime ∧ (goOn st s).ttr = s.ttr ∧
      (goOn st s).csh = s.csh ∧ (goOn st s).scm.signOn = s.scm.signOn ∧ (goOn st s).scm.broadcast = s.scm.broadcast ∧
      (goOn st s).sda.accountMap = s.sda.accountMap ∧ (goOn st s).sda.unmatchedAcks = s.sda.unmatchedAcks ∧
      (goOn st s).jrn.lastAccepted = s.jrn.lastAccepted ∧ (goOn st s).jrn.printedCursor = s.jrn.printedCursor ∧
      (goOn st s).jrn.batchCounter = s.jrn.batchCounter ∧ (goOn st s).jrn.trickle = s.jrn.trickle ∧
      (goOn st s).jrn.pause = s.jrn.pause ∧ (goOn st s).jrn.unmatchedAcks = s.jrn.unmatchedAcks ∧
      (goOn st s).day = s.day ∧ (goOn st s).tbl = s.tbl ∧ (goOn st s).slc = s.slc ∧ (goOn st s).blc.link = s.blc.link ∧
      (goOn st s).blc.silence = s.blc.silence ∧ (goOn st s).blc.reassembly = s.blc.reassembly ∧
      (goOn st s).blc.sending = s.blc.sending ∧ (goOn st s).blc.linkAnswer = s.blc.linkAnswer ∧
      (goOn st s).blc.replies = s.blc.replies ∧ (goOn st s).blc.requests = s.blc.requests ∧
      (goOn st s).blc.frameCheck = s.blc.frameCheck ∧ (goOn st s).blc.frameForm = s.blc.frameForm ∧
      (goOn st s).mrs.places = s.mrs.places ∧ (goOn st s).mrs.unmatchedReplies = s.mrs.unmatchedReplies ∧
      (goOn st s).mrs.overruns = s.mrs.overruns ∧ (goOn st s).mrs.settings = s.mrs.settings ∧
      (goOn st s).mrs.clock = s.mrs.clock ∧ (goOn st s).rts = s.rts := by
  unfold goOn; (try dsimp only); (repeat' split) <;> simp

@[simp] theorem failItem_keeps (st : Station) (cause : EndCause) (s : State) :
    (failItem st cause s).pending = s.pending ∧ (failItem st cause s).uptime = s.uptime ∧
      (failItem st cause s).ttr = s.ttr ∧ (failItem st cause s).csh = s.csh ∧
      (failItem st cause s).scm.signOn = s.scm.signOn ∧ (failItem st cause s).scm.broadcast = s.scm.broadcast ∧
      (failItem st cause s).sda = s.sda ∧ (failItem st cause s).jrn = s.jrn ∧ (failItem st cause s).day = s.day ∧
      (failItem st cause s).tbl = s.tbl ∧ (failItem st cause s).slc = s.slc ∧ (failItem st cause s).blc = s.blc ∧
      (failItem st cause s).mrs = s.mrs ∧ (failItem st cause s).rts = s.rts := by
  unfold failItem; (try dsimp only); (repeat' split) <;> simp

@[simp] theorem clearAndFail_keeps (st : Station) (state : PrinterContext → PrinterState) (cause : EndCause) (s : State) :
    (clearAndFail st state cause s).pending = s.pending ∧ (clearAndFail st state cause s).uptime = s.uptime ∧
      (clearAndFail st state cause s).ttr = s.ttr ∧ (clearAndFail st state cause s).csh = s.csh ∧
      (clearAndFail st state cause s).scm.signOn = s.scm.signOn ∧
      (clearAndFail st state cause s).scm.broadcast = s.scm.broadcast ∧ (clearAndFail st state cause s).sda = s.sda ∧
      (clearAndFail st state cause s).jrn = s.jrn ∧ (clearAndFail st state cause s).day = s.day ∧
      (clearAndFail st state cause s).tbl = s.tbl ∧ (clearAndFail st state cause s).slc = s.slc ∧
      (clearAndFail st state cause s).blc = s.blc ∧ (clearAndFail st state cause s).mrs = s.mrs ∧
      (clearAndFail st state cause s).rts = s.rts := by
  unfold clearAndFail; (try dsimp only); (repeat' split) <;> simp

@[simp] theorem offerTurn_keeps (st : Station) (ready : Bool) (j : Job) (b : Book) (s : State) :
    (offerTurn st ready j b s).pending = s.pending ∧ (offerTurn st ready j b s).uptime = s.uptime ∧
      (offerTurn st ready j b s).ttr = s.ttr ∧ (offerTurn st ready j b s).csh = s.csh ∧
      (offerTurn st ready j b s).scm.signOn = s.scm.signOn ∧ (offerTurn st ready j b s).scm.broadcast = s.scm.broadcast ∧
      (offerTurn st ready j b s).sda = s.sda ∧ (offerTurn st ready j b s).jrn = s.jrn ∧
      (offerTurn st ready j b s).day = s.day ∧ (offerTurn st ready j b s).tbl = s.tbl ∧ (offerTurn st ready j b s).slc = s.slc ∧
      (offerTurn st ready j b s).blc = s.blc ∧ (offerTurn st ready j b s).mrs = s.mrs ∧ (offerTurn st ready j b s).rts = s.rts := by
  unfold offerTurn; (try dsimp only); (repeat' split) <;> simp

@[simp] theorem offerBook_keeps (st : Station) (s : State) :
    (offerBook st s).pending = s.pending ∧ (offerBook st s).uptime = s.uptime ∧ (offerBook st s).ttr = s.ttr ∧
      (offerBook st s).csh = s.csh ∧ (offerBook st s).scm.signOn = s.scm.signOn ∧
      (offerBook st s).scm.broadcast = s.scm.broadcast ∧ (offerBook st s).sda = s.sda ∧ (offerBook st s).jrn = s.jrn ∧
      (offerBook st s).day = s.day ∧ (offerBook st s).tbl = s.tbl ∧ (offerBook st s).slc = s.slc ∧
      (offerBook st s).blc = s.blc ∧ (offerBook st s).mrs = s.mrs ∧ (offerBook st s).rts = s.rts := by
  unfold offerBook; (try dsimp only); (repeat' split) <;> simp

@[simp] theorem leaveEnded_keeps (st : Station) (s : State) :
    (leaveEnded st s).pending = s.pending ∧ (leaveEnded st s).uptime = s.uptime ∧ (leaveEnded st s).ttr = s.ttr ∧
      (leaveEnded st s).csh = s.csh ∧ (leaveEnded st s).scm.signOn = s.scm.signOn ∧ (leaveEnded st s).scm.broadcast = s.scm.broadcast ∧
      (leaveEnded st s).sda.accountMap = s.sda.accountMap ∧ (leaveEnded st s).sda.unmatchedAcks = s.sda.unmatchedAcks ∧
      (leaveEnded st s).jrn.lastAccepted = s.jrn.lastAccepted ∧ (leaveEnded st s).jrn.printedCursor = s.jrn.printedCursor ∧
      (leaveEnded st s).jrn.batchCounter = s.jrn.batchCounter ∧ (leaveEnded st s).jrn.trickle = s.jrn.trickle ∧
      (leaveEnded st s).jrn.pause = s.jrn.pause ∧ (leaveEnded st s).jrn.unmatchedAcks = s.jrn.unmatchedAcks ∧
      (leaveEnded st s).day = s.day ∧ (leaveEnded st s).tbl = s.tbl ∧ (leaveEnded st s).slc = s.slc ∧ (leaveEnded st s).blc.link = s.blc.link ∧
      (leaveEnded st s).blc.silence = s.blc.silence ∧ (leaveEnded st s).blc.reassembly = s.blc.reassembly ∧
      (leaveEnded st s).blc.sending = s.blc.sending ∧ (leaveEnded st s).blc.linkAnswer = s.blc.linkAnswer ∧
      (leaveEnded st s).blc.replies = s.blc.replies ∧ (leaveEnded st s).blc.requests = s.blc.requests ∧
      (leaveEnded st s).blc.frameCheck = s.blc.frameCheck ∧ (leaveEnded st s).blc.frameForm = s.blc.frameForm ∧
      (leaveEnded st s).mrs.places = s.mrs.places ∧ (leaveEnded st s).mrs.unmatchedReplies = s.mrs.unmatchedReplies ∧
      (leaveEnded st s).mrs.overruns = s.mrs.overruns ∧ (leaveEnded st s).mrs.settings = s.mrs.settings ∧
      (leaveEnded st s).mrs.clock = s.mrs.clock ∧ (leaveEnded st s).rts = s.rts := by
  unfold leaveEnded; (try dsimp only); (repeat' split) <;> simp

@[simp] theorem takeStripeRead_keeps (st : Station) (b : Book) (s : State) :
    (takeStripeRead st b s).pending = s.pending ∧ (takeStripeRead st b s).uptime = s.uptime ∧
      (takeStripeRead st b s).ttr = s.ttr ∧ (takeStripeRead st b s).csh = s.csh ∧
      (takeStripeRead st b s).scm.signOn = s.scm.signOn ∧ (takeStripeRead st b s).scm.broadcast = s.scm.broadcast ∧
      (takeStripeRead st b s).sda.accountMap = s.sda.accountMap ∧
      (takeStripeRead st b s).sda.unmatchedAcks = s.sda.unmatchedAcks ∧
      (takeStripeRead st b s).jrn.lastAccepted = s.jrn.lastAccepted ∧
      (takeStripeRead st b s).jrn.printedCursor = s.jrn.printedCursor ∧
      (takeStripeRead st b s).jrn.batchCounter = s.jrn.batchCounter ∧
      (takeStripeRead st b s).jrn.trickle = s.jrn.trickle ∧ (takeStripeRead st b s).jrn.pause = s.jrn.pause ∧
      (takeStripeRead st b s).jrn.unmatchedAcks = s.jrn.unmatchedAcks ∧ (takeStripeRead st b s).day = s.day ∧
      (takeStripeRead st b s).tbl = s.tbl ∧ (takeStripeRead st b s).slc = s.slc ∧
      (takeStripeRead st b s).blc.link = s.blc.link ∧ (takeStripeRead st b s).blc.silence = s.blc.silence ∧
      (takeStripeRead st b s).blc.reassembly = s.blc.reassembly ∧ (takeStripeRead st b s).blc.sending = s.blc.sending ∧
      (takeStripeRead st b s).blc.linkAnswer = s.blc.linkAnswer ∧ (takeStripeRead st b s).blc.replies = s.blc.replies ∧
      (takeStripeRead st b s).blc.requests = s.blc.requests ∧
      (takeStripeRead st b s).blc.frameCheck = s.blc.frameCheck ∧
      (takeStripeRead st b s).blc.frameForm = s.blc.frameForm ∧ (takeStripeRead st b s).mrs.places = s.mrs.places ∧
      (takeStripeRead st b s).mrs.unmatchedReplies = s.mrs.unmatchedReplies ∧
      (takeStripeRead st b s).mrs.overruns = s.mrs.overruns ∧ (takeStripeRead st b s).mrs.settings = s.mrs.settings ∧
      (takeStripeRead st b s).mrs.clock = s.mrs.clock ∧ (takeStripeRead st b s).rts = s.rts := by
  unfold takeStripeRead; (try dsimp only); (repeat' split) <;> simp

@[simp] theorem takeBookRemoved_keeps (st : Station) (s : State) :
    (takeBookRemoved st s).pending = s.pending ∧ (takeBookRemoved st s).uptime = s.uptime ∧
      (takeBookRemoved st s).ttr = s.ttr ∧ (takeBookRemoved st s).csh = s.csh ∧
      (takeBookRemoved st s).scm.signOn = s.scm.signOn ∧ (takeBookRemoved st s).scm.broadcast = s.scm.broadcast ∧
      (takeBookRemoved st s).sda.accountMap = s.sda.accountMap ∧
      (takeBookRemoved st s).sda.unmatchedAcks = s.sda.unmatchedAcks ∧
      (takeBookRemoved st s).jrn.lastAccepted = s.jrn.lastAccepted ∧
      (takeBookRemoved st s).jrn.printedCursor = s.jrn.printedCursor ∧
      (takeBookRemoved st s).jrn.batchCounter = s.jrn.batchCounter ∧
      (takeBookRemoved st s).jrn.trickle = s.jrn.trickle ∧ (takeBookRemoved st s).jrn.pause = s.jrn.pause ∧
      (takeBookRemoved st s).jrn.unmatchedAcks = s.jrn.unmatchedAcks ∧ (takeBookRemoved st s).day = s.day ∧
      (takeBookRemoved st s).tbl = s.tbl ∧ (takeBookRemoved st s).slc = s.slc ∧
      (takeBookRemoved st s).blc.link = s.blc.link ∧ (takeBookRemoved st s).blc.silence = s.blc.silence ∧
      (takeBookRemoved st s).blc.reassembly = s.blc.reassembly ∧ (takeBookRemoved st s).blc.sending = s.blc.sending ∧
      (takeBookRemoved st s).blc.linkAnswer = s.blc.linkAnswer ∧ (takeBookRemoved st s).blc.replies = s.blc.replies ∧
      (takeBookRemoved st s).blc.requests = s.blc.requests ∧ (takeBookRemoved st s).blc.frameCheck = s.blc.frameCheck ∧
      (takeBookRemoved st s).blc.frameForm = s.blc.frameForm ∧ (takeBookRemoved st s).mrs.places = s.mrs.places ∧
      (takeBookRemoved st s).mrs.unmatchedReplies = s.mrs.unmatchedReplies ∧
      (takeBookRemoved st s).mrs.overruns = s.mrs.overruns ∧ (takeBookRemoved st s).mrs.settings = s.mrs.settings ∧
      (takeBookRemoved st s).mrs.clock = s.mrs.clock ∧ (takeBookRemoved st s).rts = s.rts := by
  unfold takeBookRemoved; (try dsimp only); (repeat' split) <;> simp

@[simp] theorem takeFault_keeps (st : Station) (s : State) :
    (takeFault st s).pending = s.pending ∧ (takeFault st s).uptime = s.uptime ∧ (takeFault st s).ttr = s.ttr ∧
      (takeFault st s).csh = s.csh ∧ (takeFault st s).scm.signOn = s.scm.signOn ∧
      (takeFault st s).scm.broadcast = s.scm.broadcast ∧ (takeFault st s).sda.accountMap = s.sda.accountMap ∧
      (takeFault st s).sda.unmatchedAcks = s.sda.unmatchedAcks ∧
      (takeFault st s).jrn.lastAccepted = s.jrn.lastAccepted ∧
      (takeFault st s).jrn.printedCursor = s.jrn.printedCursor ∧
      (takeFault st s).jrn.batchCounter = s.jrn.batchCounter ∧ (takeFault st s).jrn.trickle = s.jrn.trickle ∧
      (takeFault st s).jrn.pause = s.jrn.pause ∧ (takeFault st s).jrn.unmatchedAcks = s.jrn.unmatchedAcks ∧
      (takeFault st s).day = s.day ∧ (takeFault st s).tbl = s.tbl ∧ (takeFault st s).slc = s.slc ∧
      (takeFault st s).blc.link = s.blc.link ∧ (takeFault st s).blc.silence = s.blc.silence ∧
      (takeFault st s).blc.reassembly = s.blc.reassembly ∧ (takeFault st s).blc.sending = s.blc.sending ∧
      (takeFault st s).blc.linkAnswer = s.blc.linkAnswer ∧ (takeFault st s).blc.replies = s.blc.replies ∧
      (takeFault st s).blc.requests = s.blc.requests ∧ (takeFault st s).blc.frameCheck = s.blc.frameCheck ∧
      (takeFault st s).blc.frameForm = s.blc.frameForm ∧ (takeFault st s).mrs.places = s.mrs.places ∧
      (takeFault st s).mrs.unmatchedReplies = s.mrs.unmatchedReplies ∧ (takeFault st s).mrs.overruns = s.mrs.overruns ∧
      (takeFault st s).mrs.settings = s.mrs.settings ∧ (takeFault st s).mrs.clock = s.mrs.clock ∧
      (takeFault st s).rts = s.rts := by
  unfold takeFault; (try dsimp only); (repeat' split) <;> simp

@[simp] theorem takePrinterDown_keeps (st : Station) (s : State) :
    (takePrinterDown st s).pending = s.pending ∧ (takePrinterDown st s).uptime = s.uptime ∧
      (takePrinterDown st s).ttr = s.ttr ∧ (takePrinterDown st s).csh = s.csh ∧
      (takePrinterDown st s).scm.signOn = s.scm.signOn ∧ (takePrinterDown st s).scm.broadcast = s.scm.broadcast ∧
      (takePrinterDown st s).sda.accountMap = s.sda.accountMap ∧
      (takePrinterDown st s).sda.unmatchedAcks = s.sda.unmatchedAcks ∧
      (takePrinterDown st s).jrn.lastAccepted = s.jrn.lastAccepted ∧
      (takePrinterDown st s).jrn.printedCursor = s.jrn.printedCursor ∧
      (takePrinterDown st s).jrn.batchCounter = s.jrn.batchCounter ∧
      (takePrinterDown st s).jrn.trickle = s.jrn.trickle ∧ (takePrinterDown st s).jrn.pause = s.jrn.pause ∧
      (takePrinterDown st s).jrn.unmatchedAcks = s.jrn.unmatchedAcks ∧ (takePrinterDown st s).day = s.day ∧
      (takePrinterDown st s).tbl = s.tbl ∧ (takePrinterDown st s).slc = s.slc ∧
      (takePrinterDown st s).blc.link = s.blc.link ∧ (takePrinterDown st s).blc.silence = s.blc.silence ∧
      (takePrinterDown st s).blc.reassembly = s.blc.reassembly ∧ (takePrinterDown st s).blc.sending = s.blc.sending ∧
      (takePrinterDown st s).blc.linkAnswer = s.blc.linkAnswer ∧ (takePrinterDown st s).blc.replies = s.blc.replies ∧
      (takePrinterDown st s).blc.requests = s.blc.requests ∧ (takePrinterDown st s).blc.frameCheck = s.blc.frameCheck ∧
      (takePrinterDown st s).blc.frameForm = s.blc.frameForm ∧ (takePrinterDown st s).mrs.places = s.mrs.places ∧
      (takePrinterDown st s).mrs.unmatchedReplies = s.mrs.unmatchedReplies ∧
      (takePrinterDown st s).mrs.overruns = s.mrs.overruns ∧ (takePrinterDown st s).mrs.settings = s.mrs.settings ∧
      (takePrinterDown st s).mrs.clock = s.mrs.clock ∧ (takePrinterDown st s).rts = s.rts := by
  unfold takePrinterDown; (try dsimp only); (repeat' split) <;> simp

@[simp] theorem takePrinterUp_keeps (st : Station) (s : State) :
    (takePrinterUp st s).pending = s.pending ∧ (takePrinterUp st s).uptime = s.uptime ∧
      (takePrinterUp st s).ttr = s.ttr ∧ (takePrinterUp st s).csh = s.csh ∧
      (takePrinterUp st s).scm.signOn = s.scm.signOn ∧ (takePrinterUp st s).scm.broadcast = s.scm.broadcast ∧
      (takePrinterUp st s).sda.accountMap = s.sda.accountMap ∧
      (takePrinterUp st s).sda.unmatchedAcks = s.sda.unmatchedAcks ∧
      (takePrinterUp st s).jrn.lastAccepted = s.jrn.lastAccepted ∧
      (takePrinterUp st s).jrn.printedCursor = s.jrn.printedCursor ∧
      (takePrinterUp st s).jrn.batchCounter = s.jrn.batchCounter ∧ (takePrinterUp st s).jrn.trickle = s.jrn.trickle ∧
      (takePrinterUp st s).jrn.pause = s.jrn.pause ∧ (takePrinterUp st s).jrn.unmatchedAcks = s.jrn.unmatchedAcks ∧
      (takePrinterUp st s).day = s.day ∧ (takePrinterUp st s).tbl = s.tbl ∧ (takePrinterUp st s).slc = s.slc ∧
      (takePrinterUp st s).blc.link = s.blc.link ∧ (takePrinterUp st s).blc.silence = s.blc.silence ∧
      (takePrinterUp st s).blc.reassembly = s.blc.reassembly ∧ (takePrinterUp st s).blc.sending = s.blc.sending ∧
      (takePrinterUp st s).blc.linkAnswer = s.blc.linkAnswer ∧ (takePrinterUp st s).blc.replies = s.blc.replies ∧
      (takePrinterUp st s).blc.requests = s.blc.requests ∧ (takePrinterUp st s).blc.frameCheck = s.blc.frameCheck ∧
      (takePrinterUp st s).blc.frameForm = s.blc.frameForm ∧ (takePrinterUp st s).mrs.places = s.mrs.places ∧
      (takePrinterUp st s).mrs.unmatchedReplies = s.mrs.unmatchedReplies ∧
      (takePrinterUp st s).mrs.overruns = s.mrs.overruns ∧ (takePrinterUp st s).mrs.settings = s.mrs.settings ∧
      (takePrinterUp st s).mrs.clock = s.mrs.clock ∧ (takePrinterUp st s).rts = s.rts := by
  unfold takePrinterUp; (try dsimp only); (repeat' split) <;> simp

@[simp] theorem lineCompleted_keeps (st : Station) (j : Job) (balance : Option Int) (s : State) :
    (lineCompleted st j balance s).pending = s.pending ∧ (lineCompleted st j balance s).uptime = s.uptime ∧
      (lineCompleted st j balance s).ttr = s.ttr ∧ (lineCompleted st j balance s).csh = s.csh ∧
      (lineCompleted st j balance s).scm.signOn = s.scm.signOn ∧
      (lineCompleted st j balance s).scm.broadcast = s.scm.broadcast ∧
      (lineCompleted st j balance s).sda.tellerDays = s.sda.tellerDays ∧
      (lineCompleted st j balance s).sda.accountMap = s.sda.accountMap ∧
      (lineCompleted st j balance s).sda.nextAdvice = s.sda.nextAdvice ∧
      (lineCompleted st j balance s).sda.unmatchedAcks = s.sda.unmatchedAcks ∧
      (lineCompleted st j balance s).jrn = s.jrn ∧ (lineCompleted st j balance s).day = s.day ∧
      (lineCompleted st j balance s).tbl = s.tbl ∧ (lineCompleted st j balance s).slc = s.slc ∧
      (lineCompleted st j balance s).blc = s.blc ∧ (lineCompleted st j balance s).mrs = s.mrs ∧
      (lineCompleted st j balance s).rts = s.rts := by
  unfold lineCompleted; (try dsimp only); (repeat' split) <;> simp

@[simp] theorem takeLineDone_keeps (st : Station) (s : State) :
    (takeLineDone st s).pending = s.pending ∧ (takeLineDone st s).uptime = s.uptime ∧
      (takeLineDone st s).ttr = s.ttr ∧ (takeLineDone st s).csh = s.csh ∧
      (takeLineDone st s).scm.signOn = s.scm.signOn ∧ (takeLineDone st s).scm.broadcast = s.scm.broadcast ∧
      (takeLineDone st s).sda.accountMap = s.sda.accountMap ∧
      (takeLineDone st s).sda.unmatchedAcks = s.sda.unmatchedAcks ∧
      (takeLineDone st s).jrn.lastAccepted = s.jrn.lastAccepted ∧
      (takeLineDone st s).jrn.printedCursor = s.jrn.printedCursor ∧
      (takeLineDone st s).jrn.batchCounter = s.jrn.batchCounter ∧ (takeLineDone st s).jrn.trickle = s.jrn.trickle ∧
      (takeLineDone st s).jrn.pause = s.jrn.pause ∧ (takeLineDone st s).jrn.unmatchedAcks = s.jrn.unmatchedAcks ∧
      (takeLineDone st s).day = s.day ∧ (takeLineDone st s).tbl = s.tbl ∧ (takeLineDone st s).slc = s.slc ∧
      (takeLineDone st s).blc.link = s.blc.link ∧ (takeLineDone st s).blc.silence = s.blc.silence ∧
      (takeLineDone st s).blc.reassembly = s.blc.reassembly ∧ (takeLineDone st s).blc.sending = s.blc.sending ∧
      (takeLineDone st s).blc.linkAnswer = s.blc.linkAnswer ∧ (takeLineDone st s).blc.replies = s.blc.replies ∧
      (takeLineDone st s).blc.requests = s.blc.requests ∧ (takeLineDone st s).blc.frameCheck = s.blc.frameCheck ∧
      (takeLineDone st s).blc.frameForm = s.blc.frameForm ∧ (takeLineDone st s).mrs.places = s.mrs.places ∧
      (takeLineDone st s).mrs.unmatchedReplies = s.mrs.unmatchedReplies ∧
      (takeLineDone st s).mrs.overruns = s.mrs.overruns ∧ (takeLineDone st s).mrs.settings = s.mrs.settings ∧
      (takeLineDone st s).mrs.clock = s.mrs.clock ∧ (takeLineDone st s).rts = s.rts := by
  unfold takeLineDone; (try dsimp only); (repeat' split) <;> simp

@[simp] theorem writeCompleted_keeps (st : Station) (purpose : WritePurpose) (s : State) :
    (writeCompleted st purpose s).pending = s.pending ∧ (writeCompleted st purpose s).uptime = s.uptime ∧
      (writeCompleted st purpose s).ttr = s.ttr ∧ (writeCompleted st purpose s).csh = s.csh ∧
      (writeCompleted st purpose s).scm.signOn = s.scm.signOn ∧
      (writeCompleted st purpose s).scm.broadcast = s.scm.broadcast ∧
      (writeCompleted st purpose s).sda.tellerDays = s.sda.tellerDays ∧
      (writeCompleted st purpose s).sda.accountMap = s.sda.accountMap ∧
      (writeCompleted st purpose s).sda.nextAdvice = s.sda.nextAdvice ∧
      (writeCompleted st purpose s).sda.unmatchedAcks = s.sda.unmatchedAcks ∧
      (writeCompleted st purpose s).jrn = s.jrn ∧ (writeCompleted st purpose s).day = s.day ∧
      (writeCompleted st purpose s).tbl = s.tbl ∧ (writeCompleted st purpose s).slc = s.slc ∧
      (writeCompleted st purpose s).blc = s.blc ∧ (writeCompleted st purpose s).mrs = s.mrs ∧
      (writeCompleted st purpose s).rts = s.rts := by
  unfold writeCompleted; (try dsimp only); (repeat' split) <;> simp

@[simp] theorem takeWriteDone_keeps (st : Station) (s : State) :
    (takeWriteDone st s).pending = s.pending ∧ (takeWriteDone st s).uptime = s.uptime ∧
      (takeWriteDone st s).ttr = s.ttr ∧ (takeWriteDone st s).csh = s.csh ∧
      (takeWriteDone st s).scm.signOn = s.scm.signOn ∧ (takeWriteDone st s).scm.broadcast = s.scm.broadcast ∧
      (takeWriteDone st s).sda.accountMap = s.sda.accountMap ∧
      (takeWriteDone st s).sda.unmatchedAcks = s.sda.unmatchedAcks ∧
      (takeWriteDone st s).jrn.lastAccepted = s.jrn.lastAccepted ∧
      (takeWriteDone st s).jrn.printedCursor = s.jrn.printedCursor ∧
      (takeWriteDone st s).jrn.batchCounter = s.jrn.batchCounter ∧ (takeWriteDone st s).jrn.trickle = s.jrn.trickle ∧
      (takeWriteDone st s).jrn.pause = s.jrn.pause ∧ (takeWriteDone st s).jrn.unmatchedAcks = s.jrn.unmatchedAcks ∧
      (takeWriteDone st s).day = s.day ∧ (takeWriteDone st s).tbl = s.tbl ∧ (takeWriteDone st s).slc = s.slc ∧
      (takeWriteDone st s).blc.link = s.blc.link ∧ (takeWriteDone st s).blc.silence = s.blc.silence ∧
      (takeWriteDone st s).blc.reassembly = s.blc.reassembly ∧ (takeWriteDone st s).blc.sending = s.blc.sending ∧
      (takeWriteDone st s).blc.linkAnswer = s.blc.linkAnswer ∧ (takeWriteDone st s).blc.replies = s.blc.replies ∧
      (takeWriteDone st s).blc.requests = s.blc.requests ∧ (takeWriteDone st s).blc.frameCheck = s.blc.frameCheck ∧
      (takeWriteDone st s).blc.frameForm = s.blc.frameForm ∧ (takeWriteDone st s).mrs.places = s.mrs.places ∧
      (takeWriteDone st s).mrs.unmatchedReplies = s.mrs.unmatchedReplies ∧
      (takeWriteDone st s).mrs.overruns = s.mrs.overruns ∧ (takeWriteDone st s).mrs.settings = s.mrs.settings ∧
      (takeWriteDone st s).mrs.clock = s.mrs.clock ∧ (takeWriteDone st s).rts = s.rts := by
  unfold takeWriteDone; (try dsimp only); (repeat' split) <;> simp

@[simp] theorem takeWaitExpiry_keeps (st : Station) (s : State) :
    (takeWaitExpiry st s).pending = s.pending ∧ (takeWaitExpiry st s).uptime = s.uptime ∧
      (takeWaitExpiry st s).ttr = s.ttr ∧ (takeWaitExpiry st s).csh = s.csh ∧
      (takeWaitExpiry st s).scm.signOn = s.scm.signOn ∧ (takeWaitExpiry st s).scm.broadcast = s.scm.broadcast ∧
      (takeWaitExpiry st s).sda.accountMap = s.sda.accountMap ∧
      (takeWaitExpiry st s).sda.unmatchedAcks = s.sda.unmatchedAcks ∧
      (takeWaitExpiry st s).jrn.lastAccepted = s.jrn.lastAccepted ∧
      (takeWaitExpiry st s).jrn.printedCursor = s.jrn.printedCursor ∧
      (takeWaitExpiry st s).jrn.batchCounter = s.jrn.batchCounter ∧ (takeWaitExpiry st s).jrn.trickle = s.jrn.trickle ∧
      (takeWaitExpiry st s).jrn.pause = s.jrn.pause ∧ (takeWaitExpiry st s).jrn.unmatchedAcks = s.jrn.unmatchedAcks ∧
      (takeWaitExpiry st s).day = s.day ∧ (takeWaitExpiry st s).tbl = s.tbl ∧ (takeWaitExpiry st s).slc = s.slc ∧
      (takeWaitExpiry st s).blc.link = s.blc.link ∧ (takeWaitExpiry st s).blc.silence = s.blc.silence ∧
      (takeWaitExpiry st s).blc.reassembly = s.blc.reassembly ∧ (takeWaitExpiry st s).blc.sending = s.blc.sending ∧
      (takeWaitExpiry st s).blc.linkAnswer = s.blc.linkAnswer ∧ (takeWaitExpiry st s).blc.replies = s.blc.replies ∧
      (takeWaitExpiry st s).blc.requests = s.blc.requests ∧ (takeWaitExpiry st s).blc.frameCheck = s.blc.frameCheck ∧
      (takeWaitExpiry st s).blc.frameForm = s.blc.frameForm ∧ (takeWaitExpiry st s).mrs.places = s.mrs.places ∧
      (takeWaitExpiry st s).mrs.unmatchedReplies = s.mrs.unmatchedReplies ∧
      (takeWaitExpiry st s).mrs.overruns = s.mrs.overruns ∧ (takeWaitExpiry st s).mrs.settings = s.mrs.settings ∧
      (takeWaitExpiry st s).mrs.clock = s.mrs.clock ∧ (takeWaitExpiry st s).rts = s.rts := by
  unfold takeWaitExpiry; (try dsimp only); (repeat' split) <;> simp

@[simp] theorem takeCompletionExpiry_keeps (st : Station) (s : State) :
    (takeCompletionExpiry st s).pending = s.pending ∧ (takeCompletionExpiry st s).uptime = s.uptime ∧
      (takeCompletionExpiry st s).ttr = s.ttr ∧ (takeCompletionExpiry st s).csh = s.csh ∧
      (takeCompletionExpiry st s).scm.signOn = s.scm.signOn ∧
      (takeCompletionExpiry st s).scm.broadcast = s.scm.broadcast ∧
      (takeCompletionExpiry st s).sda.accountMap = s.sda.accountMap ∧
      (takeCompletionExpiry st s).sda.unmatchedAcks = s.sda.unmatchedAcks ∧
      (takeCompletionExpiry st s).jrn.lastAccepted = s.jrn.lastAccepted ∧
      (takeCompletionExpiry st s).jrn.printedCursor = s.jrn.printedCursor ∧
      (takeCompletionExpiry st s).jrn.batchCounter = s.jrn.batchCounter ∧
      (takeCompletionExpiry st s).jrn.trickle = s.jrn.trickle ∧ (takeCompletionExpiry st s).jrn.pause = s.jrn.pause ∧
      (takeCompletionExpiry st s).jrn.unmatchedAcks = s.jrn.unmatchedAcks ∧ (takeCompletionExpiry st s).day = s.day ∧
      (takeCompletionExpiry st s).tbl = s.tbl ∧ (takeCompletionExpiry st s).slc = s.slc ∧
      (takeCompletionExpiry st s).blc.link = s.blc.link ∧ (takeCompletionExpiry st s).blc.silence = s.blc.silence ∧
      (takeCompletionExpiry st s).blc.reassembly = s.blc.reassembly ∧
      (takeCompletionExpiry st s).blc.sending = s.blc.sending ∧
      (takeCompletionExpiry st s).blc.linkAnswer = s.blc.linkAnswer ∧
      (takeCompletionExpiry st s).blc.replies = s.blc.replies ∧
      (takeCompletionExpiry st s).blc.requests = s.blc.requests ∧
      (takeCompletionExpiry st s).blc.frameCheck = s.blc.frameCheck ∧
      (takeCompletionExpiry st s).blc.frameForm = s.blc.frameForm ∧
      (takeCompletionExpiry st s).mrs.places = s.mrs.places ∧
      (takeCompletionExpiry st s).mrs.unmatchedReplies = s.mrs.unmatchedReplies ∧
      (takeCompletionExpiry st s).mrs.overruns = s.mrs.overruns ∧
      (takeCompletionExpiry st s).mrs.settings = s.mrs.settings ∧ (takeCompletionExpiry st s).mrs.clock = s.mrs.clock ∧
      (takeCompletionExpiry st s).rts = s.rts := by
  unfold takeCompletionExpiry; (try dsimp only); (repeat' split) <;> simp

@[simp] theorem itemAccepted_keeps (st : Station) (body : ItemBody) (s : State) :
    (itemAccepted st body s).pending = s.pending ∧ (itemAccepted st body s).uptime = s.uptime ∧
      (itemAccepted st body s).ttr = s.ttr ∧ (itemAccepted st body s).csh = s.csh ∧
      (itemAccepted st body s).scm = s.scm ∧ (itemAccepted st body s).sda = s.sda ∧
      (itemAccepted st body s).jrn = s.jrn ∧ (itemAccepted st body s).day = s.day ∧
      (itemAccepted st body s).tbl = s.tbl ∧ (itemAccepted st body s).slc = s.slc ∧
      (itemAccepted st body s).blc = s.blc ∧ (itemAccepted st body s).mrs = s.mrs ∧
      (itemAccepted st body s).rts = s.rts := by
  unfold itemAccepted; (try dsimp only); (repeat' split) <;> simp

@[simp] theorem createJob_keeps (ref : Ref) (account : Option Text) (snapshot : Option Book) (lines : List PassLine) (balance : Option Int) (s : State) :
    (createJob ref account snapshot lines balance s).1.pending = s.pending ∧
      (createJob ref account snapshot lines balance s).1.uptime = s.uptime ∧
      (createJob ref account snapshot lines balance s).1.ttr = s.ttr ∧
      (createJob ref account snapshot lines balance s).1.csh = s.csh ∧
      (createJob ref account snapshot lines balance s).1.scm.signOn = s.scm.signOn ∧
      (createJob ref account snapshot lines balance s).1.scm.broadcast = s.scm.broadcast ∧
      (createJob ref account snapshot lines balance s).1.sda.accountMap = s.sda.accountMap ∧
      (createJob ref account snapshot lines balance s).1.sda.unmatchedAcks = s.sda.unmatchedAcks ∧
      (createJob ref account snapshot lines balance s).1.jrn.lastAccepted = s.jrn.lastAccepted ∧
      (createJob ref account snapshot lines balance s).1.jrn.printedCursor = s.jrn.printedCursor ∧
      (createJob ref account snapshot lines balance s).1.jrn.batchCounter = s.jrn.batchCounter ∧
      (createJob ref account snapshot lines balance s).1.jrn.trickle = s.jrn.trickle ∧
      (createJob ref account snapshot lines balance s).1.jrn.pause = s.jrn.pause ∧
      (createJob ref account snapshot lines balance s).1.jrn.unmatchedAcks = s.jrn.unmatchedAcks ∧
      (createJob ref account snapshot lines balance s).1.day = s.day ∧
      (createJob ref account snapshot lines balance s).1.tbl = s.tbl ∧
      (createJob ref account snapshot lines balance s).1.slc = s.slc ∧
      (createJob ref account snapshot lines balance s).1.blc.link = s.blc.link ∧
      (createJob ref account snapshot lines balance s).1.blc.silence = s.blc.silence ∧
      (createJob ref account snapshot lines balance s).1.blc.reassembly = s.blc.reassembly ∧
      (createJob ref account snapshot lines balance s).1.blc.sending = s.blc.sending ∧
      (createJob ref account snapshot lines balance s).1.blc.linkAnswer = s.blc.linkAnswer ∧
      (createJob ref account snapshot lines balance s).1.blc.replies = s.blc.replies ∧
      (createJob ref account snapshot lines balance s).1.blc.requests = s.blc.requests ∧
      (createJob ref account snapshot lines balance s).1.blc.frameCheck = s.blc.frameCheck ∧
      (createJob ref account snapshot lines balance s).1.blc.frameForm = s.blc.frameForm ∧
      (createJob ref account snapshot lines balance s).1.mrs.places = s.mrs.places ∧
      (createJob ref account snapshot lines balance s).1.mrs.unmatchedReplies = s.mrs.unmatchedReplies ∧
      (createJob ref account snapshot lines balance s).1.mrs.overruns = s.mrs.overruns ∧
      (createJob ref account snapshot lines balance s).1.mrs.settings = s.mrs.settings ∧
      (createJob ref account snapshot lines balance s).1.mrs.clock = s.mrs.clock ∧
      (createJob ref account snapshot lines balance s).1.rts = s.rts := by
  unfold createJob; (try dsimp only); (repeat' split) <;> simp

@[simp] theorem endQueueOff_keeps (k : Nat) (st : Station) (teller : Option Nat) (s : State) :
    (endQueueOff k st teller s).pending = s.pending ∧ (endQueueOff k st teller s).uptime = s.uptime ∧
      (endQueueOff k st teller s).ttr = s.ttr ∧ (endQueueOff k st teller s).csh = s.csh ∧
      (endQueueOff k st teller s).scm.signOn = s.scm.signOn ∧
      (endQueueOff k st teller s).scm.broadcast = s.scm.broadcast ∧
      (endQueueOff k st teller s).sda.accountMap = s.sda.accountMap ∧
      (endQueueOff k st teller s).sda.unmatchedAcks = s.sda.unmatchedAcks ∧
      (endQueueOff k st teller s).jrn.lastAccepted = s.jrn.lastAccepted ∧
      (endQueueOff k st teller s).jrn.printedCursor = s.jrn.printedCursor ∧
      (endQueueOff k st teller s).jrn.batchCounter = s.jrn.batchCounter ∧
      (endQueueOff k st teller s).jrn.trickle = s.jrn.trickle ∧ (endQueueOff k st teller s).jrn.pause = s.jrn.pause ∧
      (endQueueOff k st teller s).jrn.unmatchedAcks = s.jrn.unmatchedAcks ∧ (endQueueOff k st teller s).day = s.day ∧
      (endQueueOff k st teller s).tbl = s.tbl ∧ (endQueueOff k st teller s).slc = s.slc ∧
      (endQueueOff k st teller s).blc.link = s.blc.link ∧ (endQueueOff k st teller s).blc.silence = s.blc.silence ∧
      (endQueueOff k st teller s).blc.reassembly = s.blc.reassembly ∧
      (endQueueOff k st teller s).blc.sending = s.blc.sending ∧
      (endQueueOff k st teller s).blc.linkAnswer = s.blc.linkAnswer ∧
      (endQueueOff k st teller s).blc.replies = s.blc.replies ∧
      (endQueueOff k st teller s).blc.requests = s.blc.requests ∧
      (endQueueOff k st teller s).blc.frameCheck = s.blc.frameCheck ∧
      (endQueueOff k st teller s).blc.frameForm = s.blc.frameForm ∧
      (endQueueOff k st teller s).mrs.places = s.mrs.places ∧
      (endQueueOff k st teller s).mrs.unmatchedReplies = s.mrs.unmatchedReplies ∧
      (endQueueOff k st teller s).mrs.overruns = s.mrs.overruns ∧
      (endQueueOff k st teller s).mrs.settings = s.mrs.settings ∧ (endQueueOff k st teller s).mrs.clock = s.mrs.clock ∧
      (endQueueOff k st teller s).rts = s.rts := by
  induction k generalizing s with
  | zero => simp [endQueueOff]
  | succ k ih => unfold endQueueOff; (repeat' split) <;> simp [ih]

@[simp] theorem removePrinter_keeps (st : Station) (teller : Option Nat) (s : State) :
    (removePrinter st teller s).pending = s.pending ∧ (removePrinter st teller s).uptime = s.uptime ∧
      (removePrinter st teller s).ttr = s.ttr ∧ (removePrinter st teller s).csh = s.csh ∧
      (removePrinter st teller s).scm.signOn = s.scm.signOn ∧
      (removePrinter st teller s).scm.broadcast = s.scm.broadcast ∧
      (removePrinter st teller s).sda.accountMap = s.sda.accountMap ∧
      (removePrinter st teller s).sda.unmatchedAcks = s.sda.unmatchedAcks ∧
      (removePrinter st teller s).jrn.lastAccepted = s.jrn.lastAccepted ∧
      (removePrinter st teller s).jrn.printedCursor = s.jrn.printedCursor ∧
      (removePrinter st teller s).jrn.batchCounter = s.jrn.batchCounter ∧
      (removePrinter st teller s).jrn.trickle = s.jrn.trickle ∧ (removePrinter st teller s).jrn.pause = s.jrn.pause ∧
      (removePrinter st teller s).jrn.unmatchedAcks = s.jrn.unmatchedAcks ∧ (removePrinter st teller s).day = s.day ∧
      (removePrinter st teller s).tbl = s.tbl ∧ (removePrinter st teller s).slc = s.slc ∧
      (removePrinter st teller s).blc.link = s.blc.link ∧ (removePrinter st teller s).blc.silence = s.blc.silence ∧
      (removePrinter st teller s).blc.reassembly = s.blc.reassembly ∧
      (removePrinter st teller s).blc.sending = s.blc.sending ∧
      (removePrinter st teller s).blc.linkAnswer = s.blc.linkAnswer ∧
      (removePrinter st teller s).blc.replies = s.blc.replies ∧
      (removePrinter st teller s).blc.requests = s.blc.requests ∧
      (removePrinter st teller s).blc.frameCheck = s.blc.frameCheck ∧
      (removePrinter st teller s).blc.frameForm = s.blc.frameForm ∧
      (removePrinter st teller s).mrs.places = s.mrs.places ∧
      (removePrinter st teller s).mrs.unmatchedReplies = s.mrs.unmatchedReplies ∧
      (removePrinter st teller s).mrs.overruns = s.mrs.overruns ∧
      (removePrinter st teller s).mrs.settings = s.mrs.settings ∧ (removePrinter st teller s).mrs.clock = s.mrs.clock ∧
      (removePrinter st teller s).rts = s.rts := by
  unfold removePrinter; (try dsimp only); (repeat' split) <;> simp

@[simp] theorem changeDay_keeps (next : DayState) (s : State) :
    (changeDay next s).pending = s.pending ∧ (changeDay next s).uptime = s.uptime ∧ (changeDay next s).ttr = s.ttr ∧
      (changeDay next s).csh = s.csh ∧ (changeDay next s).scm.signOn = s.scm.signOn ∧
      (changeDay next s).scm.broadcast = s.scm.broadcast ∧ (changeDay next s).pbk = s.pbk ∧
      (changeDay next s).sda.accountMap = s.sda.accountMap ∧ (changeDay next s).sda.queue = s.sda.queue ∧
      (changeDay next s).sda.nextAdvice = s.sda.nextAdvice ∧
      (changeDay next s).sda.unmatchedAcks = s.sda.unmatchedAcks ∧
      (changeDay next s).jrn.lastAccepted = s.jrn.lastAccepted ∧
      (changeDay next s).jrn.printedCursor = s.jrn.printedCursor ∧
      (changeDay next s).jrn.batchCounter = s.jrn.batchCounter ∧ (changeDay next s).jrn.trickle = s.jrn.trickle ∧
      (changeDay next s).jrn.pause = s.jrn.pause ∧ (changeDay next s).jrn.unmatchedAcks = s.jrn.unmatchedAcks ∧
      (changeDay next s).day.date = s.day.date ∧ (changeDay next s).day.drawerMarks = s.day.drawerMarks ∧
      (changeDay next s).day.reserveMark = s.day.reserveMark ∧ (changeDay next s).day.settlement = s.day.settlement ∧
      (changeDay next s).tbl = s.tbl ∧ (changeDay next s).slc = s.slc ∧ (changeDay next s).blc.link = s.blc.link ∧
      (changeDay next s).blc.silence = s.blc.silence ∧ (changeDay next s).blc.reassembly = s.blc.reassembly ∧
      (changeDay next s).blc.sending = s.blc.sending ∧ (changeDay next s).blc.linkAnswer = s.blc.linkAnswer ∧
      (changeDay next s).blc.replies = s.blc.replies ∧ (changeDay next s).blc.requests = s.blc.requests ∧
      (changeDay next s).blc.frameCheck = s.blc.frameCheck ∧ (changeDay next s).blc.frameForm = s.blc.frameForm ∧
      (changeDay next s).mrs.places = s.mrs.places ∧ (changeDay next s).mrs.unmatchedReplies = s.mrs.unmatchedReplies ∧
      (changeDay next s).mrs.overruns = s.mrs.overruns ∧ (changeDay next s).mrs.settings = s.mrs.settings ∧
      (changeDay next s).mrs.clock = s.mrs.clock ∧ (changeDay next s).rts = s.rts := by
  unfold changeDay; (try dsimp only); (repeat' split) <;> simp

@[simp] theorem markUnbalanced_keeps (s : State) :
    (markUnbalanced s).pending = s.pending ∧ (markUnbalanced s).uptime = s.uptime ∧ (markUnbalanced s).ttr = s.ttr ∧
      (markUnbalanced s).csh = s.csh ∧ (markUnbalanced s).scm = s.scm ∧ (markUnbalanced s).pbk = s.pbk ∧
      (markUnbalanced s).sda = s.sda ∧ (markUnbalanced s).jrn = s.jrn ∧ (markUnbalanced s).day.state = s.day.state ∧
      (markUnbalanced s).day.date = s.day.date ∧ (markUnbalanced s).day.settlement = s.day.settlement ∧
      (markUnbalanced s).tbl = s.tbl ∧ (markUnbalanced s).slc = s.slc ∧ (markUnbalanced s).blc = s.blc ∧
      (markUnbalanced s).mrs = s.mrs ∧ (markUnbalanced s).rts = s.rts := by
  unfold markUnbalanced; (try dsimp only); (repeat' split) <;> simp

@[simp] theorem onSettlement_keeps (f : Settlement → Settlement) (s : State) :
    (onSettlement f s).pending = s.pending ∧ (onSettlement f s).uptime = s.uptime ∧ (onSettlement f s).ttr = s.ttr ∧
      (onSettlement f s).csh = s.csh ∧ (onSettlement f s).scm = s.scm ∧ (onSettlement f s).pbk = s.pbk ∧
      (onSettlement f s).sda = s.sda ∧ (onSettlement f s).jrn = s.jrn ∧ (onSettlement f s).day.state = s.day.state ∧
      (onSettlement f s).day.date = s.day.date ∧ (onSettlement f s).day.drawerMarks = s.day.drawerMarks ∧
      (onSettlement f s).day.reserveMark = s.day.reserveMark ∧ (onSettlement f s).tbl = s.tbl ∧
      (onSettlement f s).slc = s.slc ∧ (onSettlement f s).blc = s.blc ∧ (onSettlement f s).mrs = s.mrs ∧
      (onSettlement f s).rts = s.rts := by
  unfold onSettlement; (try dsimp only); (repeat' split) <;> simp

@[simp] theorem beginTotals_keeps (s : State) :
    (beginTotals s).pending = s.pending ∧ (beginTotals s).uptime = s.uptime ∧ (beginTotals s).ttr = s.ttr ∧
      (beginTotals s).csh = s.csh ∧ (beginTotals s).scm = s.scm ∧ (beginTotals s).pbk = s.pbk ∧
      (beginTotals s).sda = s.sda ∧ (beginTotals s).jrn = s.jrn ∧ (beginTotals s).day.state = s.day.state ∧
      (beginTotals s).day.date = s.day.date ∧ (beginTotals s).day.drawerMarks = s.day.drawerMarks ∧
      (beginTotals s).day.reserveMark = s.day.reserveMark ∧ (beginTotals s).tbl = s.tbl ∧ (beginTotals s).slc = s.slc ∧
      (beginTotals s).blc = s.blc ∧ (beginTotals s).mrs = s.mrs ∧ (beginTotals s).rts = s.rts := by
  unfold beginTotals; (try dsimp only); (repeat' split) <;> simp

@[simp] theorem journalPhaseEnd_keeps (s : State) :
    (journalPhaseEnd s).pending = s.pending ∧ (journalPhaseEnd s).uptime = s.uptime ∧
      (journalPhaseEnd s).ttr = s.ttr ∧ (journalPhaseEnd s).csh = s.csh ∧ (journalPhaseEnd s).scm = s.scm ∧
      (journalPhaseEnd s).pbk = s.pbk ∧ (journalPhaseEnd s).sda = s.sda ∧ (journalPhaseEnd s).jrn = s.jrn ∧
      (journalPhaseEnd s).day.state = s.day.state ∧ (journalPhaseEnd s).day.date = s.day.date ∧
      (journalPhaseEnd s).day.drawerMarks = s.day.drawerMarks ∧
      (journalPhaseEnd s).day.reserveMark = s.day.reserveMark ∧ (journalPhaseEnd s).tbl = s.tbl ∧
      (journalPhaseEnd s).slc = s.slc ∧ (journalPhaseEnd s).blc = s.blc ∧ (journalPhaseEnd s).mrs = s.mrs ∧
      (journalPhaseEnd s).rts = s.rts := by
  unfold journalPhaseEnd; (try dsimp only); (repeat' split) <;> simp

@[simp] theorem phaseAfterAcceptance_keeps (s : State) :
    (phaseAfterAcceptance s).pending = s.pending ∧ (phaseAfterAcceptance s).uptime = s.uptime ∧
      (phaseAfterAcceptance s).ttr = s.ttr ∧ (phaseAfterAcceptance s).csh = s.csh ∧ (phaseAfterAcceptance s).scm = s.scm ∧
      (phaseAfterAcceptance s).pbk = s.pbk ∧ (phaseAfterAcceptance s).sda = s.sda ∧ (phaseAfterAcceptance s).jrn = s.jrn ∧
      (phaseAfterAcceptance s).day.state = s.day.state ∧ (phaseAfterAcceptance s).day.date = s.day.date ∧
      (phaseAfterAcceptance s).day.drawerMarks = s.day.drawerMarks ∧
      (phaseAfterAcceptance s).day.reserveMark = s.day.reserveMark ∧ (phaseAfterAcceptance s).tbl = s.tbl ∧
      (phaseAfterAcceptance s).slc = s.slc ∧ (phaseAfterAcceptance s).blc = s.blc ∧ (phaseAfterAcceptance s).mrs = s.mrs ∧
      (phaseAfterAcceptance s).rts = s.rts := by
  unfold phaseAfterAcceptance; (try dsimp only); (repeat' split) <;> simp

@[simp] theorem beginJournalPhase_keeps (s : State) :
    (beginJournalPhase s).pending = s.pending ∧ (beginJournalPhase s).uptime = s.uptime ∧
      (beginJournalPhase s).ttr = s.ttr ∧ (beginJournalPhase s).csh = s.csh ∧ (beginJournalPhase s).scm = s.scm ∧
      (beginJournalPhase s).pbk = s.pbk ∧ (beginJournalPhase s).sda = s.sda ∧ (beginJournalPhase s).jrn = s.jrn ∧
      (beginJournalPhase s).day.state = s.day.state ∧ (beginJournalPhase s).day.date = s.day.date ∧
      (beginJournalPhase s).day.drawerMarks = s.day.drawerMarks ∧
      (beginJournalPhase s).day.reserveMark = s.day.reserveMark ∧ (beginJournalPhase s).tbl = s.tbl ∧
      (beginJournalPhase s).slc = s.slc ∧ (beginJournalPhase s).blc = s.blc ∧ (beginJournalPhase s).mrs = s.mrs ∧
      (beginJournalPhase s).rts = s.rts := by
  unfold beginJournalPhase; (try dsimp only); (repeat' split) <;> simp

@[simp] theorem judgeSettle_keeps (s : State) :
    (judgeSettle s).pending = s.pending ∧ (judgeSettle s).uptime = s.uptime ∧ (judgeSettle s).ttr = s.ttr ∧
      (judgeSettle s).csh = s.csh ∧ (judgeSettle s).scm.signOn = s.scm.signOn ∧
      (judgeSettle s).scm.broadcast = s.scm.broadcast ∧ (judgeSettle s).pbk = s.pbk ∧
      (judgeSettle s).sda.accountMap = s.sda.accountMap ∧ (judgeSettle s).sda.queue = s.sda.queue ∧
      (judgeSettle s).sda.nextAdvice = s.sda.nextAdvice ∧ (judgeSettle s).sda.unmatchedAcks = s.sda.unmatchedAcks ∧
      (judgeSettle s).jrn.lastAccepted = s.jrn.lastAccepted ∧ (judgeSettle s).jrn.printedCursor = s.jrn.printedCursor ∧
      (judgeSettle s).jrn.batchCounter = s.jrn.batchCounter ∧ (judgeSettle s).jrn.trickle = s.jrn.trickle ∧
      (judgeSettle s).jrn.pause = s.jrn.pause ∧ (judgeSettle s).jrn.unmatchedAcks = s.jrn.unmatchedAcks ∧
      (judgeSettle s).day.date = s.day.date ∧ (judgeSettle s).day.drawerMarks = s.day.drawerMarks ∧
      (judgeSettle s).day.reserveMark = s.day.reserveMark ∧ (judgeSettle s).tbl = s.tbl ∧ (judgeSettle s).slc = s.slc ∧
      (judgeSettle s).blc.link = s.blc.link ∧ (judgeSettle s).blc.silence = s.blc.silence ∧
      (judgeSettle s).blc.reassembly = s.blc.reassembly ∧ (judgeSettle s).blc.sending = s.blc.sending ∧
      (judgeSettle s).blc.linkAnswer = s.blc.linkAnswer ∧ (judgeSettle s).blc.replies = s.blc.replies ∧
      (judgeSettle s).blc.requests = s.blc.requests ∧ (judgeSettle s).blc.frameCheck = s.blc.frameCheck ∧
      (judgeSettle s).blc.frameForm = s.blc.frameForm ∧ (judgeSettle s).mrs.places = s.mrs.places ∧
      (judgeSettle s).mrs.unmatchedReplies = s.mrs.unmatchedReplies ∧ (judgeSettle s).mrs.overruns = s.mrs.overruns ∧
      (judgeSettle s).mrs.settings = s.mrs.settings ∧ (judgeSettle s).mrs.clock = s.mrs.clock ∧
      (judgeSettle s).rts = s.rts := by
  unfold judgeSettle; (try dsimp only); (repeat' split) <;> simp

@[simp] theorem settlementSent_keeps (b : Batch) (s : State) :
    (settlementSent b s).pending = s.pending ∧ (settlementSent b s).uptime = s.uptime ∧
      (settlementSent b s).ttr = s.ttr ∧ (settlementSent b s).csh = s.csh ∧ (settlementSent b s).scm = s.scm ∧
      (settlementSent b s).pbk = s.pbk ∧ (settlementSent b s).sda = s.sda ∧
      (settlementSent b s).jrn.entries = s.jrn.entries ∧ (settlementSent b s).jrn.used = s.jrn.used ∧
      (settlementSent b s).jrn.reserved = s.jrn.reserved ∧ (settlementSent b s).jrn.free = s.jrn.free ∧
      (settlementSent b s).jrn.nextSeq = s.jrn.nextSeq ∧ (settlementSent b s).jrn.lastAccepted = s.jrn.lastAccepted ∧
      (settlementSent b s).jrn.printedCursor = s.jrn.printedCursor ∧
      (settlementSent b s).jrn.notStored = s.jrn.notStored ∧ (settlementSent b s).jrn.trickle = s.jrn.trickle ∧
      (settlementSent b s).jrn.pause = s.jrn.pause ∧ (settlementSent b s).jrn.unmatchedAcks = s.jrn.unmatchedAcks ∧
      (settlementSent b s).day.state = s.day.state ∧ (settlementSent b s).day.date = s.day.date ∧
      (settlementSent b s).day.drawerMarks = s.day.drawerMarks ∧
      (settlementSent b s).day.reserveMark = s.day.reserveMark ∧ (settlementSent b s).tbl = s.tbl ∧
      (settlementSent b s).slc = s.slc ∧ (settlementSent b s).blc = s.blc ∧ (settlementSent b s).mrs = s.mrs ∧
      (settlementSent b s).rts = s.rts := by
  unfold settlementSent; (try dsimp only); (repeat' split) <;> simp

@[simp] theorem trickleSent_keeps (b : JournalBatch) (s : State) :
    (trickleSent b s).pending = s.pending ∧ (trickleSent b s).uptime = s.uptime ∧ (trickleSent b s).ttr = s.ttr ∧
      (trickleSent b s).csh = s.csh ∧ (trickleSent b s).scm = s.scm ∧ (trickleSent b s).pbk = s.pbk ∧
      (trickleSent b s).sda = s.sda ∧ (trickleSent b s).jrn.entries = s.jrn.entries ∧
      (trickleSent b s).jrn.used = s.jrn.used ∧ (trickleSent b s).jrn.reserved = s.jrn.reserved ∧
      (trickleSent b s).jrn.free = s.jrn.free ∧ (trickleSent b s).jrn.nextSeq = s.jrn.nextSeq ∧
      (trickleSent b s).jrn.lastAccepted = s.jrn.lastAccepted ∧
      (trickleSent b s).jrn.printedCursor = s.jrn.printedCursor ∧ (trickleSent b s).jrn.notStored = s.jrn.notStored ∧
      (trickleSent b s).jrn.pause = s.jrn.pause ∧ (trickleSent b s).jrn.unmatchedAcks = s.jrn.unmatchedAcks ∧
      (trickleSent b s).day = s.day ∧ (trickleSent b s).tbl = s.tbl ∧ (trickleSent b s).slc = s.slc ∧
      (trickleSent b s).blc = s.blc ∧ (trickleSent b s).mrs = s.mrs ∧ (trickleSent b s).rts = s.rts := by
  unfold trickleSent; (try dsimp only); (repeat' split) <;> simp

@[simp] theorem endSettlement_keeps (s : State) :
    (endSettlement s).pending = s.pending ∧ (endSettlement s).uptime = s.uptime ∧ (endSettlement s).ttr = s.ttr ∧
      (endSettlement s).csh = s.csh ∧ (endSettlement s).scm.signOn = s.scm.signOn ∧
      (endSettlement s).scm.broadcast = s.scm.broadcast ∧ (endSettlement s).pbk = s.pbk ∧
      (endSettlement s).sda.accountMap = s.sda.accountMap ∧ (endSettlement s).sda.queue = s.sda.queue ∧
      (endSettlement s).sda.nextAdvice = s.sda.nextAdvice ∧ (endSettlement s).sda.unmatchedAcks = s.sda.unmatchedAcks ∧
      (endSettlement s).jrn.lastAccepted = s.jrn.lastAccepted ∧
      (endSettlement s).jrn.printedCursor = s.jrn.printedCursor ∧
      (endSettlement s).jrn.batchCounter = s.jrn.batchCounter ∧ (endSettlement s).jrn.trickle = s.jrn.trickle ∧
      (endSettlement s).jrn.pause = s.jrn.pause ∧ (endSettlement s).jrn.unmatchedAcks = s.jrn.unmatchedAcks ∧
      (endSettlement s).day.date = s.day.date ∧ (endSettlement s).day.drawerMarks = s.day.drawerMarks ∧
      (endSettlement s).day.reserveMark = s.day.reserveMark ∧ (endSettlement s).tbl = s.tbl ∧
      (endSettlement s).slc = s.slc ∧ (endSettlement s).blc.link = s.blc.link ∧
      (endSettlement s).blc.silence = s.blc.silence ∧ (endSettlement s).blc.reassembly = s.blc.reassembly ∧
      (endSettlement s).blc.sending = s.blc.sending ∧ (endSettlement s).blc.linkAnswer = s.blc.linkAnswer ∧
      (endSettlement s).blc.replies = s.blc.replies ∧ (endSettlement s).blc.requests = s.blc.requests ∧
      (endSettlement s).blc.frameCheck = s.blc.frameCheck ∧ (endSettlement s).blc.frameForm = s.blc.frameForm ∧
      (endSettlement s).mrs.places = s.mrs.places ∧ (endSettlement s).mrs.unmatchedReplies = s.mrs.unmatchedReplies ∧
      (endSettlement s).mrs.overruns = s.mrs.overruns ∧ (endSettlement s).mrs.settings = s.mrs.settings ∧
      (endSettlement s).mrs.clock = s.mrs.clock ∧ (endSettlement s).rts = s.rts := by
  unfold endSettlement; (try dsimp only); (repeat' split) <;> simp

@[simp] theorem settlementAccepted_keeps (b : Batch) (s : State) :
    (settlementAccepted b s).pending = s.pending ∧ (settlementAccepted b s).uptime = s.uptime ∧
      (settlementAccepted b s).ttr = s.ttr ∧ (settlementAccepted b s).csh = s.csh ∧
      (settlementAccepted b s).scm.signOn = s.scm.signOn ∧ (settlementAccepted b s).scm.broadcast = s.scm.broadcast ∧
      (settlementAccepted b s).pbk = s.pbk ∧ (settlementAccepted b s).sda.accountMap = s.sda.accountMap ∧
      (settlementAccepted b s).sda.queue = s.sda.queue ∧ (settlementAccepted b s).sda.nextAdvice = s.sda.nextAdvice ∧
      (settlementAccepted b s).sda.unmatchedAcks = s.sda.unmatchedAcks ∧
      (settlementAccepted b s).jrn.printedCursor = s.jrn.printedCursor ∧
      (settlementAccepted b s).jrn.batchCounter = s.jrn.batchCounter ∧
      (settlementAccepted b s).jrn.trickle = s.jrn.trickle ∧ (settlementAccepted b s).jrn.pause = s.jrn.pause ∧
      (settlementAccepted b s).jrn.unmatchedAcks = s.jrn.unmatchedAcks ∧
      (settlementAccepted b s).day.date = s.day.date ∧ (settlementAccepted b s).day.drawerMarks = s.day.drawerMarks ∧
      (settlementAccepted b s).day.reserveMark = s.day.reserveMark ∧ (settlementAccepted b s).tbl = s.tbl ∧
      (settlementAccepted b s).slc = s.slc ∧ (settlementAccepted b s).blc.link = s.blc.link ∧
      (settlementAccepted b s).blc.silence = s.blc.silence ∧
      (settlementAccepted b s).blc.reassembly = s.blc.reassembly ∧
      (settlementAccepted b s).blc.sending = s.blc.sending ∧
      (settlementAccepted b s).blc.linkAnswer = s.blc.linkAnswer ∧
      (settlementAccepted b s).blc.replies = s.blc.replies ∧ (settlementAccepted b s).blc.requests = s.blc.requests ∧
      (settlementAccepted b s).blc.frameCheck = s.blc.frameCheck ∧
      (settlementAccepted b s).blc.frameForm = s.blc.frameForm ∧ (settlementAccepted b s).mrs.places = s.mrs.places ∧
      (settlementAccepted b s).mrs.unmatchedReplies = s.mrs.unmatchedReplies ∧
      (settlementAccepted b s).mrs.overruns = s.mrs.overruns ∧ (settlementAccepted b s).mrs.settings = s.mrs.settings ∧
      (settlementAccepted b s).mrs.clock = s.mrs.clock ∧ (settlementAccepted b s).rts = s.rts := by
  unfold settlementAccepted; (try dsimp only); (repeat' split) <;> simp

@[simp] theorem failDay_keeps (s : State) :
    (failDay s).pending = s.pending ∧ (failDay s).uptime = s.uptime ∧ (failDay s).ttr = s.ttr ∧
      (failDay s).csh = s.csh ∧ (failDay s).scm.signOn = s.scm.signOn ∧ (failDay s).scm.broadcast = s.scm.broadcast ∧
      (failDay s).pbk = s.pbk ∧ (failDay s).sda.accountMap = s.sda.accountMap ∧ (failDay s).sda.queue = s.sda.queue ∧
      (failDay s).sda.nextAdvice = s.sda.nextAdvice ∧ (failDay s).sda.unmatchedAcks = s.sda.unmatchedAcks ∧
      (failDay s).jrn.lastAccepted = s.jrn.lastAccepted ∧ (failDay s).jrn.printedCursor = s.jrn.printedCursor ∧
      (failDay s).jrn.batchCounter = s.jrn.batchCounter ∧ (failDay s).jrn.trickle = s.jrn.trickle ∧
      (failDay s).jrn.pause = s.jrn.pause ∧ (failDay s).jrn.unmatchedAcks = s.jrn.unmatchedAcks ∧
      (failDay s).day.date = s.day.date ∧ (failDay s).day.drawerMarks = s.day.drawerMarks ∧
      (failDay s).day.reserveMark = s.day.reserveMark ∧ (failDay s).tbl = s.tbl ∧ (failDay s).slc = s.slc ∧
      (failDay s).blc.link = s.blc.link ∧ (failDay s).blc.silence = s.blc.silence ∧
      (failDay s).blc.reassembly = s.blc.reassembly ∧ (failDay s).blc.sending = s.blc.sending ∧
      (failDay s).blc.linkAnswer = s.blc.linkAnswer ∧ (failDay s).blc.replies = s.blc.replies ∧
      (failDay s).blc.requests = s.blc.requests ∧ (failDay s).blc.frameCheck = s.blc.frameCheck ∧
      (failDay s).blc.frameForm = s.blc.frameForm ∧ (failDay s).mrs.places = s.mrs.places ∧
      (failDay s).mrs.unmatchedReplies = s.mrs.unmatchedReplies ∧ (failDay s).mrs.overruns = s.mrs.overruns ∧
      (failDay s).mrs.settings = s.mrs.settings ∧ (failDay s).mrs.clock = s.mrs.clock ∧ (failDay s).rts = s.rts := by
  unfold failDay; (try dsimp only); (repeat' split) <;> simp

@[simp] theorem settlementFails_keeps (s : State) :
    (settlementFails s).pending = s.pending ∧ (settlementFails s).uptime = s.uptime ∧
      (settlementFails s).ttr = s.ttr ∧ (settlementFails s).csh = s.csh ∧
      (settlementFails s).scm.signOn = s.scm.signOn ∧ (settlementFails s).scm.broadcast = s.scm.broadcast ∧
      (settlementFails s).pbk = s.pbk ∧ (settlementFails s).sda.accountMap = s.sda.accountMap ∧
      (settlementFails s).sda.queue = s.sda.queue ∧ (settlementFails s).sda.nextAdvice = s.sda.nextAdvice ∧
      (settlementFails s).sda.unmatchedAcks = s.sda.unmatchedAcks ∧
      (settlementFails s).jrn.lastAccepted = s.jrn.lastAccepted ∧
      (settlementFails s).jrn.printedCursor = s.jrn.printedCursor ∧
      (settlementFails s).jrn.batchCounter = s.jrn.batchCounter ∧ (settlementFails s).jrn.trickle = s.jrn.trickle ∧
      (settlementFails s).jrn.pause = s.jrn.pause ∧ (settlementFails s).jrn.unmatchedAcks = s.jrn.unmatchedAcks ∧
      (settlementFails s).day.date = s.day.date ∧ (settlementFails s).day.drawerMarks = s.day.drawerMarks ∧
      (settlementFails s).day.reserveMark = s.day.reserveMark ∧ (settlementFails s).tbl = s.tbl ∧
      (settlementFails s).slc = s.slc ∧ (settlementFails s).blc.link = s.blc.link ∧
      (settlementFails s).blc.silence = s.blc.silence ∧ (settlementFails s).blc.reassembly = s.blc.reassembly ∧
      (settlementFails s).blc.sending = s.blc.sending ∧ (settlementFails s).blc.linkAnswer = s.blc.linkAnswer ∧
      (settlementFails s).blc.replies = s.blc.replies ∧ (settlementFails s).blc.requests = s.blc.requests ∧
      (settlementFails s).blc.frameCheck = s.blc.frameCheck ∧ (settlementFails s).blc.frameForm = s.blc.frameForm ∧
      (settlementFails s).mrs.places = s.mrs.places ∧
      (settlementFails s).mrs.unmatchedReplies = s.mrs.unmatchedReplies ∧
      (settlementFails s).mrs.overruns = s.mrs.overruns ∧ (settlementFails s).mrs.settings = s.mrs.settings ∧
      (settlementFails s).mrs.clock = s.mrs.clock ∧ (settlementFails s).rts = s.rts := by
  unfold settlementFails; (try dsimp only); (repeat' split) <;> simp

@[simp] theorem settlementLinkLost_keeps (s : State) :
    (settlementLinkLost s).pending = s.pending ∧ (settlementLinkLost s).uptime = s.uptime ∧
      (settlementLinkLost s).ttr = s.ttr ∧ (settlementLinkLost s).csh = s.csh ∧ (settlementLinkLost s).scm = s.scm ∧
      (settlementLinkLost s).pbk = s.pbk ∧ (settlementLinkLost s).sda = s.sda ∧ (settlementLinkLost s).jrn = s.jrn ∧
      (settlementLinkLost s).day.state = s.day.state ∧ (settlementLinkLost s).day.date = s.day.date ∧
      (settlementLinkLost s).day.drawerMarks = s.day.drawerMarks ∧
      (settlementLinkLost s).day.reserveMark = s.day.reserveMark ∧ (settlementLinkLost s).tbl = s.tbl ∧
      (settlementLinkLost s).slc = s.slc ∧ (settlementLinkLost s).blc = s.blc ∧ (settlementLinkLost s).mrs = s.mrs ∧
      (settlementLinkLost s).rts = s.rts := by
  unfold settlementLinkLost; (try dsimp only); (repeat' split) <;> simp

@[simp] theorem journalNewDay_keeps (s : State) :
    (journalNewDay s).pending = s.pending ∧ (journalNewDay s).uptime = s.uptime ∧ (journalNewDay s).ttr = s.ttr ∧
      (journalNewDay s).csh = s.csh ∧ (journalNewDay s).scm = s.scm ∧ (journalNewDay s).pbk = s.pbk ∧
      (journalNewDay s).sda = s.sda ∧ (journalNewDay s).jrn.reserved = s.jrn.reserved ∧
      (journalNewDay s).jrn.notStored = s.jrn.notStored ∧ (journalNewDay s).jrn.trickle = s.jrn.trickle ∧
      (journalNewDay s).jrn.pause = s.jrn.pause ∧ (journalNewDay s).jrn.unmatchedAcks = s.jrn.unmatchedAcks ∧
      (journalNewDay s).day = s.day ∧ (journalNewDay s).tbl = s.tbl ∧ (journalNewDay s).slc = s.slc ∧
      (journalNewDay s).blc = s.blc ∧ (journalNewDay s).mrs = s.mrs ∧ (journalNewDay s).rts = s.rts := by
  unfold journalNewDay; (try dsimp only); (repeat' split) <;> simp

@[simp] theorem rollDay_keeps (d : Date) (s : State) :
    (rollDay d s).pending = s.pending ∧ (rollDay d s).uptime = s.uptime ∧ (rollDay d s).ttr = s.ttr ∧
      (rollDay d s).scm.signOn = s.scm.signOn ∧ (rollDay d s).scm.broadcast = s.scm.broadcast ∧
      (rollDay d s).pbk = s.pbk ∧ (rollDay d s).sda.queue = s.sda.queue ∧
      (rollDay d s).sda.unmatchedAcks = s.sda.unmatchedAcks ∧ (rollDay d s).jrn.trickle = s.jrn.trickle ∧
      (rollDay d s).jrn.pause = s.jrn.pause ∧ (rollDay d s).jrn.unmatchedAcks = s.jrn.unmatchedAcks ∧
      (rollDay d s).tbl = s.tbl ∧ (rollDay d s).slc = s.slc ∧ (rollDay d s).blc.link = s.blc.link ∧
      (rollDay d s).blc.silence = s.blc.silence ∧ (rollDay d s).blc.reassembly = s.blc.reassembly ∧
      (rollDay d s).blc.sending = s.blc.sending ∧ (rollDay d s).blc.linkAnswer = s.blc.linkAnswer ∧
      (rollDay d s).blc.replies = s.blc.replies ∧ (rollDay d s).blc.requests = s.blc.requests ∧
      (rollDay d s).blc.frameCheck = s.blc.frameCheck ∧ (rollDay d s).blc.frameForm = s.blc.frameForm ∧
      (rollDay d s).mrs.places = s.mrs.places ∧ (rollDay d s).mrs.unmatchedReplies = s.mrs.unmatchedReplies ∧
      (rollDay d s).mrs.overruns = s.mrs.overruns ∧ (rollDay d s).mrs.settings = s.mrs.settings ∧
      (rollDay d s).mrs.clock = s.mrs.clock ∧ (rollDay d s).rts = s.rts := by
  unfold rollDay; (try dsimp only); (repeat' split) <;> simp

@[simp] theorem restartDay_keeps (s : State) :
    (restartDay s).pending = s.pending ∧ (restartDay s).uptime = s.uptime ∧ (restartDay s).ttr = s.ttr ∧
      (restartDay s).csh = s.csh ∧ (restartDay s).scm.signOn = s.scm.signOn ∧
      (restartDay s).scm.broadcast = s.scm.broadcast ∧ (restartDay s).pbk = s.pbk ∧
      (restartDay s).sda.accountMap = s.sda.accountMap ∧ (restartDay s).sda.queue = s.sda.queue ∧
      (restartDay s).sda.nextAdvice = s.sda.nextAdvice ∧ (restartDay s).sda.unmatchedAcks = s.sda.unmatchedAcks ∧
      (restartDay s).jrn.lastAccepted = s.jrn.lastAccepted ∧ (restartDay s).jrn.printedCursor = s.jrn.printedCursor ∧
      (restartDay s).jrn.batchCounter = s.jrn.batchCounter ∧ (restartDay s).jrn.trickle = s.jrn.trickle ∧
      (restartDay s).jrn.pause = s.jrn.pause ∧ (restartDay s).jrn.unmatchedAcks = s.jrn.unmatchedAcks ∧
      (restartDay s).day.date = s.day.date ∧ (restartDay s).day.drawerMarks = s.day.drawerMarks ∧
      (restartDay s).day.reserveMark = s.day.reserveMark ∧ (restartDay s).tbl = s.tbl ∧ (restartDay s).slc = s.slc ∧
      (restartDay s).blc.link = s.blc.link ∧ (restartDay s).blc.silence = s.blc.silence ∧
      (restartDay s).blc.reassembly = s.blc.reassembly ∧ (restartDay s).blc.sending = s.blc.sending ∧
      (restartDay s).blc.linkAnswer = s.blc.linkAnswer ∧ (restartDay s).blc.replies = s.blc.replies ∧
      (restartDay s).blc.requests = s.blc.requests ∧ (restartDay s).blc.frameCheck = s.blc.frameCheck ∧
      (restartDay s).blc.frameForm = s.blc.frameForm ∧ (restartDay s).mrs.places = s.mrs.places ∧
      (restartDay s).mrs.unmatchedReplies = s.mrs.unmatchedReplies ∧ (restartDay s).mrs.overruns = s.mrs.overruns ∧
      (restartDay s).mrs.settings = s.mrs.settings ∧ (restartDay s).mrs.clock = s.mrs.clock ∧
      (restartDay s).rts = s.rts := by
  unfold restartDay; (try dsimp only); (repeat' split) <;> simp

@[simp] theorem giveNumber_keeps (st : Station) (s : State) :
    (giveNumber st s).pending = s.pending ∧ (giveNumber st s).uptime = s.uptime ∧
      (giveNumber st s).ttr.ott = s.ttr.ott ∧ (giveNumber st s).ttr.late = s.ttr.late ∧ (giveNumber st s).csh = s.csh ∧
      (giveNumber st s).scm = s.scm ∧ (giveNumber st s).pbk = s.pbk ∧ (giveNumber st s).sda = s.sda ∧
      (giveNumber st s).jrn = s.jrn ∧ (giveNumber st s).day = s.day ∧ (giveNumber st s).tbl = s.tbl ∧
      (giveNumber st s).slc = s.slc ∧ (giveNumber st s).blc = s.blc ∧ (giveNumber st s).mrs = s.mrs ∧
      (giveNumber st s).rts = s.rts := by
  unfold giveNumber; (try dsimp only); (repeat' split) <;> simp

@[simp] theorem removeOtt_keeps (ref : Ref) (s : State) :
    (removeOtt ref s).pending = s.pending ∧ (removeOtt ref s).uptime = s.uptime ∧
      (removeOtt ref s).ttr.late = s.ttr.late ∧ (removeOtt ref s).ttr.seqs = s.ttr.seqs ∧
      (removeOtt ref s).csh = s.csh ∧ (removeOtt ref s).scm = s.scm ∧ (removeOtt ref s).pbk = s.pbk ∧
      (removeOtt ref s).sda = s.sda ∧ (removeOtt ref s).jrn = s.jrn ∧ (removeOtt ref s).day = s.day ∧
      (removeOtt ref s).tbl = s.tbl ∧ (removeOtt ref s).slc = s.slc ∧ (removeOtt ref s).blc = s.blc ∧
      (removeOtt ref s).mrs = s.mrs ∧ (removeOtt ref s).rts = s.rts := by
  unfold removeOtt; (try dsimp only); (repeat' split) <;> simp

@[simp] theorem removeLate_keeps (ref : Ref) (s : State) :
    (removeLate ref s).pending = s.pending ∧ (removeLate ref s).uptime = s.uptime ∧
      (removeLate ref s).ttr.ott = s.ttr.ott ∧ (removeLate ref s).ttr.seqs = s.ttr.seqs ∧
      (removeLate ref s).csh = s.csh ∧ (removeLate ref s).scm = s.scm ∧ (removeLate ref s).pbk = s.pbk ∧
      (removeLate ref s).sda = s.sda ∧ (removeLate ref s).jrn = s.jrn ∧ (removeLate ref s).day = s.day ∧
      (removeLate ref s).tbl = s.tbl ∧ (removeLate ref s).slc = s.slc ∧ (removeLate ref s).blc = s.blc ∧
      (removeLate ref s).mrs = s.mrs ∧ (removeLate ref s).rts = s.rts := by
  unfold removeLate; (try dsimp only); (repeat' split) <;> simp

@[simp] theorem withdrawRequest_keeps (ref : Ref) (s : State) :
    (withdrawRequest ref s).pending = s.pending ∧ (withdrawRequest ref s).uptime = s.uptime ∧
      (withdrawRequest ref s).ttr = s.ttr ∧ (withdrawRequest ref s).csh = s.csh ∧ (withdrawRequest ref s).scm = s.scm ∧
      (withdrawRequest ref s).pbk = s.pbk ∧ (withdrawRequest ref s).sda = s.sda ∧ (withdrawRequest ref s).jrn = s.jrn ∧
      (withdrawRequest ref s).day = s.day ∧ (withdrawRequest ref s).tbl = s.tbl ∧ (withdrawRequest ref s).slc = s.slc ∧
      (withdrawRequest ref s).blc.link = s.blc.link ∧ (withdrawRequest ref s).blc.silence = s.blc.silence ∧
      (withdrawRequest ref s).blc.reassembly = s.blc.reassembly ∧ (withdrawRequest ref s).blc.sending = s.blc.sending ∧
      (withdrawRequest ref s).blc.linkAnswer = s.blc.linkAnswer ∧ (withdrawRequest ref s).blc.replies = s.blc.replies ∧
      (withdrawRequest ref s).blc.events = s.blc.events ∧ (withdrawRequest ref s).blc.frameCheck = s.blc.frameCheck ∧
      (withdrawRequest ref s).blc.frameForm = s.blc.frameForm ∧ (withdrawRequest ref s).mrs = s.mrs ∧
      (withdrawRequest ref s).rts = s.rts := by
  unfold withdrawRequest; (try dsimp only); (repeat' split) <;> simp

@[simp] theorem endEntry_keeps (e : OttEntry) (outcome : TxnOutcome) (b : Breakdown) (s : State) :
    (endEntry e outcome b s).pending = s.pending ∧ (endEntry e outcome b s).uptime = s.uptime ∧
      (endEntry e outcome b s).ttr.late = s.ttr.late ∧ (endEntry e outcome b s).ttr.seqs = s.ttr.seqs ∧
      (endEntry e outcome b s).csh = s.csh ∧ (endEntry e outcome b s).scm = s.scm ∧
      (endEntry e outcome b s).pbk = s.pbk ∧ (endEntry e outcome b s).sda.accountMap = s.sda.accountMap ∧
      (endEntry e outcome b s).sda.queue = s.sda.queue ∧ (endEntry e outcome b s).sda.nextAdvice = s.sda.nextAdvice ∧
      (endEntry e outcome b s).sda.unmatchedAcks = s.sda.unmatchedAcks ∧
      (endEntry e outcome b s).jrn.lastAccepted = s.jrn.lastAccepted ∧
      (endEntry e outcome b s).jrn.printedCursor = s.jrn.printedCursor ∧
      (endEntry e outcome b s).jrn.batchCounter = s.jrn.batchCounter ∧
      (endEntry e outcome b s).jrn.trickle = s.jrn.trickle ∧ (endEntry e outcome b s).jrn.pause = s.jrn.pause ∧
      (endEntry e outcome b s).jrn.unmatchedAcks = s.jrn.unmatchedAcks ∧ (endEntry e outcome b s).day = s.day ∧
      (endEntry e outcome b s).tbl = s.tbl ∧ (endEntry e outcome b s).slc = s.slc ∧
      (endEntry e outcome b s).blc.link = s.blc.link ∧ (endEntry e outcome b s).blc.silence = s.blc.silence ∧
      (endEntry e outcome b s).blc.reassembly = s.blc.reassembly ∧
      (endEntry e outcome b s).blc.sending = s.blc.sending ∧
      (endEntry e outcome b s).blc.linkAnswer = s.blc.linkAnswer ∧
      (endEntry e outcome b s).blc.replies = s.blc.replies ∧ (endEntry e outcome b s).blc.requests = s.blc.requests ∧
      (endEntry e outcome b s).blc.frameCheck = s.blc.frameCheck ∧
      (endEntry e outcome b s).blc.frameForm = s.blc.frameForm ∧ (endEntry e outcome b s).mrs.places = s.mrs.places ∧
      (endEntry e outcome b s).mrs.unmatchedReplies = s.mrs.unmatchedReplies ∧
      (endEntry e outcome b s).mrs.overruns = s.mrs.overruns ∧ (endEntry e outcome b s).mrs.settings = s.mrs.settings ∧
      (endEntry e outcome b s).mrs.clock = s.mrs.clock ∧ (endEntry e outcome b s).rts = s.rts := by
  unfold endEntry; (try dsimp only); (repeat' split) <;> simp

@[simp] theorem endLinkDown_keeps (e : OttEntry) (s : State) :
    (endLinkDown e s).pending = s.pending ∧ (endLinkDown e s).uptime = s.uptime ∧
      (endLinkDown e s).ttr.late = s.ttr.late ∧ (endLinkDown e s).ttr.seqs = s.ttr.seqs ∧
      (endLinkDown e s).csh.reserve = s.csh.reserve ∧ (endLinkDown e s).scm.signOn = s.scm.signOn ∧
      (endLinkDown e s).scm.broadcast = s.scm.broadcast ∧ (endLinkDown e s).pbk = s.pbk ∧
      (endLinkDown e s).sda.accountMap = s.sda.accountMap ∧ (endLinkDown e s).sda.queue = s.sda.queue ∧
      (endLinkDown e s).sda.nextAdvice = s.sda.nextAdvice ∧ (endLinkDown e s).sda.unmatchedAcks = s.sda.unmatchedAcks ∧
      (endLinkDown e s).jrn.lastAccepted = s.jrn.lastAccepted ∧
      (endLinkDown e s).jrn.printedCursor = s.jrn.printedCursor ∧
      (endLinkDown e s).jrn.batchCounter = s.jrn.batchCounter ∧ (endLinkDown e s).jrn.trickle = s.jrn.trickle ∧
      (endLinkDown e s).jrn.pause = s.jrn.pause ∧ (endLinkDown e s).jrn.unmatchedAcks = s.jrn.unmatchedAcks ∧
      (endLinkDown e s).day = s.day ∧ (endLinkDown e s).tbl = s.tbl ∧ (endLinkDown e s).slc = s.slc ∧
      (endLinkDown e s).blc.link = s.blc.link ∧ (endLinkDown e s).blc.silence = s.blc.silence ∧
      (endLinkDown e s).blc.reassembly = s.blc.reassembly ∧ (endLinkDown e s).blc.sending = s.blc.sending ∧
      (endLinkDown e s).blc.linkAnswer = s.blc.linkAnswer ∧ (endLinkDown e s).blc.replies = s.blc.replies ∧
      (endLinkDown e s).blc.frameCheck = s.blc.frameCheck ∧ (endLinkDown e s).blc.frameForm = s.blc.frameForm ∧
      (endLinkDown e s).mrs.places = s.mrs.places ∧ (endLinkDown e s).mrs.unmatchedReplies = s.mrs.unmatchedReplies ∧
      (endLinkDown e s).mrs.overruns = s.mrs.overruns ∧ (endLinkDown e s).mrs.settings = s.mrs.settings ∧
      (endLinkDown e s).mrs.clock = s.mrs.clock ∧ (endLinkDown e s).rts = s.rts := by
  unfold endLinkDown; (try dsimp only); (repeat' split) <;> simp

@[simp] theorem endQueued_keeps (s : State) :
    (endQueued s).pending = s.pending ∧ (endQueued s).uptime = s.uptime ∧ (endQueued s).ttr.late = s.ttr.late ∧
      (endQueued s).ttr.seqs = s.ttr.seqs ∧ (endQueued s).csh.reserve = s.csh.reserve ∧
      (endQueued s).scm.signOn = s.scm.signOn ∧ (endQueued s).scm.broadcast = s.scm.broadcast ∧
      (endQueued s).pbk = s.pbk ∧ (endQueued s).sda.accountMap = s.sda.accountMap ∧
      (endQueued s).sda.queue = s.sda.queue ∧ (endQueued s).sda.nextAdvice = s.sda.nextAdvice ∧
      (endQueued s).sda.unmatchedAcks = s.sda.unmatchedAcks ∧ (endQueued s).jrn.lastAccepted = s.jrn.lastAccepted ∧
      (endQueued s).jrn.printedCursor = s.jrn.printedCursor ∧ (endQueued s).jrn.batchCounter = s.jrn.batchCounter ∧
      (endQueued s).jrn.trickle = s.jrn.trickle ∧ (endQueued s).jrn.pause = s.jrn.pause ∧
      (endQueued s).jrn.unmatchedAcks = s.jrn.unmatchedAcks ∧ (endQueued s).day = s.day ∧ (endQueued s).tbl = s.tbl ∧
      (endQueued s).slc = s.slc ∧ (endQueued s).blc.link = s.blc.link ∧ (endQueued s).blc.silence = s.blc.silence ∧
      (endQueued s).blc.reassembly = s.blc.reassembly ∧ (endQueued s).blc.sending = s.blc.sending ∧
      (endQueued s).blc.linkAnswer = s.blc.linkAnswer ∧ (endQueued s).blc.replies = s.blc.replies ∧
      (endQueued s).blc.frameCheck = s.blc.frameCheck ∧ (endQueued s).blc.frameForm = s.blc.frameForm ∧
      (endQueued s).mrs.places = s.mrs.places ∧ (endQueued s).mrs.unmatchedReplies = s.mrs.unmatchedReplies ∧
      (endQueued s).mrs.overruns = s.mrs.overruns ∧ (endQueued s).mrs.settings = s.mrs.settings ∧
      (endQueued s).mrs.clock = s.mrs.clock ∧ (endQueued s).rts = s.rts := by
  unfold endQueued
  exact ⟨foldl_keeps (fun x => x.pending) _ (by intros; simp) _ s,
    foldl_keeps (fun x => x.uptime) _ (by intros; simp) _ s,
    foldl_keeps (fun x => x.ttr.late) _ (by intros; simp) _ s,
    foldl_keeps (fun x => x.ttr.seqs) _ (by intros; simp) _ s,
    foldl_keeps (fun x => x.csh.reserve) _ (by intros; simp) _ s,
    foldl_keeps (fun x => x.scm.signOn) _ (by intros; simp) _ s,
    foldl_keeps (fun x => x.scm.broadcast) _ (by intros; simp) _ s,
    foldl_keeps (fun x => x.pbk) _ (by intros; simp) _ s,
    foldl_keeps (fun x => x.sda.accountMap) _ (by intros; simp) _ s,
    foldl_keeps (fun x => x.sda.queue) _ (by intros; simp) _ s,
    foldl_keeps (fun x => x.sda.nextAdvice) _ (by intros; simp) _ s,
    foldl_keeps (fun x => x.sda.unmatchedAcks) _ (by intros; simp) _ s,
    foldl_keeps (fun x => x.jrn.lastAccepted) _ (by intros; simp) _ s,
    foldl_keeps (fun x => x.jrn.printedCursor) _ (by intros; simp) _ s,
    foldl_keeps (fun x => x.jrn.batchCounter) _ (by intros; simp) _ s,
    foldl_keeps (fun x => x.jrn.trickle) _ (by intros; simp) _ s,
    foldl_keeps (fun x => x.jrn.pause) _ (by intros; simp) _ s,
    foldl_keeps (fun x => x.jrn.unmatchedAcks) _ (by intros; simp) _ s,
    foldl_keeps (fun x => x.day) _ (by intros; simp) _ s,
    foldl_keeps (fun x => x.tbl) _ (by intros; simp) _ s,
    foldl_keeps (fun x => x.slc) _ (by intros; simp) _ s,
    foldl_keeps (fun x => x.blc.link) _ (by intros; simp) _ s,
    foldl_keeps (fun x => x.blc.silence) _ (by intros; simp) _ s,
    foldl_keeps (fun x => x.blc.reassembly) _ (by intros; simp) _ s,
    foldl_keeps (fun x => x.blc.sending) _ (by intros; simp) _ s,
    foldl_keeps (fun x => x.blc.linkAnswer) _ (by intros; simp) _ s,
    foldl_keeps (fun x => x.blc.replies) _ (by intros; simp) _ s,
    foldl_keeps (fun x => x.blc.frameCheck) _ (by intros; simp) _ s,
    foldl_keeps (fun x => x.blc.frameForm) _ (by intros; simp) _ s,
    foldl_keeps (fun x => x.mrs.places) _ (by intros; simp) _ s,
    foldl_keeps (fun x => x.mrs.unmatchedReplies) _ (by intros; simp) _ s,
    foldl_keeps (fun x => x.mrs.overruns) _ (by intros; simp) _ s,
    foldl_keeps (fun x => x.mrs.settings) _ (by intros; simp) _ s,
    foldl_keeps (fun x => x.mrs.clock) _ (by intros; simp) _ s,
    foldl_keeps (fun x => x.rts) _ (by intros; simp) _ s⟩

@[simp] theorem takeLines_keeps (e : OttEntry) (r : Reply) (s : State) :
    (takeLines e r s).1.pending = s.pending ∧ (takeLines e r s).1.uptime = s.uptime ∧
      (takeLines e r s).1.ttr = s.ttr ∧ (takeLines e r s).1.csh = s.csh ∧
      (takeLines e r s).1.scm.signOn = s.scm.signOn ∧ (takeLines e r s).1.scm.broadcast = s.scm.broadcast ∧
      (takeLines e r s).1.sda.accountMap = s.sda.accountMap ∧
      (takeLines e r s).1.sda.unmatchedAcks = s.sda.unmatchedAcks ∧
      (takeLines e r s).1.jrn.lastAccepted = s.jrn.lastAccepted ∧
      (takeLines e r s).1.jrn.printedCursor = s.jrn.printedCursor ∧
      (takeLines e r s).1.jrn.batchCounter = s.jrn.batchCounter ∧ (takeLines e r s).1.jrn.trickle = s.jrn.trickle ∧
      (takeLines e r s).1.jrn.pause = s.jrn.pause ∧ (takeLines e r s).1.jrn.unmatchedAcks = s.jrn.unmatchedAcks ∧
      (takeLines e r s).1.day = s.day ∧ (takeLines e r s).1.tbl = s.tbl ∧ (takeLines e r s).1.slc = s.slc ∧
      (takeLines e r s).1.blc.link = s.blc.link ∧ (takeLines e r s).1.blc.silence = s.blc.silence ∧
      (takeLines e r s).1.blc.reassembly = s.blc.reassembly ∧ (takeLines e r s).1.blc.sending = s.blc.sending ∧
      (takeLines e r s).1.blc.linkAnswer = s.blc.linkAnswer ∧ (takeLines e r s).1.blc.replies = s.blc.replies ∧
      (takeLines e r s).1.blc.requests = s.blc.requests ∧ (takeLines e r s).1.blc.frameCheck = s.blc.frameCheck ∧
      (takeLines e r s).1.blc.frameForm = s.blc.frameForm ∧ (takeLines e r s).1.mrs.places = s.mrs.places ∧
      (takeLines e r s).1.mrs.unmatchedReplies = s.mrs.unmatchedReplies ∧
      (takeLines e r s).1.mrs.overruns = s.mrs.overruns ∧ (takeLines e r s).1.mrs.settings = s.mrs.settings ∧
      (takeLines e r s).1.mrs.clock = s.mrs.clock ∧ (takeLines e r s).1.rts = s.rts := by
  unfold takeLines; (try dsimp only); (repeat' split) <;> simp

@[simp] theorem postApproved_keeps (e : OttEntry) (s : State) :
    (postApproved e s).pending = s.pending ∧ (postApproved e s).uptime = s.uptime ∧ (postApproved e s).ttr = s.ttr ∧
      (postApproved e s).csh.reserve = s.csh.reserve ∧ (postApproved e s).scm.signOn = s.scm.signOn ∧
      (postApproved e s).scm.broadcast = s.scm.broadcast ∧ (postApproved e s).pbk = s.pbk ∧
      (postApproved e s).sda = s.sda ∧ (postApproved e s).jrn = s.jrn ∧ (postApproved e s).day = s.day ∧
      (postApproved e s).tbl = s.tbl ∧ (postApproved e s).slc.samples = s.slc.samples ∧
      (postApproved e s).blc.link = s.blc.link ∧ (postApproved e s).blc.silence = s.blc.silence ∧
      (postApproved e s).blc.reassembly = s.blc.reassembly ∧ (postApproved e s).blc.sending = s.blc.sending ∧
      (postApproved e s).blc.linkAnswer = s.blc.linkAnswer ∧ (postApproved e s).blc.replies = s.blc.replies ∧
      (postApproved e s).blc.requests = s.blc.requests ∧ (postApproved e s).blc.frameCheck = s.blc.frameCheck ∧
      (postApproved e s).blc.frameForm = s.blc.frameForm ∧ (postApproved e s).mrs.places = s.mrs.places ∧
      (postApproved e s).mrs.unmatchedReplies = s.mrs.unmatchedReplies ∧
      (postApproved e s).mrs.overruns = s.mrs.overruns ∧ (postApproved e s).mrs.settings = s.mrs.settings ∧
      (postApproved e s).mrs.clock = s.mrs.clock ∧ (postApproved e s).rts = s.rts := by
  unfold postApproved; (try dsimp only); (repeat' split) <;> simp

@[simp] theorem approve_keeps (e : OttEntry) (r : Reply) (s : State) :
    (approve e r s).pending = s.pending ∧ (approve e r s).uptime = s.uptime ∧ (approve e r s).ttr.late = s.ttr.late ∧
      (approve e r s).ttr.seqs = s.ttr.seqs ∧ (approve e r s).csh.reserve = s.csh.reserve ∧
      (approve e r s).scm.signOn = s.scm.signOn ∧ (approve e r s).scm.broadcast = s.scm.broadcast ∧
      (approve e r s).sda.accountMap = s.sda.accountMap ∧ (approve e r s).sda.unmatchedAcks = s.sda.unmatchedAcks ∧
      (approve e r s).jrn.lastAccepted = s.jrn.lastAccepted ∧ (approve e r s).jrn.printedCursor = s.jrn.printedCursor ∧
      (approve e r s).jrn.batchCounter = s.jrn.batchCounter ∧ (approve e r s).jrn.trickle = s.jrn.trickle ∧
      (approve e r s).jrn.pause = s.jrn.pause ∧ (approve e r s).jrn.unmatchedAcks = s.jrn.unmatchedAcks ∧
      (approve e r s).day = s.day ∧ (approve e r s).tbl = s.tbl ∧ (approve e r s).slc.samples = s.slc.samples ∧
      (approve e r s).blc.link = s.blc.link ∧ (approve e r s).blc.silence = s.blc.silence ∧
      (approve e r s).blc.reassembly = s.blc.reassembly ∧ (approve e r s).blc.sending = s.blc.sending ∧
      (approve e r s).blc.linkAnswer = s.blc.linkAnswer ∧ (approve e r s).blc.replies = s.blc.replies ∧
      (approve e r s).blc.requests = s.blc.requests ∧ (approve e r s).blc.frameCheck = s.blc.frameCheck ∧
      (approve e r s).blc.frameForm = s.blc.frameForm ∧ (approve e r s).mrs.places = s.mrs.places ∧
      (approve e r s).mrs.unmatchedReplies = s.mrs.unmatchedReplies ∧ (approve e r s).mrs.overruns = s.mrs.overruns ∧
      (approve e r s).mrs.settings = s.mrs.settings ∧ (approve e r s).mrs.clock = s.mrs.clock ∧
      (approve e r s).rts = s.rts := by
  unfold approve; (try dsimp only); (repeat' split) <;> simp

@[simp] theorem decline_keeps (e : OttEntry) (r : Reply) (s : State) :
    (decline e r s).pending = s.pending ∧ (decline e r s).uptime = s.uptime ∧ (decline e r s).ttr.late = s.ttr.late ∧
      (decline e r s).ttr.seqs = s.ttr.seqs ∧ (decline e r s).csh.reserve = s.csh.reserve ∧
      (decline e r s).scm.signOn = s.scm.signOn ∧ (decline e r s).scm.broadcast = s.scm.broadcast ∧
      (decline e r s).pbk = s.pbk ∧ (decline e r s).sda.accountMap = s.sda.accountMap ∧
      (decline e r s).sda.queue = s.sda.queue ∧ (decline e r s).sda.nextAdvice = s.sda.nextAdvice ∧
      (decline e r s).sda.unmatchedAcks = s.sda.unmatchedAcks ∧ (decline e r s).jrn.lastAccepted = s.jrn.lastAccepted ∧
      (decline e r s).jrn.printedCursor = s.jrn.printedCursor ∧ (decline e r s).jrn.batchCounter = s.jrn.batchCounter ∧
      (decline e r s).jrn.trickle = s.jrn.trickle ∧ (decline e r s).jrn.pause = s.jrn.pause ∧
      (decline e r s).jrn.unmatchedAcks = s.jrn.unmatchedAcks ∧ (decline e r s).day = s.day ∧
      (decline e r s).tbl = s.tbl ∧ (decline e r s).slc = s.slc ∧ (decline e r s).blc.link = s.blc.link ∧
      (decline e r s).blc.silence = s.blc.silence ∧ (decline e r s).blc.reassembly = s.blc.reassembly ∧
      (decline e r s).blc.sending = s.blc.sending ∧ (decline e r s).blc.linkAnswer = s.blc.linkAnswer ∧
      (decline e r s).blc.replies = s.blc.replies ∧ (decline e r s).blc.requests = s.blc.requests ∧
      (decline e r s).blc.frameCheck = s.blc.frameCheck ∧ (decline e r s).blc.frameForm = s.blc.frameForm ∧
      (decline e r s).mrs.places = s.mrs.places ∧ (decline e r s).mrs.unmatchedReplies = s.mrs.unmatchedReplies ∧
      (decline e r s).mrs.overruns = s.mrs.overruns ∧ (decline e r s).mrs.settings = s.mrs.settings ∧
      (decline e r s).mrs.clock = s.mrs.clock ∧ (decline e r s).rts = s.rts := by
  unfold decline; (try dsimp only); (repeat' split) <;> simp

@[simp] theorem endLate_keeps (l : LateEntry) (cause : LateCause) (s : State) :
    (endLate l cause s).pending = s.pending ∧ (endLate l cause s).uptime = s.uptime ∧
      (endLate l cause s).ttr.ott = s.ttr.ott ∧ (endLate l cause s).ttr.seqs = s.ttr.seqs ∧
      (endLate l cause s).csh = s.csh ∧ (endLate l cause s).scm = s.scm ∧ (endLate l cause s).pbk = s.pbk ∧
      (endLate l cause s).sda.accountMap = s.sda.accountMap ∧ (endLate l cause s).sda.queue = s.sda.queue ∧
      (endLate l cause s).sda.nextAdvice = s.sda.nextAdvice ∧
      (endLate l cause s).sda.unmatchedAcks = s.sda.unmatchedAcks ∧
      (endLate l cause s).jrn.lastAccepted = s.jrn.lastAccepted ∧
      (endLate l cause s).jrn.printedCursor = s.jrn.printedCursor ∧
      (endLate l cause s).jrn.batchCounter = s.jrn.batchCounter ∧ (endLate l cause s).jrn.trickle = s.jrn.trickle ∧
      (endLate l cause s).jrn.pause = s.jrn.pause ∧ (endLate l cause s).jrn.unmatchedAcks = s.jrn.unmatchedAcks ∧
      (endLate l cause s).day = s.day ∧ (endLate l cause s).tbl = s.tbl ∧ (endLate l cause s).slc = s.slc ∧
      (endLate l cause s).blc.link = s.blc.link ∧ (endLate l cause s).blc.silence = s.blc.silence ∧
      (endLate l cause s).blc.reassembly = s.blc.reassembly ∧ (endLate l cause s).blc.sending = s.blc.sending ∧
      (endLate l cause s).blc.linkAnswer = s.blc.linkAnswer ∧ (endLate l cause s).blc.replies = s.blc.replies ∧
      (endLate l cause s).blc.requests = s.blc.requests ∧ (endLate l cause s).blc.frameCheck = s.blc.frameCheck ∧
      (endLate l cause s).blc.frameForm = s.blc.frameForm ∧ (endLate l cause s).mrs.places = s.mrs.places ∧
      (endLate l cause s).mrs.unmatchedReplies = s.mrs.unmatchedReplies ∧
      (endLate l cause s).mrs.overruns = s.mrs.overruns ∧ (endLate l cause s).mrs.settings = s.mrs.settings ∧
      (endLate l cause s).mrs.clock = s.mrs.clock ∧ (endLate l cause s).rts = s.rts := by
  unfold endLate; (try dsimp only); (repeat' split) <;> simp

@[simp] theorem displaceOldest_keeps (s : State) :
    (displaceOldest s).pending = s.pending ∧ (displaceOldest s).uptime = s.uptime ∧
      (displaceOldest s).ttr.ott = s.ttr.ott ∧ (displaceOldest s).ttr.seqs = s.ttr.seqs ∧
      (displaceOldest s).csh = s.csh ∧ (displaceOldest s).scm = s.scm ∧ (displaceOldest s).pbk = s.pbk ∧
      (displaceOldest s).sda.accountMap = s.sda.accountMap ∧ (displaceOldest s).sda.queue = s.sda.queue ∧
      (displaceOldest s).sda.nextAdvice = s.sda.nextAdvice ∧
      (displaceOldest s).sda.unmatchedAcks = s.sda.unmatchedAcks ∧
      (displaceOldest s).jrn.lastAccepted = s.jrn.lastAccepted ∧
      (displaceOldest s).jrn.printedCursor = s.jrn.printedCursor ∧
      (displaceOldest s).jrn.batchCounter = s.jrn.batchCounter ∧ (displaceOldest s).jrn.trickle = s.jrn.trickle ∧
      (displaceOldest s).jrn.pause = s.jrn.pause ∧ (displaceOldest s).jrn.unmatchedAcks = s.jrn.unmatchedAcks ∧
      (displaceOldest s).day = s.day ∧ (displaceOldest s).tbl = s.tbl ∧ (displaceOldest s).slc = s.slc ∧
      (displaceOldest s).blc.link = s.blc.link ∧ (displaceOldest s).blc.silence = s.blc.silence ∧
      (displaceOldest s).blc.reassembly = s.blc.reassembly ∧ (displaceOldest s).blc.sending = s.blc.sending ∧
      (displaceOldest s).blc.linkAnswer = s.blc.linkAnswer ∧ (displaceOldest s).blc.replies = s.blc.replies ∧
      (displaceOldest s).blc.requests = s.blc.requests ∧ (displaceOldest s).blc.frameCheck = s.blc.frameCheck ∧
      (displaceOldest s).blc.frameForm = s.blc.frameForm ∧ (displaceOldest s).mrs.places = s.mrs.places ∧
      (displaceOldest s).mrs.unmatchedReplies = s.mrs.unmatchedReplies ∧
      (displaceOldest s).mrs.overruns = s.mrs.overruns ∧ (displaceOldest s).mrs.settings = s.mrs.settings ∧
      (displaceOldest s).mrs.clock = s.mrs.clock ∧ (displaceOldest s).rts = s.rts := by
  unfold displaceOldest; (try dsimp only); (repeat' split) <;> simp

@[simp] theorem moveToLate_keeps (e : OttEntry) (s : State) :
    (moveToLate e s).pending = s.pending ∧ (moveToLate e s).uptime = s.uptime ∧ (moveToLate e s).ttr.ott = s.ttr.ott ∧
      (moveToLate e s).ttr.seqs = s.ttr.seqs ∧ (moveToLate e s).csh = s.csh ∧ (moveToLate e s).scm = s.scm ∧
      (moveToLate e s).pbk = s.pbk ∧ (moveToLate e s).sda.accountMap = s.sda.accountMap ∧
      (moveToLate e s).sda.queue = s.sda.queue ∧ (moveToLate e s).sda.nextAdvice = s.sda.nextAdvice ∧
      (moveToLate e s).sda.unmatchedAcks = s.sda.unmatchedAcks ∧
      (moveToLate e s).jrn.lastAccepted = s.jrn.lastAccepted ∧
      (moveToLate e s).jrn.printedCursor = s.jrn.printedCursor ∧
      (moveToLate e s).jrn.batchCounter = s.jrn.batchCounter ∧ (moveToLate e s).jrn.trickle = s.jrn.trickle ∧
      (moveToLate e s).jrn.pause = s.jrn.pause ∧ (moveToLate e s).jrn.unmatchedAcks = s.jrn.unmatchedAcks ∧
      (moveToLate e s).day = s.day ∧ (moveToLate e s).tbl = s.tbl ∧ (moveToLate e s).slc = s.slc ∧
      (moveToLate e s).blc.link = s.blc.link ∧ (moveToLate e s).blc.silence = s.blc.silence ∧
      (moveToLate e s).blc.reassembly = s.blc.reassembly ∧ (moveToLate e s).blc.sending = s.blc.sending ∧
      (moveToLate e s).blc.linkAnswer = s.blc.linkAnswer ∧ (moveToLate e s).blc.replies = s.blc.replies ∧
      (moveToLate e s).blc.requests = s.blc.requests ∧ (moveToLate e s).blc.frameCheck = s.blc.frameCheck ∧
      (moveToLate e s).blc.frameForm = s.blc.frameForm ∧ (moveToLate e s).mrs.places = s.mrs.places ∧
      (moveToLate e s).mrs.unmatchedReplies = s.mrs.unmatchedReplies ∧ (moveToLate e s).mrs.overruns = s.mrs.overruns ∧
      (moveToLate e s).mrs.settings = s.mrs.settings ∧ (moveToLate e s).mrs.clock = s.mrs.clock ∧
      (moveToLate e s).rts = s.rts := by
  unfold moveToLate; (try dsimp only); (repeat' split) <;> simp

@[simp] theorem timeOut_keeps (e : OttEntry) (s : State) :
    (timeOut e s).pending = s.pending ∧ (timeOut e s).uptime = s.uptime ∧ (timeOut e s).ttr.seqs = s.ttr.seqs ∧
      (timeOut e s).csh.reserve = s.csh.reserve ∧ (timeOut e s).scm.signOn = s.scm.signOn ∧
      (timeOut e s).scm.broadcast = s.scm.broadcast ∧ (timeOut e s).pbk = s.pbk ∧
      (timeOut e s).sda.accountMap = s.sda.accountMap ∧ (timeOut e s).sda.queue = s.sda.queue ∧
      (timeOut e s).sda.nextAdvice = s.sda.nextAdvice ∧ (timeOut e s).sda.unmatchedAcks = s.sda.unmatchedAcks ∧
      (timeOut e s).jrn.lastAccepted = s.jrn.lastAccepted ∧ (timeOut e s).jrn.printedCursor = s.jrn.printedCursor ∧
      (timeOut e s).jrn.batchCounter = s.jrn.batchCounter ∧ (timeOut e s).jrn.trickle = s.jrn.trickle ∧
      (timeOut e s).jrn.pause = s.jrn.pause ∧ (timeOut e s).jrn.unmatchedAcks = s.jrn.unmatchedAcks ∧
      (timeOut e s).day = s.day ∧ (timeOut e s).tbl = s.tbl ∧ (timeOut e s).slc = s.slc ∧
      (timeOut e s).blc.link = s.blc.link ∧ (timeOut e s).blc.silence = s.blc.silence ∧
      (timeOut e s).blc.reassembly = s.blc.reassembly ∧ (timeOut e s).blc.sending = s.blc.sending ∧
      (timeOut e s).blc.linkAnswer = s.blc.linkAnswer ∧ (timeOut e s).blc.replies = s.blc.replies ∧
      (timeOut e s).blc.requests = s.blc.requests ∧ (timeOut e s).blc.frameCheck = s.blc.frameCheck ∧
      (timeOut e s).blc.frameForm = s.blc.frameForm ∧ (timeOut e s).mrs.places = s.mrs.places ∧
      (timeOut e s).mrs.unmatchedReplies = s.mrs.unmatchedReplies ∧ (timeOut e s).mrs.overruns = s.mrs.overruns ∧
      (timeOut e s).mrs.settings = s.mrs.settings ∧ (timeOut e s).mrs.clock = s.mrs.clock ∧ (timeOut e s).rts = s.rts := by
  unfold timeOut; (try dsimp only); (repeat' split) <;> simp

@[simp] theorem lateReply_keeps (l : LateEntry) (approved : Bool) (s : State) :
    (lateReply l approved s).pending = s.pending ∧ (lateReply l approved s).uptime = s.uptime ∧
      (lateReply l approved s).ttr.ott = s.ttr.ott ∧ (lateReply l approved s).ttr.seqs = s.ttr.seqs ∧
      (lateReply l approved s).csh = s.csh ∧ (lateReply l approved s).scm = s.scm ∧
      (lateReply l approved s).pbk = s.pbk ∧ (lateReply l approved s).sda.accountMap = s.sda.accountMap ∧
      (lateReply l approved s).sda.unmatchedAcks = s.sda.unmatchedAcks ∧
      (lateReply l approved s).jrn.lastAccepted = s.jrn.lastAccepted ∧
      (lateReply l approved s).jrn.printedCursor = s.jrn.printedCursor ∧
      (lateReply l approved s).jrn.batchCounter = s.jrn.batchCounter ∧
      (lateReply l approved s).jrn.trickle = s.jrn.trickle ∧ (lateReply l approved s).jrn.pause = s.jrn.pause ∧
      (lateReply l approved s).jrn.unmatchedAcks = s.jrn.unmatchedAcks ∧ (lateReply l approved s).day = s.day ∧
      (lateReply l approved s).tbl = s.tbl ∧ (lateReply l approved s).slc = s.slc ∧
      (lateReply l approved s).blc.link = s.blc.link ∧ (lateReply l approved s).blc.silence = s.blc.silence ∧
      (lateReply l approved s).blc.reassembly = s.blc.reassembly ∧
      (lateReply l approved s).blc.sending = s.blc.sending ∧
      (lateReply l approved s).blc.linkAnswer = s.blc.linkAnswer ∧
      (lateReply l approved s).blc.replies = s.blc.replies ∧ (lateReply l approved s).blc.requests = s.blc.requests ∧
      (lateReply l approved s).blc.frameCheck = s.blc.frameCheck ∧
      (lateReply l approved s).blc.frameForm = s.blc.frameForm ∧ (lateReply l approved s).mrs.places = s.mrs.places ∧
      (lateReply l approved s).mrs.unmatchedReplies = s.mrs.unmatchedReplies ∧
      (lateReply l approved s).mrs.overruns = s.mrs.overruns ∧ (lateReply l approved s).mrs.settings = s.mrs.settings ∧
      (lateReply l approved s).mrs.clock = s.mrs.clock ∧ (lateReply l approved s).rts = s.rts := by
  unfold lateReply; (try dsimp only); (repeat' split) <;> simp

@[simp] theorem abandon_keeps (cause : ReversalCause) (e : OttEntry) (s : State) :
    (abandon cause e s).pending = s.pending ∧ (abandon cause e s).uptime = s.uptime ∧
      (abandon cause e s).ttr.late = s.ttr.late ∧ (abandon cause e s).ttr.seqs = s.ttr.seqs ∧
      (abandon cause e s).csh.reserve = s.csh.reserve ∧ (abandon cause e s).scm = s.scm ∧
      (abandon cause e s).pbk = s.pbk ∧ (abandon cause e s).sda.accountMap = s.sda.accountMap ∧
      (abandon cause e s).sda.unmatchedAcks = s.sda.unmatchedAcks ∧
      (abandon cause e s).jrn.lastAccepted = s.jrn.lastAccepted ∧
      (abandon cause e s).jrn.printedCursor = s.jrn.printedCursor ∧
      (abandon cause e s).jrn.batchCounter = s.jrn.batchCounter ∧ (abandon cause e s).jrn.trickle = s.jrn.trickle ∧
      (abandon cause e s).jrn.pause = s.jrn.pause ∧ (abandon cause e s).jrn.unmatchedAcks = s.jrn.unmatchedAcks ∧
      (abandon cause e s).day = s.day ∧ (abandon cause e s).tbl = s.tbl ∧ (abandon cause e s).slc = s.slc ∧
      (abandon cause e s).blc.link = s.blc.link ∧ (abandon cause e s).blc.silence = s.blc.silence ∧
      (abandon cause e s).blc.reassembly = s.blc.reassembly ∧ (abandon cause e s).blc.sending = s.blc.sending ∧
      (abandon cause e s).blc.linkAnswer = s.blc.linkAnswer ∧ (abandon cause e s).blc.replies = s.blc.replies ∧
      (abandon cause e s).blc.frameCheck = s.blc.frameCheck ∧ (abandon cause e s).blc.frameForm = s.blc.frameForm ∧
      (abandon cause e s).mrs.places = s.mrs.places ∧
      (abandon cause e s).mrs.unmatchedReplies = s.mrs.unmatchedReplies ∧
      (abandon cause e s).mrs.overruns = s.mrs.overruns ∧ (abandon cause e s).mrs.settings = s.mrs.settings ∧
      (abandon cause e s).mrs.clock = s.mrs.clock ∧ (abandon cause e s).rts = s.rts := by
  unfold abandon; (try dsimp only); (repeat' split) <;> simp

@[simp] theorem abandonAll_keeps (cause : ReversalCause) (p : OttEntry → Bool) (s : State) :
    (abandonAll cause p s).pending = s.pending ∧ (abandonAll cause p s).uptime = s.uptime ∧
      (abandonAll cause p s).ttr.late = s.ttr.late ∧ (abandonAll cause p s).ttr.seqs = s.ttr.seqs ∧
      (abandonAll cause p s).csh.reserve = s.csh.reserve ∧ (abandonAll cause p s).scm = s.scm ∧
      (abandonAll cause p s).pbk = s.pbk ∧ (abandonAll cause p s).sda.accountMap = s.sda.accountMap ∧
      (abandonAll cause p s).sda.unmatchedAcks = s.sda.unmatchedAcks ∧
      (abandonAll cause p s).jrn.lastAccepted = s.jrn.lastAccepted ∧
      (abandonAll cause p s).jrn.printedCursor = s.jrn.printedCursor ∧
      (abandonAll cause p s).jrn.batchCounter = s.jrn.batchCounter ∧
      (abandonAll cause p s).jrn.trickle = s.jrn.trickle ∧ (abandonAll cause p s).jrn.pause = s.jrn.pause ∧
      (abandonAll cause p s).jrn.unmatchedAcks = s.jrn.unmatchedAcks ∧ (abandonAll cause p s).day = s.day ∧
      (abandonAll cause p s).tbl = s.tbl ∧ (abandonAll cause p s).slc = s.slc ∧
      (abandonAll cause p s).blc.link = s.blc.link ∧ (abandonAll cause p s).blc.silence = s.blc.silence ∧
      (abandonAll cause p s).blc.reassembly = s.blc.reassembly ∧ (abandonAll cause p s).blc.sending = s.blc.sending ∧
      (abandonAll cause p s).blc.linkAnswer = s.blc.linkAnswer ∧ (abandonAll cause p s).blc.replies = s.blc.replies ∧
      (abandonAll cause p s).blc.frameCheck = s.blc.frameCheck ∧
      (abandonAll cause p s).blc.frameForm = s.blc.frameForm ∧ (abandonAll cause p s).mrs.places = s.mrs.places ∧
      (abandonAll cause p s).mrs.unmatchedReplies = s.mrs.unmatchedReplies ∧
      (abandonAll cause p s).mrs.overruns = s.mrs.overruns ∧ (abandonAll cause p s).mrs.settings = s.mrs.settings ∧
      (abandonAll cause p s).mrs.clock = s.mrs.clock ∧ (abandonAll cause p s).rts = s.rts := by
  unfold abandonAll
  exact ⟨foldl_keeps (fun x => x.pending) _ (by intros; simp) _ s,
    foldl_keeps (fun x => x.uptime) _ (by intros; simp) _ s,
    foldl_keeps (fun x => x.ttr.late) _ (by intros; simp) _ s,
    foldl_keeps (fun x => x.ttr.seqs) _ (by intros; simp) _ s,
    foldl_keeps (fun x => x.csh.reserve) _ (by intros; simp) _ s,
    foldl_keeps (fun x => x.scm) _ (by intros; simp) _ s,
    foldl_keeps (fun x => x.pbk) _ (by intros; simp) _ s,
    foldl_keeps (fun x => x.sda.accountMap) _ (by intros; simp) _ s,
    foldl_keeps (fun x => x.sda.unmatchedAcks) _ (by intros; simp) _ s,
    foldl_keeps (fun x => x.jrn.lastAccepted) _ (by intros; simp) _ s,
    foldl_keeps (fun x => x.jrn.printedCursor) _ (by intros; simp) _ s,
    foldl_keeps (fun x => x.jrn.batchCounter) _ (by intros; simp) _ s,
    foldl_keeps (fun x => x.jrn.trickle) _ (by intros; simp) _ s,
    foldl_keeps (fun x => x.jrn.pause) _ (by intros; simp) _ s,
    foldl_keeps (fun x => x.jrn.unmatchedAcks) _ (by intros; simp) _ s,
    foldl_keeps (fun x => x.day) _ (by intros; simp) _ s,
    foldl_keeps (fun x => x.tbl) _ (by intros; simp) _ s,
    foldl_keeps (fun x => x.slc) _ (by intros; simp) _ s,
    foldl_keeps (fun x => x.blc.link) _ (by intros; simp) _ s,
    foldl_keeps (fun x => x.blc.silence) _ (by intros; simp) _ s,
    foldl_keeps (fun x => x.blc.reassembly) _ (by intros; simp) _ s,
    foldl_keeps (fun x => x.blc.sending) _ (by intros; simp) _ s,
    foldl_keeps (fun x => x.blc.linkAnswer) _ (by intros; simp) _ s,
    foldl_keeps (fun x => x.blc.replies) _ (by intros; simp) _ s,
    foldl_keeps (fun x => x.blc.frameCheck) _ (by intros; simp) _ s,
    foldl_keeps (fun x => x.blc.frameForm) _ (by intros; simp) _ s,
    foldl_keeps (fun x => x.mrs.places) _ (by intros; simp) _ s,
    foldl_keeps (fun x => x.mrs.unmatchedReplies) _ (by intros; simp) _ s,
    foldl_keeps (fun x => x.mrs.overruns) _ (by intros; simp) _ s,
    foldl_keeps (fun x => x.mrs.settings) _ (by intros; simp) _ s,
    foldl_keeps (fun x => x.mrs.clock) _ (by intros; simp) _ s,
    foldl_keeps (fun x => x.rts) _ (by intros; simp) _ s⟩

@[simp] theorem takeReply_keeps (dest : Station) (r : Option Reply) (s : State) :
    (takeReply dest r s).pending = s.pending ∧ (takeReply dest r s).uptime = s.uptime ∧
      (takeReply dest r s).ttr.seqs = s.ttr.seqs ∧ (takeReply dest r s).csh.reserve = s.csh.reserve ∧
      (takeReply dest r s).scm.signOn = s.scm.signOn ∧ (takeReply dest r s).scm.broadcast = s.scm.broadcast ∧
      (takeReply dest r s).sda.accountMap = s.sda.accountMap ∧
      (takeReply dest r s).sda.unmatchedAcks = s.sda.unmatchedAcks ∧
      (takeReply dest r s).jrn.lastAccepted = s.jrn.lastAccepted ∧
      (takeReply dest r s).jrn.printedCursor = s.jrn.printedCursor ∧
      (takeReply dest r s).jrn.batchCounter = s.jrn.batchCounter ∧ (takeReply dest r s).jrn.trickle = s.jrn.trickle ∧
      (takeReply dest r s).jrn.pause = s.jrn.pause ∧ (takeReply dest r s).jrn.unmatchedAcks = s.jrn.unmatchedAcks ∧
      (takeReply dest r s).day = s.day ∧ (takeReply dest r s).tbl = s.tbl ∧
      (takeReply dest r s).slc.samples = s.slc.samples ∧ (takeReply dest r s).blc.link = s.blc.link ∧
      (takeReply dest r s).blc.silence = s.blc.silence ∧ (takeReply dest r s).blc.reassembly = s.blc.reassembly ∧
      (takeReply dest r s).blc.sending = s.blc.sending ∧ (takeReply dest r s).blc.linkAnswer = s.blc.linkAnswer ∧
      (takeReply dest r s).blc.replies = s.blc.replies ∧ (takeReply dest r s).blc.requests = s.blc.requests ∧
      (takeReply dest r s).blc.frameCheck = s.blc.frameCheck ∧ (takeReply dest r s).blc.frameForm = s.blc.frameForm ∧
      (takeReply dest r s).mrs.places = s.mrs.places ∧ (takeReply dest r s).mrs.overruns = s.mrs.overruns ∧
      (takeReply dest r s).mrs.settings = s.mrs.settings ∧ (takeReply dest r s).mrs.clock = s.mrs.clock ∧
      (takeReply dest r s).rts = s.rts := by
  unfold takeReply; (try dsimp only); (repeat' split) <;> simp

@[simp] theorem refuse_keeps (st : Station) (r : KeyRequest) (why : Reason) (s : State) :
    (refuse st r why s).pending = s.pending ∧ (refuse st r why s).uptime = s.uptime ∧
      (refuse st r why s).ttr = s.ttr ∧ (refuse st r why s).csh = s.csh ∧
      (refuse st r why s).scm.signOn = s.scm.signOn ∧ (refuse st r why s).scm.broadcast = s.scm.broadcast ∧
      (refuse st r why s).pbk = s.pbk ∧ (refuse st r why s).sda = s.sda ∧ (refuse st r why s).jrn = s.jrn ∧
      (refuse st r why s).day = s.day ∧ (refuse st r why s).tbl = s.tbl ∧ (refuse st r why s).slc = s.slc ∧
      (refuse st r why s).blc = s.blc ∧ (refuse st r why s).mrs = s.mrs ∧ (refuse st r why s).rts = s.rts := by
  unfold refuse; (try dsimp only); (repeat' split) <;> simp

@[simp] theorem refuseLocal_keeps (q : LocalRequest) (teller : Option Nat) (target : Nat) (why : Reason) (s : State) :
    (refuseLocal q teller target why s).pending = s.pending ∧ (refuseLocal q teller target why s).uptime = s.uptime ∧
      (refuseLocal q teller target why s).ttr = s.ttr ∧ (refuseLocal q teller target why s).csh = s.csh ∧
      (refuseLocal q teller target why s).scm.signOn = s.scm.signOn ∧
      (refuseLocal q teller target why s).scm.broadcast = s.scm.broadcast ∧
      (refuseLocal q teller target why s).pbk = s.pbk ∧
      (refuseLocal q teller target why s).sda.accountMap = s.sda.accountMap ∧
      (refuseLocal q teller target why s).sda.queue = s.sda.queue ∧
      (refuseLocal q teller target why s).sda.nextAdvice = s.sda.nextAdvice ∧
      (refuseLocal q teller target why s).sda.unmatchedAcks = s.sda.unmatchedAcks ∧
      (refuseLocal q teller target why s).jrn.lastAccepted = s.jrn.lastAccepted ∧
      (refuseLocal q teller target why s).jrn.printedCursor = s.jrn.printedCursor ∧
      (refuseLocal q teller target why s).jrn.batchCounter = s.jrn.batchCounter ∧
      (refuseLocal q teller target why s).jrn.trickle = s.jrn.trickle ∧
      (refuseLocal q teller target why s).jrn.pause = s.jrn.pause ∧
      (refuseLocal q teller target why s).jrn.unmatchedAcks = s.jrn.unmatchedAcks ∧
      (refuseLocal q teller target why s).day = s.day ∧ (refuseLocal q teller target why s).tbl = s.tbl ∧
      (refuseLocal q teller target why s).slc = s.slc ∧ (refuseLocal q teller target why s).blc.link = s.blc.link ∧
      (refuseLocal q teller target why s).blc.silence = s.blc.silence ∧
      (refuseLocal q teller target why s).blc.reassembly = s.blc.reassembly ∧
      (refuseLocal q teller target why s).blc.sending = s.blc.sending ∧
      (refuseLocal q teller target why s).blc.linkAnswer = s.blc.linkAnswer ∧
      (refuseLocal q teller target why s).blc.replies = s.blc.replies ∧
      (refuseLocal q teller target why s).blc.requests = s.blc.requests ∧
      (refuseLocal q teller target why s).blc.frameCheck = s.blc.frameCheck ∧
      (refuseLocal q teller target why s).blc.frameForm = s.blc.frameForm ∧
      (refuseLocal q teller target why s).mrs.places = s.mrs.places ∧
      (refuseLocal q teller target why s).mrs.unmatchedReplies = s.mrs.unmatchedReplies ∧
      (refuseLocal q teller target why s).mrs.overruns = s.mrs.overruns ∧
      (refuseLocal q teller target why s).mrs.settings = s.mrs.settings ∧
      (refuseLocal q teller target why s).mrs.clock = s.mrs.clock ∧ (refuseLocal q teller target why s).rts = s.rts := by
  unfold refuseLocal; (try dsimp only); (repeat' split) <;> simp

@[simp] theorem localDone_keeps (q : LocalRequest) (teller : Option Nat) (target : Nat) (amounts : Option (Int × Int)) (written shown : Breakdown) (position : Option Station) (words : Text) (s : State) :
    (localDone q teller target amounts written shown position words s).pending = s.pending ∧
      (localDone q teller target amounts written shown position words s).uptime = s.uptime ∧
      (localDone q teller target amounts written shown position words s).ttr = s.ttr ∧
      (localDone q teller target amounts written shown position words s).csh = s.csh ∧
      (localDone q teller target amounts written shown position words s).scm.signOn = s.scm.signOn ∧
      (localDone q teller target amounts written shown position words s).scm.broadcast = s.scm.broadcast ∧
      (localDone q teller target amounts written shown position words s).pbk = s.pbk ∧
      (localDone q teller target amounts written shown position words s).sda.accountMap = s.sda.accountMap ∧
      (localDone q teller target amounts written shown position words s).sda.queue = s.sda.queue ∧
      (localDone q teller target amounts written shown position words s).sda.nextAdvice = s.sda.nextAdvice ∧
      (localDone q teller target amounts written shown position words s).sda.unmatchedAcks = s.sda.unmatchedAcks ∧
      (localDone q teller target amounts written shown position words s).jrn.lastAccepted = s.jrn.lastAccepted ∧
      (localDone q teller target amounts written shown position words s).jrn.printedCursor = s.jrn.printedCursor ∧
      (localDone q teller target amounts written shown position words s).jrn.batchCounter = s.jrn.batchCounter ∧
      (localDone q teller target amounts written shown position words s).jrn.trickle = s.jrn.trickle ∧
      (localDone q teller target amounts written shown position words s).jrn.pause = s.jrn.pause ∧
      (localDone q teller target amounts written shown position words s).jrn.unmatchedAcks = s.jrn.unmatchedAcks ∧
      (localDone q teller target amounts written shown position words s).day = s.day ∧
      (localDone q teller target amounts written shown position words s).tbl = s.tbl ∧
      (localDone q teller target amounts written shown position words s).slc = s.slc ∧
      (localDone q teller target amounts written shown position words s).blc.link = s.blc.link ∧
      (localDone q teller target amounts written shown position words s).blc.silence = s.blc.silence ∧
      (localDone q teller target amounts written shown position words s).blc.reassembly = s.blc.reassembly ∧
      (localDone q teller target amounts written shown position words s).blc.sending = s.blc.sending ∧
      (localDone q teller target amounts written shown position words s).blc.linkAnswer = s.blc.linkAnswer ∧
      (localDone q teller target amounts written shown position words s).blc.replies = s.blc.replies ∧
      (localDone q teller target amounts written shown position words s).blc.requests = s.blc.requests ∧
      (localDone q teller target amounts written shown position words s).blc.frameCheck = s.blc.frameCheck ∧
      (localDone q teller target amounts written shown position words s).blc.frameForm = s.blc.frameForm ∧
      (localDone q teller target amounts written shown position words s).mrs.places = s.mrs.places ∧
      (localDone q teller target amounts written shown position words s).mrs.unmatchedReplies = s.mrs.unmatchedReplies ∧
      (localDone q teller target amounts written shown position words s).mrs.overruns = s.mrs.overruns ∧
      (localDone q teller target amounts written shown position words s).mrs.settings = s.mrs.settings ∧
      (localDone q teller target amounts written shown position words s).mrs.clock = s.mrs.clock ∧
      (localDone q teller target amounts written shown position words s).rts = s.rts := by
  unfold localDone; (try dsimp only); (repeat' split) <;> simp

@[simp] theorem localSignOn_keeps (q : LocalRequest) (s : State) :
    (localSignOn q s).pending = s.pending ∧ (localSignOn q s).uptime = s.uptime ∧ (localSignOn q s).ttr = s.ttr ∧
      (localSignOn q s).csh.reserve = s.csh.reserve ∧ (localSignOn q s).scm.broadcast = s.scm.broadcast ∧
      (localSignOn q s).pbk = s.pbk ∧ (localSignOn q s).sda.accountMap = s.sda.accountMap ∧
      (localSignOn q s).sda.queue = s.sda.queue ∧ (localSignOn q s).sda.nextAdvice = s.sda.nextAdvice ∧
      (localSignOn q s).sda.unmatchedAcks = s.sda.unmatchedAcks ∧
      (localSignOn q s).jrn.lastAccepted = s.jrn.lastAccepted ∧
      (localSignOn q s).jrn.printedCursor = s.jrn.printedCursor ∧
      (localSignOn q s).jrn.batchCounter = s.jrn.batchCounter ∧ (localSignOn q s).jrn.trickle = s.jrn.trickle ∧
      (localSignOn q s).jrn.pause = s.jrn.pause ∧ (localSignOn q s).jrn.unmatchedAcks = s.jrn.unmatchedAcks ∧
      (localSignOn q s).day = s.day ∧ (localSignOn q s).tbl = s.tbl ∧ (localSignOn q s).slc = s.slc ∧
      (localSignOn q s).blc.link = s.blc.link ∧ (localSignOn q s).blc.silence = s.blc.silence ∧
      (localSignOn q s).blc.reassembly = s.blc.reassembly ∧ (localSignOn q s).blc.sending = s.blc.sending ∧
      (localSignOn q s).blc.linkAnswer = s.blc.linkAnswer ∧ (localSignOn q s).blc.replies = s.blc.replies ∧
      (localSignOn q s).blc.requests = s.blc.requests ∧ (localSignOn q s).blc.frameCheck = s.blc.frameCheck ∧
      (localSignOn q s).blc.frameForm = s.blc.frameForm ∧ (localSignOn q s).mrs.places = s.mrs.places ∧
      (localSignOn q s).mrs.unmatchedReplies = s.mrs.unmatchedReplies ∧
      (localSignOn q s).mrs.overruns = s.mrs.overruns ∧ (localSignOn q s).mrs.settings = s.mrs.settings ∧
      (localSignOn q s).mrs.clock = s.mrs.clock ∧ (localSignOn q s).rts = s.rts := by
  unfold localSignOn; (try dsimp only); (repeat' split) <;> simp

@[simp] theorem signOff_keeps (st : Station) (t : Nat) (s : State) :
    (signOff st t s).pending = s.pending ∧ (signOff st t s).uptime = s.uptime ∧ (signOff st t s).ttr = s.ttr ∧
      (signOff st t s).csh = s.csh ∧ (signOff st t s).scm.contexts = s.scm.contexts ∧
      (signOff st t s).scm.broadcast = s.scm.broadcast ∧ (signOff st t s).pbk = s.pbk ∧
      (signOff st t s).sda.accountMap = s.sda.accountMap ∧ (signOff st t s).sda.queue = s.sda.queue ∧
      (signOff st t s).sda.nextAdvice = s.sda.nextAdvice ∧ (signOff st t s).sda.unmatchedAcks = s.sda.unmatchedAcks ∧
      (signOff st t s).jrn = s.jrn ∧ (signOff st t s).day = s.day ∧ (signOff st t s).tbl = s.tbl ∧
      (signOff st t s).slc = s.slc ∧ (signOff st t s).blc = s.blc ∧ (signOff st t s).mrs = s.mrs ∧
      (signOff st t s).rts = s.rts := by
  unfold signOff; (try dsimp only); (repeat' split) <;> simp

@[simp] theorem forcedSignOff_keeps (st : Station) (t : Nat) (s : State) :
    (forcedSignOff st t s).pending = s.pending ∧ (forcedSignOff st t s).uptime = s.uptime ∧
      (forcedSignOff st t s).ttr = s.ttr ∧ (forcedSignOff st t s).csh = s.csh ∧
      (forcedSignOff st t s).scm.broadcast = s.scm.broadcast ∧ (forcedSignOff st t s).pbk = s.pbk ∧
      (forcedSignOff st t s).sda.accountMap = s.sda.accountMap ∧ (forcedSignOff st t s).sda.queue = s.sda.queue ∧
      (forcedSignOff st t s).sda.nextAdvice = s.sda.nextAdvice ∧
      (forcedSignOff st t s).sda.unmatchedAcks = s.sda.unmatchedAcks ∧ (forcedSignOff st t s).jrn = s.jrn ∧
      (forcedSignOff st t s).day = s.day ∧ (forcedSignOff st t s).tbl = s.tbl ∧ (forcedSignOff st t s).slc = s.slc ∧
      (forcedSignOff st t s).blc = s.blc ∧ (forcedSignOff st t s).mrs = s.mrs ∧ (forcedSignOff st t s).rts = s.rts := by
  unfold forcedSignOff; (try dsimp only); (repeat' split) <;> simp

@[simp] theorem localSignOff_keeps (q : LocalRequest) (t : Nat) (s : State) :
    (localSignOff q t s).pending = s.pending ∧ (localSignOff q t s).uptime = s.uptime ∧
      (localSignOff q t s).ttr = s.ttr ∧ (localSignOff q t s).csh = s.csh ∧
      (localSignOff q t s).scm.broadcast = s.scm.broadcast ∧ (localSignOff q t s).pbk = s.pbk ∧
      (localSignOff q t s).sda.accountMap = s.sda.accountMap ∧ (localSignOff q t s).sda.queue = s.sda.queue ∧
      (localSignOff q t s).sda.nextAdvice = s.sda.nextAdvice ∧
      (localSignOff q t s).sda.unmatchedAcks = s.sda.unmatchedAcks ∧
      (localSignOff q t s).jrn.lastAccepted = s.jrn.lastAccepted ∧
      (localSignOff q t s).jrn.printedCursor = s.jrn.printedCursor ∧
      (localSignOff q t s).jrn.batchCounter = s.jrn.batchCounter ∧ (localSignOff q t s).jrn.trickle = s.jrn.trickle ∧
      (localSignOff q t s).jrn.pause = s.jrn.pause ∧ (localSignOff q t s).jrn.unmatchedAcks = s.jrn.unmatchedAcks ∧
      (localSignOff q t s).day = s.day ∧ (localSignOff q t s).tbl = s.tbl ∧ (localSignOff q t s).slc = s.slc ∧
      (localSignOff q t s).blc.link = s.blc.link ∧ (localSignOff q t s).blc.silence = s.blc.silence ∧
      (localSignOff q t s).blc.reassembly = s.blc.reassembly ∧ (localSignOff q t s).blc.sending = s.blc.sending ∧
      (localSignOff q t s).blc.linkAnswer = s.blc.linkAnswer ∧ (localSignOff q t s).blc.replies = s.blc.replies ∧
      (localSignOff q t s).blc.requests = s.blc.requests ∧ (localSignOff q t s).blc.frameCheck = s.blc.frameCheck ∧
      (localSignOff q t s).blc.frameForm = s.blc.frameForm ∧ (localSignOff q t s).mrs.places = s.mrs.places ∧
      (localSignOff q t s).mrs.unmatchedReplies = s.mrs.unmatchedReplies ∧
      (localSignOff q t s).mrs.overruns = s.mrs.overruns ∧ (localSignOff q t s).mrs.settings = s.mrs.settings ∧
      (localSignOff q t s).mrs.clock = s.mrs.clock ∧ (localSignOff q t s).rts = s.rts := by
  unfold localSignOff; (try dsimp only); (repeat' split) <;> simp

@[simp] theorem localTransfer_keeps (toReserve : Bool) (q : LocalRequest) (t : Nat) (s : State) :
    (localTransfer toReserve q t s).pending = s.pending ∧ (localTransfer toReserve q t s).uptime = s.uptime ∧
      (localTransfer toReserve q t s).ttr = s.ttr ∧ (localTransfer toReserve q t s).scm.signOn = s.scm.signOn ∧
      (localTransfer toReserve q t s).scm.broadcast = s.scm.broadcast ∧ (localTransfer toReserve q t s).pbk = s.pbk ∧
      (localTransfer toReserve q t s).sda.accountMap = s.sda.accountMap ∧
      (localTransfer toReserve q t s).sda.queue = s.sda.queue ∧
      (localTransfer toReserve q t s).sda.nextAdvice = s.sda.nextAdvice ∧
      (localTransfer toReserve q t s).sda.unmatchedAcks = s.sda.unmatchedAcks ∧
      (localTransfer toReserve q t s).jrn.lastAccepted = s.jrn.lastAccepted ∧
      (localTransfer toReserve q t s).jrn.printedCursor = s.jrn.printedCursor ∧
      (localTransfer toReserve q t s).jrn.batchCounter = s.jrn.batchCounter ∧
      (localTransfer toReserve q t s).jrn.trickle = s.jrn.trickle ∧
      (localTransfer toReserve q t s).jrn.pause = s.jrn.pause ∧
      (localTransfer toReserve q t s).jrn.unmatchedAcks = s.jrn.unmatchedAcks ∧
      (localTransfer toReserve q t s).day = s.day ∧ (localTransfer toReserve q t s).tbl = s.tbl ∧
      (localTransfer toReserve q t s).slc.samples = s.slc.samples ∧
      (localTransfer toReserve q t s).blc.link = s.blc.link ∧
      (localTransfer toReserve q t s).blc.silence = s.blc.silence ∧
      (localTransfer toReserve q t s).blc.reassembly = s.blc.reassembly ∧
      (localTransfer toReserve q t s).blc.sending = s.blc.sending ∧
      (localTransfer toReserve q t s).blc.linkAnswer = s.blc.linkAnswer ∧
      (localTransfer toReserve q t s).blc.replies = s.blc.replies ∧
      (localTransfer toReserve q t s).blc.requests = s.blc.requests ∧
      (localTransfer toReserve q t s).blc.frameCheck = s.blc.frameCheck ∧
      (localTransfer toReserve q t s).blc.frameForm = s.blc.frameForm ∧
      (localTransfer toReserve q t s).mrs.places = s.mrs.places ∧
      (localTransfer toReserve q t s).mrs.unmatchedReplies = s.mrs.unmatchedReplies ∧
      (localTransfer toReserve q t s).mrs.overruns = s.mrs.overruns ∧
      (localTransfer toReserve q t s).mrs.settings = s.mrs.settings ∧
      (localTransfer toReserve q t s).mrs.clock = s.mrs.clock ∧ (localTransfer toReserve q t s).rts = s.rts := by
  unfold localTransfer; (try dsimp only); (repeat' split) <;> simp

@[simp] theorem localBalance_keeps (q : LocalRequest) (t : Nat) (s : State) :
    (localBalance q t s).pending = s.pending ∧ (localBalance q t s).uptime = s.uptime ∧
      (localBalance q t s).ttr = s.ttr ∧ (localBalance q t s).scm.signOn = s.scm.signOn ∧
      (localBalance q t s).scm.broadcast = s.scm.broadcast ∧ (localBalance q t s).pbk = s.pbk ∧
      (localBalance q t s).sda.accountMap = s.sda.accountMap ∧ (localBalance q t s).sda.queue = s.sda.queue ∧
      (localBalance q t s).sda.nextAdvice = s.sda.nextAdvice ∧
      (localBalance q t s).sda.unmatchedAcks = s.sda.unmatchedAcks ∧
      (localBalance q t s).jrn.lastAccepted = s.jrn.lastAccepted ∧
      (localBalance q t s).jrn.printedCursor = s.jrn.printedCursor ∧
      (localBalance q t s).jrn.batchCounter = s.jrn.batchCounter ∧ (localBalance q t s).jrn.trickle = s.jrn.trickle ∧
      (localBalance q t s).jrn.pause = s.jrn.pause ∧ (localBalance q t s).jrn.unmatchedAcks = s.jrn.unmatchedAcks ∧
      (localBalance q t s).day.state = s.day.state ∧ (localBalance q t s).day.date = s.day.date ∧
      (localBalance q t s).day.settlement = s.day.settlement ∧ (localBalance q t s).tbl = s.tbl ∧
      (localBalance q t s).slc.samples = s.slc.samples ∧ (localBalance q t s).blc.link = s.blc.link ∧
      (localBalance q t s).blc.silence = s.blc.silence ∧ (localBalance q t s).blc.reassembly = s.blc.reassembly ∧
      (localBalance q t s).blc.sending = s.blc.sending ∧ (localBalance q t s).blc.linkAnswer = s.blc.linkAnswer ∧
      (localBalance q t s).blc.replies = s.blc.replies ∧ (localBalance q t s).blc.requests = s.blc.requests ∧
      (localBalance q t s).blc.frameCheck = s.blc.frameCheck ∧ (localBalance q t s).blc.frameForm = s.blc.frameForm ∧
      (localBalance q t s).mrs.places = s.mrs.places ∧
      (localBalance q t s).mrs.unmatchedReplies = s.mrs.unmatchedReplies ∧
      (localBalance q t s).mrs.overruns = s.mrs.overruns ∧ (localBalance q t s).mrs.settings = s.mrs.settings ∧
      (localBalance q t s).mrs.clock = s.mrs.clock ∧ (localBalance q t s).rts = s.rts := by
  unfold localBalance; (try dsimp only); (repeat' split) <;> simp

@[simp] theorem localEnquiry_keeps (q : LocalRequest) (t : Nat) (s : State) :
    (localEnquiry q t s).pending = s.pending ∧ (localEnquiry q t s).uptime = s.uptime ∧
      (localEnquiry q t s).ttr = s.ttr ∧ (localEnquiry q t s).csh = s.csh ∧
      (localEnquiry q t s).scm.signOn = s.scm.signOn ∧ (localEnquiry q t s).scm.broadcast = s.scm.broadcast ∧
      (localEnquiry q t s).pbk = s.pbk ∧ (localEnquiry q t s).sda.accountMap = s.sda.accountMap ∧
      (localEnquiry q t s).sda.queue = s.sda.queue ∧ (localEnquiry q t s).sda.nextAdvice = s.sda.nextAdvice ∧
      (localEnquiry q t s).sda.unmatchedAcks = s.sda.unmatchedAcks ∧
      (localEnquiry q t s).jrn.lastAccepted = s.jrn.lastAccepted ∧
      (localEnquiry q t s).jrn.printedCursor = s.jrn.printedCursor ∧
      (localEnquiry q t s).jrn.batchCounter = s.jrn.batchCounter ∧ (localEnquiry q t s).jrn.trickle = s.jrn.trickle ∧
      (localEnquiry q t s).jrn.pause = s.jrn.pause ∧ (localEnquiry q t s).jrn.unmatchedAcks = s.jrn.unmatchedAcks ∧
      (localEnquiry q t s).day = s.day ∧ (localEnquiry q t s).tbl = s.tbl ∧ (localEnquiry q t s).slc = s.slc ∧
      (localEnquiry q t s).blc.link = s.blc.link ∧ (localEnquiry q t s).blc.silence = s.blc.silence ∧
      (localEnquiry q t s).blc.reassembly = s.blc.reassembly ∧ (localEnquiry q t s).blc.sending = s.blc.sending ∧
      (localEnquiry q t s).blc.linkAnswer = s.blc.linkAnswer ∧ (localEnquiry q t s).blc.replies = s.blc.replies ∧
      (localEnquiry q t s).blc.requests = s.blc.requests ∧ (localEnquiry q t s).blc.frameCheck = s.blc.frameCheck ∧
      (localEnquiry q t s).blc.frameForm = s.blc.frameForm ∧ (localEnquiry q t s).mrs.places = s.mrs.places ∧
      (localEnquiry q t s).mrs.unmatchedReplies = s.mrs.unmatchedReplies ∧
      (localEnquiry q t s).mrs.overruns = s.mrs.overruns ∧ (localEnquiry q t s).mrs.settings = s.mrs.settings ∧
      (localEnquiry q t s).mrs.clock = s.mrs.clock ∧ (localEnquiry q t s).rts = s.rts := by
  unfold localEnquiry; (try dsimp only); (repeat' split) <;> simp

@[simp] theorem handLocal_keeps (q : LocalRequest) (s : State) :
    (handLocal q s).pending = s.pending ∧ (handLocal q s).uptime = s.uptime ∧ (handLocal q s).ttr = s.ttr ∧
      (handLocal q s).scm.broadcast = s.scm.broadcast ∧ (handLocal q s).pbk = s.pbk ∧
      (handLocal q s).sda.accountMap = s.sda.accountMap ∧ (handLocal q s).sda.queue = s.sda.queue ∧
      (handLocal q s).sda.nextAdvice = s.sda.nextAdvice ∧ (handLocal q s).sda.unmatchedAcks = s.sda.unmatchedAcks ∧
      (handLocal q s).jrn.lastAccepted = s.jrn.lastAccepted ∧ (handLocal q s).jrn.printedCursor = s.jrn.printedCursor ∧
      (handLocal q s).jrn.batchCounter = s.jrn.batchCounter ∧ (handLocal q s).jrn.trickle = s.jrn.trickle ∧
      (handLocal q s).jrn.pause = s.jrn.pause ∧ (handLocal q s).jrn.unmatchedAcks = s.jrn.unmatchedAcks ∧
      (handLocal q s).day.state = s.day.state ∧ (handLocal q s).day.date = s.day.date ∧
      (handLocal q s).day.settlement = s.day.settlement ∧ (handLocal q s).tbl = s.tbl ∧
      (handLocal q s).slc.samples = s.slc.samples ∧ (handLocal q s).blc.link = s.blc.link ∧
      (handLocal q s).blc.silence = s.blc.silence ∧ (handLocal q s).blc.reassembly = s.blc.reassembly ∧
      (handLocal q s).blc.sending = s.blc.sending ∧ (handLocal q s).blc.linkAnswer = s.blc.linkAnswer ∧
      (handLocal q s).blc.replies = s.blc.replies ∧ (handLocal q s).blc.requests = s.blc.requests ∧
      (handLocal q s).blc.frameCheck = s.blc.frameCheck ∧ (handLocal q s).blc.frameForm = s.blc.frameForm ∧
      (handLocal q s).mrs.places = s.mrs.places ∧ (handLocal q s).mrs.unmatchedReplies = s.mrs.unmatchedReplies ∧
      (handLocal q s).mrs.overruns = s.mrs.overruns ∧ (handLocal q s).mrs.settings = s.mrs.settings ∧
      (handLocal q s).mrs.clock = s.mrs.clock ∧ (handLocal q s).rts = s.rts := by
  unfold handLocal; (try dsimp only); (repeat' split) <;> simp

@[simp] theorem acceptRequest_keeps (q : Admitted) (leg : Option Leg) (s : State) :
    (acceptRequest q leg s).pending = s.pending ∧ (acceptRequest q leg s).uptime = s.uptime ∧
      (acceptRequest q leg s).ttr.late = s.ttr.late ∧ (acceptRequest q leg s).ttr.seqs = s.ttr.seqs ∧
      (acceptRequest q leg s).csh.reserve = s.csh.reserve ∧ (acceptRequest q leg s).scm.signOn = s.scm.signOn ∧
      (acceptRequest q leg s).scm.broadcast = s.scm.broadcast ∧ (acceptRequest q leg s).pbk = s.pbk ∧
      (acceptRequest q leg s).sda = s.sda ∧ (acceptRequest q leg s).jrn.entries = s.jrn.entries ∧
      (acceptRequest q leg s).jrn.used = s.jrn.used ∧ (acceptRequest q leg s).jrn.nextSeq = s.jrn.nextSeq ∧
      (acceptRequest q leg s).jrn.lastAccepted = s.jrn.lastAccepted ∧
      (acceptRequest q leg s).jrn.printedCursor = s.jrn.printedCursor ∧
      (acceptRequest q leg s).jrn.notStored = s.jrn.notStored ∧
      (acceptRequest q leg s).jrn.batchCounter = s.jrn.batchCounter ∧
      (acceptRequest q leg s).jrn.trickle = s.jrn.trickle ∧ (acceptRequest q leg s).jrn.pause = s.jrn.pause ∧
      (acceptRequest q leg s).jrn.unmatchedAcks = s.jrn.unmatchedAcks ∧ (acceptRequest q leg s).day = s.day ∧
      (acceptRequest q leg s).tbl = s.tbl ∧ (acceptRequest q leg s).slc = s.slc ∧
      (acceptRequest q leg s).blc.link = s.blc.link ∧ (acceptRequest q leg s).blc.silence = s.blc.silence ∧
      (acceptRequest q leg s).blc.reassembly = s.blc.reassembly ∧ (acceptRequest q leg s).blc.sending = s.blc.sending ∧
      (acceptRequest q leg s).blc.linkAnswer = s.blc.linkAnswer ∧ (acceptRequest q leg s).blc.replies = s.blc.replies ∧
      (acceptRequest q leg s).blc.frameCheck = s.blc.frameCheck ∧
      (acceptRequest q leg s).blc.frameForm = s.blc.frameForm ∧ (acceptRequest q leg s).mrs.places = s.mrs.places ∧
      (acceptRequest q leg s).mrs.unmatchedReplies = s.mrs.unmatchedReplies ∧
      (acceptRequest q leg s).mrs.overruns = s.mrs.overruns ∧ (acceptRequest q leg s).mrs.settings = s.mrs.settings ∧
      (acceptRequest q leg s).mrs.clock = s.mrs.clock ∧ (acceptRequest q leg s).rts = s.rts := by
  unfold acceptRequest; (try dsimp only); (repeat' split) <;> simp

@[simp] theorem onlinePath_keeps (q : Admitted) (s : State) :
    (onlinePath q s).pending = s.pending ∧ (onlinePath q s).uptime = s.uptime ∧
      (onlinePath q s).ttr.late = s.ttr.late ∧ (onlinePath q s).ttr.seqs = s.ttr.seqs ∧
      (onlinePath q s).csh.reserve = s.csh.reserve ∧ (onlinePath q s).scm.signOn = s.scm.signOn ∧
      (onlinePath q s).scm.broadcast = s.scm.broadcast ∧ (onlinePath q s).pbk = s.pbk ∧ (onlinePath q s).sda = s.sda ∧
      (onlinePath q s).jrn.entries = s.jrn.entries ∧ (onlinePath q s).jrn.used = s.jrn.used ∧
      (onlinePath q s).jrn.nextSeq = s.jrn.nextSeq ∧ (onlinePath q s).jrn.lastAccepted = s.jrn.lastAccepted ∧
      (onlinePath q s).jrn.printedCursor = s.jrn.printedCursor ∧ (onlinePath q s).jrn.notStored = s.jrn.notStored ∧
      (onlinePath q s).jrn.batchCounter = s.jrn.batchCounter ∧ (onlinePath q s).jrn.trickle = s.jrn.trickle ∧
      (onlinePath q s).jrn.pause = s.jrn.pause ∧ (onlinePath q s).jrn.unmatchedAcks = s.jrn.unmatchedAcks ∧
      (onlinePath q s).day = s.day ∧ (onlinePath q s).tbl = s.tbl ∧ (onlinePath q s).slc = s.slc ∧
      (onlinePath q s).blc.link = s.blc.link ∧ (onlinePath q s).blc.silence = s.blc.silence ∧
      (onlinePath q s).blc.reassembly = s.blc.reassembly ∧ (onlinePath q s).blc.sending = s.blc.sending ∧
      (onlinePath q s).blc.linkAnswer = s.blc.linkAnswer ∧ (onlinePath q s).blc.replies = s.blc.replies ∧
      (onlinePath q s).blc.frameCheck = s.blc.frameCheck ∧ (onlinePath q s).blc.frameForm = s.blc.frameForm ∧
      (onlinePath q s).mrs.places = s.mrs.places ∧ (onlinePath q s).mrs.unmatchedReplies = s.mrs.unmatchedReplies ∧
      (onlinePath q s).mrs.overruns = s.mrs.overruns ∧ (onlinePath q s).mrs.settings = s.mrs.settings ∧
      (onlinePath q s).mrs.clock = s.mrs.clock ∧ (onlinePath q s).rts = s.rts := by
  unfold onlinePath; (try dsimp only); (repeat' split) <;> simp

@[simp] theorem standinDebit_keeps (q : Admitted) (leg : Option Leg) (s : State) :
    (standinDebit q leg s).pending = s.pending ∧ (standinDebit q leg s).uptime = s.uptime ∧
      (standinDebit q leg s).ttr = s.ttr ∧ (standinDebit q leg s).csh = s.csh ∧ (standinDebit q leg s).scm = s.scm ∧
      (standinDebit q leg s).pbk = s.pbk ∧ (standinDebit q leg s).sda.queue = s.sda.queue ∧
      (standinDebit q leg s).sda.nextAdvice = s.sda.nextAdvice ∧
      (standinDebit q leg s).sda.unmatchedAcks = s.sda.unmatchedAcks ∧ (standinDebit q leg s).jrn = s.jrn ∧
      (standinDebit q leg s).day = s.day ∧ (standinDebit q leg s).tbl = s.tbl ∧ (standinDebit q leg s).slc = s.slc ∧
      (standinDebit q leg s).blc = s.blc ∧ (standinDebit q leg s).mrs = s.mrs ∧ (standinDebit q leg s).rts = s.rts := by
  unfold standinDebit; (try dsimp only); (repeat' split) <;> simp

@[simp] theorem pulseFor_keeps (st : Station) (leg : Option Leg) (s : State) :
    (pulseFor st leg s).pending = s.pending ∧ (pulseFor st leg s).uptime = s.uptime ∧
      (pulseFor st leg s).ttr = s.ttr ∧ (pulseFor st leg s).csh = s.csh ∧ (pulseFor st leg s).scm = s.scm ∧
      (pulseFor st leg s).pbk = s.pbk ∧ (pulseFor st leg s).sda = s.sda ∧ (pulseFor st leg s).jrn = s.jrn ∧
      (pulseFor st leg s).day = s.day ∧ (pulseFor st leg s).tbl = s.tbl ∧
      (pulseFor st leg s).slc.samples = s.slc.samples ∧ (pulseFor st leg s).blc = s.blc ∧
      (pulseFor st leg s).mrs = s.mrs ∧ (pulseFor st leg s).rts = s.rts := by
  unfold pulseFor; (try dsimp only); (repeat' split) <;> simp

@[simp] theorem postStandinLeg_keeps (st : Station) (t : Nat) (leg : Option Leg) (s : State) :
    (postStandinLeg st t leg s).pending = s.pending ∧ (postStandinLeg st t leg s).uptime = s.uptime ∧
      (postStandinLeg st t leg s).ttr = s.ttr ∧ (postStandinLeg st t leg s).csh.reserve = s.csh.reserve ∧
      (postStandinLeg st t leg s).scm.signOn = s.scm.signOn ∧
      (postStandinLeg st t leg s).scm.broadcast = s.scm.broadcast ∧ (postStandinLeg st t leg s).pbk = s.pbk ∧
      (postStandinLeg st t leg s).sda = s.sda ∧ (postStandinLeg st t leg s).jrn = s.jrn ∧
      (postStandinLeg st t leg s).day = s.day ∧ (postStandinLeg st t leg s).tbl = s.tbl ∧
      (postStandinLeg st t leg s).slc = s.slc ∧ (postStandinLeg st t leg s).blc.link = s.blc.link ∧
      (postStandinLeg st t leg s).blc.silence = s.blc.silence ∧
      (postStandinLeg st t leg s).blc.reassembly = s.blc.reassembly ∧
      (postStandinLeg st t leg s).blc.sending = s.blc.sending ∧
      (postStandinLeg st t leg s).blc.linkAnswer = s.blc.linkAnswer ∧
      (postStandinLeg st t leg s).blc.replies = s.blc.replies ∧
      (postStandinLeg st t leg s).blc.requests = s.blc.requests ∧
      (postStandinLeg st t leg s).blc.frameCheck = s.blc.frameCheck ∧
      (postStandinLeg st t leg s).blc.frameForm = s.blc.frameForm ∧
      (postStandinLeg st t leg s).mrs.places = s.mrs.places ∧
      (postStandinLeg st t leg s).mrs.unmatchedReplies = s.mrs.unmatchedReplies ∧
      (postStandinLeg st t leg s).mrs.overruns = s.mrs.overruns ∧
      (postStandinLeg st t leg s).mrs.settings = s.mrs.settings ∧ (postStandinLeg st t leg s).mrs.clock = s.mrs.clock ∧
      (postStandinLeg st t leg s).rts = s.rts := by
  unfold postStandinLeg; (try dsimp only); (repeat' split) <;> simp

@[simp] theorem approveStandin_keeps (q : Admitted) (leg : Option Leg) (s : State) :
    (approveStandin q leg s).pending = s.pending ∧ (approveStandin q leg s).uptime = s.uptime ∧
      (approveStandin q leg s).ttr = s.ttr ∧ (approveStandin q leg s).csh.reserve = s.csh.reserve ∧
      (approveStandin q leg s).scm.signOn = s.scm.signOn ∧ (approveStandin q leg s).scm.broadcast = s.scm.broadcast ∧
      (approveStandin q leg s).pbk = s.pbk ∧ (approveStandin q leg s).sda.unmatchedAcks = s.sda.unmatchedAcks ∧
      (approveStandin q leg s).jrn.lastAccepted = s.jrn.lastAccepted ∧
      (approveStandin q leg s).jrn.printedCursor = s.jrn.printedCursor ∧
      (approveStandin q leg s).jrn.batchCounter = s.jrn.batchCounter ∧
      (approveStandin q leg s).jrn.trickle = s.jrn.trickle ∧ (approveStandin q leg s).jrn.pause = s.jrn.pause ∧
      (approveStandin q leg s).jrn.unmatchedAcks = s.jrn.unmatchedAcks ∧ (approveStandin q leg s).day = s.day ∧
      (approveStandin q leg s).tbl = s.tbl ∧ (approveStandin q leg s).slc.samples = s.slc.samples ∧
      (approveStandin q leg s).blc.link = s.blc.link ∧ (approveStandin q leg s).blc.silence = s.blc.silence ∧
      (approveStandin q leg s).blc.reassembly = s.blc.reassembly ∧
      (approveStandin q leg s).blc.sending = s.blc.sending ∧
      (approveStandin q leg s).blc.linkAnswer = s.blc.linkAnswer ∧
      (approveStandin q leg s).blc.replies = s.blc.replies ∧ (approveStandin q leg s).blc.requests = s.blc.requests ∧
      (approveStandin q leg s).blc.frameCheck = s.blc.frameCheck ∧
      (approveStandin q leg s).blc.frameForm = s.blc.frameForm ∧ (approveStandin q leg s).mrs.places = s.mrs.places ∧
      (approveStandin q leg s).mrs.unmatchedReplies = s.mrs.unmatchedReplies ∧
      (approveStandin q leg s).mrs.overruns = s.mrs.overruns ∧ (approveStandin q leg s).mrs.settings = s.mrs.settings ∧
      (approveStandin q leg s).mrs.clock = s.mrs.clock ∧ (approveStandin q leg s).rts = s.rts := by
  unfold approveStandin; (try dsimp only); (repeat' split) <;> simp

@[simp] theorem standinPath_keeps (q : Admitted) (s : State) :
    (standinPath q s).pending = s.pending ∧ (standinPath q s).uptime = s.uptime ∧ (standinPath q s).ttr = s.ttr ∧
      (standinPath q s).csh.reserve = s.csh.reserve ∧ (standinPath q s).scm.signOn = s.scm.signOn ∧
      (standinPath q s).scm.broadcast = s.scm.broadcast ∧ (standinPath q s).pbk = s.pbk ∧
      (standinPath q s).sda.unmatchedAcks = s.sda.unmatchedAcks ∧
      (standinPath q s).jrn.lastAccepted = s.jrn.lastAccepted ∧
      (standinPath q s).jrn.printedCursor = s.jrn.printedCursor ∧
      (standinPath q s).jrn.batchCounter = s.jrn.batchCounter ∧ (standinPath q s).jrn.trickle = s.jrn.trickle ∧
      (standinPath q s).jrn.pause = s.jrn.pause ∧ (standinPath q s).jrn.unmatchedAcks = s.jrn.unmatchedAcks ∧
      (standinPath q s).day = s.day ∧ (standinPath q s).tbl = s.tbl ∧ (standinPath q s).slc.samples = s.slc.samples ∧
      (standinPath q s).blc.link = s.blc.link ∧ (standinPath q s).blc.silence = s.blc.silence ∧
      (standinPath q s).blc.reassembly = s.blc.reassembly ∧ (standinPath q s).blc.sending = s.blc.sending ∧
      (standinPath q s).blc.linkAnswer = s.blc.linkAnswer ∧ (standinPath q s).blc.replies = s.blc.replies ∧
      (standinPath q s).blc.requests = s.blc.requests ∧ (standinPath q s).blc.frameCheck = s.blc.frameCheck ∧
      (standinPath q s).blc.frameForm = s.blc.frameForm ∧ (standinPath q s).mrs.places = s.mrs.places ∧
      (standinPath q s).mrs.unmatchedReplies = s.mrs.unmatchedReplies ∧
      (standinPath q s).mrs.overruns = s.mrs.overruns ∧ (standinPath q s).mrs.settings = s.mrs.settings ∧
      (standinPath q s).mrs.clock = s.mrs.clock ∧ (standinPath q s).rts = s.rts := by
  unfold standinPath; (try dsimp only); (repeat' split) <;> simp

@[simp] theorem routeRequest_keeps (st : Station) (t : Nat) (rec : TctRec) (r : KeyRequest) (fields : List KeyField) (found : Found) (ref : Ref) (s : State) :
    (routeRequest st t rec r fields found ref s).pending = s.pending ∧
      (routeRequest st t rec r fields found ref s).uptime = s.uptime ∧
      (routeRequest st t rec r fields found ref s).ttr.late = s.ttr.late ∧
      (routeRequest st t rec r fields found ref s).ttr.seqs = s.ttr.seqs ∧
      (routeRequest st t rec r fields found ref s).csh.reserve = s.csh.reserve ∧
      (routeRequest st t rec r fields found ref s).scm.signOn = s.scm.signOn ∧
      (routeRequest st t rec r fields found ref s).scm.broadcast = s.scm.broadcast ∧
      (routeRequest st t rec r fields found ref s).pbk = s.pbk ∧
      (routeRequest st t rec r fields found ref s).sda.unmatchedAcks = s.sda.unmatchedAcks ∧
      (routeRequest st t rec r fields found ref s).jrn.lastAccepted = s.jrn.lastAccepted ∧
      (routeRequest st t rec r fields found ref s).jrn.printedCursor = s.jrn.printedCursor ∧
      (routeRequest st t rec r fields found ref s).jrn.batchCounter = s.jrn.batchCounter ∧
      (routeRequest st t rec r fields found ref s).jrn.trickle = s.jrn.trickle ∧
      (routeRequest st t rec r fields found ref s).jrn.pause = s.jrn.pause ∧
      (routeRequest st t rec r fields found ref s).jrn.unmatchedAcks = s.jrn.unmatchedAcks ∧
      (routeRequest st t rec r fields found ref s).day = s.day ∧
      (routeRequest st t rec r fields found ref s).tbl = s.tbl ∧
      (routeRequest st t rec r fields found ref s).slc.samples = s.slc.samples ∧
      (routeRequest st t rec r fields found ref s).blc.link = s.blc.link ∧
      (routeRequest st t rec r fields found ref s).blc.silence = s.blc.silence ∧
      (routeRequest st t rec r fields found ref s).blc.reassembly = s.blc.reassembly ∧
      (routeRequest st t rec r fields found ref s).blc.sending = s.blc.sending ∧
      (routeRequest st t rec r fields found ref s).blc.linkAnswer = s.blc.linkAnswer ∧
      (routeRequest st t rec r fields found ref s).blc.replies = s.blc.replies ∧
      (routeRequest st t rec r fields found ref s).blc.frameCheck = s.blc.frameCheck ∧
      (routeRequest st t rec r fields found ref s).blc.frameForm = s.blc.frameForm ∧
      (routeRequest st t rec r fields found ref s).mrs.places = s.mrs.places ∧
      (routeRequest st t rec r fields found ref s).mrs.unmatchedReplies = s.mrs.unmatchedReplies ∧
      (routeRequest st t rec r fields found ref s).mrs.overruns = s.mrs.overruns ∧
      (routeRequest st t rec r fields found ref s).mrs.settings = s.mrs.settings ∧
      (routeRequest st t rec r fields found ref s).mrs.clock = s.mrs.clock ∧
      (routeRequest st t rec r fields found ref s).rts = s.rts := by
  unfold routeRequest; (try dsimp only); (repeat' split) <;> simp

@[simp] theorem routeLocal_keeps (st : Station) (rec : TctRec) (action : LocalAction) (r : KeyRequest) (fields : List KeyField) (ref : Ref) (s : State) :
    (routeLocal st rec action r fields ref s).pending = s.pending ∧
      (routeLocal st rec action r fields ref s).uptime = s.uptime ∧
      (routeLocal st rec action r fields ref s).ttr = s.ttr ∧
      (routeLocal st rec action r fields ref s).scm.broadcast = s.scm.broadcast ∧
      (routeLocal st rec action r fields ref s).pbk = s.pbk ∧
      (routeLocal st rec action r fields ref s).sda.accountMap = s.sda.accountMap ∧
      (routeLocal st rec action r fields ref s).sda.queue = s.sda.queue ∧
      (routeLocal st rec action r fields ref s).sda.nextAdvice = s.sda.nextAdvice ∧
      (routeLocal st rec action r fields ref s).sda.unmatchedAcks = s.sda.unmatchedAcks ∧
      (routeLocal st rec action r fields ref s).jrn.lastAccepted = s.jrn.lastAccepted ∧
      (routeLocal st rec action r fields ref s).jrn.printedCursor = s.jrn.printedCursor ∧
      (routeLocal st rec action r fields ref s).jrn.batchCounter = s.jrn.batchCounter ∧
      (routeLocal st rec action r fields ref s).jrn.trickle = s.jrn.trickle ∧
      (routeLocal st rec action r fields ref s).jrn.pause = s.jrn.pause ∧
      (routeLocal st rec action r fields ref s).jrn.unmatchedAcks = s.jrn.unmatchedAcks ∧
      (routeLocal st rec action r fields ref s).day.state = s.day.state ∧
      (routeLocal st rec action r fields ref s).day.date = s.day.date ∧
      (routeLocal st rec action r fields ref s).day.settlement = s.day.settlement ∧
      (routeLocal st rec action r fields ref s).tbl = s.tbl ∧
      (routeLocal st rec action r fields ref s).slc.samples = s.slc.samples ∧
      (routeLocal st rec action r fields ref s).blc.link = s.blc.link ∧
      (routeLocal st rec action r fields ref s).blc.silence = s.blc.silence ∧
      (routeLocal st rec action r fields ref s).blc.reassembly = s.blc.reassembly ∧
      (routeLocal st rec action r fields ref s).blc.sending = s.blc.sending ∧
      (routeLocal st rec action r fields ref s).blc.linkAnswer = s.blc.linkAnswer ∧
      (routeLocal st rec action r fields ref s).blc.replies = s.blc.replies ∧
      (routeLocal st rec action r fields ref s).blc.requests = s.blc.requests ∧
      (routeLocal st rec action r fields ref s).blc.frameCheck = s.blc.frameCheck ∧
      (routeLocal st rec action r fields ref s).blc.frameForm = s.blc.frameForm ∧
      (routeLocal st rec action r fields ref s).mrs.places = s.mrs.places ∧
      (routeLocal st rec action r fields ref s).mrs.unmatchedReplies = s.mrs.unmatchedReplies ∧
      (routeLocal st rec action r fields ref s).mrs.overruns = s.mrs.overruns ∧
      (routeLocal st rec action r fields ref s).mrs.settings = s.mrs.settings ∧
      (routeLocal st rec action r fields ref s).mrs.clock = s.mrs.clock ∧
      (routeLocal st rec action r fields ref s).rts = s.rts := by
  unfold routeLocal; (try dsimp only); (repeat' split) <;> simp

@[simp] theorem admitRequest_keeps (st : Station) (rec : TctRec) (r : KeyRequest) (fields : List KeyField) (found : Found) (ref : Ref) (s : State) :
    (admitRequest st rec r fields found ref s).pending = s.pending ∧
      (admitRequest st rec r fields found ref s).uptime = s.uptime ∧
      (admitRequest st rec r fields found ref s).ttr.late = s.ttr.late ∧
      (admitRequest st rec r fields found ref s).ttr.seqs = s.ttr.seqs ∧
      (admitRequest st rec r fields found ref s).scm.broadcast = s.scm.broadcast ∧
      (admitRequest st rec r fields found ref s).pbk = s.pbk ∧
      (admitRequest st rec r fields found ref s).sda.unmatchedAcks = s.sda.unmatchedAcks ∧
      (admitRequest st rec r fields found ref s).jrn.lastAccepted = s.jrn.lastAccepted ∧
      (admitRequest st rec r fields found ref s).jrn.printedCursor = s.jrn.printedCursor ∧
      (admitRequest st rec r fields found ref s).jrn.batchCounter = s.jrn.batchCounter ∧
      (admitRequest st rec r fields found ref s).jrn.trickle = s.jrn.trickle ∧
      (admitRequest st rec r fields found ref s).jrn.pause = s.jrn.pause ∧
      (admitRequest st rec r fields found ref s).jrn.unmatchedAcks = s.jrn.unmatchedAcks ∧
      (admitRequest st rec r fields found ref s).day.state = s.day.state ∧
      (admitRequest st rec r fields found ref s).day.date = s.day.date ∧
      (admitRequest st rec r fields found ref s).day.settlement = s.day.settlement ∧
      (admitRequest st rec r fields found ref s).tbl = s.tbl ∧
      (admitRequest st rec r fields found ref s).slc.samples = s.slc.samples ∧
      (admitRequest st rec r fields found ref s).blc.link = s.blc.link ∧
      (admitRequest st rec r fields found ref s).blc.silence = s.blc.silence ∧
      (admitRequest st rec r fields found ref s).blc.reassembly = s.blc.reassembly ∧
      (admitRequest st rec r fields found ref s).blc.sending = s.blc.sending ∧
      (admitRequest st rec r fields found ref s).blc.linkAnswer = s.blc.linkAnswer ∧
      (admitRequest st rec r fields found ref s).blc.replies = s.blc.replies ∧
      (admitRequest st rec r fields found ref s).blc.frameCheck = s.blc.frameCheck ∧
      (admitRequest st rec r fields found ref s).blc.frameForm = s.blc.frameForm ∧
      (admitRequest st rec r fields found ref s).mrs.places = s.mrs.places ∧
      (admitRequest st rec r fields found ref s).mrs.unmatchedReplies = s.mrs.unmatchedReplies ∧
      (admitRequest st rec r fields found ref s).mrs.overruns = s.mrs.overruns ∧
      (admitRequest st rec r fields found ref s).mrs.settings = s.mrs.settings ∧
      (admitRequest st rec r fields found ref s).mrs.clock = s.mrs.clock ∧
      (admitRequest st rec r fields found ref s).rts = s.rts := by
  unfold admitRequest; (try dsimp only); (repeat' split) <;> simp

@[simp] theorem takeKeyRequest_keeps (st : Station) (r : KeyRequest) (s : State) :
    (takeKeyRequest st r s).pending = s.pending ∧ (takeKeyRequest st r s).uptime = s.uptime ∧
      (takeKeyRequest st r s).ttr.late = s.ttr.late ∧ (takeKeyRequest st r s).scm.broadcast = s.scm.broadcast ∧
      (takeKeyRequest st r s).pbk = s.pbk ∧ (takeKeyRequest st r s).sda.unmatchedAcks = s.sda.unmatchedAcks ∧
      (takeKeyRequest st r s).jrn.lastAccepted = s.jrn.lastAccepted ∧
      (takeKeyRequest st r s).jrn.printedCursor = s.jrn.printedCursor ∧
      (takeKeyRequest st r s).jrn.batchCounter = s.jrn.batchCounter ∧
      (takeKeyRequest st r s).jrn.trickle = s.jrn.trickle ∧ (takeKeyRequest st r s).jrn.pause = s.jrn.pause ∧
      (takeKeyRequest st r s).jrn.unmatchedAcks = s.jrn.unmatchedAcks ∧
      (takeKeyRequest st r s).day.state = s.day.state ∧ (takeKeyRequest st r s).day.date = s.day.date ∧
      (takeKeyRequest st r s).day.settlement = s.day.settlement ∧ (takeKeyRequest st r s).tbl = s.tbl ∧
      (takeKeyRequest st r s).slc.samples = s.slc.samples ∧ (takeKeyRequest st r s).blc.link = s.blc.link ∧
      (takeKeyRequest st r s).blc.silence = s.blc.silence ∧ (takeKeyRequest st r s).blc.reassembly = s.blc.reassembly ∧
      (takeKeyRequest st r s).blc.sending = s.blc.sending ∧ (takeKeyRequest st r s).blc.linkAnswer = s.blc.linkAnswer ∧
      (takeKeyRequest st r s).blc.replies = s.blc.replies ∧ (takeKeyRequest st r s).blc.frameCheck = s.blc.frameCheck ∧
      (takeKeyRequest st r s).blc.frameForm = s.blc.frameForm ∧ (takeKeyRequest st r s).mrs.places = s.mrs.places ∧
      (takeKeyRequest st r s).mrs.unmatchedReplies = s.mrs.unmatchedReplies ∧
      (takeKeyRequest st r s).mrs.overruns = s.mrs.overruns ∧ (takeKeyRequest st r s).mrs.settings = s.mrs.settings ∧
      (takeKeyRequest st r s).mrs.clock = s.mrs.clock ∧ (takeKeyRequest st r s).rts = s.rts := by
  unfold takeKeyRequest; (try dsimp only); (repeat' split) <;> simp

@[simp] theorem takeFormCall_keeps (st : Station) (code : Nat) (s : State) :
    (takeFormCall st code s).pending = s.pending ∧ (takeFormCall st code s).uptime = s.uptime ∧
      (takeFormCall st code s).ttr = s.ttr ∧ (takeFormCall st code s).csh = s.csh ∧
      (takeFormCall st code s).scm.signOn = s.scm.signOn ∧ (takeFormCall st code s).scm.broadcast = s.scm.broadcast ∧
      (takeFormCall st code s).pbk = s.pbk ∧ (takeFormCall st code s).sda = s.sda ∧
      (takeFormCall st code s).jrn = s.jrn ∧ (takeFormCall st code s).day = s.day ∧
      (takeFormCall st code s).tbl = s.tbl ∧ (takeFormCall st code s).slc = s.slc ∧
      (takeFormCall st code s).blc = s.blc ∧ (takeFormCall st code s).mrs = s.mrs ∧
      (takeFormCall st code s).rts = s.rts := by
  unfold takeFormCall; (try dsimp only); (repeat' split) <;> simp

@[simp] theorem addPlace_keeps (id : Nat) (r : MgmtRequest) (taken : Bool) (s : State) :
    (addPlace id r taken s).pending = s.pending ∧ (addPlace id r taken s).uptime = s.uptime ∧
      (addPlace id r taken s).ttr = s.ttr ∧ (addPlace id r taken s).csh = s.csh ∧ (addPlace id r taken s).scm = s.scm ∧
      (addPlace id r taken s).pbk = s.pbk ∧ (addPlace id r taken s).sda = s.sda ∧ (addPlace id r taken s).jrn = s.jrn ∧
      (addPlace id r taken s).day = s.day ∧ (addPlace id r taken s).tbl = s.tbl ∧ (addPlace id r taken s).slc = s.slc ∧
      (addPlace id r taken s).blc = s.blc ∧ (addPlace id r taken s).mrs.flags = s.mrs.flags ∧
      (addPlace id r taken s).mrs.unmatchedReplies = s.mrs.unmatchedReplies ∧
      (addPlace id r taken s).mrs.overruns = s.mrs.overruns ∧ (addPlace id r taken s).mrs.settings = s.mrs.settings ∧
      (addPlace id r taken s).mrs.clock = s.mrs.clock ∧ (addPlace id r taken s).rts = s.rts := by
  unfold addPlace; (try dsimp only); (repeat' split) <;> simp

@[simp] theorem answer_keeps (id : Nat) (status : MgmtStatus) (content : ReplyContent) (s : State) :
    (answer id status content s).pending = s.pending ∧ (answer id status content s).uptime = s.uptime ∧
      (answer id status content s).ttr = s.ttr ∧ (answer id status content s).csh = s.csh ∧
      (answer id status content s).scm = s.scm ∧ (answer id status content s).pbk = s.pbk ∧
      (answer id status content s).sda = s.sda ∧ (answer id status content s).jrn = s.jrn ∧
      (answer id status content s).day = s.day ∧ (answer id status content s).tbl = s.tbl ∧
      (answer id status content s).slc = s.slc ∧ (answer id status content s).blc.link = s.blc.link ∧
      (answer id status content s).blc.silence = s.blc.silence ∧
      (answer id status content s).blc.reassembly = s.blc.reassembly ∧
      (answer id status content s).blc.sending = s.blc.sending ∧
      (answer id status content s).blc.linkAnswer = s.blc.linkAnswer ∧
      (answer id status content s).blc.requests = s.blc.requests ∧
      (answer id status content s).blc.events = s.blc.events ∧
      (answer id status content s).blc.frameCheck = s.blc.frameCheck ∧
      (answer id status content s).blc.frameForm = s.blc.frameForm ∧ (answer id status content s).mrs = s.mrs ∧
      (answer id status content s).rts = s.rts := by
  unfold answer; (try dsimp only); (repeat' split) <;> simp

@[simp] theorem refuseRequest_keeps (id : Nat) (why : MgmtStatus) (s : State) :
    (refuseRequest id why s).pending = s.pending ∧ (refuseRequest id why s).uptime = s.uptime ∧
      (refuseRequest id why s).ttr = s.ttr ∧ (refuseRequest id why s).csh = s.csh ∧
      (refuseRequest id why s).scm = s.scm ∧ (refuseRequest id why s).pbk = s.pbk ∧
      (refuseRequest id why s).sda = s.sda ∧ (refuseRequest id why s).jrn = s.jrn ∧
      (refuseRequest id why s).day = s.day ∧ (refuseRequest id why s).tbl = s.tbl ∧
      (refuseRequest id why s).slc = s.slc ∧ (refuseRequest id why s).blc.link = s.blc.link ∧
      (refuseRequest id why s).blc.silence = s.blc.silence ∧
      (refuseRequest id why s).blc.reassembly = s.blc.reassembly ∧
      (refuseRequest id why s).blc.sending = s.blc.sending ∧
      (refuseRequest id why s).blc.linkAnswer = s.blc.linkAnswer ∧
      (refuseRequest id why s).blc.requests = s.blc.requests ∧ (refuseRequest id why s).blc.events = s.blc.events ∧
      (refuseRequest id why s).blc.frameCheck = s.blc.frameCheck ∧
      (refuseRequest id why s).blc.frameForm = s.blc.frameForm ∧ (refuseRequest id why s).mrs = s.mrs ∧
      (refuseRequest id why s).rts = s.rts := by
  unfold refuseRequest; (try dsimp only); (repeat' split) <;> simp

@[simp] theorem onDrop_keeps (st : Station) (d : Drop) (f : DropStatus → DropStatus) (s : State) :
    (onDrop st d f s).pending = s.pending ∧ (onDrop st d f s).uptime = s.uptime ∧ (onDrop st d f s).ttr = s.ttr ∧
      (onDrop st d f s).csh = s.csh ∧ (onDrop st d f s).scm = s.scm ∧ (onDrop st d f s).pbk = s.pbk ∧
      (onDrop st d f s).sda = s.sda ∧ (onDrop st d f s).jrn = s.jrn ∧ (onDrop st d f s).day = s.day ∧
      (onDrop st d f s).tbl = s.tbl ∧ (onDrop st d f s).slc.samples = s.slc.samples ∧ (onDrop st d f s).blc = s.blc ∧
      (onDrop st d f s).mrs = s.mrs ∧ (onDrop st d f s).rts = s.rts := by
  unfold onDrop; (try dsimp only); (repeat' split) <;> simp

@[simp] theorem tellUp_keeps (st : Station) (d : Drop) (s : State) :
    (tellUp st d s).pending = s.pending ∧ (tellUp st d s).uptime = s.uptime ∧ (tellUp st d s).ttr = s.ttr ∧
      (tellUp st d s).csh = s.csh ∧ (tellUp st d s).scm.signOn = s.scm.signOn ∧
      (tellUp st d s).scm.broadcast = s.scm.broadcast ∧ (tellUp st d s).sda.accountMap = s.sda.accountMap ∧
      (tellUp st d s).sda.unmatchedAcks = s.sda.unmatchedAcks ∧ (tellUp st d s).jrn.lastAccepted = s.jrn.lastAccepted ∧
      (tellUp st d s).jrn.printedCursor = s.jrn.printedCursor ∧ (tellUp st d s).jrn.batchCounter = s.jrn.batchCounter ∧
      (tellUp st d s).jrn.trickle = s.jrn.trickle ∧ (tellUp st d s).jrn.pause = s.jrn.pause ∧
      (tellUp st d s).jrn.unmatchedAcks = s.jrn.unmatchedAcks ∧ (tellUp st d s).day = s.day ∧
      (tellUp st d s).tbl = s.tbl ∧ (tellUp st d s).slc = s.slc ∧ (tellUp st d s).blc.link = s.blc.link ∧
      (tellUp st d s).blc.silence = s.blc.silence ∧ (tellUp st d s).blc.reassembly = s.blc.reassembly ∧
      (tellUp st d s).blc.sending = s.blc.sending ∧ (tellUp st d s).blc.linkAnswer = s.blc.linkAnswer ∧
      (tellUp st d s).blc.replies = s.blc.replies ∧ (tellUp st d s).blc.requests = s.blc.requests ∧
      (tellUp st d s).blc.frameCheck = s.blc.frameCheck ∧ (tellUp st d s).blc.frameForm = s.blc.frameForm ∧
      (tellUp st d s).mrs.places = s.mrs.places ∧ (tellUp st d s).mrs.unmatchedReplies = s.mrs.unmatchedReplies ∧
      (tellUp st d s).mrs.overruns = s.mrs.overruns ∧ (tellUp st d s).mrs.settings = s.mrs.settings ∧
      (tellUp st d s).mrs.clock = s.mrs.clock ∧ (tellUp st d s).rts = s.rts := by
  unfold tellUp; (try dsimp only); (repeat' split) <;> simp

@[simp] theorem responded_keeps (st : Station) (d : Drop) (s : State) :
    (responded st d s).pending = s.pending ∧ (responded st d s).uptime = s.uptime ∧ (responded st d s).ttr = s.ttr ∧
      (responded st d s).csh = s.csh ∧ (responded st d s).scm.signOn = s.scm.signOn ∧
      (responded st d s).scm.broadcast = s.scm.broadcast ∧ (responded st d s).sda.accountMap = s.sda.accountMap ∧
      (responded st d s).sda.unmatchedAcks = s.sda.unmatchedAcks ∧
      (responded st d s).jrn.lastAccepted = s.jrn.lastAccepted ∧
      (responded st d s).jrn.printedCursor = s.jrn.printedCursor ∧
      (responded st d s).jrn.batchCounter = s.jrn.batchCounter ∧ (responded st d s).jrn.trickle = s.jrn.trickle ∧
      (responded st d s).jrn.pause = s.jrn.pause ∧ (responded st d s).jrn.unmatchedAcks = s.jrn.unmatchedAcks ∧
      (responded st d s).day = s.day ∧ (responded st d s).tbl = s.tbl ∧ (responded st d s).slc.samples = s.slc.samples ∧
      (responded st d s).blc.link = s.blc.link ∧ (responded st d s).blc.silence = s.blc.silence ∧
      (responded st d s).blc.reassembly = s.blc.reassembly ∧ (responded st d s).blc.sending = s.blc.sending ∧
      (responded st d s).blc.linkAnswer = s.blc.linkAnswer ∧ (responded st d s).blc.replies = s.blc.replies ∧
      (responded st d s).blc.requests = s.blc.requests ∧ (responded st d s).blc.frameCheck = s.blc.frameCheck ∧
      (responded st d s).blc.frameForm = s.blc.frameForm ∧ (responded st d s).mrs.places = s.mrs.places ∧
      (responded st d s).mrs.unmatchedReplies = s.mrs.unmatchedReplies ∧
      (responded st d s).mrs.overruns = s.mrs.overruns ∧ (responded st d s).mrs.settings = s.mrs.settings ∧
      (responded st d s).mrs.clock = s.mrs.clock ∧ (responded st d s).rts = s.rts := by
  unfold responded; (try dsimp only); (repeat' split) <;> simp

@[simp] theorem dropDown_keeps (st : Station) (d : Drop) (s : State) :
    (dropDown st d s).pending = s.pending ∧ (dropDown st d s).uptime = s.uptime ∧ (dropDown st d s).ttr = s.ttr ∧
      (dropDown st d s).csh = s.csh ∧ (dropDown st d s).scm.signOn = s.scm.signOn ∧
      (dropDown st d s).scm.broadcast = s.scm.broadcast ∧ (dropDown st d s).sda.accountMap = s.sda.accountMap ∧
      (dropDown st d s).sda.unmatchedAcks = s.sda.unmatchedAcks ∧
      (dropDown st d s).jrn.lastAccepted = s.jrn.lastAccepted ∧
      (dropDown st d s).jrn.printedCursor = s.jrn.printedCursor ∧
      (dropDown st d s).jrn.batchCounter = s.jrn.batchCounter ∧ (dropDown st d s).jrn.trickle = s.jrn.trickle ∧
      (dropDown st d s).jrn.pause = s.jrn.pause ∧ (dropDown st d s).jrn.unmatchedAcks = s.jrn.unmatchedAcks ∧
      (dropDown st d s).day = s.day ∧ (dropDown st d s).tbl = s.tbl ∧ (dropDown st d s).slc.samples = s.slc.samples ∧
      (dropDown st d s).blc.link = s.blc.link ∧ (dropDown st d s).blc.silence = s.blc.silence ∧
      (dropDown st d s).blc.reassembly = s.blc.reassembly ∧ (dropDown st d s).blc.sending = s.blc.sending ∧
      (dropDown st d s).blc.linkAnswer = s.blc.linkAnswer ∧ (dropDown st d s).blc.replies = s.blc.replies ∧
      (dropDown st d s).blc.requests = s.blc.requests ∧ (dropDown st d s).blc.frameCheck = s.blc.frameCheck ∧
      (dropDown st d s).blc.frameForm = s.blc.frameForm ∧ (dropDown st d s).mrs.places = s.mrs.places ∧
      (dropDown st d s).mrs.unmatchedReplies = s.mrs.unmatchedReplies ∧
      (dropDown st d s).mrs.overruns = s.mrs.overruns ∧ (dropDown st d s).mrs.settings = s.mrs.settings ∧
      (dropDown st d s).mrs.clock = s.mrs.clock ∧ (dropDown st d s).rts = s.rts := by
  unfold dropDown; (try dsimp only); (repeat' split) <;> simp

@[simp] theorem missed_keeps (st : Station) (d : Drop) (s : State) :
    (missed st d s).pending = s.pending ∧ (missed st d s).uptime = s.uptime ∧ (missed st d s).ttr = s.ttr ∧
      (missed st d s).csh = s.csh ∧ (missed st d s).scm.signOn = s.scm.signOn ∧
      (missed st d s).scm.broadcast = s.scm.broadcast ∧ (missed st d s).sda.accountMap = s.sda.accountMap ∧
      (missed st d s).sda.unmatchedAcks = s.sda.unmatchedAcks ∧ (missed st d s).jrn.lastAccepted = s.jrn.lastAccepted ∧
      (missed st d s).jrn.printedCursor = s.jrn.printedCursor ∧ (missed st d s).jrn.batchCounter = s.jrn.batchCounter ∧
      (missed st d s).jrn.trickle = s.jrn.trickle ∧ (missed st d s).jrn.pause = s.jrn.pause ∧
      (missed st d s).jrn.unmatchedAcks = s.jrn.unmatchedAcks ∧ (missed st d s).day = s.day ∧
      (missed st d s).tbl = s.tbl ∧ (missed st d s).slc.samples = s.slc.samples ∧
      (missed st d s).blc.link = s.blc.link ∧ (missed st d s).blc.silence = s.blc.silence ∧
      (missed st d s).blc.reassembly = s.blc.reassembly ∧ (missed st d s).blc.sending = s.blc.sending ∧
      (missed st d s).blc.linkAnswer = s.blc.linkAnswer ∧ (missed st d s).blc.replies = s.blc.replies ∧
      (missed st d s).blc.requests = s.blc.requests ∧ (missed st d s).blc.frameCheck = s.blc.frameCheck ∧
      (missed st d s).blc.frameForm = s.blc.frameForm ∧ (missed st d s).mrs.places = s.mrs.places ∧
      (missed st d s).mrs.unmatchedReplies = s.mrs.unmatchedReplies ∧ (missed st d s).mrs.overruns = s.mrs.overruns ∧
      (missed st d s).mrs.settings = s.mrs.settings ∧ (missed st d s).mrs.clock = s.mrs.clock ∧
      (missed st d s).rts = s.rts := by
  unfold missed; (try dsimp only); (repeat' split) <;> simp

@[simp] theorem countCheckError_keeps (st : Station) (s : State) :
    (countCheckError st s).pending = s.pending ∧ (countCheckError st s).uptime = s.uptime ∧
      (countCheckError st s).ttr = s.ttr ∧ (countCheckError st s).csh = s.csh ∧ (countCheckError st s).scm = s.scm ∧
      (countCheckError st s).pbk = s.pbk ∧ (countCheckError st s).sda = s.sda ∧ (countCheckError st s).jrn = s.jrn ∧
      (countCheckError st s).day = s.day ∧ (countCheckError st s).tbl = s.tbl ∧
      (countCheckError st s).slc.samples = s.slc.samples ∧ (countCheckError st s).blc = s.blc ∧
      (countCheckError st s).mrs = s.mrs ∧ (countCheckError st s).rts = s.rts := by
  unfold countCheckError; (try dsimp only); (repeat' split) <;> simp

@[simp] theorem countFraming_keeps (st : Station) (s : State) :
    (countFraming st s).pending = s.pending ∧ (countFraming st s).uptime = s.uptime ∧
      (countFraming st s).ttr = s.ttr ∧ (countFraming st s).csh = s.csh ∧ (countFraming st s).scm = s.scm ∧
      (countFraming st s).pbk = s.pbk ∧ (countFraming st s).sda = s.sda ∧ (countFraming st s).jrn = s.jrn ∧
      (countFraming st s).day = s.day ∧ (countFraming st s).tbl = s.tbl ∧
      (countFraming st s).slc.samples = s.slc.samples ∧ (countFraming st s).blc = s.blc ∧
      (countFraming st s).mrs = s.mrs ∧ (countFraming st s).rts = s.rts := by
  unfold countFraming; (try dsimp only); (repeat' split) <;> simp

@[simp] theorem countNoResponse_keeps (st : Station) (s : State) :
    (countNoResponse st s).pending = s.pending ∧ (countNoResponse st s).uptime = s.uptime ∧
      (countNoResponse st s).ttr = s.ttr ∧ (countNoResponse st s).csh = s.csh ∧ (countNoResponse st s).scm = s.scm ∧
      (countNoResponse st s).pbk = s.pbk ∧ (countNoResponse st s).sda = s.sda ∧ (countNoResponse st s).jrn = s.jrn ∧
      (countNoResponse st s).day = s.day ∧ (countNoResponse st s).tbl = s.tbl ∧
      (countNoResponse st s).slc.samples = s.slc.samples ∧ (countNoResponse st s).blc = s.blc ∧
      (countNoResponse st s).mrs = s.mrs ∧ (countNoResponse st s).rts = s.rts := by
  unfold countNoResponse; (try dsimp only); (repeat' split) <;> simp

@[simp] theorem unsolicited_keeps (st : Station) (s : State) :
    (unsolicited st s).pending = s.pending ∧ (unsolicited st s).uptime = s.uptime ∧ (unsolicited st s).ttr = s.ttr ∧
      (unsolicited st s).csh = s.csh ∧ (unsolicited st s).scm = s.scm ∧ (unsolicited st s).pbk = s.pbk ∧
      (unsolicited st s).sda = s.sda ∧ (unsolicited st s).jrn = s.jrn ∧ (unsolicited st s).day = s.day ∧
      (unsolicited st s).tbl = s.tbl ∧ (unsolicited st s).slc.samples = s.slc.samples ∧ (unsolicited st s).blc = s.blc ∧
      (unsolicited st s).mrs = s.mrs ∧ (unsolicited st s).rts = s.rts := by
  unfold unsolicited; (try dsimp only); (repeat' split) <;> simp

@[simp] theorem endExchange_keeps (st : Station) (s : State) :
    (endExchange st s).pending = s.pending ∧ (endExchange st s).uptime = s.uptime ∧ (endExchange st s).ttr = s.ttr ∧
      (endExchange st s).csh = s.csh ∧ (endExchange st s).scm = s.scm ∧ (endExchange st s).pbk = s.pbk ∧
      (endExchange st s).sda = s.sda ∧ (endExchange st s).jrn = s.jrn ∧ (endExchange st s).day = s.day ∧
      (endExchange st s).tbl = s.tbl ∧ (endExchange st s).slc.samples = s.slc.samples ∧ (endExchange st s).blc = s.blc ∧
      (endExchange st s).mrs = s.mrs ∧ (endExchange st s).rts = s.rts := by
  unfold endExchange; (try dsimp only); (repeat' split) <;> simp

@[simp] theorem issuePoll_keeps (st : Station) (d : Drop) (s : State) :
    (issuePoll st d s).pending = s.pending ∧ (issuePoll st d s).uptime = s.uptime ∧ (issuePoll st d s).ttr = s.ttr ∧
      (issuePoll st d s).csh = s.csh ∧ (issuePoll st d s).scm = s.scm ∧ (issuePoll st d s).pbk = s.pbk ∧
      (issuePoll st d s).sda = s.sda ∧ (issuePoll st d s).jrn = s.jrn ∧ (issuePoll st d s).day = s.day ∧
      (issuePoll st d s).tbl = s.tbl ∧ (issuePoll st d s).slc.samples = s.slc.samples ∧ (issuePoll st d s).blc = s.blc ∧
      (issuePoll st d s).mrs = s.mrs ∧ (issuePoll st d s).rts = s.rts := by
  unfold issuePoll; (try dsimp only); (repeat' split) <;> simp

@[simp] theorem noteCopy_keeps (st : Station) (item : SelectItem) (s : State) :
    (noteCopy st item s).pending = s.pending ∧ (noteCopy st item s).uptime = s.uptime ∧
      (noteCopy st item s).ttr = s.ttr ∧ (noteCopy st item s).csh = s.csh ∧
      (noteCopy st item s).scm.signOn = s.scm.signOn ∧ (noteCopy st item s).scm.broadcast = s.scm.broadcast ∧
      (noteCopy st item s).pbk = s.pbk ∧ (noteCopy st item s).sda = s.sda ∧ (noteCopy st item s).jrn = s.jrn ∧
      (noteCopy st item s).day = s.day ∧ (noteCopy st item s).tbl = s.tbl ∧ (noteCopy st item s).slc = s.slc ∧
      (noteCopy st item s).blc = s.blc ∧ (noteCopy st item s).mrs = s.mrs ∧ (noteCopy st item s).rts = s.rts := by
  unfold noteCopy; (try dsimp only); (repeat' split) <;> simp

@[simp] theorem issueSelect_keeps (st : Station) (d : Drop) (item : SelectItem) (s : State) :
    (issueSelect st d item s).pending = s.pending ∧ (issueSelect st d item s).uptime = s.uptime ∧
      (issueSelect st d item s).ttr = s.ttr ∧ (issueSelect st d item s).csh = s.csh ∧
      (issueSelect st d item s).scm.signOn = s.scm.signOn ∧ (issueSelect st d item s).scm.broadcast = s.scm.broadcast ∧
      (issueSelect st d item s).pbk = s.pbk ∧ (issueSelect st d item s).sda = s.sda ∧
      (issueSelect st d item s).jrn = s.jrn ∧ (issueSelect st d item s).day = s.day ∧
      (issueSelect st d item s).tbl = s.tbl ∧ (issueSelect st d item s).slc.samples = s.slc.samples ∧
      (issueSelect st d item s).blc = s.blc ∧ (issueSelect st d item s).mrs = s.mrs ∧
      (issueSelect st d item s).rts = s.rts := by
  unfold issueSelect; (try dsimp only); (repeat' split) <;> simp

@[simp] theorem issueNext_keeps (st : Station) (s : State) :
    (issueNext st s).pending = s.pending ∧ (issueNext st s).uptime = s.uptime ∧ (issueNext st s).ttr = s.ttr ∧
      (issueNext st s).csh = s.csh ∧ (issueNext st s).scm.signOn = s.scm.signOn ∧
      (issueNext st s).scm.broadcast = s.scm.broadcast ∧ (issueNext st s).pbk = s.pbk ∧ (issueNext st s).sda = s.sda ∧
      (issueNext st s).jrn = s.jrn ∧ (issueNext st s).day = s.day ∧ (issueNext st s).tbl = s.tbl ∧
      (issueNext st s).slc.samples = s.slc.samples ∧ (issueNext st s).blc = s.blc ∧ (issueNext st s).mrs = s.mrs ∧
      (issueNext st s).rts = s.rts := by
  unfold issueNext; (try dsimp only); (repeat' split) <;> simp

@[simp] theorem frameAnswer_keeps (st : Station) (d : Drop) (f : DropFrame) (s : State) :
    (frameAnswer st d f s).pending = s.pending ∧ (frameAnswer st d f s).uptime = s.uptime ∧
      (frameAnswer st d f s).ttr = s.ttr ∧ (frameAnswer st d f s).csh = s.csh ∧
      (frameAnswer st d f s).scm.signOn = s.scm.signOn ∧ (frameAnswer st d f s).scm.broadcast = s.scm.broadcast ∧
      (frameAnswer st d f s).sda.accountMap = s.sda.accountMap ∧
      (frameAnswer st d f s).sda.unmatchedAcks = s.sda.unmatchedAcks ∧
      (frameAnswer st d f s).jrn.lastAccepted = s.jrn.lastAccepted ∧
      (frameAnswer st d f s).jrn.printedCursor = s.jrn.printedCursor ∧
      (frameAnswer st d f s).jrn.batchCounter = s.jrn.batchCounter ∧
      (frameAnswer st d f s).jrn.trickle = s.jrn.trickle ∧ (frameAnswer st d f s).jrn.pause = s.jrn.pause ∧
      (frameAnswer st d f s).jrn.unmatchedAcks = s.jrn.unmatchedAcks ∧ (frameAnswer st d f s).day = s.day ∧
      (frameAnswer st d f s).tbl = s.tbl ∧ (frameAnswer st d f s).slc.samples = s.slc.samples ∧
      (frameAnswer st d f s).blc.link = s.blc.link ∧ (frameAnswer st d f s).blc.silence = s.blc.silence ∧
      (frameAnswer st d f s).blc.reassembly = s.blc.reassembly ∧ (frameAnswer st d f s).blc.sending = s.blc.sending ∧
      (frameAnswer st d f s).blc.linkAnswer = s.blc.linkAnswer ∧ (frameAnswer st d f s).blc.replies = s.blc.replies ∧
      (frameAnswer st d f s).blc.requests = s.blc.requests ∧ (frameAnswer st d f s).blc.frameCheck = s.blc.frameCheck ∧
      (frameAnswer st d f s).blc.frameForm = s.blc.frameForm ∧ (frameAnswer st d f s).mrs.places = s.mrs.places ∧
      (frameAnswer st d f s).mrs.unmatchedReplies = s.mrs.unmatchedReplies ∧
      (frameAnswer st d f s).mrs.overruns = s.mrs.overruns ∧ (frameAnswer st d f s).mrs.settings = s.mrs.settings ∧
      (frameAnswer st d f s).mrs.clock = s.mrs.clock ∧ (frameAnswer st d f s).rts = s.rts := by
  unfold frameAnswer; (try dsimp only); (repeat' split) <;> simp

@[simp] theorem imageAccepted_keeps (st : Station) (terminal : Bool) (s : State) :
    (imageAccepted st terminal s).pending = s.pending ∧ (imageAccepted st terminal s).uptime = s.uptime ∧
      (imageAccepted st terminal s).ttr = s.ttr ∧ (imageAccepted st terminal s).csh = s.csh ∧
      (imageAccepted st terminal s).scm.signOn = s.scm.signOn ∧
      (imageAccepted st terminal s).scm.broadcast = s.scm.broadcast ∧ (imageAccepted st terminal s).pbk = s.pbk ∧
      (imageAccepted st terminal s).sda = s.sda ∧ (imageAccepted st terminal s).jrn = s.jrn ∧
      (imageAccepted st terminal s).day = s.day ∧ (imageAccepted st terminal s).tbl = s.tbl ∧
      (imageAccepted st terminal s).slc = s.slc ∧ (imageAccepted st terminal s).blc = s.blc ∧
      (imageAccepted st terminal s).mrs = s.mrs ∧ (imageAccepted st terminal s).rts = s.rts := by
  unfold imageAccepted; (try dsimp only); (repeat' split) <;> simp

@[simp] theorem outputAccepted_keeps (st : Station) (item : SelectItem) (s : State) :
    (outputAccepted st item s).pending = s.pending ∧ (outputAccepted st item s).uptime = s.uptime ∧
      (outputAccepted st item s).ttr = s.ttr ∧ (outputAccepted st item s).csh = s.csh ∧
      (outputAccepted st item s).scm.signOn = s.scm.signOn ∧
      (outputAccepted st item s).scm.broadcast = s.scm.broadcast ∧ (outputAccepted st item s).sda = s.sda ∧
      (outputAccepted st item s).jrn.reserved = s.jrn.reserved ∧
      (outputAccepted st item s).jrn.nextSeq = s.jrn.nextSeq ∧
      (outputAccepted st item s).jrn.lastAccepted = s.jrn.lastAccepted ∧
      (outputAccepted st item s).jrn.notStored = s.jrn.notStored ∧
      (outputAccepted st item s).jrn.batchCounter = s.jrn.batchCounter ∧
      (outputAccepted st item s).jrn.trickle = s.jrn.trickle ∧ (outputAccepted st item s).jrn.pause = s.jrn.pause ∧
      (outputAccepted st item s).jrn.unmatchedAcks = s.jrn.unmatchedAcks ∧ (outputAccepted st item s).day = s.day ∧
      (outputAccepted st item s).tbl = s.tbl ∧ (outputAccepted st item s).slc = s.slc ∧
      (outputAccepted st item s).blc = s.blc ∧ (outputAccepted st item s).mrs = s.mrs ∧
      (outputAccepted st item s).rts = s.rts := by
  unfold outputAccepted; (try dsimp only); (repeat' split) <;> simp

@[simp] theorem judgeLoopFrame_keeps (st : Station) (equal : Bool) (s : State) :
    (judgeLoopFrame st equal s).pending = s.pending ∧ (judgeLoopFrame st equal s).uptime = s.uptime ∧
      (judgeLoopFrame st equal s).ttr = s.ttr ∧ (judgeLoopFrame st equal s).csh = s.csh ∧
      (judgeLoopFrame st equal s).scm = s.scm ∧ (judgeLoopFrame st equal s).pbk = s.pbk ∧
      (judgeLoopFrame st equal s).sda = s.sda ∧ (judgeLoopFrame st equal s).jrn = s.jrn ∧
      (judgeLoopFrame st equal s).day = s.day ∧ (judgeLoopFrame st equal s).tbl = s.tbl ∧
      (judgeLoopFrame st equal s).slc.samples = s.slc.samples ∧ (judgeLoopFrame st equal s).blc.link = s.blc.link ∧
      (judgeLoopFrame st equal s).blc.silence = s.blc.silence ∧
      (judgeLoopFrame st equal s).blc.reassembly = s.blc.reassembly ∧
      (judgeLoopFrame st equal s).blc.sending = s.blc.sending ∧
      (judgeLoopFrame st equal s).blc.linkAnswer = s.blc.linkAnswer ∧
      (judgeLoopFrame st equal s).blc.requests = s.blc.requests ∧
      (judgeLoopFrame st equal s).blc.events = s.blc.events ∧
      (judgeLoopFrame st equal s).blc.frameCheck = s.blc.frameCheck ∧
      (judgeLoopFrame st equal s).blc.frameForm = s.blc.frameForm ∧ (judgeLoopFrame st equal s).mrs = s.mrs ∧
      (judgeLoopFrame st equal s).rts = s.rts := by
  unfold judgeLoopFrame; (try dsimp only); (repeat' split) <;> simp

@[simp] theorem nextSample_keeps (s : State) :
    (nextSample s).pending = s.pending ∧ (nextSample s).uptime = s.uptime ∧ (nextSample s).ttr = s.ttr ∧
      (nextSample s).csh = s.csh ∧ (nextSample s).scm = s.scm ∧ (nextSample s).pbk = s.pbk ∧
      (nextSample s).sda = s.sda ∧ (nextSample s).jrn = s.jrn ∧ (nextSample s).day = s.day ∧
      (nextSample s).tbl = s.tbl ∧ (nextSample s).slc.lines = s.slc.lines ∧ (nextSample s).blc = s.blc ∧
      (nextSample s).mrs = s.mrs ∧ (nextSample s).rts = s.rts := by
  unfold nextSample; (try dsimp only); (repeat' split) <;> simp

@[simp] theorem startDrawerTimer_keeps (st : Station) (s : State) :
    (startDrawerTimer st s).pending = s.pending ∧ (startDrawerTimer st s).uptime = s.uptime ∧
      (startDrawerTimer st s).ttr = s.ttr ∧ (startDrawerTimer st s).csh = s.csh ∧ (startDrawerTimer st s).scm = s.scm ∧
      (startDrawerTimer st s).pbk = s.pbk ∧ (startDrawerTimer st s).sda = s.sda ∧ (startDrawerTimer st s).jrn = s.jrn ∧
      (startDrawerTimer st s).day = s.day ∧ (startDrawerTimer st s).tbl = s.tbl ∧
      (startDrawerTimer st s).slc.samples = s.slc.samples ∧ (startDrawerTimer st s).blc = s.blc ∧
      (startDrawerTimer st s).mrs = s.mrs ∧ (startDrawerTimer st s).rts = s.rts := by
  unfold startDrawerTimer; (try dsimp only); (repeat' split) <;> simp

@[simp] theorem endDrawerWatch_keeps (st : Station) (s : State) :
    (endDrawerWatch st s).pending = s.pending ∧ (endDrawerWatch st s).uptime = s.uptime ∧
      (endDrawerWatch st s).ttr = s.ttr ∧ (endDrawerWatch st s).csh = s.csh ∧
      (endDrawerWatch st s).scm.signOn = s.scm.signOn ∧ (endDrawerWatch st s).scm.broadcast = s.scm.broadcast ∧
      (endDrawerWatch st s).pbk = s.pbk ∧ (endDrawerWatch st s).sda = s.sda ∧ (endDrawerWatch st s).jrn = s.jrn ∧
      (endDrawerWatch st s).day = s.day ∧ (endDrawerWatch st s).tbl = s.tbl ∧
      (endDrawerWatch st s).slc.samples = s.slc.samples ∧ (endDrawerWatch st s).blc = s.blc ∧
      (endDrawerWatch st s).mrs = s.mrs ∧ (endDrawerWatch st s).rts = s.rts := by
  unfold endDrawerWatch; (try dsimp only); (repeat' split) <;> simp

@[simp] theorem takeLineControl_keeps (id station op : Nat) (mask : Four Bool) (s : State) :
    (takeLineControl id station op mask s).pending = s.pending ∧
      (takeLineControl id station op mask s).uptime = s.uptime ∧ (takeLineControl id station op mask s).ttr = s.ttr ∧
      (takeLineControl id station op mask s).csh = s.csh ∧ (takeLineControl id station op mask s).scm = s.scm ∧
      (takeLineControl id station op mask s).pbk = s.pbk ∧ (takeLineControl id station op mask s).sda = s.sda ∧
      (takeLineControl id station op mask s).jrn = s.jrn ∧ (takeLineControl id station op mask s).day = s.day ∧
      (takeLineControl id station op mask s).tbl = s.tbl ∧
      (takeLineControl id station op mask s).blc.link = s.blc.link ∧
      (takeLineControl id station op mask s).blc.silence = s.blc.silence ∧
      (takeLineControl id station op mask s).blc.reassembly = s.blc.reassembly ∧
      (takeLineControl id station op mask s).blc.sending = s.blc.sending ∧
      (takeLineControl id station op mask s).blc.linkAnswer = s.blc.linkAnswer ∧
      (takeLineControl id station op mask s).blc.requests = s.blc.requests ∧
      (takeLineControl id station op mask s).blc.events = s.blc.events ∧
      (takeLineControl id station op mask s).blc.frameCheck = s.blc.frameCheck ∧
      (takeLineControl id station op mask s).blc.frameForm = s.blc.frameForm ∧
      (takeLineControl id station op mask s).mrs = s.mrs ∧ (takeLineControl id station op mask s).rts = s.rts := by
  unfold takeLineControl; (try dsimp only); (repeat' split) <;> simp

@[simp] theorem rewatchDrawer_keeps (st : Station) (old new : Option DiscreteLine) (s : State) :
    (rewatchDrawer st old new s).pending = s.pending ∧ (rewatchDrawer st old new s).uptime = s.uptime ∧
      (rewatchDrawer st old new s).ttr = s.ttr ∧ (rewatchDrawer st old new s).csh = s.csh ∧
      (rewatchDrawer st old new s).scm.signOn = s.scm.signOn ∧
      (rewatchDrawer st old new s).scm.broadcast = s.scm.broadcast ∧ (rewatchDrawer st old new s).pbk = s.pbk ∧
      (rewatchDrawer st old new s).sda = s.sda ∧ (rewatchDrawer st old new s).jrn = s.jrn ∧
      (rewatchDrawer st old new s).day = s.day ∧ (rewatchDrawer st old new s).tbl = s.tbl ∧
      (rewatchDrawer st old new s).blc = s.blc ∧ (rewatchDrawer st old new s).mrs = s.mrs ∧
      (rewatchDrawer st old new s).rts = s.rts := by
  unfold rewatchDrawer; (try dsimp only); (repeat' split) <;> simp

@[simp] theorem replaceSetup_keeps (st : Station) (x : LineSetup) (s : State) :
    (replaceSetup st x s).pending = s.pending ∧ (replaceSetup st x s).uptime = s.uptime ∧
      (replaceSetup st x s).ttr = s.ttr ∧ (replaceSetup st x s).csh = s.csh ∧
      (replaceSetup st x s).scm.signOn = s.scm.signOn ∧ (replaceSetup st x s).scm.broadcast = s.scm.broadcast ∧
      (replaceSetup st x s).pbk = s.pbk ∧ (replaceSetup st x s).sda = s.sda ∧ (replaceSetup st x s).jrn = s.jrn ∧
      (replaceSetup st x s).day = s.day ∧ (replaceSetup st x s).tbl = s.tbl ∧ (replaceSetup st x s).blc = s.blc ∧
      (replaceSetup st x s).mrs = s.mrs ∧ (replaceSetup st x s).rts = s.rts := by
  unfold replaceSetup; (try dsimp only); (repeat' split) <;> simp

@[simp] theorem makePrinter_keeps (st : Station) (s : State) :
    (makePrinter st s).pending = s.pending ∧ (makePrinter st s).uptime = s.uptime ∧ (makePrinter st s).ttr = s.ttr ∧
      (makePrinter st s).csh = s.csh ∧ (makePrinter st s).scm = s.scm ∧ (makePrinter st s).sda = s.sda ∧
      (makePrinter st s).jrn = s.jrn ∧ (makePrinter st s).day = s.day ∧ (makePrinter st s).tbl = s.tbl ∧
      (makePrinter st s).slc = s.slc ∧ (makePrinter st s).blc = s.blc ∧ (makePrinter st s).mrs = s.mrs ∧
      (makePrinter st s).rts = s.rts := by
  unfold makePrinter; (try dsimp only); (repeat' split) <;> simp

@[simp] theorem takeRole_keeps (st : Station) (s : State) :
    (takeRole st s).pending = s.pending ∧ (takeRole st s).uptime = s.uptime ∧ (takeRole st s).ttr = s.ttr ∧
      (takeRole st s).csh = s.csh ∧ (takeRole st s).scm.signOn = s.scm.signOn ∧
      (takeRole st s).scm.broadcast = s.scm.broadcast ∧ (takeRole st s).sda = s.sda ∧
      (takeRole st s).jrn.entries = s.jrn.entries ∧ (takeRole st s).jrn.used = s.jrn.used ∧
      (takeRole st s).jrn.reserved = s.jrn.reserved ∧ (takeRole st s).jrn.free = s.jrn.free ∧
      (takeRole st s).jrn.nextSeq = s.jrn.nextSeq ∧ (takeRole st s).jrn.lastAccepted = s.jrn.lastAccepted ∧
      (takeRole st s).jrn.notStored = s.jrn.notStored ∧ (takeRole st s).jrn.batchCounter = s.jrn.batchCounter ∧
      (takeRole st s).jrn.trickle = s.jrn.trickle ∧ (takeRole st s).jrn.pause = s.jrn.pause ∧
      (takeRole st s).jrn.unmatchedAcks = s.jrn.unmatchedAcks ∧ (takeRole st s).day = s.day ∧
      (takeRole st s).tbl = s.tbl ∧ (takeRole st s).slc.samples = s.slc.samples ∧ (takeRole st s).blc = s.blc ∧
      (takeRole st s).mrs = s.mrs ∧ (takeRole st s).rts = s.rts := by
  unfold takeRole; (try dsimp only); (repeat' split) <;> simp

@[simp] theorem signOffAt_keeps (st : Station) (s : State) :
    (signOffAt st s).pending = s.pending ∧ (signOffAt st s).uptime = s.uptime ∧ (signOffAt st s).ttr = s.ttr ∧
      (signOffAt st s).csh = s.csh ∧ (signOffAt st s).scm.contexts = s.scm.contexts ∧
      (signOffAt st s).scm.broadcast = s.scm.broadcast ∧ (signOffAt st s).pbk = s.pbk ∧
      (signOffAt st s).sda.accountMap = s.sda.accountMap ∧ (signOffAt st s).sda.queue = s.sda.queue ∧
      (signOffAt st s).sda.nextAdvice = s.sda.nextAdvice ∧ (signOffAt st s).sda.unmatchedAcks = s.sda.unmatchedAcks ∧
      (signOffAt st s).jrn = s.jrn ∧ (signOffAt st s).day = s.day ∧ (signOffAt st s).tbl = s.tbl ∧
      (signOffAt st s).slc = s.slc ∧ (signOffAt st s).blc = s.blc ∧ (signOffAt st s).mrs = s.mrs ∧
      (signOffAt st s).rts = s.rts := by
  unfold signOffAt; (try dsimp only); (repeat' split) <;> simp

@[simp] theorem setTellerOff_keeps (st : Station) (s : State) :
    (setTellerOff st s).pending = s.pending ∧ (setTellerOff st s).uptime = s.uptime ∧
      (setTellerOff st s).ttr.late = s.ttr.late ∧ (setTellerOff st s).ttr.seqs = s.ttr.seqs ∧
      (setTellerOff st s).csh.reserve = s.csh.reserve ∧ (setTellerOff st s).scm.broadcast = s.scm.broadcast ∧
      (setTellerOff st s).sda.accountMap = s.sda.accountMap ∧
      (setTellerOff st s).sda.unmatchedAcks = s.sda.unmatchedAcks ∧
      (setTellerOff st s).jrn.lastAccepted = s.jrn.lastAccepted ∧
      (setTellerOff st s).jrn.printedCursor = s.jrn.printedCursor ∧
      (setTellerOff st s).jrn.batchCounter = s.jrn.batchCounter ∧ (setTellerOff st s).jrn.trickle = s.jrn.trickle ∧
      (setTellerOff st s).jrn.pause = s.jrn.pause ∧ (setTellerOff st s).jrn.unmatchedAcks = s.jrn.unmatchedAcks ∧
      (setTellerOff st s).day = s.day ∧ (setTellerOff st s).tbl = s.tbl ∧
      (setTellerOff st s).slc.samples = s.slc.samples ∧ (setTellerOff st s).blc.link = s.blc.link ∧
      (setTellerOff st s).blc.silence = s.blc.silence ∧ (setTellerOff st s).blc.reassembly = s.blc.reassembly ∧
      (setTellerOff st s).blc.sending = s.blc.sending ∧ (setTellerOff st s).blc.linkAnswer = s.blc.linkAnswer ∧
      (setTellerOff st s).blc.replies = s.blc.replies ∧ (setTellerOff st s).blc.frameCheck = s.blc.frameCheck ∧
      (setTellerOff st s).blc.frameForm = s.blc.frameForm ∧ (setTellerOff st s).mrs.places = s.mrs.places ∧
      (setTellerOff st s).mrs.unmatchedReplies = s.mrs.unmatchedReplies ∧
      (setTellerOff st s).mrs.overruns = s.mrs.overruns ∧ (setTellerOff st s).mrs.settings = s.mrs.settings ∧
      (setTellerOff st s).mrs.clock = s.mrs.clock ∧ (setTellerOff st s).rts = s.rts := by
  unfold setTellerOff; (try dsimp only); (repeat' split) <;> simp

@[simp] theorem setOff_keeps (st : Station) (s : State) :
    (setOff st s).pending = s.pending ∧ (setOff st s).uptime = s.uptime ∧ (setOff st s).ttr.late = s.ttr.late ∧
      (setOff st s).ttr.seqs = s.ttr.seqs ∧ (setOff st s).csh.reserve = s.csh.reserve ∧
      (setOff st s).scm.broadcast = s.scm.broadcast ∧ (setOff st s).sda.accountMap = s.sda.accountMap ∧
      (setOff st s).sda.unmatchedAcks = s.sda.unmatchedAcks ∧ (setOff st s).jrn.lastAccepted = s.jrn.lastAccepted ∧
      (setOff st s).jrn.printedCursor = s.jrn.printedCursor ∧ (setOff st s).jrn.batchCounter = s.jrn.batchCounter ∧
      (setOff st s).jrn.trickle = s.jrn.trickle ∧ (setOff st s).jrn.pause = s.jrn.pause ∧
      (setOff st s).jrn.unmatchedAcks = s.jrn.unmatchedAcks ∧ (setOff st s).day = s.day ∧ (setOff st s).tbl = s.tbl ∧
      (setOff st s).slc.samples = s.slc.samples ∧ (setOff st s).blc.link = s.blc.link ∧
      (setOff st s).blc.silence = s.blc.silence ∧ (setOff st s).blc.reassembly = s.blc.reassembly ∧
      (setOff st s).blc.sending = s.blc.sending ∧ (setOff st s).blc.linkAnswer = s.blc.linkAnswer ∧
      (setOff st s).blc.replies = s.blc.replies ∧ (setOff st s).blc.frameCheck = s.blc.frameCheck ∧
      (setOff st s).blc.frameForm = s.blc.frameForm ∧ (setOff st s).mrs.places = s.mrs.places ∧
      (setOff st s).mrs.unmatchedReplies = s.mrs.unmatchedReplies ∧ (setOff st s).mrs.overruns = s.mrs.overruns ∧
      (setOff st s).mrs.settings = s.mrs.settings ∧ (setOff st s).mrs.clock = s.mrs.clock ∧ (setOff st s).rts = s.rts := by
  unfold setOff; (try dsimp only); (repeat' split) <;> simp

@[simp] theorem carrySetup_keeps (st : Station) (x : LineSetup) (s : State) :
    (carrySetup st x s).pending = s.pending ∧ (carrySetup st x s).uptime = s.uptime ∧
      (carrySetup st x s).ttr.late = s.ttr.late ∧ (carrySetup st x s).ttr.seqs = s.ttr.seqs ∧
      (carrySetup st x s).csh.reserve = s.csh.reserve ∧ (carrySetup st x s).scm.broadcast = s.scm.broadcast ∧
      (carrySetup st x s).sda.accountMap = s.sda.accountMap ∧
      (carrySetup st x s).sda.unmatchedAcks = s.sda.unmatchedAcks ∧
      (carrySetup st x s).jrn.lastAccepted = s.jrn.lastAccepted ∧
      (carrySetup st x s).jrn.batchCounter = s.jrn.batchCounter ∧ (carrySetup st x s).jrn.trickle = s.jrn.trickle ∧
      (carrySetup st x s).jrn.pause = s.jrn.pause ∧ (carrySetup st x s).jrn.unmatchedAcks = s.jrn.unmatchedAcks ∧
      (carrySetup st x s).day = s.day ∧ (carrySetup st x s).tbl = s.tbl ∧ (carrySetup st x s).blc.link = s.blc.link ∧
      (carrySetup st x s).blc.silence = s.blc.silence ∧ (carrySetup st x s).blc.reassembly = s.blc.reassembly ∧
      (carrySetup st x s).blc.sending = s.blc.sending ∧ (carrySetup st x s).blc.linkAnswer = s.blc.linkAnswer ∧
      (carrySetup st x s).blc.replies = s.blc.replies ∧ (carrySetup st x s).blc.frameCheck = s.blc.frameCheck ∧
      (carrySetup st x s).blc.frameForm = s.blc.frameForm ∧ (carrySetup st x s).mrs.places = s.mrs.places ∧
      (carrySetup st x s).mrs.unmatchedReplies = s.mrs.unmatchedReplies ∧
      (carrySetup st x s).mrs.overruns = s.mrs.overruns ∧ (carrySetup st x s).mrs.settings = s.mrs.settings ∧
      (carrySetup st x s).mrs.clock = s.mrs.clock ∧ (carrySetup st x s).rts = s.rts := by
  unfold carrySetup; (try dsimp only); (repeat' split) <;> simp

@[simp] theorem takeLineSetup_keeps (id : Nat) (r : LineSetupRequest) (s : State) :
    (takeLineSetup id r s).pending = s.pending ∧ (takeLineSetup id r s).uptime = s.uptime ∧
      (takeLineSetup id r s).ttr.late = s.ttr.late ∧ (takeLineSetup id r s).ttr.seqs = s.ttr.seqs ∧
      (takeLineSetup id r s).csh.reserve = s.csh.reserve ∧ (takeLineSetup id r s).scm.broadcast = s.scm.broadcast ∧
      (takeLineSetup id r s).sda.accountMap = s.sda.accountMap ∧
      (takeLineSetup id r s).sda.unmatchedAcks = s.sda.unmatchedAcks ∧
      (takeLineSetup id r s).jrn.lastAccepted = s.jrn.lastAccepted ∧
      (takeLineSetup id r s).jrn.batchCounter = s.jrn.batchCounter ∧
      (takeLineSetup id r s).jrn.trickle = s.jrn.trickle ∧ (takeLineSetup id r s).jrn.pause = s.jrn.pause ∧
      (takeLineSetup id r s).jrn.unmatchedAcks = s.jrn.unmatchedAcks ∧ (takeLineSetup id r s).day = s.day ∧
      (takeLineSetup id r s).tbl = s.tbl ∧ (takeLineSetup id r s).blc.link = s.blc.link ∧
      (takeLineSetup id r s).blc.silence = s.blc.silence ∧ (takeLineSetup id r s).blc.reassembly = s.blc.reassembly ∧
      (takeLineSetup id r s).blc.sending = s.blc.sending ∧ (takeLineSetup id r s).blc.linkAnswer = s.blc.linkAnswer ∧
      (takeLineSetup id r s).blc.frameCheck = s.blc.frameCheck ∧
      (takeLineSetup id r s).blc.frameForm = s.blc.frameForm ∧ (takeLineSetup id r s).mrs.places = s.mrs.places ∧
      (takeLineSetup id r s).mrs.unmatchedReplies = s.mrs.unmatchedReplies ∧
      (takeLineSetup id r s).mrs.overruns = s.mrs.overruns ∧ (takeLineSetup id r s).mrs.settings = s.mrs.settings ∧
      (takeLineSetup id r s).mrs.clock = s.mrs.clock ∧ (takeLineSetup id r s).rts = s.rts := by
  unfold takeLineSetup; (try dsimp only); (repeat' split) <;> simp

@[simp] theorem takeStop_keeps (id : Nat) (st : Station) (s : State) :
    (takeStop id st s).pending = s.pending ∧ (takeStop id st s).uptime = s.uptime ∧ (takeStop id st s).ttr = s.ttr ∧
      (takeStop id st s).csh = s.csh ∧ (takeStop id st s).scm = s.scm ∧ (takeStop id st s).pbk = s.pbk ∧
      (takeStop id st s).sda = s.sda ∧ (takeStop id st s).jrn = s.jrn ∧ (takeStop id st s).day = s.day ∧
      (takeStop id st s).tbl = s.tbl ∧ (takeStop id st s).slc.samples = s.slc.samples ∧
      (takeStop id st s).blc.link = s.blc.link ∧ (takeStop id st s).blc.silence = s.blc.silence ∧
      (takeStop id st s).blc.reassembly = s.blc.reassembly ∧ (takeStop id st s).blc.sending = s.blc.sending ∧
      (takeStop id st s).blc.linkAnswer = s.blc.linkAnswer ∧ (takeStop id st s).blc.requests = s.blc.requests ∧
      (takeStop id st s).blc.events = s.blc.events ∧ (takeStop id st s).blc.frameCheck = s.blc.frameCheck ∧
      (takeStop id st s).blc.frameForm = s.blc.frameForm ∧ (takeStop id st s).mrs = s.mrs ∧
      (takeStop id st s).rts = s.rts := by
  unfold takeStop; (try dsimp only); (repeat' split) <;> simp

@[simp] theorem takeLineTest_keeps (id line mode count : Nat) (s : State) :
    (takeLineTest id line mode count s).pending = s.pending ∧ (takeLineTest id line mode count s).uptime = s.uptime ∧
      (takeLineTest id line mode count s).ttr = s.ttr ∧ (takeLineTest id line mode count s).csh = s.csh ∧
      (takeLineTest id line mode count s).scm = s.scm ∧ (takeLineTest id line mode count s).pbk = s.pbk ∧
      (takeLineTest id line mode count s).sda = s.sda ∧ (takeLineTest id line mode count s).jrn = s.jrn ∧
      (takeLineTest id line mode count s).day = s.day ∧ (takeLineTest id line mode count s).tbl = s.tbl ∧
      (takeLineTest id line mode count s).slc.samples = s.slc.samples ∧
      (takeLineTest id line mode count s).blc.link = s.blc.link ∧
      (takeLineTest id line mode count s).blc.silence = s.blc.silence ∧
      (takeLineTest id line mode count s).blc.reassembly = s.blc.reassembly ∧
      (takeLineTest id line mode count s).blc.sending = s.blc.sending ∧
      (takeLineTest id line mode count s).blc.linkAnswer = s.blc.linkAnswer ∧
      (takeLineTest id line mode count s).blc.requests = s.blc.requests ∧
      (takeLineTest id line mode count s).blc.events = s.blc.events ∧
      (takeLineTest id line mode count s).blc.frameCheck = s.blc.frameCheck ∧
      (takeLineTest id line mode count s).blc.frameForm = s.blc.frameForm ∧
      (takeLineTest id line mode count s).mrs = s.mrs ∧ (takeLineTest id line mode count s).rts = s.rts := by
  unfold takeLineTest; (try dsimp only); (repeat' split) <;> simp

@[simp] theorem takeLineReset_keeps (id line : Nat) (s : State) :
    (takeLineReset id line s).pending = s.pending ∧ (takeLineReset id line s).uptime = s.uptime ∧
      (takeLineReset id line s).ttr = s.ttr ∧ (takeLineReset id line s).csh = s.csh ∧
      (takeLineReset id line s).scm.signOn = s.scm.signOn ∧ (takeLineReset id line s).scm.broadcast = s.scm.broadcast ∧
      (takeLineReset id line s).pbk = s.pbk ∧ (takeLineReset id line s).sda = s.sda ∧
      (takeLineReset id line s).jrn = s.jrn ∧ (takeLineReset id line s).day = s.day ∧
      (takeLineReset id line s).tbl = s.tbl ∧ (takeLineReset id line s).slc.samples = s.slc.samples ∧
      (takeLineReset id line s).blc.link = s.blc.link ∧ (takeLineReset id line s).blc.silence = s.blc.silence ∧
      (takeLineReset id line s).blc.reassembly = s.blc.reassembly ∧
      (takeLineReset id line s).blc.sending = s.blc.sending ∧
      (takeLineReset id line s).blc.linkAnswer = s.blc.linkAnswer ∧
      (takeLineReset id line s).blc.requests = s.blc.requests ∧ (takeLineReset id line s).blc.events = s.blc.events ∧
      (takeLineReset id line s).blc.frameCheck = s.blc.frameCheck ∧
      (takeLineReset id line s).blc.frameForm = s.blc.frameForm ∧ (takeLineReset id line s).mrs = s.mrs ∧
      (takeLineReset id line s).rts = s.rts := by
  unfold takeLineReset; (try dsimp only); (repeat' split) <;> simp

@[simp] theorem restartSilence_keeps (s : State) :
    (restartSilence s).pending = s.pending ∧ (restartSilence s).uptime = s.uptime ∧ (restartSilence s).ttr = s.ttr ∧
      (restartSilence s).csh = s.csh ∧ (restartSilence s).scm = s.scm ∧ (restartSilence s).pbk = s.pbk ∧
      (restartSilence s).sda = s.sda ∧ (restartSilence s).jrn = s.jrn ∧ (restartSilence s).day = s.day ∧
      (restartSilence s).tbl = s.tbl ∧ (restartSilence s).slc = s.slc ∧ (restartSilence s).blc.link = s.blc.link ∧
      (restartSilence s).blc.reassembly = s.blc.reassembly ∧ (restartSilence s).blc.sending = s.blc.sending ∧
      (restartSilence s).blc.linkAnswer = s.blc.linkAnswer ∧ (restartSilence s).blc.replies = s.blc.replies ∧
      (restartSilence s).blc.requests = s.blc.requests ∧ (restartSilence s).blc.events = s.blc.events ∧
      (restartSilence s).blc.frameCheck = s.blc.frameCheck ∧ (restartSilence s).blc.frameForm = s.blc.frameForm ∧
      (restartSilence s).mrs = s.mrs ∧ (restartSilence s).rts = s.rts := by
  unfold restartSilence; (try dsimp only); (repeat' split) <;> simp

@[simp] theorem restoreLink_keeps (s : State) :
    (restoreLink s).pending = s.pending ∧ (restoreLink s).uptime = s.uptime ∧ (restoreLink s).ttr = s.ttr ∧
      (restoreLink s).csh = s.csh ∧ (restoreLink s).scm.signOn = s.scm.signOn ∧
      (restoreLink s).scm.broadcast = s.scm.broadcast ∧ (restoreLink s).pbk = s.pbk ∧ (restoreLink s).sda = s.sda ∧
      (restoreLink s).jrn = s.jrn ∧ (restoreLink s).day = s.day ∧ (restoreLink s).tbl = s.tbl ∧
      (restoreLink s).slc = s.slc ∧ (restoreLink s).blc.reassembly = s.blc.reassembly ∧
      (restoreLink s).blc.sending = s.blc.sending ∧ (restoreLink s).blc.linkAnswer = s.blc.linkAnswer ∧
      (restoreLink s).blc.replies = s.blc.replies ∧ (restoreLink s).blc.requests = s.blc.requests ∧
      (restoreLink s).blc.frameCheck = s.blc.frameCheck ∧ (restoreLink s).blc.frameForm = s.blc.frameForm ∧
      (restoreLink s).mrs.places = s.mrs.places ∧ (restoreLink s).mrs.unmatchedReplies = s.mrs.unmatchedReplies ∧
      (restoreLink s).mrs.overruns = s.mrs.overruns ∧ (restoreLink s).mrs.settings = s.mrs.settings ∧
      (restoreLink s).mrs.clock = s.mrs.clock ∧ (restoreLink s).rts = s.rts := by
  unfold restoreLink; (try dsimp only); (repeat' split) <;> simp

@[simp] theorem validFrame_keeps (s : State) :
    (validFrame s).pending = s.pending ∧ (validFrame s).uptime = s.uptime ∧ (validFrame s).ttr = s.ttr ∧
      (validFrame s).csh = s.csh ∧ (validFrame s).scm.signOn = s.scm.signOn ∧
      (validFrame s).scm.broadcast = s.scm.broadcast ∧ (validFrame s).pbk = s.pbk ∧ (validFrame s).sda = s.sda ∧
      (validFrame s).jrn = s.jrn ∧ (validFrame s).day = s.day ∧ (validFrame s).tbl = s.tbl ∧
      (validFrame s).slc = s.slc ∧ (validFrame s).blc.reassembly = s.blc.reassembly ∧
      (validFrame s).blc.sending = s.blc.sending ∧ (validFrame s).blc.linkAnswer = s.blc.linkAnswer ∧
      (validFrame s).blc.replies = s.blc.replies ∧ (validFrame s).blc.requests = s.blc.requests ∧
      (validFrame s).blc.frameCheck = s.blc.frameCheck ∧ (validFrame s).blc.frameForm = s.blc.frameForm ∧
      (validFrame s).mrs.places = s.mrs.places ∧ (validFrame s).mrs.unmatchedReplies = s.mrs.unmatchedReplies ∧
      (validFrame s).mrs.overruns = s.mrs.overruns ∧ (validFrame s).mrs.settings = s.mrs.settings ∧
      (validFrame s).mrs.clock = s.mrs.clock ∧ (validFrame s).rts = s.rts := by
  unfold validFrame; (try dsimp only); (repeat' split) <;> simp

@[simp] theorem loseLink_keeps (s : State) :
    (loseLink s).pending = s.pending ∧ (loseLink s).uptime = s.uptime ∧ (loseLink s).ttr.late = s.ttr.late ∧
      (loseLink s).ttr.seqs = s.ttr.seqs ∧ (loseLink s).csh.reserve = s.csh.reserve ∧
      (loseLink s).scm.signOn = s.scm.signOn ∧ (loseLink s).scm.broadcast = s.scm.broadcast ∧ (loseLink s).pbk = s.pbk ∧
      (loseLink s).sda.accountMap = s.sda.accountMap ∧ (loseLink s).sda.nextAdvice = s.sda.nextAdvice ∧
      (loseLink s).sda.unmatchedAcks = s.sda.unmatchedAcks ∧ (loseLink s).jrn.lastAccepted = s.jrn.lastAccepted ∧
      (loseLink s).jrn.printedCursor = s.jrn.printedCursor ∧ (loseLink s).jrn.batchCounter = s.jrn.batchCounter ∧
      (loseLink s).jrn.pause = s.jrn.pause ∧ (loseLink s).jrn.unmatchedAcks = s.jrn.unmatchedAcks ∧
      (loseLink s).day.state = s.day.state ∧ (loseLink s).day.date = s.day.date ∧
      (loseLink s).day.drawerMarks = s.day.drawerMarks ∧ (loseLink s).day.reserveMark = s.day.reserveMark ∧
      (loseLink s).tbl = s.tbl ∧ (loseLink s).slc = s.slc ∧ (loseLink s).blc.sending = s.blc.sending ∧
      (loseLink s).blc.replies = s.blc.replies ∧ (loseLink s).blc.frameCheck = s.blc.frameCheck ∧
      (loseLink s).blc.frameForm = s.blc.frameForm ∧ (loseLink s).mrs.places = s.mrs.places ∧
      (loseLink s).mrs.unmatchedReplies = s.mrs.unmatchedReplies ∧ (loseLink s).mrs.overruns = s.mrs.overruns ∧
      (loseLink s).mrs.settings = s.mrs.settings ∧ (loseLink s).mrs.clock = s.mrs.clock ∧ (loseLink s).rts = s.rts := by
  unfold loseLink; (try dsimp only); (repeat' split) <;> simp

@[simp] theorem countFrameCheck_keeps (s : State) :
    (countFrameCheck s).pending = s.pending ∧ (countFrameCheck s).uptime = s.uptime ∧
      (countFrameCheck s).ttr = s.ttr ∧ (countFrameCheck s).csh = s.csh ∧ (countFrameCheck s).scm = s.scm ∧
      (countFrameCheck s).pbk = s.pbk ∧ (countFrameCheck s).sda = s.sda ∧ (countFrameCheck s).jrn = s.jrn ∧
      (countFrameCheck s).day = s.day ∧ (countFrameCheck s).tbl = s.tbl ∧ (countFrameCheck s).slc = s.slc ∧
      (countFrameCheck s).blc.link = s.blc.link ∧ (countFrameCheck s).blc.silence = s.blc.silence ∧
      (countFrameCheck s).blc.reassembly = s.blc.reassembly ∧ (countFrameCheck s).blc.sending = s.blc.sending ∧
      (countFrameCheck s).blc.linkAnswer = s.blc.linkAnswer ∧ (countFrameCheck s).blc.replies = s.blc.replies ∧
      (countFrameCheck s).blc.requests = s.blc.requests ∧ (countFrameCheck s).blc.events = s.blc.events ∧
      (countFrameCheck s).blc.frameForm = s.blc.frameForm ∧ (countFrameCheck s).mrs = s.mrs ∧
      (countFrameCheck s).rts = s.rts := by
  unfold countFrameCheck; (try dsimp only); (repeat' split) <;> simp

@[simp] theorem countFrameForm_keeps (s : State) :
    (countFrameForm s).pending = s.pending ∧ (countFrameForm s).uptime = s.uptime ∧ (countFrameForm s).ttr = s.ttr ∧
      (countFrameForm s).csh = s.csh ∧ (countFrameForm s).scm = s.scm ∧ (countFrameForm s).pbk = s.pbk ∧
      (countFrameForm s).sda = s.sda ∧ (countFrameForm s).jrn = s.jrn ∧ (countFrameForm s).day = s.day ∧
      (countFrameForm s).tbl = s.tbl ∧ (countFrameForm s).slc = s.slc ∧ (countFrameForm s).blc.link = s.blc.link ∧
      (countFrameForm s).blc.silence = s.blc.silence ∧ (countFrameForm s).blc.reassembly = s.blc.reassembly ∧
      (countFrameForm s).blc.sending = s.blc.sending ∧ (countFrameForm s).blc.linkAnswer = s.blc.linkAnswer ∧
      (countFrameForm s).blc.replies = s.blc.replies ∧ (countFrameForm s).blc.requests = s.blc.requests ∧
      (countFrameForm s).blc.events = s.blc.events ∧ (countFrameForm s).blc.frameCheck = s.blc.frameCheck ∧
      (countFrameForm s).mrs = s.mrs ∧ (countFrameForm s).rts = s.rts := by
  unfold countFrameForm; (try dsimp only); (repeat' split) <;> simp

@[simp] theorem recoverLink_keeps (removed : Advice) (s : State) :
    (recoverLink removed s).pending = s.pending ∧ (recoverLink removed s).uptime = s.uptime ∧
      (recoverLink removed s).ttr = s.ttr ∧ (recoverLink removed s).csh = s.csh ∧
      (recoverLink removed s).scm.signOn = s.scm.signOn ∧ (recoverLink removed s).scm.broadcast = s.scm.broadcast ∧
      (recoverLink removed s).pbk = s.pbk ∧ (recoverLink removed s).sda = s.sda ∧ (recoverLink removed s).jrn = s.jrn ∧
      (recoverLink removed s).day = s.day ∧ (recoverLink removed s).tbl = s.tbl ∧ (recoverLink removed s).slc = s.slc ∧
      (recoverLink removed s).blc.silence = s.blc.silence ∧ (recoverLink removed s).blc.reassembly = s.blc.reassembly ∧
      (recoverLink removed s).blc.sending = s.blc.sending ∧ (recoverLink removed s).blc.linkAnswer = s.blc.linkAnswer ∧
      (recoverLink removed s).blc.replies = s.blc.replies ∧ (recoverLink removed s).blc.requests = s.blc.requests ∧
      (recoverLink removed s).blc.events = s.blc.events ∧ (recoverLink removed s).blc.frameCheck = s.blc.frameCheck ∧
      (recoverLink removed s).blc.frameForm = s.blc.frameForm ∧ (recoverLink removed s).mrs = s.mrs ∧
      (recoverLink removed s).rts = s.rts := by
  unfold recoverLink; (try dsimp only); (repeat' split) <;> simp

@[simp] theorem alarmEnded_keeps (removed : Advice) (s : State) :
    (alarmEnded removed s).pending = s.pending ∧ (alarmEnded removed s).uptime = s.uptime ∧
      (alarmEnded removed s).ttr = s.ttr ∧ (alarmEnded removed s).csh = s.csh ∧
      (alarmEnded removed s).scm.signOn = s.scm.signOn ∧ (alarmEnded removed s).scm.broadcast = s.scm.broadcast ∧
      (alarmEnded removed s).pbk = s.pbk ∧ (alarmEnded removed s).sda = s.sda ∧ (alarmEnded removed s).jrn = s.jrn ∧
      (alarmEnded removed s).day = s.day ∧ (alarmEnded removed s).tbl = s.tbl ∧ (alarmEnded removed s).slc = s.slc ∧
      (alarmEnded removed s).blc = s.blc ∧ (alarmEnded removed s).mrs = s.mrs ∧ (alarmEnded removed s).rts = s.rts := by
  unfold alarmEnded; (try dsimp only); (repeat' split) <;> simp

@[simp] theorem removeAdvice_keeps (a : Advice) (s : State) :
    (removeAdvice a s).pending = s.pending ∧ (removeAdvice a s).uptime = s.uptime ∧ (removeAdvice a s).ttr = s.ttr ∧
      (removeAdvice a s).csh = s.csh ∧ (removeAdvice a s).scm.signOn = s.scm.signOn ∧
      (removeAdvice a s).scm.broadcast = s.scm.broadcast ∧ (removeAdvice a s).pbk = s.pbk ∧
      (removeAdvice a s).sda.tellerDays = s.sda.tellerDays ∧ (removeAdvice a s).sda.accountMap = s.sda.accountMap ∧
      (removeAdvice a s).sda.nextAdvice = s.sda.nextAdvice ∧
      (removeAdvice a s).sda.unmatchedAcks = s.sda.unmatchedAcks ∧ (removeAdvice a s).jrn = s.jrn ∧
      (removeAdvice a s).day = s.day ∧ (removeAdvice a s).tbl = s.tbl ∧ (removeAdvice a s).slc = s.slc ∧
      (removeAdvice a s).blc.silence = s.blc.silence ∧ (removeAdvice a s).blc.reassembly = s.blc.reassembly ∧
      (removeAdvice a s).blc.sending = s.blc.sending ∧ (removeAdvice a s).blc.linkAnswer = s.blc.linkAnswer ∧
      (removeAdvice a s).blc.replies = s.blc.replies ∧ (removeAdvice a s).blc.requests = s.blc.requests ∧
      (removeAdvice a s).blc.events = s.blc.events ∧ (removeAdvice a s).blc.frameCheck = s.blc.frameCheck ∧
      (removeAdvice a s).blc.frameForm = s.blc.frameForm ∧ (removeAdvice a s).mrs = s.mrs ∧
      (removeAdvice a s).rts = s.rts := by
  unfold removeAdvice; (try dsimp only); (repeat' split) <;> simp

@[simp] theorem unmatchedAck_keeps (s : State) :
    (unmatchedAck s).pending = s.pending ∧ (unmatchedAck s).uptime = s.uptime ∧ (unmatchedAck s).ttr = s.ttr ∧
      (unmatchedAck s).csh = s.csh ∧ (unmatchedAck s).scm = s.scm ∧ (unmatchedAck s).pbk = s.pbk ∧
      (unmatchedAck s).sda.tellerDays = s.sda.tellerDays ∧ (unmatchedAck s).sda.accountMap = s.sda.accountMap ∧
      (unmatchedAck s).sda.queue = s.sda.queue ∧ (unmatchedAck s).sda.nextAdvice = s.sda.nextAdvice ∧
      (unmatchedAck s).jrn = s.jrn ∧ (unmatchedAck s).day = s.day ∧ (unmatchedAck s).tbl = s.tbl ∧
      (unmatchedAck s).slc = s.slc ∧ (unmatchedAck s).blc = s.blc ∧ (unmatchedAck s).mrs = s.mrs ∧
      (unmatchedAck s).rts = s.rts := by
  unfold unmatchedAck; (try dsimp only); (repeat' split) <;> simp

@[simp] theorem takeAdviceAck_keeps (a : Option Ack) (s : State) :
    (takeAdviceAck a s).pending = s.pending ∧ (takeAdviceAck a s).uptime = s.uptime ∧
      (takeAdviceAck a s).ttr = s.ttr ∧ (takeAdviceAck a s).csh = s.csh ∧
      (takeAdviceAck a s).scm.signOn = s.scm.signOn ∧ (takeAdviceAck a s).scm.broadcast = s.scm.broadcast ∧
      (takeAdviceAck a s).pbk = s.pbk ∧ (takeAdviceAck a s).sda.accountMap = s.sda.accountMap ∧
      (takeAdviceAck a s).sda.nextAdvice = s.sda.nextAdvice ∧
      (takeAdviceAck a s).jrn.lastAccepted = s.jrn.lastAccepted ∧
      (takeAdviceAck a s).jrn.printedCursor = s.jrn.printedCursor ∧
      (takeAdviceAck a s).jrn.batchCounter = s.jrn.batchCounter ∧ (takeAdviceAck a s).jrn.trickle = s.jrn.trickle ∧
      (takeAdviceAck a s).jrn.pause = s.jrn.pause ∧ (takeAdviceAck a s).jrn.unmatchedAcks = s.jrn.unmatchedAcks ∧
      (takeAdviceAck a s).day = s.day ∧ (takeAdviceAck a s).tbl = s.tbl ∧ (takeAdviceAck a s).slc = s.slc ∧
      (takeAdviceAck a s).blc.silence = s.blc.silence ∧ (takeAdviceAck a s).blc.reassembly = s.blc.reassembly ∧
      (takeAdviceAck a s).blc.sending = s.blc.sending ∧ (takeAdviceAck a s).blc.linkAnswer = s.blc.linkAnswer ∧
      (takeAdviceAck a s).blc.replies = s.blc.replies ∧ (takeAdviceAck a s).blc.requests = s.blc.requests ∧
      (takeAdviceAck a s).blc.frameCheck = s.blc.frameCheck ∧ (takeAdviceAck a s).blc.frameForm = s.blc.frameForm ∧
      (takeAdviceAck a s).mrs.places = s.mrs.places ∧
      (takeAdviceAck a s).mrs.unmatchedReplies = s.mrs.unmatchedReplies ∧
      (takeAdviceAck a s).mrs.overruns = s.mrs.overruns ∧ (takeAdviceAck a s).mrs.settings = s.mrs.settings ∧
      (takeAdviceAck a s).mrs.clock = s.mrs.clock ∧ (takeAdviceAck a s).rts = s.rts := by
  unfold takeAdviceAck; (try dsimp only); (repeat' split) <;> simp

@[simp] theorem unmatchedBatchAck_keeps (s : State) :
    (unmatchedBatchAck s).pending = s.pending ∧ (unmatchedBatchAck s).uptime = s.uptime ∧
      (unmatchedBatchAck s).ttr = s.ttr ∧ (unmatchedBatchAck s).csh = s.csh ∧ (unmatchedBatchAck s).scm = s.scm ∧
      (unmatchedBatchAck s).pbk = s.pbk ∧ (unmatchedBatchAck s).sda = s.sda ∧
      (unmatchedBatchAck s).jrn.entries = s.jrn.entries ∧ (unmatchedBatchAck s).jrn.used = s.jrn.used ∧
      (unmatchedBatchAck s).jrn.reserved = s.jrn.reserved ∧ (unmatchedBatchAck s).jrn.free = s.jrn.free ∧
      (unmatchedBatchAck s).jrn.nextSeq = s.jrn.nextSeq ∧ (unmatchedBatchAck s).jrn.lastAccepted = s.jrn.lastAccepted ∧
      (unmatchedBatchAck s).jrn.printedCursor = s.jrn.printedCursor ∧
      (unmatchedBatchAck s).jrn.notStored = s.jrn.notStored ∧
      (unmatchedBatchAck s).jrn.batchCounter = s.jrn.batchCounter ∧ (unmatchedBatchAck s).jrn.trickle = s.jrn.trickle ∧
      (unmatchedBatchAck s).jrn.pause = s.jrn.pause ∧ (unmatchedBatchAck s).day = s.day ∧
      (unmatchedBatchAck s).tbl = s.tbl ∧ (unmatchedBatchAck s).slc = s.slc ∧ (unmatchedBatchAck s).blc = s.blc ∧
      (unmatchedBatchAck s).mrs = s.mrs ∧ (unmatchedBatchAck s).rts = s.rts := by
  unfold unmatchedBatchAck; (try dsimp only); (repeat' split) <;> simp

@[simp] theorem answerTrickle_keeps (t : TrickleBatch) (accepted : Bool) (s : State) :
    (answerTrickle t accepted s).pending = s.pending ∧ (answerTrickle t accepted s).uptime = s.uptime ∧
      (answerTrickle t accepted s).ttr = s.ttr ∧ (answerTrickle t accepted s).csh = s.csh ∧
      (answerTrickle t accepted s).scm = s.scm ∧ (answerTrickle t accepted s).pbk = s.pbk ∧
      (answerTrickle t accepted s).sda = s.sda ∧ (answerTrickle t accepted s).jrn.reserved = s.jrn.reserved ∧
      (answerTrickle t accepted s).jrn.nextSeq = s.jrn.nextSeq ∧
      (answerTrickle t accepted s).jrn.printedCursor = s.jrn.printedCursor ∧
      (answerTrickle t accepted s).jrn.notStored = s.jrn.notStored ∧
      (answerTrickle t accepted s).jrn.batchCounter = s.jrn.batchCounter ∧
      (answerTrickle t accepted s).jrn.unmatchedAcks = s.jrn.unmatchedAcks ∧ (answerTrickle t accepted s).day.state = s.day.state ∧
      (answerTrickle t accepted s).day.date = s.day.date ∧
      (answerTrickle t accepted s).day.drawerMarks = s.day.drawerMarks ∧
      (answerTrickle t accepted s).day.reserveMark = s.day.reserveMark ∧
      (answerTrickle t accepted s).tbl = s.tbl ∧ (answerTrickle t accepted s).slc = s.slc ∧
      (answerTrickle t accepted s).blc = s.blc ∧ (answerTrickle t accepted s).mrs = s.mrs ∧
      (answerTrickle t accepted s).rts = s.rts := by
  unfold answerTrickle; (try dsimp only); (repeat' split) <;> simp

@[simp] theorem takeBatchAck_keeps (a : Option Ack) (s : State) :
    (takeBatchAck a s).pending = s.pending ∧ (takeBatchAck a s).uptime = s.uptime ∧ (takeBatchAck a s).ttr = s.ttr ∧
      (takeBatchAck a s).csh = s.csh ∧ (takeBatchAck a s).scm.signOn = s.scm.signOn ∧
      (takeBatchAck a s).scm.broadcast = s.scm.broadcast ∧ (takeBatchAck a s).pbk = s.pbk ∧
      (takeBatchAck a s).sda.accountMap = s.sda.accountMap ∧ (takeBatchAck a s).sda.queue = s.sda.queue ∧
      (takeBatchAck a s).sda.nextAdvice = s.sda.nextAdvice ∧
      (takeBatchAck a s).sda.unmatchedAcks = s.sda.unmatchedAcks ∧
      (takeBatchAck a s).jrn.printedCursor = s.jrn.printedCursor ∧
      (takeBatchAck a s).jrn.batchCounter = s.jrn.batchCounter ∧ (takeBatchAck a s).day.date = s.day.date ∧
      (takeBatchAck a s).day.drawerMarks = s.day.drawerMarks ∧ (takeBatchAck a s).day.reserveMark = s.day.reserveMark ∧
      (takeBatchAck a s).tbl = s.tbl ∧ (takeBatchAck a s).slc = s.slc ∧ (takeBatchAck a s).blc.link = s.blc.link ∧
      (takeBatchAck a s).blc.silence = s.blc.silence ∧ (takeBatchAck a s).blc.reassembly = s.blc.reassembly ∧
      (takeBatchAck a s).blc.sending = s.blc.sending ∧ (takeBatchAck a s).blc.linkAnswer = s.blc.linkAnswer ∧
      (takeBatchAck a s).blc.replies = s.blc.replies ∧ (takeBatchAck a s).blc.requests = s.blc.requests ∧
      (takeBatchAck a s).blc.frameCheck = s.blc.frameCheck ∧ (takeBatchAck a s).blc.frameForm = s.blc.frameForm ∧
      (takeBatchAck a s).mrs.places = s.mrs.places ∧ (takeBatchAck a s).mrs.unmatchedReplies = s.mrs.unmatchedReplies ∧
      (takeBatchAck a s).mrs.overruns = s.mrs.overruns ∧ (takeBatchAck a s).mrs.settings = s.mrs.settings ∧
      (takeBatchAck a s).mrs.clock = s.mrs.clock ∧ (takeBatchAck a s).rts = s.rts := by
  unfold takeBatchAck; (try dsimp only); (repeat' split) <;> simp

@[simp] theorem takeLinkCheck_keeps (n : Option Nat) (s : State) :
    (takeLinkCheck n s).pending = s.pending ∧ (takeLinkCheck n s).uptime = s.uptime ∧
      (takeLinkCheck n s).ttr = s.ttr ∧ (takeLinkCheck n s).csh = s.csh ∧ (takeLinkCheck n s).scm = s.scm ∧
      (takeLinkCheck n s).pbk = s.pbk ∧ (takeLinkCheck n s).sda = s.sda ∧ (takeLinkCheck n s).jrn = s.jrn ∧
      (takeLinkCheck n s).day = s.day ∧ (takeLinkCheck n s).tbl = s.tbl ∧ (takeLinkCheck n s).slc = s.slc ∧
      (takeLinkCheck n s).blc.link = s.blc.link ∧ (takeLinkCheck n s).blc.silence = s.blc.silence ∧
      (takeLinkCheck n s).blc.reassembly = s.blc.reassembly ∧ (takeLinkCheck n s).blc.sending = s.blc.sending ∧
      (takeLinkCheck n s).blc.replies = s.blc.replies ∧ (takeLinkCheck n s).blc.requests = s.blc.requests ∧
      (takeLinkCheck n s).blc.events = s.blc.events ∧ (takeLinkCheck n s).blc.frameCheck = s.blc.frameCheck ∧
      (takeLinkCheck n s).mrs = s.mrs ∧ (takeLinkCheck n s).rts = s.rts := by
  unfold takeLinkCheck; (try dsimp only); (repeat' split) <;> simp

@[simp] theorem placeRequest_keeps (id : Nat) (r : MgmtRequest) (s : State) :
    (placeRequest id r s).pending = s.pending ∧ (placeRequest id r s).uptime = s.uptime ∧
      (placeRequest id r s).ttr = s.ttr ∧ (placeRequest id r s).csh = s.csh ∧ (placeRequest id r s).scm = s.scm ∧
      (placeRequest id r s).pbk = s.pbk ∧ (placeRequest id r s).sda = s.sda ∧ (placeRequest id r s).jrn = s.jrn ∧
      (placeRequest id r s).day = s.day ∧ (placeRequest id r s).tbl = s.tbl ∧ (placeRequest id r s).slc = s.slc ∧
      (placeRequest id r s).blc.link = s.blc.link ∧ (placeRequest id r s).blc.silence = s.blc.silence ∧
      (placeRequest id r s).blc.reassembly = s.blc.reassembly ∧ (placeRequest id r s).blc.sending = s.blc.sending ∧
      (placeRequest id r s).blc.linkAnswer = s.blc.linkAnswer ∧ (placeRequest id r s).blc.replies = s.blc.replies ∧
      (placeRequest id r s).blc.requests = s.blc.requests ∧ (placeRequest id r s).blc.frameCheck = s.blc.frameCheck ∧
      (placeRequest id r s).blc.frameForm = s.blc.frameForm ∧
      (placeRequest id r s).mrs.unmatchedReplies = s.mrs.unmatchedReplies ∧
      (placeRequest id r s).mrs.settings = s.mrs.settings ∧ (placeRequest id r s).mrs.clock = s.mrs.clock ∧
      (placeRequest id r s).rts = s.rts := by
  unfold placeRequest; (try dsimp only); (repeat' split) <;> simp

@[simp] theorem dispatch_keeps (k : InboundKind) (dest : Nat) (payload : Bytes) (s : State) :
    (dispatch k dest payload s).pending = s.pending ∧ (dispatch k dest payload s).uptime = s.uptime ∧
      (dispatch k dest payload s).ttr.seqs = s.ttr.seqs ∧ (dispatch k dest payload s).csh.reserve = s.csh.reserve ∧
      (dispatch k dest payload s).scm.signOn = s.scm.signOn ∧
      (dispatch k dest payload s).scm.broadcast = s.scm.broadcast ∧
      (dispatch k dest payload s).sda.accountMap = s.sda.accountMap ∧
      (dispatch k dest payload s).jrn.printedCursor = s.jrn.printedCursor ∧
      (dispatch k dest payload s).jrn.batchCounter = s.jrn.batchCounter ∧
      (dispatch k dest payload s).day.date = s.day.date ∧
      (dispatch k dest payload s).day.drawerMarks = s.day.drawerMarks ∧
      (dispatch k dest payload s).day.reserveMark = s.day.reserveMark ∧ (dispatch k dest payload s).tbl = s.tbl ∧
      (dispatch k dest payload s).slc.samples = s.slc.samples ∧
      (dispatch k dest payload s).blc.silence = s.blc.silence ∧
      (dispatch k dest payload s).blc.reassembly = s.blc.reassembly ∧
      (dispatch k dest payload s).blc.sending = s.blc.sending ∧
      (dispatch k dest payload s).blc.replies = s.blc.replies ∧
      (dispatch k dest payload s).blc.requests = s.blc.requests ∧
      (dispatch k dest payload s).blc.frameCheck = s.blc.frameCheck ∧
      (dispatch k dest payload s).mrs.settings = s.mrs.settings ∧ (dispatch k dest payload s).mrs.clock = s.mrs.clock ∧
      (dispatch k dest payload s).rts = s.rts := by
  unfold dispatch; (try dsimp only); (repeat' split) <;> simp

@[simp] theorem setReassembly_keeps (r : Option Reassembly) (s : State) :
    (setReassembly r s).pending = s.pending ∧ (setReassembly r s).uptime = s.uptime ∧
      (setReassembly r s).ttr = s.ttr ∧ (setReassembly r s).csh = s.csh ∧ (setReassembly r s).scm = s.scm ∧
      (setReassembly r s).pbk = s.pbk ∧ (setReassembly r s).sda = s.sda ∧ (setReassembly r s).jrn = s.jrn ∧
      (setReassembly r s).day = s.day ∧ (setReassembly r s).tbl = s.tbl ∧ (setReassembly r s).slc = s.slc ∧
      (setReassembly r s).blc.link = s.blc.link ∧ (setReassembly r s).blc.silence = s.blc.silence ∧
      (setReassembly r s).blc.sending = s.blc.sending ∧ (setReassembly r s).blc.linkAnswer = s.blc.linkAnswer ∧
      (setReassembly r s).blc.replies = s.blc.replies ∧ (setReassembly r s).blc.requests = s.blc.requests ∧
      (setReassembly r s).blc.events = s.blc.events ∧ (setReassembly r s).blc.frameCheck = s.blc.frameCheck ∧
      (setReassembly r s).blc.frameForm = s.blc.frameForm ∧ (setReassembly r s).mrs = s.mrs ∧
      (setReassembly r s).rts = s.rts := by
  unfold setReassembly; (try dsimp only); (repeat' split) <;> simp

@[simp] theorem discardPart_keeps (s : State) :
    (discardPart s).pending = s.pending ∧ (discardPart s).uptime = s.uptime ∧ (discardPart s).ttr = s.ttr ∧
      (discardPart s).csh = s.csh ∧ (discardPart s).scm = s.scm ∧ (discardPart s).pbk = s.pbk ∧
      (discardPart s).sda = s.sda ∧ (discardPart s).jrn = s.jrn ∧ (discardPart s).day = s.day ∧
      (discardPart s).tbl = s.tbl ∧ (discardPart s).slc = s.slc ∧ (discardPart s).blc.link = s.blc.link ∧
      (discardPart s).blc.silence = s.blc.silence ∧ (discardPart s).blc.sending = s.blc.sending ∧
      (discardPart s).blc.linkAnswer = s.blc.linkAnswer ∧ (discardPart s).blc.replies = s.blc.replies ∧
      (discardPart s).blc.requests = s.blc.requests ∧ (discardPart s).blc.events = s.blc.events ∧
      (discardPart s).blc.frameCheck = s.blc.frameCheck ∧ (discardPart s).mrs = s.mrs ∧ (discardPart s).rts = s.rts := by
  unfold discardPart; (try dsimp only); (repeat' split) <;> simp

@[simp] theorem takeFirstSegment_keeps (k : InboundKind) (dest segment : Nat) (last : Bool) (payload : Bytes) (s : State) :
    (takeFirstSegment k dest segment last payload s).pending = s.pending ∧
      (takeFirstSegment k dest segment last payload s).uptime = s.uptime ∧
      (takeFirstSegment k dest segment last payload s).ttr.seqs = s.ttr.seqs ∧
      (takeFirstSegment k dest segment last payload s).csh.reserve = s.csh.reserve ∧
      (takeFirstSegment k dest segment last payload s).scm.signOn = s.scm.signOn ∧
      (takeFirstSegment k dest segment last payload s).scm.broadcast = s.scm.broadcast ∧
      (takeFirstSegment k dest segment last payload s).sda.accountMap = s.sda.accountMap ∧
      (takeFirstSegment k dest segment last payload s).jrn.printedCursor = s.jrn.printedCursor ∧
      (takeFirstSegment k dest segment last payload s).jrn.batchCounter = s.jrn.batchCounter ∧
      (takeFirstSegment k dest segment last payload s).day.date = s.day.date ∧
      (takeFirstSegment k dest segment last payload s).day.drawerMarks = s.day.drawerMarks ∧
      (takeFirstSegment k dest segment last payload s).day.reserveMark = s.day.reserveMark ∧
      (takeFirstSegment k dest segment last payload s).tbl = s.tbl ∧
      (takeFirstSegment k dest segment last payload s).slc.samples = s.slc.samples ∧
      (takeFirstSegment k dest segment last payload s).blc.silence = s.blc.silence ∧
      (takeFirstSegment k dest segment last payload s).blc.sending = s.blc.sending ∧
      (takeFirstSegment k dest segment last payload s).blc.replies = s.blc.replies ∧
      (takeFirstSegment k dest segment last payload s).blc.requests = s.blc.requests ∧
      (takeFirstSegment k dest segment last payload s).blc.frameCheck = s.blc.frameCheck ∧
      (takeFirstSegment k dest segment last payload s).mrs.settings = s.mrs.settings ∧
      (takeFirstSegment k dest segment last payload s).mrs.clock = s.mrs.clock ∧
      (takeFirstSegment k dest segment last payload s).rts = s.rts := by
  unfold takeFirstSegment; (try dsimp only); (repeat' split) <;> simp

@[simp] theorem takeNextSegment_keeps (g : Reassembly) (dest : Nat) (last : Bool) (payload : Bytes) (s : State) :
    (takeNextSegment g dest last payload s).pending = s.pending ∧
      (takeNextSegment g dest last payload s).uptime = s.uptime ∧
      (takeNextSegment g dest last payload s).ttr.seqs = s.ttr.seqs ∧
      (takeNextSegment g dest last payload s).csh.reserve = s.csh.reserve ∧
      (takeNextSegment g dest last payload s).scm.signOn = s.scm.signOn ∧
      (takeNextSegment g dest last payload s).scm.broadcast = s.scm.broadcast ∧
      (takeNextSegment g dest last payload s).sda.accountMap = s.sda.accountMap ∧
      (takeNextSegment g dest last payload s).jrn.printedCursor = s.jrn.printedCursor ∧
      (takeNextSegment g dest last payload s).jrn.batchCounter = s.jrn.batchCounter ∧
      (takeNextSegment g dest last payload s).day.date = s.day.date ∧
      (takeNextSegment g dest last payload s).day.drawerMarks = s.day.drawerMarks ∧
      (takeNextSegment g dest last payload s).day.reserveMark = s.day.reserveMark ∧
      (takeNextSegment g dest last payload s).tbl = s.tbl ∧
      (takeNextSegment g dest last payload s).slc.samples = s.slc.samples ∧
      (takeNextSegment g dest last payload s).blc.silence = s.blc.silence ∧
      (takeNextSegment g dest last payload s).blc.sending = s.blc.sending ∧
      (takeNextSegment g dest last payload s).blc.replies = s.blc.replies ∧
      (takeNextSegment g dest last payload s).blc.requests = s.blc.requests ∧
      (takeNextSegment g dest last payload s).blc.frameCheck = s.blc.frameCheck ∧
      (takeNextSegment g dest last payload s).mrs.settings = s.mrs.settings ∧
      (takeNextSegment g dest last payload s).mrs.clock = s.mrs.clock ∧
      (takeNextSegment g dest last payload s).rts = s.rts := by
  unfold takeNextSegment; (try dsimp only); (repeat' split) <;> simp

@[simp] theorem gather_keeps (k : InboundKind) (dest segment : Nat) (last : Bool) (payload : Bytes) (s : State) :
    (gather k dest segment last payload s).pending = s.pending ∧
      (gather k dest segment last payload s).uptime = s.uptime ∧
      (gather k dest segment last payload s).ttr.seqs = s.ttr.seqs ∧
      (gather k dest segment last payload s).csh.reserve = s.csh.reserve ∧
      (gather k dest segment last payload s).scm.signOn = s.scm.signOn ∧
      (gather k dest segment last payload s).scm.broadcast = s.scm.broadcast ∧
      (gather k dest segment last payload s).sda.accountMap = s.sda.accountMap ∧
      (gather k dest segment last payload s).jrn.printedCursor = s.jrn.printedCursor ∧
      (gather k dest segment last payload s).jrn.batchCounter = s.jrn.batchCounter ∧
      (gather k dest segment last payload s).day.date = s.day.date ∧
      (gather k dest segment last payload s).day.drawerMarks = s.day.drawerMarks ∧
      (gather k dest segment last payload s).day.reserveMark = s.day.reserveMark ∧
      (gather k dest segment last payload s).tbl = s.tbl ∧
      (gather k dest segment last payload s).slc.samples = s.slc.samples ∧
      (gather k dest segment last payload s).blc.silence = s.blc.silence ∧
      (gather k dest segment last payload s).blc.sending = s.blc.sending ∧
      (gather k dest segment last payload s).blc.replies = s.blc.replies ∧
      (gather k dest segment last payload s).blc.requests = s.blc.requests ∧
      (gather k dest segment last payload s).blc.frameCheck = s.blc.frameCheck ∧
      (gather k dest segment last payload s).mrs.settings = s.mrs.settings ∧
      (gather k dest segment last payload s).mrs.clock = s.mrs.clock ∧
      (gather k dest segment last payload s).rts = s.rts := by
  unfold gather; (try dsimp only); (repeat' split) <;> simp

@[simp] theorem arrive_keeps (s : State) :
    (arrive s).pending = s.pending ∧ (arrive s).uptime = s.uptime ∧ (arrive s).ttr = s.ttr ∧ (arrive s).csh = s.csh ∧
      (arrive s).scm.signOn = s.scm.signOn ∧ (arrive s).scm.broadcast = s.scm.broadcast ∧ (arrive s).pbk = s.pbk ∧
      (arrive s).sda = s.sda ∧ (arrive s).jrn = s.jrn ∧ (arrive s).day = s.day ∧ (arrive s).tbl = s.tbl ∧
      (arrive s).slc = s.slc ∧ (arrive s).blc.sending = s.blc.sending ∧ (arrive s).blc.linkAnswer = s.blc.linkAnswer ∧
      (arrive s).blc.replies = s.blc.replies ∧ (arrive s).blc.requests = s.blc.requests ∧
      (arrive s).blc.frameCheck = s.blc.frameCheck ∧ (arrive s).mrs.places = s.mrs.places ∧
      (arrive s).mrs.unmatchedReplies = s.mrs.unmatchedReplies ∧ (arrive s).mrs.overruns = s.mrs.overruns ∧
      (arrive s).mrs.settings = s.mrs.settings ∧ (arrive s).mrs.clock = s.mrs.clock ∧ (arrive s).rts = s.rts := by
  unfold arrive; (try dsimp only); (repeat' split) <;> simp

@[simp] theorem requestSent_keeps (m : RequestMsg) (s : State) :
    (requestSent m s).pending = s.pending ∧ (requestSent m s).uptime = s.uptime ∧
      (requestSent m s).ttr.late = s.ttr.late ∧ (requestSent m s).ttr.seqs = s.ttr.seqs ∧
      (requestSent m s).csh = s.csh ∧ (requestSent m s).scm = s.scm ∧ (requestSent m s).pbk = s.pbk ∧
      (requestSent m s).sda = s.sda ∧ (requestSent m s).jrn = s.jrn ∧ (requestSent m s).day = s.day ∧
      (requestSent m s).tbl = s.tbl ∧ (requestSent m s).slc = s.slc ∧ (requestSent m s).blc.link = s.blc.link ∧
      (requestSent m s).blc.silence = s.blc.silence ∧ (requestSent m s).blc.reassembly = s.blc.reassembly ∧
      (requestSent m s).blc.sending = s.blc.sending ∧ (requestSent m s).blc.linkAnswer = s.blc.linkAnswer ∧
      (requestSent m s).blc.replies = s.blc.replies ∧ (requestSent m s).blc.events = s.blc.events ∧
      (requestSent m s).blc.frameCheck = s.blc.frameCheck ∧ (requestSent m s).blc.frameForm = s.blc.frameForm ∧
      (requestSent m s).mrs = s.mrs ∧ (requestSent m s).rts = s.rts := by
  unfold requestSent; (try dsimp only); (repeat' split) <;> simp

@[simp] theorem adviceSent_keeps (n : Nat) (s : State) :
    (adviceSent n s).pending = s.pending ∧ (adviceSent n s).uptime = s.uptime ∧ (adviceSent n s).ttr = s.ttr ∧
      (adviceSent n s).csh = s.csh ∧ (adviceSent n s).scm = s.scm ∧ (adviceSent n s).pbk = s.pbk ∧
      (adviceSent n s).sda.tellerDays = s.sda.tellerDays ∧ (adviceSent n s).sda.accountMap = s.sda.accountMap ∧
      (adviceSent n s).sda.nextAdvice = s.sda.nextAdvice ∧ (adviceSent n s).sda.unmatchedAcks = s.sda.unmatchedAcks ∧
      (adviceSent n s).jrn = s.jrn ∧ (adviceSent n s).day = s.day ∧ (adviceSent n s).tbl = s.tbl ∧
      (adviceSent n s).slc = s.slc ∧ (adviceSent n s).blc = s.blc ∧ (adviceSent n s).mrs = s.mrs ∧
      (adviceSent n s).rts = s.rts := by
  unfold adviceSent; (try dsimp only); (repeat' split) <;> simp

@[simp] theorem replySent_keeps (s : State) :
    (replySent s).pending = s.pending ∧ (replySent s).uptime = s.uptime ∧ (replySent s).ttr = s.ttr ∧
      (replySent s).csh = s.csh ∧ (replySent s).scm = s.scm ∧ (replySent s).pbk = s.pbk ∧ (replySent s).sda = s.sda ∧
      (replySent s).jrn = s.jrn ∧ (replySent s).day = s.day ∧ (replySent s).tbl = s.tbl ∧ (replySent s).slc = s.slc ∧
      (replySent s).blc.link = s.blc.link ∧ (replySent s).blc.silence = s.blc.silence ∧
      (replySent s).blc.reassembly = s.blc.reassembly ∧ (replySent s).blc.sending = s.blc.sending ∧
      (replySent s).blc.linkAnswer = s.blc.linkAnswer ∧ (replySent s).blc.requests = s.blc.requests ∧
      (replySent s).blc.events = s.blc.events ∧ (replySent s).blc.frameCheck = s.blc.frameCheck ∧
      (replySent s).blc.frameForm = s.blc.frameForm ∧ (replySent s).mrs.flags = s.mrs.flags ∧
      (replySent s).mrs.unmatchedReplies = s.mrs.unmatchedReplies ∧ (replySent s).mrs.overruns = s.mrs.overruns ∧
      (replySent s).mrs.settings = s.mrs.settings ∧ (replySent s).mrs.clock = s.mrs.clock ∧ (replySent s).rts = s.rts := by
  unfold replySent; (try dsimp only); (repeat' split) <;> simp

@[simp] theorem ownerSent_keeps (c : OutClass) (m : OutMsg) (s : State) :
    (ownerSent c m s).pending = s.pending ∧ (ownerSent c m s).uptime = s.uptime ∧
      (ownerSent c m s).ttr.late = s.ttr.late ∧ (ownerSent c m s).ttr.seqs = s.ttr.seqs ∧
      (ownerSent c m s).csh = s.csh ∧ (ownerSent c m s).scm = s.scm ∧ (ownerSent c m s).pbk = s.pbk ∧
      (ownerSent c m s).sda.tellerDays = s.sda.tellerDays ∧ (ownerSent c m s).sda.accountMap = s.sda.accountMap ∧
      (ownerSent c m s).sda.nextAdvice = s.sda.nextAdvice ∧ (ownerSent c m s).sda.unmatchedAcks = s.sda.unmatchedAcks ∧
      (ownerSent c m s).jrn.entries = s.jrn.entries ∧ (ownerSent c m s).jrn.used = s.jrn.used ∧
      (ownerSent c m s).jrn.reserved = s.jrn.reserved ∧ (ownerSent c m s).jrn.free = s.jrn.free ∧
      (ownerSent c m s).jrn.nextSeq = s.jrn.nextSeq ∧ (ownerSent c m s).jrn.lastAccepted = s.jrn.lastAccepted ∧
      (ownerSent c m s).jrn.printedCursor = s.jrn.printedCursor ∧ (ownerSent c m s).jrn.notStored = s.jrn.notStored ∧
      (ownerSent c m s).jrn.pause = s.jrn.pause ∧ (ownerSent c m s).jrn.unmatchedAcks = s.jrn.unmatchedAcks ∧
      (ownerSent c m s).day.state = s.day.state ∧ (ownerSent c m s).day.date = s.day.date ∧
      (ownerSent c m s).day.drawerMarks = s.day.drawerMarks ∧ (ownerSent c m s).day.reserveMark = s.day.reserveMark ∧
      (ownerSent c m s).tbl = s.tbl ∧ (ownerSent c m s).slc = s.slc ∧ (ownerSent c m s).blc.link = s.blc.link ∧
      (ownerSent c m s).blc.silence = s.blc.silence ∧ (ownerSent c m s).blc.reassembly = s.blc.reassembly ∧
      (ownerSent c m s).blc.sending = s.blc.sending ∧ (ownerSent c m s).blc.frameCheck = s.blc.frameCheck ∧
      (ownerSent c m s).blc.frameForm = s.blc.frameForm ∧ (ownerSent c m s).mrs.flags = s.mrs.flags ∧
      (ownerSent c m s).mrs.unmatchedReplies = s.mrs.unmatchedReplies ∧
      (ownerSent c m s).mrs.overruns = s.mrs.overruns ∧ (ownerSent c m s).mrs.settings = s.mrs.settings ∧
      (ownerSent c m s).mrs.clock = s.mrs.clock ∧ (ownerSent c m s).rts = s.rts := by
  unfold ownerSent; (try dsimp only); (repeat' split) <;> simp

@[simp] theorem activate_keeps (t : CheckedTable) (loadId : Nat) (s : State) :
    (activate t loadId s).pending = s.pending ∧ (activate t loadId s).uptime = s.uptime ∧
      (activate t loadId s).ttr = s.ttr ∧ (activate t loadId s).scm = s.scm ∧ (activate t loadId s).pbk = s.pbk ∧
      (activate t loadId s).sda = s.sda ∧ (activate t loadId s).jrn = s.jrn ∧ (activate t loadId s).day = s.day ∧
      (activate t loadId s).slc = s.slc ∧ (activate t loadId s).blc = s.blc ∧ (activate t loadId s).mrs = s.mrs ∧
      (activate t loadId s).rts = s.rts := by
  unfold activate; (try dsimp only); (repeat' split) <;> simp

@[simp] theorem recomposePrompt_keeps (st : Station) (s : State) :
    (recomposePrompt st s).pending = s.pending ∧ (recomposePrompt st s).uptime = s.uptime ∧
      (recomposePrompt st s).ttr = s.ttr ∧ (recomposePrompt st s).csh = s.csh ∧
      (recomposePrompt st s).scm.signOn = s.scm.signOn ∧ (recomposePrompt st s).scm.broadcast = s.scm.broadcast ∧
      (recomposePrompt st s).pbk = s.pbk ∧ (recomposePrompt st s).sda = s.sda ∧ (recomposePrompt st s).jrn = s.jrn ∧
      (recomposePrompt st s).day = s.day ∧ (recomposePrompt st s).tbl = s.tbl ∧ (recomposePrompt st s).slc = s.slc ∧
      (recomposePrompt st s).blc = s.blc ∧ (recomposePrompt st s).mrs = s.mrs ∧ (recomposePrompt st s).rts = s.rts := by
  unfold recomposePrompt; (try dsimp only); (repeat' split) <;> simp

@[simp] theorem endLoad_keeps (s : State) :
    (endLoad s).pending = s.pending ∧ (endLoad s).uptime = s.uptime ∧ (endLoad s).ttr = s.ttr ∧
      (endLoad s).csh = s.csh ∧ (endLoad s).scm = s.scm ∧ (endLoad s).pbk = s.pbk ∧ (endLoad s).sda = s.sda ∧
      (endLoad s).jrn = s.jrn ∧ (endLoad s).day = s.day ∧ (endLoad s).slc = s.slc ∧ (endLoad s).blc = s.blc ∧
      (endLoad s).mrs = s.mrs ∧ (endLoad s).rts = s.rts := by
  unfold endLoad; (try dsimp only); (repeat' split) <;> simp

@[simp] theorem forStations_recomposePrompt_keeps (s : State) :
    (forStations recomposePrompt s).pending = s.pending ∧ (forStations recomposePrompt s).uptime = s.uptime ∧
      (forStations recomposePrompt s).ttr = s.ttr ∧ (forStations recomposePrompt s).csh = s.csh ∧
      (forStations recomposePrompt s).scm.signOn = s.scm.signOn ∧
      (forStations recomposePrompt s).scm.broadcast = s.scm.broadcast ∧ (forStations recomposePrompt s).pbk = s.pbk ∧
      (forStations recomposePrompt s).sda = s.sda ∧ (forStations recomposePrompt s).jrn = s.jrn ∧
      (forStations recomposePrompt s).day = s.day ∧ (forStations recomposePrompt s).tbl = s.tbl ∧
      (forStations recomposePrompt s).slc = s.slc ∧ (forStations recomposePrompt s).blc = s.blc ∧
      (forStations recomposePrompt s).mrs = s.mrs ∧ (forStations recomposePrompt s).rts = s.rts := by
  exact ⟨forStations_keeps (fun x => x.pending) _ (by intros; simp) s,
    forStations_keeps (fun x => x.uptime) _ (by intros; simp) s,
    forStations_keeps (fun x => x.ttr) _ (by intros; simp) s,
    forStations_keeps (fun x => x.csh) _ (by intros; simp) s,
    forStations_keeps (fun x => x.scm.signOn) _ (by intros; simp) s,
    forStations_keeps (fun x => x.scm.broadcast) _ (by intros; simp) s,
    forStations_keeps (fun x => x.pbk) _ (by intros; simp) s,
    forStations_keeps (fun x => x.sda) _ (by intros; simp) s,
    forStations_keeps (fun x => x.jrn) _ (by intros; simp) s,
    forStations_keeps (fun x => x.day) _ (by intros; simp) s,
    forStations_keeps (fun x => x.tbl) _ (by intros; simp) s,
    forStations_keeps (fun x => x.slc) _ (by intros; simp) s,
    forStations_keeps (fun x => x.blc) _ (by intros; simp) s,
    forStations_keeps (fun x => x.mrs) _ (by intros; simp) s,
    forStations_keeps (fun x => x.rts) _ (by intros; simp) s⟩

@[simp] theorem commitTable_keeps (t : CheckedTable) (loadId : Nat) (s : State) :
    (commitTable t loadId s).pending = s.pending ∧ (commitTable t loadId s).uptime = s.uptime ∧
      (commitTable t loadId s).ttr = s.ttr ∧ (commitTable t loadId s).scm.signOn = s.scm.signOn ∧
      (commitTable t loadId s).scm.broadcast = s.scm.broadcast ∧ (commitTable t loadId s).pbk = s.pbk ∧
      (commitTable t loadId s).sda.accountMap = s.sda.accountMap ∧ (commitTable t loadId s).sda.queue = s.sda.queue ∧
      (commitTable t loadId s).sda.nextAdvice = s.sda.nextAdvice ∧
      (commitTable t loadId s).sda.unmatchedAcks = s.sda.unmatchedAcks ∧
      (commitTable t loadId s).jrn.lastAccepted = s.jrn.lastAccepted ∧
      (commitTable t loadId s).jrn.printedCursor = s.jrn.printedCursor ∧
      (commitTable t loadId s).jrn.batchCounter = s.jrn.batchCounter ∧
      (commitTable t loadId s).jrn.trickle = s.jrn.trickle ∧ (commitTable t loadId s).jrn.pause = s.jrn.pause ∧
      (commitTable t loadId s).jrn.unmatchedAcks = s.jrn.unmatchedAcks ∧ (commitTable t loadId s).day = s.day ∧
      (commitTable t loadId s).slc = s.slc ∧ (commitTable t loadId s).blc.link = s.blc.link ∧
      (commitTable t loadId s).blc.silence = s.blc.silence ∧
      (commitTable t loadId s).blc.reassembly = s.blc.reassembly ∧
      (commitTable t loadId s).blc.sending = s.blc.sending ∧
      (commitTable t loadId s).blc.linkAnswer = s.blc.linkAnswer ∧
      (commitTable t loadId s).blc.replies = s.blc.replies ∧ (commitTable t loadId s).blc.requests = s.blc.requests ∧
      (commitTable t loadId s).blc.frameCheck = s.blc.frameCheck ∧
      (commitTable t loadId s).blc.frameForm = s.blc.frameForm ∧ (commitTable t loadId s).mrs.places = s.mrs.places ∧
      (commitTable t loadId s).mrs.unmatchedReplies = s.mrs.unmatchedReplies ∧
      (commitTable t loadId s).mrs.overruns = s.mrs.overruns ∧ (commitTable t loadId s).mrs.settings = s.mrs.settings ∧
      (commitTable t loadId s).mrs.clock = s.mrs.clock ∧ (commitTable t loadId s).rts = s.rts := by
  unfold commitTable; (try dsimp only); (repeat' split) <;> simp

@[simp] theorem fillShadow_keeps (id : Nat) (f : Fragment) (shadow : FragmentBody) (s : State) :
    (fillShadow id f shadow s).pending = s.pending ∧ (fillShadow id f shadow s).uptime = s.uptime ∧
      (fillShadow id f shadow s).ttr = s.ttr ∧ (fillShadow id f shadow s).scm.signOn = s.scm.signOn ∧
      (fillShadow id f shadow s).scm.broadcast = s.scm.broadcast ∧ (fillShadow id f shadow s).pbk = s.pbk ∧
      (fillShadow id f shadow s).sda.accountMap = s.sda.accountMap ∧
      (fillShadow id f shadow s).sda.queue = s.sda.queue ∧
      (fillShadow id f shadow s).sda.nextAdvice = s.sda.nextAdvice ∧
      (fillShadow id f shadow s).sda.unmatchedAcks = s.sda.unmatchedAcks ∧
      (fillShadow id f shadow s).jrn.lastAccepted = s.jrn.lastAccepted ∧
      (fillShadow id f shadow s).jrn.printedCursor = s.jrn.printedCursor ∧
      (fillShadow id f shadow s).jrn.batchCounter = s.jrn.batchCounter ∧
      (fillShadow id f shadow s).jrn.trickle = s.jrn.trickle ∧ (fillShadow id f shadow s).jrn.pause = s.jrn.pause ∧
      (fillShadow id f shadow s).jrn.unmatchedAcks = s.jrn.unmatchedAcks ∧ (fillShadow id f shadow s).day = s.day ∧
      (fillShadow id f shadow s).slc = s.slc ∧ (fillShadow id f shadow s).blc.link = s.blc.link ∧
      (fillShadow id f shadow s).blc.silence = s.blc.silence ∧
      (fillShadow id f shadow s).blc.reassembly = s.blc.reassembly ∧
      (fillShadow id f shadow s).blc.sending = s.blc.sending ∧
      (fillShadow id f shadow s).blc.linkAnswer = s.blc.linkAnswer ∧
      (fillShadow id f shadow s).blc.requests = s.blc.requests ∧
      (fillShadow id f shadow s).blc.frameCheck = s.blc.frameCheck ∧
      (fillShadow id f shadow s).blc.frameForm = s.blc.frameForm ∧
      (fillShadow id f shadow s).mrs.places = s.mrs.places ∧
      (fillShadow id f shadow s).mrs.unmatchedReplies = s.mrs.unmatchedReplies ∧
      (fillShadow id f shadow s).mrs.overruns = s.mrs.overruns ∧
      (fillShadow id f shadow s).mrs.settings = s.mrs.settings ∧ (fillShadow id f shadow s).mrs.clock = s.mrs.clock ∧
      (fillShadow id f shadow s).rts = s.rts := by
  unfold fillShadow; (try dsimp only); (repeat' split) <;> simp

@[simp] theorem takeFragment_keeps (id : Nat) (f : Fragment) (s : State) :
    (takeFragment id f s).pending = s.pending ∧ (takeFragment id f s).uptime = s.uptime ∧
      (takeFragment id f s).ttr = s.ttr ∧ (takeFragment id f s).scm.signOn = s.scm.signOn ∧
      (takeFragment id f s).scm.broadcast = s.scm.broadcast ∧ (takeFragment id f s).pbk = s.pbk ∧
      (takeFragment id f s).sda.accountMap = s.sda.accountMap ∧ (takeFragment id f s).sda.queue = s.sda.queue ∧
      (takeFragment id f s).sda.nextAdvice = s.sda.nextAdvice ∧
      (takeFragment id f s).sda.unmatchedAcks = s.sda.unmatchedAcks ∧
      (takeFragment id f s).jrn.lastAccepted = s.jrn.lastAccepted ∧
      (takeFragment id f s).jrn.printedCursor = s.jrn.printedCursor ∧
      (takeFragment id f s).jrn.batchCounter = s.jrn.batchCounter ∧ (takeFragment id f s).jrn.trickle = s.jrn.trickle ∧
      (takeFragment id f s).jrn.pause = s.jrn.pause ∧ (takeFragment id f s).jrn.unmatchedAcks = s.jrn.unmatchedAcks ∧
      (takeFragment id f s).day = s.day ∧ (takeFragment id f s).slc = s.slc ∧
      (takeFragment id f s).blc.link = s.blc.link ∧ (takeFragment id f s).blc.silence = s.blc.silence ∧
      (takeFragment id f s).blc.reassembly = s.blc.reassembly ∧ (takeFragment id f s).blc.sending = s.blc.sending ∧
      (takeFragment id f s).blc.linkAnswer = s.blc.linkAnswer ∧ (takeFragment id f s).blc.requests = s.blc.requests ∧
      (takeFragment id f s).blc.frameCheck = s.blc.frameCheck ∧ (takeFragment id f s).blc.frameForm = s.blc.frameForm ∧
      (takeFragment id f s).mrs.places = s.mrs.places ∧
      (takeFragment id f s).mrs.unmatchedReplies = s.mrs.unmatchedReplies ∧
      (takeFragment id f s).mrs.overruns = s.mrs.overruns ∧ (takeFragment id f s).mrs.settings = s.mrs.settings ∧
      (takeFragment id f s).mrs.clock = s.mrs.clock ∧ (takeFragment id f s).rts = s.rts := by
  unfold takeFragment; (try dsimp only); (repeat' split) <;> simp

@[simp] theorem takeTableAbort_keeps (id : Nat) (s : State) :
    (takeTableAbort id s).pending = s.pending ∧ (takeTableAbort id s).uptime = s.uptime ∧
      (takeTableAbort id s).ttr = s.ttr ∧ (takeTableAbort id s).csh = s.csh ∧ (takeTableAbort id s).scm = s.scm ∧
      (takeTableAbort id s).pbk = s.pbk ∧ (takeTableAbort id s).sda = s.sda ∧ (takeTableAbort id s).jrn = s.jrn ∧
      (takeTableAbort id s).day = s.day ∧ (takeTableAbort id s).slc = s.slc ∧
      (takeTableAbort id s).blc.link = s.blc.link ∧ (takeTableAbort id s).blc.silence = s.blc.silence ∧
      (takeTableAbort id s).blc.reassembly = s.blc.reassembly ∧ (takeTableAbort id s).blc.sending = s.blc.sending ∧
      (takeTableAbort id s).blc.linkAnswer = s.blc.linkAnswer ∧ (takeTableAbort id s).blc.requests = s.blc.requests ∧
      (takeTableAbort id s).blc.events = s.blc.events ∧ (takeTableAbort id s).blc.frameCheck = s.blc.frameCheck ∧
      (takeTableAbort id s).blc.frameForm = s.blc.frameForm ∧ (takeTableAbort id s).mrs = s.mrs ∧
      (takeTableAbort id s).rts = s.rts := by
  unfold takeTableAbort; (try dsimp only); (repeat' split) <;> simp

@[simp] theorem takeTableRead_keeps (id table first : Nat) (s : State) :
    (takeTableRead id table first s).pending = s.pending ∧ (takeTableRead id table first s).uptime = s.uptime ∧
      (takeTableRead id table first s).ttr = s.ttr ∧ (takeTableRead id table first s).csh = s.csh ∧
      (takeTableRead id table first s).scm = s.scm ∧ (takeTableRead id table first s).pbk = s.pbk ∧
      (takeTableRead id table first s).sda = s.sda ∧ (takeTableRead id table first s).jrn = s.jrn ∧
      (takeTableRead id table first s).day = s.day ∧ (takeTableRead id table first s).tbl = s.tbl ∧
      (takeTableRead id table first s).slc = s.slc ∧ (takeTableRead id table first s).blc.link = s.blc.link ∧
      (takeTableRead id table first s).blc.silence = s.blc.silence ∧
      (takeTableRead id table first s).blc.reassembly = s.blc.reassembly ∧
      (takeTableRead id table first s).blc.sending = s.blc.sending ∧
      (takeTableRead id table first s).blc.linkAnswer = s.blc.linkAnswer ∧
      (takeTableRead id table first s).blc.requests = s.blc.requests ∧
      (takeTableRead id table first s).blc.events = s.blc.events ∧
      (takeTableRead id table first s).blc.frameCheck = s.blc.frameCheck ∧
      (takeTableRead id table first s).blc.frameForm = s.blc.frameForm ∧ (takeTableRead id table first s).mrs = s.mrs ∧
      (takeTableRead id table first s).rts = s.rts := by
  unfold takeTableRead; (try dsimp only); (repeat' split) <;> simp

@[simp] theorem takeSettingsWrite_keeps (id : Nat) (items : List (SettingName × Nat)) (s : State) :
    (takeSettingsWrite id items s).pending = s.pending ∧ (takeSettingsWrite id items s).uptime = s.uptime ∧
      (takeSettingsWrite id items s).ttr = s.ttr ∧ (takeSettingsWrite id items s).csh = s.csh ∧
      (takeSettingsWrite id items s).scm = s.scm ∧ (takeSettingsWrite id items s).pbk = s.pbk ∧
      (takeSettingsWrite id items s).sda = s.sda ∧ (takeSettingsWrite id items s).jrn = s.jrn ∧
      (takeSettingsWrite id items s).day = s.day ∧ (takeSettingsWrite id items s).tbl = s.tbl ∧
      (takeSettingsWrite id items s).slc = s.slc ∧ (takeSettingsWrite id items s).blc.link = s.blc.link ∧
      (takeSettingsWrite id items s).blc.silence = s.blc.silence ∧
      (takeSettingsWrite id items s).blc.reassembly = s.blc.reassembly ∧
      (takeSettingsWrite id items s).blc.sending = s.blc.sending ∧
      (takeSettingsWrite id items s).blc.linkAnswer = s.blc.linkAnswer ∧
      (takeSettingsWrite id items s).blc.requests = s.blc.requests ∧
      (takeSettingsWrite id items s).blc.events = s.blc.events ∧
      (takeSettingsWrite id items s).blc.frameCheck = s.blc.frameCheck ∧
      (takeSettingsWrite id items s).blc.frameForm = s.blc.frameForm ∧
      (takeSettingsWrite id items s).mrs.places = s.mrs.places ∧
      (takeSettingsWrite id items s).mrs.flags = s.mrs.flags ∧
      (takeSettingsWrite id items s).mrs.unmatchedReplies = s.mrs.unmatchedReplies ∧
      (takeSettingsWrite id items s).mrs.overruns = s.mrs.overruns ∧
      (takeSettingsWrite id items s).mrs.clock = s.mrs.clock ∧ (takeSettingsWrite id items s).rts = s.rts := by
  unfold takeSettingsWrite; (try dsimp only); (repeat' split) <;> simp

@[simp] theorem clearRead_keeps (lines : List Nat) (s : State) :
    (clearRead lines s).pending = s.pending ∧ (clearRead lines s).uptime = s.uptime ∧
      (clearRead lines s).ttr = s.ttr ∧ (clearRead lines s).csh = s.csh ∧ (clearRead lines s).scm = s.scm ∧
      (clearRead lines s).pbk = s.pbk ∧ (clearRead lines s).sda.tellerDays = s.sda.tellerDays ∧
      (clearRead lines s).sda.accountMap = s.sda.accountMap ∧ (clearRead lines s).sda.queue = s.sda.queue ∧
      (clearRead lines s).sda.nextAdvice = s.sda.nextAdvice ∧ (clearRead lines s).jrn.entries = s.jrn.entries ∧
      (clearRead lines s).jrn.used = s.jrn.used ∧ (clearRead lines s).jrn.reserved = s.jrn.reserved ∧
      (clearRead lines s).jrn.free = s.jrn.free ∧ (clearRead lines s).jrn.nextSeq = s.jrn.nextSeq ∧
      (clearRead lines s).jrn.lastAccepted = s.jrn.lastAccepted ∧
      (clearRead lines s).jrn.printedCursor = s.jrn.printedCursor ∧
      (clearRead lines s).jrn.batchCounter = s.jrn.batchCounter ∧ (clearRead lines s).jrn.trickle = s.jrn.trickle ∧
      (clearRead lines s).jrn.pause = s.jrn.pause ∧ (clearRead lines s).day = s.day ∧ (clearRead lines s).tbl = s.tbl ∧
      (clearRead lines s).slc.samples = s.slc.samples ∧ (clearRead lines s).blc.link = s.blc.link ∧
      (clearRead lines s).blc.silence = s.blc.silence ∧ (clearRead lines s).blc.reassembly = s.blc.reassembly ∧
      (clearRead lines s).blc.sending = s.blc.sending ∧ (clearRead lines s).blc.linkAnswer = s.blc.linkAnswer ∧
      (clearRead lines s).blc.replies = s.blc.replies ∧ (clearRead lines s).blc.requests = s.blc.requests ∧
      (clearRead lines s).blc.events = s.blc.events ∧ (clearRead lines s).mrs.places = s.mrs.places ∧
      (clearRead lines s).mrs.settings = s.mrs.settings ∧ (clearRead lines s).mrs.clock = s.mrs.clock ∧
      (clearRead lines s).rts = s.rts := by
  unfold clearRead; (try dsimp only); (repeat' split) <;> simp

@[simp] theorem takeStatusRead_keeps (id : Nat) (lines : List Nat) (s : State) :
    (takeStatusRead id lines s).pending = s.pending ∧ (takeStatusRead id lines s).uptime = s.uptime ∧
      (takeStatusRead id lines s).ttr = s.ttr ∧ (takeStatusRead id lines s).csh = s.csh ∧
      (takeStatusRead id lines s).scm = s.scm ∧ (takeStatusRead id lines s).pbk = s.pbk ∧
      (takeStatusRead id lines s).sda.tellerDays = s.sda.tellerDays ∧
      (takeStatusRead id lines s).sda.accountMap = s.sda.accountMap ∧
      (takeStatusRead id lines s).sda.queue = s.sda.queue ∧
      (takeStatusRead id lines s).sda.nextAdvice = s.sda.nextAdvice ∧
      (takeStatusRead id lines s).jrn.entries = s.jrn.entries ∧ (takeStatusRead id lines s).jrn.used = s.jrn.used ∧
      (takeStatusRead id lines s).jrn.reserved = s.jrn.reserved ∧ (takeStatusRead id lines s).jrn.free = s.jrn.free ∧
      (takeStatusRead id lines s).jrn.nextSeq = s.jrn.nextSeq ∧
      (takeStatusRead id lines s).jrn.lastAccepted = s.jrn.lastAccepted ∧
      (takeStatusRead id lines s).jrn.printedCursor = s.jrn.printedCursor ∧
      (takeStatusRead id lines s).jrn.batchCounter = s.jrn.batchCounter ∧
      (takeStatusRead id lines s).jrn.trickle = s.jrn.trickle ∧ (takeStatusRead id lines s).jrn.pause = s.jrn.pause ∧
      (takeStatusRead id lines s).day = s.day ∧ (takeStatusRead id lines s).tbl = s.tbl ∧
      (takeStatusRead id lines s).slc.samples = s.slc.samples ∧ (takeStatusRead id lines s).blc.link = s.blc.link ∧
      (takeStatusRead id lines s).blc.silence = s.blc.silence ∧
      (takeStatusRead id lines s).blc.reassembly = s.blc.reassembly ∧
      (takeStatusRead id lines s).blc.sending = s.blc.sending ∧
      (takeStatusRead id lines s).blc.linkAnswer = s.blc.linkAnswer ∧
      (takeStatusRead id lines s).blc.requests = s.blc.requests ∧
      (takeStatusRead id lines s).blc.events = s.blc.events ∧ (takeStatusRead id lines s).mrs.places = s.mrs.places ∧
      (takeStatusRead id lines s).mrs.settings = s.mrs.settings ∧ (takeStatusRead id lines s).mrs.clock = s.mrs.clock ∧
      (takeStatusRead id lines s).rts = s.rts := by
  unfold takeStatusRead; (try dsimp only); (repeat' split) <;> simp

@[simp] theorem takeClockSet_keeps (id secs : Nat) (s : State) :
    (takeClockSet id secs s).pending = s.pending ∧ (takeClockSet id secs s).uptime = s.uptime ∧
      (takeClockSet id secs s).ttr = s.ttr ∧ (takeClockSet id secs s).csh = s.csh ∧
      (takeClockSet id secs s).scm = s.scm ∧ (takeClockSet id secs s).pbk = s.pbk ∧
      (takeClockSet id secs s).sda = s.sda ∧ (takeClockSet id secs s).jrn = s.jrn ∧
      (takeClockSet id secs s).day = s.day ∧ (takeClockSet id secs s).tbl = s.tbl ∧
      (takeClockSet id secs s).slc = s.slc ∧ (takeClockSet id secs s).blc.link = s.blc.link ∧
      (takeClockSet id secs s).blc.silence = s.blc.silence ∧
      (takeClockSet id secs s).blc.reassembly = s.blc.reassembly ∧
      (takeClockSet id secs s).blc.sending = s.blc.sending ∧
      (takeClockSet id secs s).blc.linkAnswer = s.blc.linkAnswer ∧
      (takeClockSet id secs s).blc.requests = s.blc.requests ∧ (takeClockSet id secs s).blc.events = s.blc.events ∧
      (takeClockSet id secs s).blc.frameCheck = s.blc.frameCheck ∧
      (takeClockSet id secs s).blc.frameForm = s.blc.frameForm ∧ (takeClockSet id secs s).mrs.places = s.mrs.places ∧
      (takeClockSet id secs s).mrs.flags = s.mrs.flags ∧
      (takeClockSet id secs s).mrs.unmatchedReplies = s.mrs.unmatchedReplies ∧
      (takeClockSet id secs s).mrs.overruns = s.mrs.overruns ∧ (takeClockSet id secs s).mrs.settings = s.mrs.settings ∧
      (takeClockSet id secs s).rts = s.rts := by
  unfold takeClockSet; (try dsimp only); (repeat' split) <;> simp

@[simp] theorem takeDayCutoff_keeps (id : Nat) (s : State) :
    (takeDayCutoff id s).pending = s.pending ∧ (takeDayCutoff id s).uptime = s.uptime ∧
      (takeDayCutoff id s).ttr = s.ttr ∧ (takeDayCutoff id s).csh = s.csh ∧
      (takeDayCutoff id s).scm.signOn = s.scm.signOn ∧ (takeDayCutoff id s).scm.broadcast = s.scm.broadcast ∧
      (takeDayCutoff id s).pbk = s.pbk ∧ (takeDayCutoff id s).sda.accountMap = s.sda.accountMap ∧
      (takeDayCutoff id s).sda.queue = s.sda.queue ∧ (takeDayCutoff id s).sda.nextAdvice = s.sda.nextAdvice ∧
      (takeDayCutoff id s).sda.unmatchedAcks = s.sda.unmatchedAcks ∧
      (takeDayCutoff id s).jrn.lastAccepted = s.jrn.lastAccepted ∧
      (takeDayCutoff id s).jrn.printedCursor = s.jrn.printedCursor ∧
      (takeDayCutoff id s).jrn.batchCounter = s.jrn.batchCounter ∧ (takeDayCutoff id s).jrn.trickle = s.jrn.trickle ∧
      (takeDayCutoff id s).jrn.pause = s.jrn.pause ∧ (takeDayCutoff id s).jrn.unmatchedAcks = s.jrn.unmatchedAcks ∧
      (takeDayCutoff id s).day.date = s.day.date ∧ (takeDayCutoff id s).day.drawerMarks = s.day.drawerMarks ∧
      (takeDayCutoff id s).day.reserveMark = s.day.reserveMark ∧ (takeDayCutoff id s).tbl = s.tbl ∧
      (takeDayCutoff id s).slc = s.slc ∧ (takeDayCutoff id s).blc.link = s.blc.link ∧
      (takeDayCutoff id s).blc.silence = s.blc.silence ∧ (takeDayCutoff id s).blc.reassembly = s.blc.reassembly ∧
      (takeDayCutoff id s).blc.sending = s.blc.sending ∧ (takeDayCutoff id s).blc.linkAnswer = s.blc.linkAnswer ∧
      (takeDayCutoff id s).blc.requests = s.blc.requests ∧ (takeDayCutoff id s).blc.frameCheck = s.blc.frameCheck ∧
      (takeDayCutoff id s).blc.frameForm = s.blc.frameForm ∧ (takeDayCutoff id s).mrs.places = s.mrs.places ∧
      (takeDayCutoff id s).mrs.unmatchedReplies = s.mrs.unmatchedReplies ∧
      (takeDayCutoff id s).mrs.overruns = s.mrs.overruns ∧ (takeDayCutoff id s).mrs.settings = s.mrs.settings ∧
      (takeDayCutoff id s).mrs.clock = s.mrs.clock ∧ (takeDayCutoff id s).rts = s.rts := by
  unfold takeDayCutoff; (try dsimp only); (repeat' split) <;> simp

@[simp] theorem forceOff_keeps (st : Station) (s : State) :
    (forceOff st s).pending = s.pending ∧ (forceOff st s).uptime = s.uptime ∧ (forceOff st s).ttr = s.ttr ∧
      (forceOff st s).csh = s.csh ∧ (forceOff st s).scm.broadcast = s.scm.broadcast ∧ (forceOff st s).pbk = s.pbk ∧
      (forceOff st s).sda.accountMap = s.sda.accountMap ∧ (forceOff st s).sda.queue = s.sda.queue ∧
      (forceOff st s).sda.nextAdvice = s.sda.nextAdvice ∧ (forceOff st s).sda.unmatchedAcks = s.sda.unmatchedAcks ∧
      (forceOff st s).jrn = s.jrn ∧ (forceOff st s).day = s.day ∧ (forceOff st s).tbl = s.tbl ∧
      (forceOff st s).slc = s.slc ∧ (forceOff st s).blc = s.blc ∧ (forceOff st s).mrs = s.mrs ∧
      (forceOff st s).rts = s.rts := by
  unfold forceOff; (try dsimp only); (repeat' split) <;> simp

@[simp] theorem forStations_forceOff_keeps (s : State) :
    (forStations forceOff s).pending = s.pending ∧ (forStations forceOff s).uptime = s.uptime ∧
      (forStations forceOff s).ttr = s.ttr ∧ (forStations forceOff s).csh = s.csh ∧
      (forStations forceOff s).scm.broadcast = s.scm.broadcast ∧ (forStations forceOff s).pbk = s.pbk ∧
      (forStations forceOff s).sda.accountMap = s.sda.accountMap ∧ (forStations forceOff s).sda.queue = s.sda.queue ∧
      (forStations forceOff s).sda.nextAdvice = s.sda.nextAdvice ∧
      (forStations forceOff s).sda.unmatchedAcks = s.sda.unmatchedAcks ∧ (forStations forceOff s).jrn = s.jrn ∧
      (forStations forceOff s).day = s.day ∧ (forStations forceOff s).tbl = s.tbl ∧
      (forStations forceOff s).slc = s.slc ∧ (forStations forceOff s).blc = s.blc ∧
      (forStations forceOff s).mrs = s.mrs ∧ (forStations forceOff s).rts = s.rts := by
  exact ⟨forStations_keeps (fun x => x.pending) _ (by intros; simp) s,
    forStations_keeps (fun x => x.uptime) _ (by intros; simp) s,
    forStations_keeps (fun x => x.ttr) _ (by intros; simp) s,
    forStations_keeps (fun x => x.csh) _ (by intros; simp) s,
    forStations_keeps (fun x => x.scm.broadcast) _ (by intros; simp) s,
    forStations_keeps (fun x => x.pbk) _ (by intros; simp) s,
    forStations_keeps (fun x => x.sda.accountMap) _ (by intros; simp) s,
    forStations_keeps (fun x => x.sda.queue) _ (by intros; simp) s,
    forStations_keeps (fun x => x.sda.nextAdvice) _ (by intros; simp) s,
    forStations_keeps (fun x => x.sda.unmatchedAcks) _ (by intros; simp) s,
    forStations_keeps (fun x => x.jrn) _ (by intros; simp) s,
    forStations_keeps (fun x => x.day) _ (by intros; simp) s,
    forStations_keeps (fun x => x.tbl) _ (by intros; simp) s,
    forStations_keeps (fun x => x.slc) _ (by intros; simp) s,
    forStations_keeps (fun x => x.blc) _ (by intros; simp) s,
    forStations_keeps (fun x => x.mrs) _ (by intros; simp) s,
    forStations_keeps (fun x => x.rts) _ (by intros; simp) s⟩

@[simp] theorem takeDayForce_keeps (id : Nat) (s : State) :
    (takeDayForce id s).pending = s.pending ∧ (takeDayForce id s).uptime = s.uptime ∧
      (takeDayForce id s).ttr = s.ttr ∧ (takeDayForce id s).csh = s.csh ∧
      (takeDayForce id s).scm.broadcast = s.scm.broadcast ∧ (takeDayForce id s).pbk = s.pbk ∧
      (takeDayForce id s).sda.accountMap = s.sda.accountMap ∧ (takeDayForce id s).sda.queue = s.sda.queue ∧
      (takeDayForce id s).sda.nextAdvice = s.sda.nextAdvice ∧
      (takeDayForce id s).sda.unmatchedAcks = s.sda.unmatchedAcks ∧
      (takeDayForce id s).jrn.lastAccepted = s.jrn.lastAccepted ∧
      (takeDayForce id s).jrn.printedCursor = s.jrn.printedCursor ∧
      (takeDayForce id s).jrn.batchCounter = s.jrn.batchCounter ∧ (takeDayForce id s).jrn.trickle = s.jrn.trickle ∧
      (takeDayForce id s).jrn.pause = s.jrn.pause ∧ (takeDayForce id s).jrn.unmatchedAcks = s.jrn.unmatchedAcks ∧
      (takeDayForce id s).day.date = s.day.date ∧ (takeDayForce id s).tbl = s.tbl ∧ (takeDayForce id s).slc = s.slc ∧
      (takeDayForce id s).blc.link = s.blc.link ∧ (takeDayForce id s).blc.silence = s.blc.silence ∧
      (takeDayForce id s).blc.reassembly = s.blc.reassembly ∧ (takeDayForce id s).blc.sending = s.blc.sending ∧
      (takeDayForce id s).blc.linkAnswer = s.blc.linkAnswer ∧ (takeDayForce id s).blc.requests = s.blc.requests ∧
      (takeDayForce id s).blc.frameCheck = s.blc.frameCheck ∧ (takeDayForce id s).blc.frameForm = s.blc.frameForm ∧
      (takeDayForce id s).mrs.places = s.mrs.places ∧
      (takeDayForce id s).mrs.unmatchedReplies = s.mrs.unmatchedReplies ∧
      (takeDayForce id s).mrs.overruns = s.mrs.overruns ∧ (takeDayForce id s).mrs.settings = s.mrs.settings ∧
      (takeDayForce id s).mrs.clock = s.mrs.clock ∧ (takeDayForce id s).rts = s.rts := by
  unfold takeDayForce; (try dsimp only); (repeat' split) <;> simp

@[simp] theorem takeSettleRetry_keeps (id : Nat) (s : State) :
    (takeSettleRetry id s).pending = s.pending ∧ (takeSettleRetry id s).uptime = s.uptime ∧
      (takeSettleRetry id s).ttr = s.ttr ∧ (takeSettleRetry id s).csh = s.csh ∧
      (takeSettleRetry id s).scm.signOn = s.scm.signOn ∧ (takeSettleRetry id s).scm.broadcast = s.scm.broadcast ∧
      (takeSettleRetry id s).pbk = s.pbk ∧ (takeSettleRetry id s).sda.accountMap = s.sda.accountMap ∧
      (takeSettleRetry id s).sda.queue = s.sda.queue ∧ (takeSettleRetry id s).sda.nextAdvice = s.sda.nextAdvice ∧
      (takeSettleRetry id s).sda.unmatchedAcks = s.sda.unmatchedAcks ∧
      (takeSettleRetry id s).jrn.lastAccepted = s.jrn.lastAccepted ∧
      (takeSettleRetry id s).jrn.printedCursor = s.jrn.printedCursor ∧
      (takeSettleRetry id s).jrn.batchCounter = s.jrn.batchCounter ∧
      (takeSettleRetry id s).jrn.trickle = s.jrn.trickle ∧ (takeSettleRetry id s).jrn.pause = s.jrn.pause ∧
      (takeSettleRetry id s).jrn.unmatchedAcks = s.jrn.unmatchedAcks ∧ (takeSettleRetry id s).day.date = s.day.date ∧
      (takeSettleRetry id s).day.drawerMarks = s.day.drawerMarks ∧
      (takeSettleRetry id s).day.reserveMark = s.day.reserveMark ∧ (takeSettleRetry id s).tbl = s.tbl ∧
      (takeSettleRetry id s).slc = s.slc ∧ (takeSettleRetry id s).blc.link = s.blc.link ∧
      (takeSettleRetry id s).blc.silence = s.blc.silence ∧ (takeSettleRetry id s).blc.reassembly = s.blc.reassembly ∧
      (takeSettleRetry id s).blc.sending = s.blc.sending ∧ (takeSettleRetry id s).blc.linkAnswer = s.blc.linkAnswer ∧
      (takeSettleRetry id s).blc.requests = s.blc.requests ∧ (takeSettleRetry id s).blc.frameCheck = s.blc.frameCheck ∧
      (takeSettleRetry id s).blc.frameForm = s.blc.frameForm ∧ (takeSettleRetry id s).mrs.places = s.mrs.places ∧
      (takeSettleRetry id s).mrs.unmatchedReplies = s.mrs.unmatchedReplies ∧
      (takeSettleRetry id s).mrs.overruns = s.mrs.overruns ∧ (takeSettleRetry id s).mrs.settings = s.mrs.settings ∧
      (takeSettleRetry id s).mrs.clock = s.mrs.clock ∧ (takeSettleRetry id s).rts = s.rts := by
  unfold takeSettleRetry; (try dsimp only); (repeat' split) <;> simp

@[simp] theorem takeDateRoll_keeps (id : Nat) (d : Date) (s : State) :
    (takeDateRoll id d s).pending = s.pending ∧ (takeDateRoll id d s).uptime = s.uptime ∧
      (takeDateRoll id d s).ttr = s.ttr ∧ (takeDateRoll id d s).scm.signOn = s.scm.signOn ∧
      (takeDateRoll id d s).scm.broadcast = s.scm.broadcast ∧ (takeDateRoll id d s).pbk = s.pbk ∧
      (takeDateRoll id d s).sda.queue = s.sda.queue ∧ (takeDateRoll id d s).sda.unmatchedAcks = s.sda.unmatchedAcks ∧
      (takeDateRoll id d s).jrn.trickle = s.jrn.trickle ∧ (takeDateRoll id d s).jrn.pause = s.jrn.pause ∧
      (takeDateRoll id d s).jrn.unmatchedAcks = s.jrn.unmatchedAcks ∧ (takeDateRoll id d s).tbl = s.tbl ∧
      (takeDateRoll id d s).slc = s.slc ∧ (takeDateRoll id d s).blc.link = s.blc.link ∧
      (takeDateRoll id d s).blc.silence = s.blc.silence ∧ (takeDateRoll id d s).blc.reassembly = s.blc.reassembly ∧
      (takeDateRoll id d s).blc.sending = s.blc.sending ∧ (takeDateRoll id d s).blc.linkAnswer = s.blc.linkAnswer ∧
      (takeDateRoll id d s).blc.requests = s.blc.requests ∧ (takeDateRoll id d s).blc.frameCheck = s.blc.frameCheck ∧
      (takeDateRoll id d s).blc.frameForm = s.blc.frameForm ∧ (takeDateRoll id d s).mrs.places = s.mrs.places ∧
      (takeDateRoll id d s).mrs.unmatchedReplies = s.mrs.unmatchedReplies ∧
      (takeDateRoll id d s).mrs.overruns = s.mrs.overruns ∧ (takeDateRoll id d s).mrs.settings = s.mrs.settings ∧
      (takeDateRoll id d s).mrs.clock = s.mrs.clock ∧ (takeDateRoll id d s).rts = s.rts := by
  unfold takeDateRoll; (try dsimp only); (repeat' split) <;> simp

@[simp] theorem setBroadcast_keeps (b : Option Broadcast) (s : State) :
    (setBroadcast b s).pending = s.pending ∧ (setBroadcast b s).uptime = s.uptime ∧ (setBroadcast b s).ttr = s.ttr ∧
      (setBroadcast b s).csh = s.csh ∧ (setBroadcast b s).scm.signOn = s.scm.signOn ∧ (setBroadcast b s).pbk = s.pbk ∧
      (setBroadcast b s).sda = s.sda ∧ (setBroadcast b s).jrn = s.jrn ∧ (setBroadcast b s).day = s.day ∧
      (setBroadcast b s).tbl = s.tbl ∧ (setBroadcast b s).slc = s.slc ∧ (setBroadcast b s).blc = s.blc ∧
      (setBroadcast b s).mrs = s.mrs ∧ (setBroadcast b s).rts = s.rts := by
  unfold setBroadcast; (try dsimp only); (repeat' split) <;> simp

@[simp] theorem takeBroadcast_keeps (id : Nat) (text : Text) (expiry : Nat) (s : State) :
    (takeBroadcast id text expiry s).pending = s.pending ∧ (takeBroadcast id text expiry s).uptime = s.uptime ∧
      (takeBroadcast id text expiry s).ttr = s.ttr ∧ (takeBroadcast id text expiry s).csh = s.csh ∧
      (takeBroadcast id text expiry s).scm.signOn = s.scm.signOn ∧ (takeBroadcast id text expiry s).pbk = s.pbk ∧
      (takeBroadcast id text expiry s).sda = s.sda ∧ (takeBroadcast id text expiry s).jrn = s.jrn ∧
      (takeBroadcast id text expiry s).day = s.day ∧ (takeBroadcast id text expiry s).tbl = s.tbl ∧
      (takeBroadcast id text expiry s).slc = s.slc ∧ (takeBroadcast id text expiry s).blc.link = s.blc.link ∧
      (takeBroadcast id text expiry s).blc.silence = s.blc.silence ∧
      (takeBroadcast id text expiry s).blc.reassembly = s.blc.reassembly ∧
      (takeBroadcast id text expiry s).blc.sending = s.blc.sending ∧
      (takeBroadcast id text expiry s).blc.linkAnswer = s.blc.linkAnswer ∧
      (takeBroadcast id text expiry s).blc.requests = s.blc.requests ∧
      (takeBroadcast id text expiry s).blc.events = s.blc.events ∧
      (takeBroadcast id text expiry s).blc.frameCheck = s.blc.frameCheck ∧
      (takeBroadcast id text expiry s).blc.frameForm = s.blc.frameForm ∧ (takeBroadcast id text expiry s).mrs = s.mrs ∧
      (takeBroadcast id text expiry s).rts = s.rts := by
  unfold takeBroadcast; (try dsimp only); (repeat' split) <;> simp

@[simp] theorem startWatch_keeps (st : Station) (s : State) :
    (startWatch st s).pending = s.pending ∧ (startWatch st s).uptime = s.uptime ∧ (startWatch st s).ttr = s.ttr ∧
      (startWatch st s).csh = s.csh ∧ (startWatch st s).scm = s.scm ∧ (startWatch st s).pbk = s.pbk ∧
      (startWatch st s).sda = s.sda ∧ (startWatch st s).jrn = s.jrn ∧ (startWatch st s).day = s.day ∧
      (startWatch st s).tbl = s.tbl ∧ (startWatch st s).slc.samples = s.slc.samples ∧ (startWatch st s).blc = s.blc ∧
      (startWatch st s).mrs = s.mrs ∧ (startWatch st s).rts = s.rts := by
  unfold startWatch; (try dsimp only); (repeat' split) <;> simp

@[simp] theorem returnReserved_keeps (s : State) :
    (returnReserved s).pending = s.pending ∧ (returnReserved s).uptime = s.uptime ∧ (returnReserved s).ttr = s.ttr ∧
      (returnReserved s).csh = s.csh ∧ (returnReserved s).scm = s.scm ∧ (returnReserved s).pbk = s.pbk ∧
      (returnReserved s).sda = s.sda ∧ (returnReserved s).jrn.entries = s.jrn.entries ∧
      (returnReserved s).jrn.used = s.jrn.used ∧ (returnReserved s).jrn.nextSeq = s.jrn.nextSeq ∧
      (returnReserved s).jrn.lastAccepted = s.jrn.lastAccepted ∧
      (returnReserved s).jrn.printedCursor = s.jrn.printedCursor ∧ (returnReserved s).jrn.notStored = s.jrn.notStored ∧
      (returnReserved s).jrn.batchCounter = s.jrn.batchCounter ∧ (returnReserved s).jrn.trickle = s.jrn.trickle ∧
      (returnReserved s).jrn.pause = s.jrn.pause ∧ (returnReserved s).jrn.unmatchedAcks = s.jrn.unmatchedAcks ∧
      (returnReserved s).day = s.day ∧ (returnReserved s).tbl = s.tbl ∧ (returnReserved s).slc = s.slc ∧
      (returnReserved s).blc = s.blc ∧ (returnReserved s).mrs = s.mrs ∧ (returnReserved s).rts = s.rts := by
  unfold returnReserved; (try dsimp only); (repeat' split) <;> simp

@[simp] theorem restartReservation_keeps (s : State) (r : Reservation) :
    (restartReservation s r).pending = s.pending ∧ (restartReservation s r).uptime = s.uptime ∧
      (restartReservation s r).ttr = s.ttr ∧ (restartReservation s r).csh = s.csh ∧
      (restartReservation s r).scm = s.scm ∧ (restartReservation s r).pbk = s.pbk ∧
      (restartReservation s r).sda.accountMap = s.sda.accountMap ∧
      (restartReservation s r).sda.unmatchedAcks = s.sda.unmatchedAcks ∧
      (restartReservation s r).jrn.lastAccepted = s.jrn.lastAccepted ∧
      (restartReservation s r).jrn.printedCursor = s.jrn.printedCursor ∧
      (restartReservation s r).jrn.batchCounter = s.jrn.batchCounter ∧
      (restartReservation s r).jrn.trickle = s.jrn.trickle ∧ (restartReservation s r).jrn.pause = s.jrn.pause ∧
      (restartReservation s r).jrn.unmatchedAcks = s.jrn.unmatchedAcks ∧ (restartReservation s r).day = s.day ∧
      (restartReservation s r).tbl = s.tbl ∧ (restartReservation s r).slc = s.slc ∧
      (restartReservation s r).blc.link = s.blc.link ∧ (restartReservation s r).blc.silence = s.blc.silence ∧
      (restartReservation s r).blc.reassembly = s.blc.reassembly ∧
      (restartReservation s r).blc.sending = s.blc.sending ∧
      (restartReservation s r).blc.linkAnswer = s.blc.linkAnswer ∧
      (restartReservation s r).blc.replies = s.blc.replies ∧ (restartReservation s r).blc.requests = s.blc.requests ∧
      (restartReservation s r).blc.frameCheck = s.blc.frameCheck ∧
      (restartReservation s r).blc.frameForm = s.blc.frameForm ∧ (restartReservation s r).mrs.places = s.mrs.places ∧
      (restartReservation s r).mrs.unmatchedReplies = s.mrs.unmatchedReplies ∧
      (restartReservation s r).mrs.overruns = s.mrs.overruns ∧ (restartReservation s r).mrs.settings = s.mrs.settings ∧
      (restartReservation s r).mrs.clock = s.mrs.clock ∧ (restartReservation s r).rts = s.rts := by
  unfold restartReservation; (try dsimp only); (repeat' split) <;> simp

@[simp] theorem restartAdvices_keeps (s : State) :
    (restartAdvices s).pending = s.pending ∧ (restartAdvices s).uptime = s.uptime ∧ (restartAdvices s).ttr = s.ttr ∧
      (restartAdvices s).csh = s.csh ∧ (restartAdvices s).scm = s.scm ∧ (restartAdvices s).pbk = s.pbk ∧
      (restartAdvices s).sda.accountMap = s.sda.accountMap ∧
      (restartAdvices s).sda.unmatchedAcks = s.sda.unmatchedAcks ∧
      (restartAdvices s).jrn.lastAccepted = s.jrn.lastAccepted ∧
      (restartAdvices s).jrn.printedCursor = s.jrn.printedCursor ∧
      (restartAdvices s).jrn.batchCounter = s.jrn.batchCounter ∧ (restartAdvices s).jrn.trickle = s.jrn.trickle ∧
      (restartAdvices s).jrn.pause = s.jrn.pause ∧ (restartAdvices s).jrn.unmatchedAcks = s.jrn.unmatchedAcks ∧
      (restartAdvices s).day = s.day ∧ (restartAdvices s).tbl = s.tbl ∧ (restartAdvices s).slc = s.slc ∧
      (restartAdvices s).blc.link = s.blc.link ∧ (restartAdvices s).blc.silence = s.blc.silence ∧
      (restartAdvices s).blc.reassembly = s.blc.reassembly ∧ (restartAdvices s).blc.sending = s.blc.sending ∧
      (restartAdvices s).blc.linkAnswer = s.blc.linkAnswer ∧ (restartAdvices s).blc.replies = s.blc.replies ∧
      (restartAdvices s).blc.requests = s.blc.requests ∧ (restartAdvices s).blc.frameCheck = s.blc.frameCheck ∧
      (restartAdvices s).blc.frameForm = s.blc.frameForm ∧ (restartAdvices s).mrs.places = s.mrs.places ∧
      (restartAdvices s).mrs.unmatchedReplies = s.mrs.unmatchedReplies ∧
      (restartAdvices s).mrs.overruns = s.mrs.overruns ∧ (restartAdvices s).mrs.settings = s.mrs.settings ∧
      (restartAdvices s).mrs.clock = s.mrs.clock ∧ (restartAdvices s).rts = s.rts := by
  unfold restartAdvices; dsimp only
  exact ⟨(foldl_keeps (fun x => x.pending) _ (by intros; simp) _ _).trans (by simp),
    (foldl_keeps (fun x => x.uptime) _ (by intros; simp) _ _).trans (by simp),
    (foldl_keeps (fun x => x.ttr) _ (by intros; simp) _ _).trans (by simp),
    (foldl_keeps (fun x => x.csh) _ (by intros; simp) _ _).trans (by simp),
    (foldl_keeps (fun x => x.scm) _ (by intros; simp) _ _).trans (by simp),
    (foldl_keeps (fun x => x.pbk) _ (by intros; simp) _ _).trans (by simp),
    (foldl_keeps (fun x => x.sda.accountMap) _ (by intros; simp) _ _).trans (by simp),
    (foldl_keeps (fun x => x.sda.unmatchedAcks) _ (by intros; simp) _ _).trans (by simp),
    (foldl_keeps (fun x => x.jrn.lastAccepted) _ (by intros; simp) _ _).trans (by simp),
    (foldl_keeps (fun x => x.jrn.printedCursor) _ (by intros; simp) _ _).trans (by simp),
    (foldl_keeps (fun x => x.jrn.batchCounter) _ (by intros; simp) _ _).trans (by simp),
    (foldl_keeps (fun x => x.jrn.trickle) _ (by intros; simp) _ _).trans (by simp),
    (foldl_keeps (fun x => x.jrn.pause) _ (by intros; simp) _ _).trans (by simp),
    (foldl_keeps (fun x => x.jrn.unmatchedAcks) _ (by intros; simp) _ _).trans (by simp),
    (foldl_keeps (fun x => x.day) _ (by intros; simp) _ _).trans (by simp),
    (foldl_keeps (fun x => x.tbl) _ (by intros; simp) _ _).trans (by simp),
    (foldl_keeps (fun x => x.slc) _ (by intros; simp) _ _).trans (by simp),
    (foldl_keeps (fun x => x.blc.link) _ (by intros; simp) _ _).trans (by simp),
    (foldl_keeps (fun x => x.blc.silence) _ (by intros; simp) _ _).trans (by simp),
    (foldl_keeps (fun x => x.blc.reassembly) _ (by intros; simp) _ _).trans (by simp),
    (foldl_keeps (fun x => x.blc.sending) _ (by intros; simp) _ _).trans (by simp),
    (foldl_keeps (fun x => x.blc.linkAnswer) _ (by intros; simp) _ _).trans (by simp),
    (foldl_keeps (fun x => x.blc.replies) _ (by intros; simp) _ _).trans (by simp),
    (foldl_keeps (fun x => x.blc.requests) _ (by intros; simp) _ _).trans (by simp),
    (foldl_keeps (fun x => x.blc.frameCheck) _ (by intros; simp) _ _).trans (by simp),
    (foldl_keeps (fun x => x.blc.frameForm) _ (by intros; simp) _ _).trans (by simp),
    (foldl_keeps (fun x => x.mrs.places) _ (by intros; simp) _ _).trans (by simp),
    (foldl_keeps (fun x => x.mrs.unmatchedReplies) _ (by intros; simp) _ _).trans (by simp),
    (foldl_keeps (fun x => x.mrs.overruns) _ (by intros; simp) _ _).trans (by simp),
    (foldl_keeps (fun x => x.mrs.settings) _ (by intros; simp) _ _).trans (by simp),
    (foldl_keeps (fun x => x.mrs.clock) _ (by intros; simp) _ _).trans (by simp),
    (foldl_keeps (fun x => x.rts) _ (by intros; simp) _ _).trans (by simp)⟩

@[simp] theorem restartPositions_keeps (s : State) :
    (restartPositions s).pending = s.pending ∧ (restartPositions s).uptime = s.uptime ∧
      (restartPositions s).ttr = s.ttr ∧ (restartPositions s).scm = s.scm ∧ (restartPositions s).pbk = s.pbk ∧
      (restartPositions s).sda = s.sda ∧ (restartPositions s).jrn = s.jrn ∧ (restartPositions s).day = s.day ∧
      (restartPositions s).tbl = s.tbl ∧ (restartPositions s).slc = s.slc ∧ (restartPositions s).blc.link = s.blc.link ∧
      (restartPositions s).blc.silence = s.blc.silence ∧ (restartPositions s).blc.reassembly = s.blc.reassembly ∧
      (restartPositions s).blc.sending = s.blc.sending ∧ (restartPositions s).blc.linkAnswer = s.blc.linkAnswer ∧
      (restartPositions s).blc.replies = s.blc.replies ∧ (restartPositions s).blc.requests = s.blc.requests ∧
      (restartPositions s).blc.frameCheck = s.blc.frameCheck ∧ (restartPositions s).blc.frameForm = s.blc.frameForm ∧
      (restartPositions s).mrs.places = s.mrs.places ∧
      (restartPositions s).mrs.unmatchedReplies = s.mrs.unmatchedReplies ∧
      (restartPositions s).mrs.overruns = s.mrs.overruns ∧ (restartPositions s).mrs.settings = s.mrs.settings ∧
      (restartPositions s).mrs.clock = s.mrs.clock ∧ (restartPositions s).rts = s.rts := by
  unfold restartPositions; (try dsimp only); (repeat' split) <;> simp

@[simp] theorem restartStation_keeps (st : Station) (s : State) :
    (restartStation st s).pending = s.pending ∧ (restartStation st s).uptime = s.uptime ∧
      (restartStation st s).ttr = s.ttr ∧ (restartStation st s).csh = s.csh ∧
      (restartStation st s).scm.signOn = s.scm.signOn ∧ (restartStation st s).scm.broadcast = s.scm.broadcast ∧
      (restartStation st s).sda = s.sda ∧ (restartStation st s).jrn = s.jrn ∧ (restartStation st s).day = s.day ∧
      (restartStation st s).tbl = s.tbl ∧ (restartStation st s).slc = s.slc ∧ (restartStation st s).blc = s.blc ∧
      (restartStation st s).mrs = s.mrs ∧ (restartStation st s).rts = s.rts := by
  unfold restartStation; (try dsimp only); (repeat' split) <;> simp

@[simp] theorem forStations_startWatch_keeps (s : State) :
    (forStations startWatch s).pending = s.pending ∧ (forStations startWatch s).uptime = s.uptime ∧
      (forStations startWatch s).ttr = s.ttr ∧ (forStations startWatch s).csh = s.csh ∧
      (forStations startWatch s).scm = s.scm ∧ (forStations startWatch s).pbk = s.pbk ∧
      (forStations startWatch s).sda = s.sda ∧ (forStations startWatch s).jrn = s.jrn ∧
      (forStations startWatch s).day = s.day ∧ (forStations startWatch s).tbl = s.tbl ∧
      (forStations startWatch s).slc.samples = s.slc.samples ∧ (forStations startWatch s).blc = s.blc ∧
      (forStations startWatch s).mrs = s.mrs ∧ (forStations startWatch s).rts = s.rts := by
  exact ⟨forStations_keeps (fun x => x.pending) _ (by intros; simp) s,
    forStations_keeps (fun x => x.uptime) _ (by intros; simp) s,
    forStations_keeps (fun x => x.ttr) _ (by intros; simp) s,
    forStations_keeps (fun x => x.csh) _ (by intros; simp) s,
    forStations_keeps (fun x => x.scm) _ (by intros; simp) s,
    forStations_keeps (fun x => x.pbk) _ (by intros; simp) s,
    forStations_keeps (fun x => x.sda) _ (by intros; simp) s,
    forStations_keeps (fun x => x.jrn) _ (by intros; simp) s,
    forStations_keeps (fun x => x.day) _ (by intros; simp) s,
    forStations_keeps (fun x => x.tbl) _ (by intros; simp) s,
    forStations_keeps (fun x => x.slc.samples) _ (by intros; simp) s,
    forStations_keeps (fun x => x.blc) _ (by intros; simp) s,
    forStations_keeps (fun x => x.mrs) _ (by intros; simp) s,
    forStations_keeps (fun x => x.rts) _ (by intros; simp) s⟩

@[simp] theorem forStations_restartStation_keeps (s : State) :
    (forStations restartStation s).pending = s.pending ∧ (forStations restartStation s).uptime = s.uptime ∧
      (forStations restartStation s).ttr = s.ttr ∧ (forStations restartStation s).csh = s.csh ∧
      (forStations restartStation s).scm.signOn = s.scm.signOn ∧
      (forStations restartStation s).scm.broadcast = s.scm.broadcast ∧ (forStations restartStation s).sda = s.sda ∧
      (forStations restartStation s).jrn = s.jrn ∧ (forStations restartStation s).day = s.day ∧
      (forStations restartStation s).tbl = s.tbl ∧ (forStations restartStation s).slc = s.slc ∧
      (forStations restartStation s).blc = s.blc ∧ (forStations restartStation s).mrs = s.mrs ∧
      (forStations restartStation s).rts = s.rts := by
  exact ⟨forStations_keeps (fun x => x.pending) _ (by intros; simp) s,
    forStations_keeps (fun x => x.uptime) _ (by intros; simp) s,
    forStations_keeps (fun x => x.ttr) _ (by intros; simp) s,
    forStations_keeps (fun x => x.csh) _ (by intros; simp) s,
    forStations_keeps (fun x => x.scm.signOn) _ (by intros; simp) s,
    forStations_keeps (fun x => x.scm.broadcast) _ (by intros; simp) s,
    forStations_keeps (fun x => x.sda) _ (by intros; simp) s,
    forStations_keeps (fun x => x.jrn) _ (by intros; simp) s,
    forStations_keeps (fun x => x.day) _ (by intros; simp) s,
    forStations_keeps (fun x => x.tbl) _ (by intros; simp) s,
    forStations_keeps (fun x => x.slc) _ (by intros; simp) s,
    forStations_keeps (fun x => x.blc) _ (by intros; simp) s,
    forStations_keeps (fun x => x.mrs) _ (by intros; simp) s,
    forStations_keeps (fun x => x.rts) _ (by intros; simp) s⟩

end Sys2Proof.Machine
end

