-- ==== Sys2Proof/Laws/Operations.lean ====
section
/-! SUPPORT. What the operations that many commands share can do, once each: replacing one line twice, raising flags, taking
a management request, writing an entry, bounded totals, the offer of a book, and numbers passed
over. -/

namespace Sys2Proof.Machine
open Sys2Proof

/-! ## Banks and lines -/

theorem Eight.set_set {α : Type} (v : Eight α) (a : Station) (x y : α) : (v.set a x).set a y = v.set a y := by
  cases a <;> rfl

theorem Eight.set_get {α : Type} (v : Eight α) (a : Station) : v.set a (v.get a) = v := by cases a <;> rfl

theorem Three.set_set {α : Type} (v : Three α) (a : Drop) (x y : α) : (v.set a x).set a y = v.set a y := by
  cases a <;> rfl

theorem Three.set_get {α : Type} (v : Three α) (a : Drop) : v.set a (v.get a) = v := by cases a <;> rfl

@[simp] theorem setLine_setLine (st : Station) (k l : Line) (s : State) :
    setLine st l (setLine st k s) = setLine st l s := by
  simp [setLine, onSlc, Eight.set_set]

theorem setLine_lineOf (st : Station) (s : State) : setLine st (lineOf st s) s = s := by
  simp [setLine, lineOf, onSlc, Eight.set_get]

theorem onLine_eq (st : Station) (f : Line → Line) (s : State) : onLine st f s = setLine st (f (lineOf st s)) s := rfl

/-- Replacing a line by what it is leaves the state. -/
theorem setLine_self {st : Station} {l : Line} {s : State} (h : l = lineOf st s) : setLine st l s = s := by
  rw [h, setLine_lineOf]

/-! ## Flags -/

theorem flagSet_setFlag (f g : EventFlag) (v : EventFlags) :
    flagSet g (setFlag f v) = (flagSet g v || decide (g = f)) := by
  cases f <;> cases g <;> simp [flagSet, setFlag]
  rename_i a b
  by_cases h : b = a <;> simp [h]

theorem raisedOnly_refl (fs : List EventFlag) (s : State) : raisedOnly fs s s :=
  ⟨rfl, fun _ h => h, fun _ _ => rfl, rfl, [], by simp, by simp⟩

theorem raisedOnly_trans {fs : List EventFlag} {s t u : State} (h : raisedOnly fs s t) (k : raisedOnly fs t u) :
    raisedOnly fs s u := by
  obtain ⟨h1, h2, h3, h4, n, h5, h6⟩ := h
  obtain ⟨k1, k2, k3, k4, m, k5, k6⟩ := k
  refine ⟨?_, fun f hf => k2 f (h2 f hf), fun f hf => (k3 f hf).trans (h3 f hf), ?_, n ++ m, ?_, ?_⟩
  · rw [← h1]; have := congrArg (fun x : Mrs => { x with flags := s.mrs.flags }) k1; simpa using this
  · rw [← h4]; have := congrArg (fun x : Blc => { x with events := s.blc.events }) k4; simpa using this
  · rw [k5, h5, List.append_assoc]
  · intro x hx
    rcases List.mem_append.1 hx with hx | hx
    · exact h6 x hx
    · exact k6 x hx

theorem raisedOnly_mono {fs gs : List EventFlag} {s t : State} (h : raisedOnly fs s t) (k : ∀ f ∈ fs, f ∈ gs) :
    raisedOnly gs s t := by
  obtain ⟨h1, h2, h3, h4, n, h5, h6⟩ := h
  exact ⟨h1, h2, fun f hf => h3 f fun hx => hf (k f hx), h4, n, h5, fun x hx => k _ (h6 x hx)⟩

/-- Raising a flag of a list raises only flags of the list. -/
theorem raisedOnly_raiseWith {fs : List EventFlag} {f : EventFlag} (h : f ∈ fs) (st : Option Station) (s : State) :
    raisedOnly fs s (raiseWith f st s) := by
  unfold raiseWith
  dsimp only
  split
  · unfold placeNotice
    split
    · refine ⟨rfl, ?_, ?_, rfl, [], by simp, by simp⟩ <;> intro g hg <;> simp [flagSet_setFlag, hg]
      rintro rfl; exact absurd h hg
    · refine ⟨rfl, ?_, ?_, rfl, [⟨f, s.mrs.clock, st⟩], rfl, ?_⟩
      · intro g hg; simp [flagSet_setFlag, hg]
      · intro g hg; simp [flagSet_setFlag]; rintro rfl; exact absurd h hg
      · simpa using h
  · refine ⟨rfl, ?_, ?_, rfl, [], by simp, by simp⟩ <;> intro g hg <;> simp [flagSet_setFlag, hg]
    rintro rfl; exact absurd h hg

theorem raisedOnly_raise {fs : List EventFlag} {f : EventFlag} (h : f ∈ fs) (s : State) : raisedOnly fs s (raise f s) :=
  raisedOnly_raiseWith h none s

theorem raisedOnly_raiseIf {fs : List EventFlag} {f : EventFlag} (h : f ∈ fs) (b : Bool) (s : State) :
    raisedOnly fs s (raiseIf b f s) := by
  unfold raiseIf; split
  · exact raisedOnly_raise h s
  · exact raisedOnly_refl fs s

theorem flagSet_raiseWith (f : EventFlag) (st : Option Station) (s : State) :
    flagSet f (raiseWith f st s).mrs.flags = true := by
  unfold raiseWith; dsimp only; split <;> simp [flagSet_setFlag]

theorem flagSet_raise (f : EventFlag) (s : State) : flagSet f (raise f s).mrs.flags = true := flagSet_raiseWith f none s

/-- Only flags of a list are raised between states that agree on the flags and on the link's record. -/
theorem raisedOnly_of_eq {fs : List EventFlag} {s t u : State} (h : raisedOnly fs s t) (hm : u.mrs = t.mrs)
    (hb : u.blc = t.blc) : raisedOnly fs s u := by
  unfold raisedOnly at *; rw [hm, hb]; exact h

theorem raisedOnly_from {fs : List EventFlag} {s t u : State} (h : raisedOnly fs t u) (hm : t.mrs = s.mrs)
    (hb : t.blc = s.blc) : raisedOnly fs s u := by
  unfold raisedOnly at *; rw [hm, hb] at h; exact h

/-! ## Management requests -/

theorem stopWaits_eq (s : State) : stopWaits s = false ↔ waitingStops s = 0 := by
  unfold stopWaits waitingStops
  rw [List.countP_eq_zero, List.any_eq_false] <;> rfl

theorem find_waiting {before after : List MgmtPlace} {p : MgmtPlace} (h : ∀ q ∈ before, q.taken = true)
    (hp : p.taken = false) : (before ++ p :: after).find? (fun q => !q.taken) = some p := by
  induction before with
  | nil => simp [hp]
  | cons q rest ih => simp [h q (by simp), ih fun r hr => h r (by simp [hr])]

theorem takeFirst_append {before after : List MgmtPlace} {p : MgmtPlace} (h : ∀ q ∈ before, q.taken = true)
    (hp : p.taken = false) : takeFirst (before ++ p :: after) = before ++ { p with taken := true } :: after := by
  induction before with
  | nil => simp [takeFirst, hp]
  | cons q rest ih =>
    simp [takeFirst, h q (by simp), ih fun r hr => h r (by simp [hr])]

/-- A management request that the MRS takes is carried out by its owner on the state with the buffer as the taking left
it. -/
theorem withRequest_taken {id : Nat} {r : MgmtRequest} {s s1 : State} (h : mgmtTaken id r s s1) (act : State → State) :
    withRequest id r act s = act s1 := by
  obtain ⟨hw, places, rfl, h⟩ := h
  have hs : stopWaits s = false := (stopWaits_eq s).2 hw
  unfold withRequest
  rw [if_neg (by simp [hs])]
  rcases h with ⟨before, after, hp, hb, rfl⟩ | ⟨ha, hl, rfl⟩
  · have hf : firstWaiting s = some ⟨id, r, false⟩ := by unfold firstWaiting; rw [hp]; exact find_waiting hb rfl
    rw [hf]
    simp only [and_self, if_true]
    have ht := takeFirst_append (p := ⟨id, r, false⟩) (after := after) hb rfl
    congr 1
    simp only [onMrs, hp, ht]
  · have hf : firstWaiting s = none := by
      unfold firstWaiting
      rw [List.find?_eq_none]
      intro p hp; simp [ha p hp]
    rw [hf]
    simp only [if_pos hl]
    rfl

theorem mgmtTaken_eq {id : Nat} {r : MgmtRequest} {s s1 : State} (h : mgmtTaken id r s s1) :
    s1 = onMrs (fun m => { m with places := s1.mrs.places }) s := by
  obtain ⟨-, places, rfl, -⟩ := h; rfl

theorem keeps_refl (bs : List Block) (s : State) : keeps bs s s := by simp [keeps]

/-- The refusal of a request that has been taken. -/
theorem requestRefused_of {id : Nat} {r : MgmtRequest} {why : MgmtStatus} {s s1 : State} (h : mgmtTaken id r s s1) :
    requestRefused id why s s1 (refuseRequest id why s1) := by
  obtain ⟨-, places, rfl, -⟩ := h
  simp [requestRefused, requestDone, keeps, replied, refuseRequest, answer]

/-- The reply of a request that has been taken, after an effect that leaves the buffer and the link's record. -/
theorem requestDone_of {id : Nat} {r : MgmtRequest} {status : MgmtStatus} {content : ReplyContent} {bs : List Block}
    {s s1 t : State} (h : mgmtTaken id r s s1) (k : keeps bs s1 t) (hm : t.mrs = s1.mrs) (hb : t.blc = s1.blc) :
    requestDone id status content bs s s1 (answer id status content t) := by
  obtain ⟨-, places, rfl, -⟩ := h
  obtain ⟨k1, k2, k3, k4, k5, k6, k7, k8, k9, k10, k11, -, -, k14⟩ := k
  have lift : ∀ b, b ∉ (Block.mrs :: Block.blc :: bs) → b ∉ bs := fun b hx hb => hx (by simp [hb])
  refine ⟨⟨k1, k2, fun h => k3 (lift _ h), fun h => k4 (lift _ h), fun h => k5 (lift _ h), fun h => k6 (lift _ h),
      fun h => k7 (lift _ h), fun h => k8 (lift _ h), fun h => k9 (lift _ h), fun h => k10 (lift _ h),
      fun h => k11 (lift _ h), fun h => absurd h (by simp), fun h => absurd h (by simp), fun h => k14 (lift _ h)⟩, ?_, ?_⟩
  · simp [answer, hm]
  · simp [replied, answer, hb]

/-! ## Status lines -/

/-- A status line reads nothing but what R71 lists. -/
theorem statusLine_congr {st : Station} {m : Text} {s t : State} (h1 : t.blc.link = s.blc.link)
    (h2 : t.day.state = s.day.state) (h3 : t.scm.signOn = s.scm.signOn) (h4 : drawerOf st t = drawerOf st s)
    (h5 : (lineOf st t).leftOpen = (lineOf st s).leftOpen) (h6 : printerOf st t = printerOf st s)
    (h7 : t.scm.broadcast = s.scm.broadcast) : statusLine st m t = statusLine st m s := by
  simp only [statusLine, statusParts, tellerPart, tellerAt, promptAt, h1, h2, h3, h4, h5, h6, h7]

/-- A context is recomposed alike in states that agree on its line and on what its status line reads. -/
theorem recomposed_congr {st : Station} {c : ScreenContext} {s t : State} (h1 : t.blc.link = s.blc.link)
    (h2 : t.day.state = s.day.state) (h3 : t.scm.signOn = s.scm.signOn) (h4 : drawerOf st t = drawerOf st s)
    (h5 : lineOf st t = lineOf st s) (h6 : printerOf st t = printerOf st s)
    (h7 : t.scm.broadcast = s.scm.broadcast) : recomposed st t c = recomposed st s c := by
  simp only [recomposed, statusLine_congr (m := c.message) h1 h2 h3 h4 (by rw [h5]) h6 h7, h5]

theorem recomposed_refresh (x : Station) (s : State) (a : Station) (c : ScreenContext) :
    recomposed a (refresh x s) c = recomposed a s c := by
  apply recomposed_congr <;> simp [drawerOf, lineOf, printerOf]

theorem contextOf_composeWith (x a : Station) (f : ScreenContext → ScreenContext) (s : State) :
    contextOf a (composeWith x f s) =
      if a = x then (contextOf x s).map fun c => recomposed x s (f c) else contextOf a s := by
  unfold composeWith
  cases hc : contextOf x s with
  | none => by_cases ha : a = x <;> simp [ha, hc]
  | some c => by_cases ha : a = x <;> simp [ha]

theorem contextOf_refresh (x a : Station) (s : State) :
    contextOf a (refresh x s) = if a = x then (contextOf x s).map (recomposed x s) else contextOf a s :=
  contextOf_composeWith x a id s

/-- Refreshing every station recomposes each context once. -/
theorem contextOf_refreshAll (s : State) (st : Station) :
    contextOf st (refreshAll s) = (contextOf st s).map (recomposed st s) := by
  have key : ∀ (xs : List Station) (u : State), xs.Nodup → (∀ a ∈ xs, contextOf a u = contextOf a s) →
      (∀ a c, recomposed a u c = recomposed a s c) →
      contextOf st (xs.foldl (fun acc a => refresh a acc) u) =
        if st ∈ xs then (contextOf st s).map (recomposed st s) else contextOf st u := by
    intro xs
    induction xs with
    | nil => intros; simp
    | cons x xs ih =>
      intro u hn hu hr
      have hn' := List.nodup_cons.1 hn
      have hx := hu x (by simp)
      rw [List.foldl_cons, ih (refresh x u) hn'.2 ?_ fun a c => (recomposed_refresh x u a c).trans (hr a c)]
      · by_cases h1 : st ∈ xs
        · simp [h1]
        · simp only [h1, if_false, List.mem_cons, or_false, contextOf_refresh]
          split
          · rename_i h; subst h; rw [hx]; congr 1; funext c; exact hr _ _
          · rfl
      · intro a ha
        rw [contextOf_refresh, if_neg, hu a (by simp [ha])]
        rintro rfl; exact hn'.1 ha
  have h := key Station.all s (by decide) (fun _ _ => rfl) (fun _ _ => rfl)
  unfold refreshAll forStations
  rw [h, if_pos (Station.mem_all st)]

theorem refreshAll_follow (s : State) : statusLinesFollow s (refreshAll s) := by
  refine ⟨by simp, fun st => ?_⟩
  rw [contextOf_refreshAll]
  congr 1
  funext c
  exact (recomposed_congr (by simp) (by simp) (by simp) (by simp [drawerOf]) (by simp [lineOf]) (by simp [printerOf])
    (by simp)).symm

theorem follow_from {s u t : State} (h : statusLinesFollow u t) (hs : u.scm.signOn = s.scm.signOn)
    (hc : u.scm.contexts = s.scm.contexts) : statusLinesFollow s t := by
  refine ⟨h.1.trans hs, fun st => ?_⟩
  rw [h.2 st]; unfold contextOf; rw [hc]

theorem follow_to {s u t : State} (h : statusLinesFollow s u) (hs : t.scm = u.scm) (h1 : t.blc.link = u.blc.link)
    (h2 : t.day.state = u.day.state) (h4 : ∀ st, drawerOf st t = drawerOf st u) (h5 : t.slc = u.slc)
    (h6 : t.pbk = u.pbk) : statusLinesFollow s t := by
  refine ⟨by rw [hs]; exact h.1, fun st => ?_⟩
  have hc : contextOf st t = contextOf st u := by unfold contextOf; rw [hs]
  rw [hc, h.2 st]
  congr 1
  funext c
  exact (recomposed_congr h1 h2 (by rw [hs]) (h4 st) (by simp [lineOf, h5]) (by simp [printerOf, h6]) (by rw [hs])).symm

/-! ## Writing entries -/

theorem journal_mem (f : EventFlag) (h : f = .journalHighWater ∨ f = .journalFull ∨ f = .counterSaturated) :
    f ∈ journalFlags := by rcases h with rfl | rfl | rfl <;> decide

theorem raisedOnly_countTeller (t : Option Nat) (s : State) : raisedOnly journalFlags s (countTeller t s) := by
  unfold countTeller
  split
  · exact raisedOnly_refl _ _
  · exact raisedOnly_from (raisedOnly_raiseIf (by decide) _ _) rfl rfl

/-- Writing an entry raises no flag but the journal's. -/
theorem raisedOnly_writeEntry (k : Nat) (d : Draft) (s : State) : raisedOnly journalFlags s (writeEntry k d s) := by
  unfold writeEntry
  split
  · exact raisedOnly_from (raisedOnly_raise (by decide) _) rfl rfl
  · refine raisedOnly_trans ?_ (raisedOnly_countTeller _ _)
    unfold noteFree noteUsed
    refine raisedOnly_trans ?_ (raisedOnly_raiseIf (by decide) _ _)
    exact raisedOnly_from (raisedOnly_raiseIf (by decide) _ _) rfl rfl

theorem noteUsed_jrn (n : Nat) (s : State) : (noteUsed n s).jrn = s.jrn := by simp
theorem noteFree_jrn (n : Nat) (s : State) : (noteFree n s).jrn = s.jrn := by simp

/-- An entry that can be stored is written last, from its reservation and the free slots. -/
theorem writeEntry_wrote {k : Nat} {d : Draft} {s : State} (h : canWrite k d s) : wrote k d s (writeEntry k d s) := by
  obtain ⟨h1, h2⟩ := h
  unfold writeEntry
  rw [if_neg (by omega)]
  unfold wrote
  simp [storeEntry, entryOf]

/-- The teller an entry counts for has one transaction more. -/
theorem writeEntry_counted {k : Nat} {d : Draft} {s : State} (h : canWrite k d s) :
    countedFor (countedTeller d) s (writeEntry k d s) := by
  obtain ⟨h1, h2⟩ := h
  unfold writeEntry
  rw [if_neg (by omega)]
  unfold countedFor countTeller
  split
  · rename_i h; simp [h, storeEntry]
  · rename_i n h
    simp only [raiseIf_keeps, h, Option.some.injEq, onSda_sda]
    simp [storeEntry, eq_comm]

/-- An entry that counts for no teller changes none of the SDA's records. -/
theorem writeEntry_sda {k : Nat} {d : Draft} (h : countedTeller d = none) (s : State) :
    (writeEntry k d s).sda = s.sda := by
  unfold writeEntry
  split
  · simp
  · rw [h]; simp [countTeller, storeEntry]

/-! ## Bounded totals (R54) -/

/-- A saturated total stays at its bound, whatever is added. -/
theorem satAdd_saturated {a : Int} (h : totalSaturated a = true) (b : Int) : satAdd a b = a := by
  unfold satAdd; rw [if_pos h]

/-- An addition that stays within the bound is exact. -/
theorem satAdd_exact {a b : Int} (h : totalSaturated a = false) (k : satOver a b = false) : satAdd a b = a + b := by
  unfold satAdd
  simp only [satOver, Bool.or_eq_false_iff, decide_eq_false_iff_not] at k
  rw [if_neg (by simp [h]), if_neg k.1, if_neg k.2]

/-- A total within the bound stays within it. -/
theorem satAdd_bounded {a : Int} (h : a ≤ Config.topTotal) (k : -(Config.topTotal : Int) ≤ a) (b : Int) :
    satAdd a b ≤ Config.topTotal ∧ -(Config.topTotal : Int) ≤ satAdd a b := by
  unfold satAdd
  have hp : (0 : Int) ≤ Config.topTotal := Int.natCast_nonneg _
  split
  · exact ⟨h, k⟩
  · split
    · omega
    · split <;> omega

/-- A branch sum is within the bound of totals. -/
theorem branchSum_bounded (xs : List Int) :
    branchSum xs ≤ Config.topTotal ∧ -(Config.topTotal : Int) ≤ branchSum xs := by
  have key : ∀ (ys : List Int) (a : Int), a ≤ Config.topTotal → -(Config.topTotal : Int) ≤ a →
      ys.foldl satAdd a ≤ Config.topTotal ∧ -(Config.topTotal : Int) ≤ ys.foldl satAdd a := by
    intro ys
    induction ys with
    | nil => intro a h k; exact ⟨h, k⟩
    | cons y ys ih => intro a h k; exact ih _ (satAdd_bounded h k y).1 (satAdd_bounded h k y).2
  exact key xs 0 (by decide) (by decide)

/-! ## Prompts and offers (R91, R93, R95) -/

@[simp] theorem withdrawWait_bookFull : withdrawWait .bookFull = .bookFull := rfl
@[simp] theorem withdrawWait_noPrompt : withdrawWait .noPrompt = .noPrompt := rfl
@[simp] theorem withdrawWait_turnPage : withdrawWait .turnPage = .noPrompt := rfl
@[simp] theorem withdrawWait_wrongBook : withdrawWait .wrongBook = .noPrompt := rfl

/-- A book not the job's own sets WRONG BOOK in TURN_WAIT, whatever the printer's state. -/
theorem offerTurn_other {st : Station} {ready : Bool} {j : Job} {b : Book} {p : Place} {s : State} (h : j.place = some p)
    (k : isJobsBook j b = false) : offerTurn st ready j b s = setPrompt st .wrongBook s := by
  simp [offerTurn, h, k]

/-- The job's own book, while the printer takes a frame, is repaired where its stripe is behind the job's place. -/
theorem offerTurn_behind {st : Station} {j : Job} {b : Book} {p : Place} {s : State} (h : j.place = some p)
    (k : isJobsBook j b = true) (l : placeBefore (bookPlace b) p = true) :
    offerTurn st true j b s = handItem st (.stripeWrite p .repair) s := by
  simp [offerTurn, h, k, l]

/-- The job's own book, while the printer takes a frame, has placement resume where its stripe is not behind. -/
theorem offerTurn_resumes {st : Station} {j : Job} {b : Book} {p : Place} {s : State} (h : j.place = some p)
    (k : isJobsBook j b = true) (l : placeBefore (bookPlace b) p = false) :
    offerTurn st true j b s = beginPlacement st s := by
  simp [offerTurn, h, k, l]

/-! ## The reading of a fragment's header (R155) -/

@[simp] theorem readHeader_nil {α : Type} (f : Bytes → Option (α × Bytes)) : readHeader f [] = some (none, []) := rfl

/-! ## Changes of day state -/

theorem raisedOnly_changeDay (d : DayState) (s : State) : raisedOnly journalFlags s (changeDay d s) := by
  unfold changeDay
  exact raisedOnly_of_eq (raisedOnly_from (s := s) (raisedOnly_writeEntry 0 (dayDraft d s.day.date)
    (onDay (fun x => { x with state := d }) s)) rfl rfl) (by simp) (by simp)

@[simp] theorem changeDay_sda (d : DayState) (s : State) : (changeDay d s).sda = s.sda := by
  unfold changeDay
  simp only [refreshAll_keeps]
  exact writeEntry_sda (by simp [countedTeller, dayDraft]) _

@[simp] theorem changeDay_day (d : DayState) (s : State) : (changeDay d s).day = { s.day with state := d } := by
  unfold changeDay; simp

/-- A change of day state writes its DAY entry, and every status line follows. -/
theorem changeDay_entered (d : DayState) (s : State) : dayEntered d s (changeDay d s) := by
  refine ⟨?_, raisedOnly_changeDay d s, fun h => ?_⟩
  · unfold changeDay; exact follow_from (refreshAll_follow _) (by simp) (by simp)
  · have k := writeEntry_wrote (k := 0) (d := dayDraft d s.day.date) (s := onDay (fun x => { x with state := d }) s) h
    unfold changeDay wrote at *
    simpa using k

/-- A change of day state reaches nothing but the journal, the day, the screens, and the flags with their notices. -/
theorem changeDay_reach (d : DayState) (s : State) : keeps [.scm, .jrn, .day, .blc, .mrs] s (changeDay d s) := by
  simp [keeps]
/-! ## Numbers passed over (R3, R108) -/

/-- The places after a number are those that follow the number after it. -/
theorem wrapNext_at {top n : Nat} (h1 : 1 ≤ n) (h2 : n ≤ top) (k : Nat) :
    (wrapNext top n - 1 + k) % top + 1 = (n - 1 + (k + 1)) % top + 1 := by
  unfold wrapNext
  split
  · congr 2; omega
  · obtain rfl : n = top := by omega
    have : n - 1 + (k + 1) = k + n := by omega
    rw [this, Nat.add_mod_right]; simp

/-- A counter stays from 1 to its top. -/
theorem wrapNext_range {top n : Nat} (h1 : 1 ≤ top) : 1 ≤ wrapNext top n ∧ wrapNext top n ≤ top := by
  unfold wrapNext; split <;> omega

/-- Passing over finds the first number not held, or every number it has tried is held. -/
theorem passOver_or {top : Nat} {held : List Nat} (ht : 1 ≤ top) : ∀ f start, 1 ≤ start → start ≤ top →
    firstFree top start (· ∈ held) (passOver top held f start) ∨
      ∀ j, j < f → (start - 1 + j) % top + 1 ∈ held
  | 0, _, _, _ => .inr fun j h => absurd h (Nat.not_lt_zero j)
  | f + 1, start, h1, h2 => by
    have here : (start - 1) % top + 1 = start := by rw [Nat.mod_eq_of_lt (by omega)]; omega
    unfold passOver
    by_cases hm : start ∈ held
    · obtain ⟨a, b⟩ := wrapNext_range (n := start) ht
      rw [if_pos (by simpa using hm)]
      rcases passOver_or ht f _ a b with ⟨k, hk, hn, hj⟩ | hall
      · refine .inl ⟨k + 1, by rw [hk, wrapNext_at h1 h2], hn, fun j hlt => ?_⟩
        rcases j with _ | j
        · simpa [here] using hm
        · rw [← wrapNext_at h1 h2]; exact hj j (by omega)
      · refine .inr fun j hlt => ?_
        rcases j with _ | j
        · simpa [here] using hm
        · rw [← wrapNext_at h1 h2]; exact hall j (by omega)
    · rw [if_neg (by simpa using hm)]
      exact .inl ⟨0, by simp [here], hm, fun j h => absurd h (Nat.not_lt_zero j)⟩

/-- Passing over gives the first number not held, where fewer are held than there are (R3, R108). -/
theorem passOver_first {top start : Nat} {held : List Nat} (h1 : 1 ≤ start) (h2 : start ≤ top) (hl : held.length < top) :
    firstFree top start (· ∈ held) (passOver top held (held.length + 1) start) := by
  refine (passOver_or (by omega) _ start h1 h2).resolve_right fun h => ?_
  have inj : ((List.range (held.length + 1)).map fun j => (start - 1 + j) % top + 1).Nodup := by
    refine (List.nodup_range).map_on fun a ha b hb e => ?_
    have ha := List.mem_range.1 ha; have hb := List.mem_range.1 hb
    have e := Nat.succ.inj e
    have : a % top = b % top := Nat.ModEq.add_left_cancel' (start - 1) e
    rwa [Nat.mod_eq_of_lt (by omega), Nat.mod_eq_of_lt (by omega)] at this
  have := (inj.subperm (l₂ := held) (by
    intro x hx; obtain ⟨j, hj, rfl⟩ := List.mem_map.1 hx; exact h j (List.mem_range.1 hj))).length_le
  simp at this

end Sys2Proof.Machine
end

