-- ==== Sys2Proof/Machine/LineWire.lean ====
section
/-! DEFINITION. The characters of a station line (section 12.3): the address character, the drop frames the SLC sends in a
select, the journal print line (R126), and how the characters of a drop's answer are read as commands (R203). -/

namespace Sys2Proof.Machine
open Sys2Proof

/-! ## Characters sent -/

/-- The address character: bit 8 set, bit 7 SELECT, bits 1 to 0 the drop (section 12.3). -/
def addressCharacter (select : Bool) (d : Drop) : NineBit :=
  BitVec.ofNat 9 (256 + (if select then 128 else 0) + d.num)

/-- A data character: bit 8 clear, one byte. -/
def dataCharacter (b : Byte) : NineBit := b.zeroExtend 9

/-- A drop frame: kind, length, content, check (section 12.3). -/
def dropFrameBytes (kind : Nat) (content : Bytes) : Bytes :=
  withCheck ([byteOf kind, byteOf content.length] ++ content)

/-- Content in pieces of at most 255 bytes, the first argument bounding their number. -/
def pieces : Nat → Bytes → List Bytes
  | 0, bs => [bs]
  | k + 1, bs => if bs.length ≤ 255 then [bs] else bs.take 255 :: pieces k (bs.drop 255)

/-- The frames of an image: kind 21, the last of several kind 25 (section 12.3). -/
def imageFrames (content : Bytes) : List Bytes :=
  match (pieces 64 content).reverse with
  | [] => []
  | [one] => [dropFrameBytes 21 one]
  | last :: before => before.reverse.map (dropFrameBytes 21) ++ [dropFrameBytes 25 last]

/-- A field marked for input (R67). -/
def inputFieldBytes (f : InputField) : Bytes :=
  [byteOf f.tag, byteOf f.row, byteOf f.column, byteOf f.length, byteOf (fieldKindCode f.kind)] ++ flagBytes f.required

/-- The content of a terminal image: its rows, its input fields and its error tag, an absent tag being one byte 0 with no
presence byte (R64, R67; DESIGN CHOICE, log 12). -/
def terminalBytes (i : TerminalImage) : Bytes :=
  i.rows.flatMap textBytes ++ listBytes inputFieldBytes i.inputs ++ [byteOf (i.errorTag.getD 0)]

/-- The content of a mirror image: its rows (R75; log 12). -/
def mirrorBytes (rows : List Text) : Bytes := rows.flatMap textBytes

/-- The frame of a PRINT_LINE (kind 22: page, line, then four texts, each before its column) or a STRIPE_WRITE (kind 23:
page, line), in the order in which R88 and R94 name them (R201). -/
def printerBytes : ItemBody → Bytes
  | .printLine p texts _ =>
    dropFrameBytes 22 ([byteOf p.page, byteOf p.line] ++ texts.flatMap fun t => textBytes t.2 ++ [byteOf t.1])
  | .stripeWrite p _ => dropFrameBytes 23 [byteOf p.page, byteOf p.line]

/-! ## The journal print line (R126, section 12.4) -/

/-- The name of a day state. -/
def dayStateName : DayState → Text
  | .noDate => "NO_DATE".toList
  | .opened => "OPEN".toList
  | .cutoff => "CUTOFF".toList
  | .settling => "SETTLING".toList
  | .settled => "SETTLED".toList
  | .settleFailed => "SETTLE_FAILED".toList

/-- The name of a TXN outcome. -/
def txnOutcomeName : TxnOutcome → Text
  | .approved => "APPROVED".toList
  | .declined => "DECLINED".toList
  | .timedOut => "TIMED_OUT".toList
  | .linkDown => "LINK_DOWN".toList
  | .abandoned => "ABANDONED".toList
  | .standinApproved => "STANDIN_APPROVED".toList

/-- The name of a local action. -/
def localActionName : LocalAction → Text
  | .signOn => "SIGN_ON".toList
  | .signOff => "SIGN_OFF".toList
  | .toReserve => "TO_RESERVE".toList
  | .fromReserve => "FROM_RESERVE".toList
  | .balance => "BALANCE".toList
  | .positionEnquiry => "POSITION_ENQUIRY".toList

/-- The name of a stripe outcome. -/
def stripeOutcomeName : StripeOutcome → Text
  | .written => "WRITTEN".toList
  | .owed => "OWED".toList
  | .notDue => "NONE".toList

/-- The name of a LATE cause. -/
def lateCauseName : LateCause → Text
  | .expired => "EXPIRED".toList
  | .lateApproval => "LATE_APPROVAL".toList
  | .lateDecline => "LATE_DECLINE".toList
  | .adviceRefused => "ADVICE_REFUSED".toList

/-- The name of an advice kind. -/
def adviceKindName : AdviceKind → Text
  | .standin => "STANDIN".toList
  | .reversal => "REVERSAL".toList
  | .passbookUpdate => "PASSBOOK_UPDATE".toList
  | .alarm => "ALARM".toList

/-- The name of a table. -/
def tableName : TableId → Text
  | .tct => "TCT".toList
  | .sft => "SFT".toList
  | .dnt => "DNT".toList
  | .tlt => "TLT".toList
  | .plt => "PLT".toList

/-- The date of an entry as text, empty when absent. -/
def optionDateText : Option Date → Text
  | some d => dateText d
  | none => []

/-- The fields of an entry's body as texts, its kind first. Enumerated values are written as their names, a transaction code as
its number, and as 0 the serial of a PASSBOOK entry that has none, and the reference sequence and the advice number of a LATE
entry where there is none and its code where it is unknown (DESIGN CHOICE, log 12). The target position of a LOCAL entry that
is no balancing, absent by R117, is written 0 too (DESIGN CHOICE, logs 12 and 14). -/
def bodyTexts : EntryBody → List Text
  | .txn seq code outcome => ["TXN".toList, natText seq, natText code, txnOutcomeName outcome]
  | .localAction seq code action refusal target =>
    ["LOCAL".toList, natText seq, natText code, localActionName action, match refusal with
      | none => "DONE".toList
      | some r => reasonName r, natText target]
  | .passbook seq serial received printed cause outcome =>
    ["PASSBOOK".toList, natText seq, natText (serial.getD 0), natText received, natText printed, endCauseName cause,
      stripeOutcomeName outcome]
  | .late cause seq code number kind =>
    ["LATE".toList, lateCauseName cause, natText seq, natText code, natText number, match kind with
      | none => []
      | some k => adviceKindName k]
  | .alarm time repeats => ["ALARM".toList, natText time.secs, natText repeats]
  | .day state date => ["DAY".toList, dayStateName state, optionDateText date]
  | .table id loadId count => ["TABLE".toList, tableName id, natText loadId, natText count]

/-- The amount part as texts, with the currency decimals. -/
def amountTexts (decimals : Nat) : Option (Int × Int) → List Text
  | some (a, r) => [amountText decimals a, amountText decimals r]
  | none => []

/-- A journal entry as one print line: its fields as text in the order of section 12.4 (the pair count before the body, each
pair's index before its count), joined by spaces, the absent ones left out (R126). The date is year, month and day, the time
of day a count of seconds, and of the flags bit 0 alone is written, as the word CLOCK_UNSET where it is set (DESIGN CHOICE,
log 12). -/
def journalLineText (decimals : Nat) (e : Entry) : Text :=
  joinParts ([natText e.seq, optionDateText e.date, natText e.time.secs, if e.time.unset then "CLOCK_UNSET".toList else []] ++
    (bodyTexts e.draft.body).take 1 ++ [natText ((e.draft.station.map Station.num).getD 0),
      match e.draft.teller with
      | some t => natText t
      | none => [], natText e.draft.breakdown.length] ++ (bodyTexts e.draft.body).drop 1 ++
    amountTexts decimals e.draft.amounts ++ [e.draft.account.getD []] ++
    e.draft.breakdown.flatMap fun p => [natText p.1, natText p.2])

/-- The frames a select carries for an item (section 12.3). The content of a kind 24 frame is the characters of the print line
alone, with no length byte of a text before them (DESIGN CHOICE, log 12). -/
def selectFrames (item : SelectItem) (s : State) : List Bytes :=
  match item with
  | .terminal i => imageFrames (terminalBytes i)
  | .mirror rows => imageFrames (mirrorBytes rows)
  | .printer body => [printerBytes body]
  | .journalLine e => (pieces 8 ((journalLineText (decimalsOf s) e).map charByte)).map (dropFrameBytes 24)

/-- The characters the SLC sends for an exchange: the address, and in a select the frames (R168). -/
def exchangeCharacters (x : Exchange) (s : State) : List NineBit :=
  match x with
  | .poll d => [addressCharacter false d]
  | .select d item => addressCharacter true d :: (selectFrames item s).flatten.map dataCharacter

/-! ## Answers read (R203) -/

/-- The content of a drop frame of a kind, where it can be read as that kind (section 12.3, R201): the fields its rule names, in
its order (R2, R66, R80). The station byte of a key request and of a form call is read and not compared with the line's, and a
key request of more than 24 entries, or with a text of more than 40 characters, is read as any other (DESIGN CHOICE, log 12). -/
def readDropContent (kind : Nat) (bs : Bytes) : Option DropFrame :=
  match kind with
  | 1 => wholly do
    let (_, bs) ← readNat 1 bs
    let (form, bs) ← readNat 1 bs
    let (code, bs) ← readNat 2 bs
    let (fields, bs) ← readList readKeyField bs
    return (.keyRequest { form := form, code := code, fields := fields }, bs)
  | 2 => wholly do
    let (_, bs) ← readNat 1 bs
    let (code, bs) ← readNat 2 bs
    return (.formCall code, bs)
  | 11 => wholly do
    let (account, bs) ← readText bs
    let (bookType, bs) ← readNat 1 bs
    let (serial, bs) ← readNat 2 bs
    let (page, bs) ← readNat 1 bs
    let (line, bs) ← readNat 1 bs
    return (.stripeRead { account := account, bookType := bookType, serial := serial, page := page, line := line }, bs)
  | 12 => if bs = [] then some .bookRemoved else none
  | 13 => if bs = [] then some .lineDone else none
  | 14 => if bs = [] then some .writeDone else none
  | 15 => if bs = [] then some .fault else none
  | _ => none

/-- What the characters of an answer are found to be (R203). -/
inductive Answer where
  | silence
  | framing
  | checkError
  | nothing
  | accept
  | busy
  | frame (f : DropFrame)
  deriving DecidableEq, Repr

/-- The byte of a character. -/
def characterByte (c : NineBit) : Byte := c.extractLsb' 0 8

/-- A frame gathered from the characters after its kind: the answer, and the characters after it (R203). A frame still
incomplete that holds a character with bit 8 set is a framing error, not silence (R173), and a length character with bit 8 set
gives the length by its low 8 bits, so that the answer ends where a sound one of that length would (DESIGN CHOICE, log 22). -/
def readFrameAnswer (kind : NineBit) (rest : List NineBit) : Answer × List NineBit :=
  match rest with
  | [] => (.silence, [])
  | len :: body =>
    let n := (characterByte len).toNat
    if body.length < n + 2 then (if len.getLsbD 8 || body.any (·.getLsbD 8) then .framing else .silence, [])
    else
      let chars := kind :: len :: body.take (n + 2)
      let bytes := chars.map characterByte
      let found : Answer :=
        if chars.any (·.getLsbD 8) then .framing
        else if frameCheck bytes ≠ 0#16 then .checkError
        else .frame ((readDropContent (characterByte kind).toNat ((bytes.drop 2).take n)).getD
          (.other (characterByte kind).toNat))
      (found, body.drop (n + 2))

/-- The answer of a drop, from the characters that came within 150 ms, and the characters after it (R203). An answer whose
first character has bit 8 set ends at that character (DESIGN CHOICE, log 22). -/
def readAnswer (cs : List NineBit) : Answer × List NineBit :=
  match cs with
  | [] => (.silence, [])
  | c :: rest =>
    if c.getLsbD 8 then (.framing, rest)
    else if characterByte c = 0 then (.nothing, rest)
    else if characterByte c = 6 then (.accept, rest)
    else if characterByte c = 7 then (.busy, rest)
    else readFrameAnswer c rest

/-- The command an answer is. -/
def answerCommand (st : Station) : Answer → Instr
  | .silence => .pollResponseTimeout st
  | .framing => .failedResponse st .framing
  | .checkError => .failedResponse st .checkError
  | .nothing => .nothing st
  | .accept => .accept st
  | .busy => .busy st
  | .frame f => .dropFrame st f

/-- The commands that the characters of an answer give a line: the answer, then a run of characters outside it (R203). -/
def answerCommands (st : Station) (cs : List NineBit) : List Instr :=
  let (a, rest) := readAnswer cs
  answerCommand st a :: if rest = [] then [] else [.unsolicited st]

end Sys2Proof.Machine
end

