-- ==== Sys2Proof/WellFormed.lean ====
section
/-! DEFINITION. Which terms of Instr stand for a command that can arrive: the numbers and texts fit the fields that carry
them (R2, R77, R178, R181, R191, section 12.2, section 12.3). Out-of-range values that a rule judges itself are well formed. -/

namespace Sys2Proof

/-- A number fits one byte. -/
def fitsByte (n : Nat) : Bool := decide (n < 256)

/-- A number fits two bytes. -/
def fitsTwo (n : Nat) : Bool := decide (n < 65536)

/-- A number fits eight bytes. -/
def fitsEight (n : Nat) : Bool := decide (n < 18446744073709551616)

/-- A signed amount fits eight bytes in two's complement. -/
def fitsSigned (v : Int) : Bool := decide (-9223372036854775808 ≤ v) && decide (v < 9223372036854775808)

/-- A text fits its length byte, each character one byte (R201). -/
def fitsText (t : Text) : Bool := decide (t.length < 256) && t.all fun c => decide (c.toNat < 256)

/-- An entry of a key request's field list: a text of up to 40 characters (R2). -/
def KeyField.wfKeyed (f : KeyField) : Bool := fitsByte f.tag && fitsText f.text && decide (f.text.length ≤ 40)

/-- A key request: a field list of 0 to 24 entries (R2). -/
def KeyRequest.wf (r : KeyRequest) : Bool :=
  fitsByte r.form && fitsTwo r.code && decide (r.fields.length ≤ 24) && r.fields.all KeyField.wfKeyed

/-- A stripe reading (R77). -/
def Book.wf (b : Book) : Bool :=
  decide (1 ≤ b.account.length) && decide (b.account.length ≤ 20) && b.account.all Char.isDigit &&
    decide (1 ≤ b.bookType) && decide (b.bookType ≤ 8) && decide (1 ≤ b.serial) && fitsTwo b.serial && fitsByte b.page &&
    fitsByte b.line

/-- A frame of a drop (R170). -/
def DropFrame.wf : DropFrame → Bool
  | .keyRequest r => r.wf
  | .formCall code => fitsTwo code
  | .stripeRead b => b.wf
  | .bookRemoved => true
  | .lineDone => true
  | .writeDone => true
  | .fault => true
  | .other kind => fitsByte kind

/-- A field of a REPLY (section 12.2). -/
def KeyField.wf (f : KeyField) : Bool := fitsByte f.tag && fitsText f.text

/-- A passbook line of a REPLY. -/
def PassLine.wf (l : PassLine) : Bool :=
  fitsText l.date && fitsText l.code && fitsSigned l.amount && (l.balance.map fitsSigned).getD true

/-- The content of a REPLY (section 12.2). -/
def Reply.wf (r : Reply) : Bool :=
  fitsByte r.station && fitsTwo r.seq && fitsByte r.outcome && fitsText r.reason && (r.balance.map fitsSigned).getD true &&
    decide (r.fields.length < 256) && r.fields.all KeyField.wf && decide (r.lines.length < 256) && r.lines.all PassLine.wf

/-- An acknowledgement (section 12.2). -/
def Ack.wf (a : Ack) : Bool := fitsTwo a.number && fitsByte a.status

/-- A TCT record as loaded. -/
def RawTct.wf (r : RawTct) : Bool :=
  fitsTwo r.code && fitsText r.name && fitsByte r.routing && fitsByte r.localAction && fitsByte r.dayClass &&
    fitsByte r.minAuthority && fitsByte r.requestFormat && fitsByte r.approveFormat && fitsByte r.declineFormat &&
    fitsByte r.cashDirection && fitsByte r.replyTimeout && fitsEight r.offlineCeiling && fitsByte r.passbookUse &&
    fitsByte r.accountTag && fitsByte r.amountTag

/-- A field of a format as loaded. -/
def RawField.wf (f : RawField) : Bool :=
  fitsByte f.tag && fitsByte f.row && fitsByte f.column && fitsByte f.length && fitsByte f.cls && fitsByte f.kind &&
    fitsByte f.source

/-- A format as loaded. -/
def RawFormat.wf (f : RawFormat) : Bool :=
  fitsByte f.number && fitsByte f.kind && fitsText f.title && decide (f.fields.length < 256) && f.fields.all RawField.wf

/-- A DNT record as loaded. -/
def RawDnt.wf (r : RawDnt) : Bool := fitsEight r.face && fitsByte r.kind && fitsTwo r.floor

/-- A TLT record as loaded. -/
def RawTlt.wf (r : RawTlt) : Bool :=
  fitsTwo r.teller && fitsByte r.authority && fitsEight r.softLimit && fitsEight r.hardLimit && fitsEight r.standinCeiling

/-- A column and a width. -/
def FieldPlace.wf (p : FieldPlace) : Bool := fitsByte p.column && fitsByte p.width

/-- A PLT record. -/
def PltRec.wf (r : PltRec) : Bool :=
  fitsByte r.bookType && fitsByte r.linesPerPage && fitsByte r.pages && fitsByte r.firstLine && r.date.wf && r.code.wf &&
    r.amount.wf && r.balance.wf

/-- The header and records of a fragment. -/
def FragmentBody.wf : FragmentBody → Bool
  | .tct rs => decide (rs.length < 256) && rs.all RawTct.wf
  | .sft rs => decide (rs.length < 256) && rs.all RawFormat.wf
  | .dnt h rs =>
    decide (rs.length < 256) && rs.all RawDnt.wf && (h.map fun x => fitsByte x.decimals && fitsByte x.increment).getD true
  | .tlt h rs => decide (rs.length < 256) && rs.all RawTlt.wf && (h.map fitsEight).getD true
  | .plt rs => decide (rs.length < 256) && rs.all PltRec.wf

/-- A TABLE-LOAD fragment: load id and fragment number 0 to 255 (R155). -/
def Fragment.wf (f : Fragment) : Bool := fitsByte f.loadId && fitsByte f.number && f.body.wf

/-- A LINE-SETUP: each item in its byte. -/
def LineSetupRequest.wf (r : LineSetupRequest) : Bool :=
  fitsByte r.line && fitsByte r.role && r.functions.toList.all fitsByte && fitsByte r.depth && fitsByte r.mirrorKey &&
    fitsByte r.mirrorMask && fitsByte r.mirrorFill

/-- The settings of a SETTINGS-WRITE. -/
def settingsWf (items : List (SettingName × Nat)) : Bool :=
  decide (items.length < 256) && items.all fun x => fitsTwo x.2

/-- A list of line numbers. -/
def linesWf (lines : List Nat) : Bool := decide (lines.length < 256) && lines.all fitsByte

/-- A date as a DATE-ROLL carries it: a year of 2000 to 2255, month and day in a byte each (log 12). -/
def Date.wf (d : Date) : Bool := decide (2000 ≤ d.year) && decide (d.year < 2256) && fitsByte d.month && fitsByte d.day

/-- A management request. -/
def MgmtRequest.wf : MgmtRequest → Bool
  | .tableLoad f => f.wf
  | .tableAbort => true
  | .tableRead t i => fitsByte t && fitsByte i
  | .settingsWrite items => settingsWf items
  | .settingsRead => true
  | .lineSetup r => r.wf
  | .lineControl st op _ => fitsByte st && fitsByte op
  | .lineTest line mode n => fitsByte line && fitsByte mode && fitsByte n
  | .lineReset line => fitsByte line
  | .statusRead lines => linesWf lines
  | .totalsRead => true
  | .clockSet secs => decide (secs < 16777216)
  | .dayCutoff => true
  | .dayForce => true
  | .settleRetry => true
  | .dateRoll d => d.wf
  | .broadcastText t e => fitsText t && fitsTwo e
  | .bad kind => fitsByte kind

/-- A reference: a sequence of 1 to 65,535 (R3). -/
def Ref.wf (r : Ref) : Bool := decide (1 ≤ r.seq) && fitsTwo r.seq

/-- A command is well formed. -/
def Instr.wf : Instr → Bool
  | .keyRequest _ r => r.wf
  | .formCall _ code => fitsTwo code
  | .stripeRead _ b => b.wf
  | .bookRemoved _ => true
  | .lineDone _ => true
  | .writeDone _ => true
  | .fault _ => true
  | .dropFrame _ f => f.wf
  | .nothing _ => true
  | .accept _ => true
  | .busy _ => true
  | .failedResponse _ _ => true
  | .pollResponseTimeout _ => true
  | .repollDue _ _ => true
  | .busyRetryExpiry _ _ => true
  | .issueExchange _ => true
  | .attention _ => true
  | .unsolicited _ => true
  | .echoCharacter _ _ => true
  | .loopFrameReturn _ _ => true
  | .loopFrameTimeout _ => true
  | .drawerSenseChange _ _ => true
  | .drawerOpenTimerExpiry _ => true
  | .alarmInRising _ => true
  | .drawerPulseEnd _ => true
  | .inboundFrame _ => true
  | .reply _ r => (r.map Reply.wf).getD true
  | .mgmtReq id r => fitsByte id && r.wf
  | .adviceAck a => (a.map Ack.wf).getD true
  | .batchAck a => (a.map Ack.wf).getD true
  | .linkCheck n => (n.map fitsByte).getD true
  | .silenceTimerExpiry => true
  | .transmit => true
  | .transmitEnd => true
  | .deadlineExpiry ref => ref.wf
  | .lateExpiry ref => ref.wf
  | .adviceAckTimeout n => decide (1 ≤ n) && fitsTwo n
  | .trickleBatchTimeout => true
  | .rejectionPauseEnd => true
  | .settlementBatchTimeout => true
  | .trailingPauseEnd => true
  | .loadIdleExpiry => true
  | .waitTimerExpiry _ => true
  | .completionTimerExpiry _ => true
  | .broadcastExpiry => true
  | .tableLoad id f => fitsByte id && f.wf
  | .tableAbort id => fitsByte id
  | .tableRead id t i => fitsByte id && fitsByte t && fitsByte i
  | .settingsWrite id items => fitsByte id && settingsWf items
  | .settingsRead id => fitsByte id
  | .lineSetup id r => fitsByte id && r.wf
  | .lineControl id st op _ => fitsByte id && fitsByte st && fitsByte op
  | .lineTest id line mode n => fitsByte id && fitsByte line && fitsByte mode && fitsByte n
  | .lineReset id line => fitsByte id && fitsByte line
  | .statusRead id lines => fitsByte id && linesWf lines
  | .totalsRead id => fitsByte id
  | .clockSet id secs => fitsByte id && decide (secs < 16777216)
  | .dayCutoff id => fitsByte id
  | .dayForce id => fitsByte id
  | .settleRetry id => fitsByte id
  | .dateRoll id d => fitsByte id && d.wf
  | .broadcastText id t e => fitsByte id && fitsText t && fitsTwo e
  | .start => true
  | .badRequest id kind => fitsByte id && fitsByte kind

end Sys2Proof
end

