-- ==== Sys2Proof/Tests/Slice0.lean ====
section
/-! SUPPORT. Tests of the part on small states: the worked sequences and tables of spec/, a term that WellFormed refuses for
each of its checks, and, for each statement of Certificates/Slice0/Obligations.lean with hypotheses, a state and operands
that meet them. -/

namespace Sys2Proof.Tests
set_option Elab.async false
open Sys2Proof Sys2Proof.Machine

/-! ## The branch of the worked sequences -/

/-- The state a command leaves. -/
def run (c : Instr) (s : State) : State :=
  match exec c s with
  | .next t => t
  | .fault _ => State.reset
  | .refused _ => State.reset

/-- An input field of a format. -/
def inputField (tag row column length cls : Nat) (kind : FieldKind) (required : Bool) : SftField :=
  { tag := tag, row := row, column := column, length := length, cls := cls, kind := kind, required := required,
    source := .replyTag }

/-- A code of the branch's TCT, online, without cash. -/
def plainCode (code : Nat) : TctRec :=
  { code := code, name := "CODE".toList, routing := .online, localAction := none, dayClass := .customer,
    minAuthority := .teller, requestFormat := 12, approveFormat := 13, declineFormat := 13, cashDirection := .noCash,
    replyTimeout := 30, offlineCeiling := 0, passbookUse := .notUsed, accountTag := 2, amountTag := 9 }

/-- A code of a local action, of day class ADMIN. -/
def localCode (code : Nat) (action : LocalAction) (form : Nat) : TctRec :=
  { plainCode code with
    routing := .localCode, localAction := some action, dayClass := .admin, requestFormat := form, accountTag := 0,
    amountTag := 0 }

/-- Code 210, the withdrawal of section 1.7, with the offline ceiling of section 5.6. -/
def withdrawal : TctRec :=
  { plainCode 210 with
    routing := .onlineStandin, cashDirection := .cashOut, offlineCeiling := 20000, passbookUse := .optional }

/-- Code 220, a deposit. -/
def deposit : TctRec := { plainCode 220 with cashDirection := .cashIn }

/-- The TCT of the branch. -/
def codes : List TctRec :=
  [withdrawal, deposit, localCode 900 .signOn 2, localCode 901 .signOff 2, localCode 902 .toReserve 4,
   localCode 903 .balance 4]

/-- Form 12: account, amount and the eleven breakdown fields. -/
def form12 : SftFormat :=
  { number := 12, kind := .input, title := "WITHDRAWAL".toList
    fields := inputField 2 3 1 20 0 .numeric true :: inputField 9 4 1 12 13 .amount true ::
      (List.range 11).map fun i => inputField (48 + i) 6 (1 + 6 * i) 5 1 .numeric false }

/-- Form 2, the sign-on prompt: the teller number. -/
def form2 : SftFormat :=
  { number := 2, kind := .input, title := "SIGN ON".toList, fields := [inputField 1 3 1 4 0 .numeric false] }

/-- Form 4, the counts of the denominations. -/
def form4 : SftFormat :=
  { number := 4, kind := .input, title := "COUNTS".toList
    fields := (List.range 11).map fun i => inputField (48 + i) 6 (1 + 6 * i) 5 1 .numeric false }

/-- Form 13, a result: the reference and the reason. -/
def form13 : SftFormat :=
  { number := 13, kind := .output, title := "RESULT".toList
    fields :=
      [{ tag := 1, row := 3, column := 1, length := 10, cls := 0, kind := .text, required := false, source := .reference },
       { tag := 2, row := 4, column := 1, length := 10, cls := 0, kind := .text, required := false,
         source := .passbookStatus }] }

/-- The DNT of section 2.9: eleven faces, floor 2 at face 20. -/
def faces29 : List DntRec :=
  [10000, 5000, 2000, 1000, 500, 200, 100, 50, 20, 10, 5].map fun f =>
    { face := f, kind := if 500 ≤ f then .note else .coin, floor := if f = 20 then 2 else 0 }

/-- A position of committed counts alone. -/
def positionWith (counts : List Nat) (total : Nat) : Position :=
  { Position.cold with state := .active, counts := counts.map fun n => ⟨n, 0, 0⟩, total := total }

/-- Drawer 3 of section 2.9. -/
def drawer29 : Position := positionWith [3, 1, 0, 5, 2, 4, 0, 0, 6, 0, 3] 41935

/-- An empty position. -/
def emptyPosition : Position := positionWith (List.replicate 11 0) 0

/-- The layout of book type 2 of section 4.5. -/
def layout2 : PltRec :=
  { bookType := 2, linesPerPage := 20, pages := 16, firstLine := 4, date := ⟨1, 10⟩, code := ⟨12, 4⟩, amount := ⟨20, 14⟩,
    balance := ⟨40, 14⟩ }

/-- A teller of the branch's TLT, by the limits of sections 2.9 and 5.6. -/
def limits (teller : Nat) : TltRec :=
  { teller := teller, authority := .teller, softLimit := 40000, hardLimit := 80000, standinCeiling := 50000 }

/-- A drop that is UP. -/
def upDrop : DropStatus := { state := .up, missed := 0, busy := none, repoll := none, repollDue := false }

/-- A TELLER line with all its drops UP. -/
def tellerLine : Line :=
  { Line.cold with
    setup := { LineSetup.cold with role := .teller, printerPresent := true, mirrorPresent := true }
    drops := ⟨some upDrop, some upDrop, some upDrop⟩ }

/-- A printer context that is READY. -/
def readyPrinter : PrinterContext :=
  { book := none, state := .ready, item := none, owed := none, prompt := .noPrompt, queue := [] }

/-- Entry 5/311 of section 1.7, AWAITING. -/
def entry311 : OttEntry :=
  { ref := ⟨.s5, 311⟩, teller := 208, code := 210, state := .awaiting 90000, approveFormat := 13, declineFormat := 13,
    replyTimeout := 30, passbookUse := .notUsed, cashDirection := .noCash, account := none, leg := none, snapshot := none }

/-- The branch of section 1.7 before the withdrawal: the day OPEN, the link UP, teller 417 at station 3. -/
def branch : State :=
  { State.reset with
    ttr := { ott := [entry311], late := [], seqs := (Eight.fill 1).set .s3 1042 }
    csh := { drawers := (Eight.fill emptyPosition).set .s3 drawer29, reserve := emptyPosition }
    scm := { signOn := (Eight.fill none).set .s3 (some 417), broadcast := none
             contexts := (Eight.fill none).set .s3 (some (emptyContext .form)) }
    pbk := { printers := (Eight.fill none).set .s3 (some readyPrinter) }
    sda := { State.reset.sda with
      tellerDays := [⟨417, some .s3, 0, 0, ⟨32000, false⟩, none⟩] }
    jrn := { State.reset.jrn with used := 1200, reserved := 4, free := 15180, nextSeq := 341, lastAccepted := 340 }
    day := { State.reset.day with state := .opened, date := some ⟨2031, 3, 31⟩ }
    tbl := { State.reset.tbl with
      tct := codes, sft := [form2, form4, form12, form13], dnt := faces29, dntHeader := ⟨2, 5⟩,
      tlt := [limits 417, limits 311], tltCeiling := 30000, plt := [layout2] }
    slc := { lines := (Eight.fill Line.cold).set .s3 tellerLine, samples := 0 }
    blc := { State.reset.blc with link := .up, silence := some 20000, events := [] } }

/-- The request of section 1.7: form 12, account 40017733, amount 287.43. -/
def request1042 : KeyRequest :=
  { form := 12, code := 210, fields := [⟨2, "40017733".toList⟩, ⟨9, "287.43".toList⟩] }

/-! ## Worked sequences and tables -/

/-- Section 1.7: 3/1042 is accepted; used 1,200, reserved 8, free 15,176. -/
theorem test_withdrawal_is_accepted :
    let t := run (.keyRequest .s3 request1042) branch
    t.ttr.ott.map OttEntry.ref = [⟨.s5, 311⟩, ⟨.s3, 1042⟩] ∧ (t.jrn.used, t.jrn.reserved, t.jrn.free) = (1200, 8, 15176) ∧
      t.ttr.seqs.get .s3 = 1043 ∧ (contextOf .s3 t).map ScreenContext.mode = some .awaiting := by decide +kernel


/-- Section 1.7 goes on: the REQUEST is transmitted, and the approval posts the leg of section 2.9. -/
def branchAwaiting : State := run .transmit (run (.keyRequest .s3 request1042) branch)

/-- The APPROVED reply of section 1.7. -/
def approval : Reply :=
  { station := 3, seq := 1042, outcome := 1, reason := "OK".toList, balance := none, fields := [], lines := [] }

/-- Section 1.7: the deadline stands 30 s ahead of the transmission. -/
theorem test_transmission_sets_the_deadline :
    (ottEntry ⟨.s3, 1042⟩ branchAwaiting).map OttEntry.state = some (.awaiting 30000) := by decide +kernel

/-- Sections 1.7 and 2.9: used 1,203, reserved 4, free 15,177; the drawer stands at 13,190. -/
theorem test_approval_posts :
    let t := run (.reply .s3 (some approval)) branchAwaiting
    (t.jrn.used, t.jrn.reserved, t.jrn.free) = (1203, 4, 15177) ∧
      committedCounts (drawerOf .s3 t) = [1, 0, 0, 2, 1, 3, 0, 0, 4, 0, 2] ∧ (drawerOf .s3 t).total = 13190 ∧
      (drawerOf .s3 t).cashOut = 28745 ∧ (drawerOf .s3 t).rounding = -2 := by decide +kernel

/-- Section 1.8: the deadline expires; used 1,202, reserved 6, free 15,176, and the counts are put back. -/
theorem test_deadline_expires :
    let t := run (.deadlineExpiry ⟨.s3, 1042⟩) branchAwaiting
    (t.jrn.used, t.jrn.reserved, t.jrn.free) = (1202, 6, 15176) ∧ drawerOf .s3 t = drawer29 ∧
      t.ttr.late.map (fun l => (l.ref, l.rounded, l.expiry)) = [(⟨.s3, 1042⟩, 28745, 300000)] := by decide +kernel

/-- Section 1.8: the late approval becomes a REVERSAL advice; used 1,204, reserved 4, free 15,176. -/
theorem test_late_approval :
    let t := run (.reply .s3 (some approval)) (run (.deadlineExpiry ⟨.s3, 1042⟩) branchAwaiting)
    (t.jrn.used, t.jrn.reserved, t.jrn.free) = (1204, 4, 15176) ∧
      t.sda.queue = [.advice ⟨1, .reversal ⟨.s3, 1042⟩ .lateApproval .cashOut 28745, none⟩] := by decide +kernel

/-- R33: the table of rounding cases. -/
theorem test_rounding :
    [(5, 28743), (5, 3), (5, 2), (10, 1235), (25, 1012), (25, 1013), (100, 4950)].map (fun p => roundAmount p.1 p.2) =
      [28745, 5, 0, 1240, 1000, 1025, 5000] := by decide +kernel

/-- Section 2.9: the greedy breakdown of 28,745, and the refusal of 15,000 behind its reservation. -/
theorem test_greedy_breakdown :
    greedyBreakdown faces29 drawer29 28745 = some [(1, 2), (2, 1), (4, 3), (5, 1), (6, 1), (9, 2), (11, 1)] ∧
      greedyBreakdown faces29 (drawerOf .s3 branchAwaiting) 15000 = none := by decide +kernel

/-- Section 2.10: greedy refuses 6,000 from one 5000 and five 2000, and the keyed breakdown 3×2000 is taken. -/
theorem test_keyed_breakdown :
    let s := setPosition (some .s3) (positionWith [0, 1, 5, 0, 0, 0, 0, 0, 0, 0, 0] 15000) branch
    cashChecks .s3 417 .cashOut 6000 [] s = .error .noExactChange ∧
      cashChecks .s3 417 .cashOut 6000 [⟨50, "3".toList⟩] s =
        .ok { dir := .cashOut, exact := 6000, rounded := 6000, breakdown := [(3, 3)] } := by decide +kernel

/-- Section 2.12: a stored total that differs from the counts is found SUSPECT at a warm start. -/
theorem test_suspect_at_start :
    let t := run .start (setPosition (some .s3) { drawer29 with total := 24300 } branch)
    (drawerOf .s3 t).state = .suspect ∧ (drawerOf .s3 t).total = 24300 ∧ flagSet .suspectPosition t.mrs.flags = true := by
  decide +kernel

/-- Section 1.7: an entry of 92 bytes takes 3 slots; section 4.5: one of 48 bytes takes 2. -/
theorem test_entry_sizes :
    draftSlots { station := some .s3, teller := some 417, body := .txn 1042 210 .approved, account := some "40017733".toList,
                 amounts := some (28743, 28745), breakdown := List.replicate 7 (1, 1) } = 3 ∧
      draftSlots (passbookDraft .s3 (some 417) ⟨⟨.s3, 1050⟩, "40017733".toList, some 5, 5, 5, none⟩ .complete .written) =
        2 := by decide +kernel

/-- R75: the table of key 12, mask 3. -/
theorem test_mirror_redaction :
    [12, 13, 15, 4, 8, 0].map (redacts 12 3) = [true, true, true, false, false, false] := by decide +kernel

/-- Section 3.4: the worked status line, and the same with the drawer left open. -/
theorem test_status_line :
    let s := onScm (fun m => { m with broadcast := some ⟨"COUNTER 2 CLOSES AT 15.30".toList, 600000⟩ })
      (setPosition (some .s3) { drawer29 with excess := true } branch)
    statusLine .s3 "APPROVED 3/1042".toList s =
        "ONLINE OPEN TELLER 417 EXCESS CASH APPROVED 3/1042 COUNTER 2 CLOSES AT 15.30    ".toList ∧
      statusLine .s3 "APPROVED 3/1042".toList (onLine .s3 (fun l => { l with leftOpen := true }) s) =
        "ONLINE OPEN TELLER 417 EXCESS CASH DRAWER LEFT OPEN APPROVED 3/1042 COUNTER 2 C*".toList := by decide +kernel

/-- R7: amounts as keyed, with two decimals and with none. -/
theorem test_amounts_as_keyed :
    readAmount 2 "287.43".toList = some 28743 ∧ readAmount 2 "5".toList = some 500 ∧ readAmount 2 "1.234".toList = none ∧
      readAmount 2 "0".toList = none ∧ readAmount 0 "12.3".toList = none ∧ readAmount 0 "12".toList = some 12 := by
  decide +kernel

/-- R69: minor units as they are shown. -/
theorem test_amounts_as_shown :
    amountText 2 28743 = "287.43".toList ∧ amountText 2 (-20) = "-0.20".toList ∧ amountText 0 7 = "7".toList := by
  decide +kernel

/-- R132: leap days of 2000 to 2099. -/
theorem test_dates :
    validDate ⟨2028, 2, 29⟩ = true ∧ validDate ⟨2031, 2, 29⟩ = false ∧ validDate ⟨2100, 1, 1⟩ = false ∧
      laterDate ⟨2031, 4, 1⟩ ⟨2031, 3, 31⟩ = true ∧ laterDate ⟨2031, 3, 31⟩ ⟨2031, 3, 31⟩ = false := by decide +kernel

/-! ## The smoke test of WellFormed: for each check a term it refuses -/

/-- A character that no byte carries. -/
def wideChar : Char := '€'

/-- A well-formed key request. -/
def goodKey : KeyRequest := { form := 12, code := 210, fields := [⟨2, "1".toList⟩] }

/-- A well-formed stripe reading. -/
def goodBook : Book := { account := "40017733".toList, bookType := 2, serial := 5, page := 7, line := 18 }

/-- A well-formed TCT record as loaded. -/
def goodTct : RawTct := ⟨210, "W".toList, 2, 0, 1, 1, 12, 13, 13, 2, 30, 20000, 2, 2, 9⟩

/-- A well-formed PLT record. -/
def goodPlt : PltRec := layout2

/-- A well-formed LINE-SETUP. -/
def goodSetup : LineSetupRequest :=
  { line := 3, role := 2, drop1 := true, drop2 := true, drop3 := true, functions := ⟨4, 1, 2, 5⟩, depth := 2, mirrorKey := 12,
    mirrorMask := 3, mirrorFill := 35 }

/-- A fragment of a table. -/
def fragmentOf (body : FragmentBody) : Instr := .tableLoad 1 { loadId := 1, number := 0, last := false, body := body }

/-- Every term of a list is refused. -/
def allRefused (terms : List Instr) : Bool := terms.all fun i => !i.wf

/-- The terms that the ones below spoil are well formed. -/
theorem test_wf_accepts :
    ([.keyRequest .s3 goodKey, .stripeRead .s3 goodBook, .reply .s3 (some approval), .adviceAck (some ⟨1, 1⟩),
      fragmentOf (.tct [goodTct]), fragmentOf (.sft [⟨1, 1, [], [⟨1, 1, 1, 1, 0, 1, true, 0⟩]⟩]),
      fragmentOf (.dnt (some ⟨2, 5⟩) [⟨5, 2, 0⟩]), fragmentOf (.tlt (some 30000) [⟨417, 1, 1, 1, 1⟩]),
      fragmentOf (.plt [goodPlt]), .lineSetup 1 goodSetup, .settingsWrite 1 [(.highWater, 65535)],
      .dateRoll 1 ⟨2031, 4, 1⟩, .clockSet 1 16777215, .deadlineExpiry ⟨.s3, 1⟩] : List Instr).all Instr.wf = true := by
  decide +kernel

/-- Key requests, form calls and drop frames. -/
theorem test_wf_refuses_keys :
    allRefused
      [.keyRequest .s3 { goodKey with form := 256 }, .keyRequest .s3 { goodKey with code := 65536 },
       .keyRequest .s3 { goodKey with fields := List.replicate 25 ⟨2, ['1']⟩ },
       .keyRequest .s3 { goodKey with fields := [⟨256, ['1']⟩] },
       .keyRequest .s3 { goodKey with fields := [⟨2, List.replicate 41 '1'⟩] },
       .keyRequest .s3 { goodKey with fields := [⟨2, [wideChar]⟩] }, .formCall .s3 65536,
       .dropFrame .s3 (.keyRequest { goodKey with form := 256 }), .dropFrame .s3 (.formCall 65536),
       .dropFrame .s3 (.stripeRead { goodBook with bookType := 0 }), .dropFrame .s3 (.other 256)] = true := by
  decide +kernel

/-- Stripe readings. -/
theorem test_wf_refuses_books :
    allRefused
      ([{ goodBook with account := [] }, { goodBook with account := List.replicate 21 '1' },
        { goodBook with account := ['A'] }, { goodBook with bookType := 0 }, { goodBook with bookType := 9 },
        { goodBook with serial := 0 }, { goodBook with serial := 65536 }, { goodBook with page := 256 },
        { goodBook with line := 256 }].map (.stripeRead .s3)) = true := by decide +kernel

/-- Replies. -/
theorem test_wf_refuses_replies :
    allRefused
      ([{ approval with station := 256 }, { approval with seq := 65536 }, { approval with outcome := 256 },
        { approval with reason := List.replicate 256 'A' }, { approval with balance := some 9223372036854775808 },
        { approval with fields := List.replicate 256 ⟨1, []⟩ }, { approval with fields := [⟨256, []⟩] },
        { approval with fields := [⟨1, [wideChar]⟩] }, { approval with lines := List.replicate 256 ⟨[], [], 0, none⟩ },
        { approval with lines := [⟨[wideChar], [], 0, none⟩] }, { approval with lines := [⟨[], [wideChar], 0, none⟩] },
        { approval with lines := [⟨[], [], -9223372036854775809, none⟩] },
        { approval with lines := [⟨[], [], 0, some 9223372036854775808⟩] }].map fun r => .reply .s3 (some r)) = true := by
  decide +kernel

/-- Acknowledgements, references and numbers. -/
theorem test_wf_refuses_numbers :
    allRefused
      [.adviceAck (some ⟨65536, 1⟩), .adviceAck (some ⟨1, 256⟩), .batchAck (some ⟨65536, 1⟩), .batchAck (some ⟨1, 256⟩),
       .linkCheck (some 256), .deadlineExpiry ⟨.s3, 0⟩, .deadlineExpiry ⟨.s3, 65536⟩, .lateExpiry ⟨.s3, 0⟩,
       .lateExpiry ⟨.s3, 65536⟩, .adviceAckTimeout 0, .adviceAckTimeout 65536] = true := by decide +kernel

/-- Fragments: each field of each record, the counts and the headers. -/
theorem test_wf_refuses_fragments :
    allRefused
      ([.tct (List.replicate 256 goodTct), .tct [{ goodTct with code := 65536 }], .tct [{ goodTct with name := [wideChar] }],
        .tct [{ goodTct with routing := 256 }], .tct [{ goodTct with localAction := 256 }],
        .tct [{ goodTct with dayClass := 256 }], .tct [{ goodTct with minAuthority := 256 }],
        .tct [{ goodTct with requestFormat := 256 }], .tct [{ goodTct with approveFormat := 256 }],
        .tct [{ goodTct with declineFormat := 256 }], .tct [{ goodTct with cashDirection := 256 }],
        .tct [{ goodTct with replyTimeout := 256 }], .tct [{ goodTct with offlineCeiling := 18446744073709551616 }],
        .tct [{ goodTct with passbookUse := 256 }], .tct [{ goodTct with accountTag := 256 }],
        .tct [{ goodTct with amountTag := 256 }], .sft (List.replicate 256 ⟨1, 1, [], []⟩), .sft [⟨256, 1, [], []⟩],
        .sft [⟨1, 256, [], []⟩], .sft [⟨1, 1, [wideChar], []⟩],
        .sft [⟨1, 1, [], List.replicate 256 ⟨1, 1, 1, 1, 0, 1, true, 0⟩⟩], .sft [⟨1, 1, [], [⟨256, 1, 1, 1, 0, 1, true, 0⟩]⟩],
        .sft [⟨1, 1, [], [⟨1, 256, 1, 1, 0, 1, true, 0⟩]⟩], .sft [⟨1, 1, [], [⟨1, 1, 256, 1, 0, 1, true, 0⟩]⟩],
        .sft [⟨1, 1, [], [⟨1, 1, 1, 256, 0, 1, true, 0⟩]⟩], .sft [⟨1, 1, [], [⟨1, 1, 1, 1, 256, 1, true, 0⟩]⟩],
        .sft [⟨1, 1, [], [⟨1, 1, 1, 1, 0, 256, true, 0⟩]⟩], .sft [⟨1, 1, [], [⟨1, 1, 1, 1, 0, 1, true, 256⟩]⟩],
        .dnt (some ⟨256, 5⟩) [], .dnt (some ⟨2, 256⟩) [], .dnt none (List.replicate 256 ⟨5, 2, 0⟩),
        .dnt none [⟨18446744073709551616, 2, 0⟩], .dnt none [⟨5, 256, 0⟩], .dnt none [⟨5, 2, 65536⟩],
        .tlt (some 18446744073709551616) [], .tlt none (List.replicate 256 ⟨417, 1, 1, 1, 1⟩), .tlt none [⟨65536, 1, 1, 1, 1⟩],
        .tlt none [⟨417, 256, 1, 1, 1⟩], .tlt none [⟨417, 1, 18446744073709551616, 1, 1⟩],
        .tlt none [⟨417, 1, 1, 18446744073709551616, 1⟩], .tlt none [⟨417, 1, 1, 1, 18446744073709551616⟩],
        .plt (List.replicate 256 goodPlt), .plt [{ goodPlt with bookType := 256 }], .plt [{ goodPlt with linesPerPage := 256 }],
        .plt [{ goodPlt with pages := 256 }], .plt [{ goodPlt with firstLine := 256 }], .plt [{ goodPlt with date := ⟨256, 1⟩ }],
        .plt [{ goodPlt with date := ⟨1, 256⟩ }], .plt [{ goodPlt with code := ⟨256, 1⟩ }],
        .plt [{ goodPlt with amount := ⟨256, 1⟩ }], .plt [{ goodPlt with balance := ⟨256, 1⟩ }]].map fragmentOf) = true ∧
    allRefused
      [.tableLoad 1 { loadId := 256, number := 0, last := true, body := .plt [] },
       .tableLoad 1 { loadId := 1, number := 256, last := true, body := .plt [] },
       .tableLoad 256 { loadId := 1, number := 0, last := true, body := .plt [] }] = true := by decide +kernel

/-- Line setups, settings, line lists, dates and the other management requests, also as a MGMT_REQ. -/
theorem test_wf_refuses_requests :
    allRefused
      ([{ goodSetup with line := 256 }, { goodSetup with role := 256 }, { goodSetup with functions := ⟨256, 1, 2, 5⟩ },
        { goodSetup with depth := 256 }, { goodSetup with mirrorKey := 256 }, { goodSetup with mirrorMask := 256 },
        { goodSetup with mirrorFill := 256 }].map (.lineSetup 1)) = true ∧
    allRefused
      [.lineSetup 256 goodSetup, .settingsWrite 1 [(.highWater, 65536)],
       .settingsWrite 1 (List.replicate 256 (.highWater, 1)), .settingsWrite 256 [], .settingsRead 256,
       .statusRead 1 [256], .statusRead 1 (List.replicate 256 1), .statusRead 256 [], .dateRoll 1 ⟨1999, 1, 1⟩,
       .dateRoll 1 ⟨2256, 1, 1⟩, .dateRoll 1 ⟨2031, 256, 1⟩, .dateRoll 1 ⟨2031, 1, 256⟩, .dateRoll 256 ⟨2031, 4, 1⟩,
       .tableAbort 256, .tableRead 256 1 1, .tableRead 1 256 1, .tableRead 1 1 256, .lineControl 256 3 1 (Four.fill true),
       .lineControl 1 256 1 (Four.fill true), .lineControl 1 3 256 (Four.fill true), .lineTest 256 3 1 0,
       .lineTest 1 256 1 0, .lineTest 1 3 256 0, .lineTest 1 3 2 256, .lineReset 256 3, .lineReset 1 256, .totalsRead 256,
       .clockSet 256 0, .clockSet 1 16777216, .dayCutoff 256, .dayForce 256, .settleRetry 256, .broadcastText 256 [] 1,
       .broadcastText 1 [wideChar] 1, .broadcastText 1 [] 65536, .badRequest 256 18, .badRequest 1 256,
       .mgmtReq 256 .totalsRead, .mgmtReq 1 (.clockSet 16777216), .mgmtReq 1 (.tableRead 256 1),
       .mgmtReq 1 (.lineControl 256 1 (Four.fill true)), .mgmtReq 1 (.lineTest 3 256 0), .mgmtReq 1 (.lineReset 256),
       .mgmtReq 1 (.statusRead [256]), .mgmtReq 1 (.settingsWrite [(.highWater, 65536)]),
       .mgmtReq 1 (.lineSetup { goodSetup with role := 256 }), .mgmtReq 1 (.dateRoll ⟨1999, 1, 1⟩),
       .mgmtReq 1 (.broadcastText [] 65536), .mgmtReq 1 (.bad 256),
       .mgmtReq 1 (.tableLoad { loadId := 256, number := 0, last := true, body := .plt [] })] = true := by decide +kernel

/-! ## States and operands that meet the hypotheses of the statements: invariants and starts -/

/-- The branch with the journal of a day just opened: one transaction open, no entry held. -/
def steady : State :=
  { branch with
    jrn := { State.reset.jrn with reserved := 4, free := 16380 }
    scm := { branch.scm with signOn := (Eight.fill none).set .s3 (some 417) }
    pending := [.issueExchange .s3] }

/-- The branch on a SETTLED day. -/
def closedBranch : State :=
  { branch with
    ttr := { branch.ttr with ott := [] }
    scm := { branch.scm with signOn := Eight.fill none }
    day := { branch.day with
      state := .settled
      settlement := some ⟨.trailing, none, none, 0, [], none⟩ } }

theorem witness_idle : State.reset.pending = [] := rfl

/-- A command answers a next state. -/
def answers : Host.Outcome State Fault Refusal → Bool
  | .next _ => true
  | .fault _ => false
  | .refused _ => false

theorem witness_journalOk : journalOk steady ∧ answers (step steady) = true :=
  ⟨⟨by unfold transactionsOk; decide +kernel, by unfold slotsAccounted; decide +kernel, trivial⟩, by decide +kernel⟩

theorem witness_queueOk : queueOk steady :=
  ⟨by unfold transactionsOk; decide +kernel, by decide +kernel, by decide +kernel,
    fun st => by cases st <;> decide +kernel, by decide +kernel, by decide +kernel⟩

/-- R3, R108: numbers held are passed over, past 65,535 too. -/
theorem test_number_passed_over :
    passOver 65535 [65534, 65535, 1, 3] 5 65534 = 2 ∧ firstFree 65535 65534 (· ∈ [65534, 65535, 1, 3]) 2 := by
  refine ⟨by decide, 3, rfl, by decide, fun j h => ?_⟩
  obtain rfl | rfl | rfl : j = 0 ∨ j = 1 ∨ j = 2 := by omega
  all_goals decide

theorem witness_signOnsOk : signOnsOk steady :=
  ⟨fun a b t ha hb => by cases a <;> cases b <;> (first | rfl | (cases ha; done) | cases hb),
    fun st h => by cases st <;> (first | rfl | exact absurd rfl h)⟩

theorem witness_linesOk : linesOk steady :=
  ⟨fun st => by cases st <;> (unfold lineOk; decide +kernel), fun a b ha hb => by cases a <;> cases ha⟩

theorem witness_contextsOk : contextsOk steady :=
  fun st => ⟨by cases st <;> decide +kernel, by cases st <;> decide +kernel,
    fun c h => by cases st <;> cases h; unfold imageOk; decide +kernel,
    fun c h => by cases st <;> cases h; decide +kernel⟩

theorem witness_cashOk : cashOk steady := fun p => by
  cases p with
  | none => unfold positionOk; decide +kernel
  | some st => cases st <;> (unfold positionOk; decide +kernel)

theorem witness_dayOk : dayOk steady :=
  ⟨by decide +kernel, fun h => absurd (show dayClosed steady.day.state = true from h) (by decide +kernel),
    by decide +kernel⟩

theorem witness_requestsOk : requestsOk steady :=
  ⟨by decide +kernel, by decide +kernel, by decide +kernel, by decide +kernel, fun st t h => by cases st <;> cases h⟩

theorem witness_countersOk : countersOk steady :=
  ⟨fun st => by cases st <;> decide +kernel, by decide +kernel, by decide +kernel, by decide +kernel,
    by unfold settingsOk; decide +kernel⟩

theorem witness_ClosedDayMovesNoCash :
    dayOk closedBranch ∧ cashOk closedBranch ∧ dayClosed closedBranch.day.state = true ∧
      closedBranch.rts.marker = true ∧ answers (step closedBranch) = true :=
  ⟨⟨by decide +kernel, fun _ => ⟨by decide +kernel, fun st => by cases st <;> rfl⟩, by decide +kernel⟩,
    fun p => by
      cases p with
      | none => unfold positionOk; decide +kernel
      | some st => cases st <;> (unfold positionOk; decide +kernel),
    rfl, rfl, rfl⟩

theorem witness_WrittenEntriesStand :
    (∀ id d, Instr.dayCutoff 1 ≠ .dateRoll id d) ∧ branch.rts.marker = true ∧
      answers (exec (.dayCutoff 1) branch) = true ∧ (run (.dayCutoff 1) branch).jrn.entries.length = 1 :=
  ⟨fun _ _ h => (nomatch h), rfl, by decide +kernel, by decide +kernel⟩

theorem witness_FlagsStandUntilRead :
    (∀ id lines, Instr.dayCutoff 1 ≠ .statusRead id lines) ∧ Instr.dayCutoff 1 ≠ .start ∧
      flagSet .retentionLost branch.mrs.flags = true ∧ answers (exec (.dayCutoff 1) branch) = true :=
  ⟨fun _ _ h => (nomatch h), fun h => (nomatch h), rfl, by decide +kernel⟩

/-- The branch with its journal at some used and free slots and a next sequence. -/
def journalAt (used free next : Nat) : State :=
  onJrn (fun j => { j with used := used, free := free, nextSeq := next }) branch

/-- An entry of one slot that is stored in the last free slot, lost without one, and lost with the sequences used up. -/
theorem witness_journal_space :
    canWrite 0 (dayDraft .cutoff none) (journalAt 1200 1 341) ∧
      (journalAt 1200 0 341).jrn.free + 0 < draftSlots (dayDraft .cutoff none) ∧
      4294967295 < (journalAt 1200 9 4294967296).jrn.nextSeq := by
  unfold canWrite; decide +kernel

/-- R120 to R122 at their boundaries: the write past the threshold raises JOURNAL_HIGH_WATER, that from 68 free slots to 67
and the reservation from 71 JOURNAL_FULL; an entry without a slot is counted. -/
theorem test_journal_space :
    let write := fun u f => writeEntry 0 (dayDraft .cutoff none) (journalAt u f 341)
    let top := 16384 * branch.mrs.settings.highWater / 100
    flagSet .journalHighWater (write (top - 1) 900).mrs.flags = false ∧
      flagSet .journalHighWater (write top 900).mrs.flags = true ∧ flagSet .journalFull (write 1200 69).mrs.flags = false ∧
      flagSet .journalFull (write 1200 68).mrs.flags = true ∧ (write 1200 0).jrn.notStored = 1 ∧
      flagSet .journalFull (reserveSlots 4 (journalAt 1200 72 341)).mrs.flags = false ∧
      flagSet .journalFull (reserveSlots 4 (journalAt 1200 71 341)).mrs.flags = true := by decide +kernel

theorem witness_starts : { State.reset with rts := ⟨false⟩ }.rts.marker = false ∧ branch.rts.marker = true := ⟨rfl, rfl⟩

/-- A branch in CUTOFF whose one transaction awaits, with a SENT advice and the reservation of a job. -/
def warmBranch : State :=
  onDay (fun x => { x with state := .cutoff }) (onSda (fun d => { d with
    queue :=
      [.advice ⟨15, .passbookUpdate ⟨⟨.s4, 88⟩, "40231190".toList, some 1, 5, 2, none⟩ .printerFault, some 15000⟩,
       .reservation ⟨⟨.s3, 90⟩, "40231190".toList, some 1, 5, 2, none⟩] }) branch)

theorem witness_WarmStartKeepsTheRetained :
    warmBranch.rts.marker = true ∧ warmBranch.jrn.reserved = reservedSlots warmBranch ∧
      2 * warmBranch.sda.queue.countP isReservation + 1 ≤ warmBranch.jrn.free ∧
      warmBranch.jrn.nextSeq + 3 ≤ 4294967296 ∧ warmBranch.ttr.ott = [entry311] ∧
      warmBranch.sda.queue.map isReservation = [false, true] ∧
      settleCondition (run .start warmBranch) = false ∧
      branch.sda.queue.all (fun q => !isReservation q) = true := by decide +kernel

/-- R97, R200: the entries of a warm start, ABANDONED and then PASSBOOK with the teller retained; an advice SENT is UNSENT. -/
theorem test_warm_start_entries :
    let t := run .start warmBranch
    t.jrn.entries.map (fun e => e.draft) =
        [abandonedDraft entry311,
         passbookDraft .s3 (some 417) ⟨⟨.s3, 90⟩, "40231190".toList, some 1, 5, 2, none⟩ .restart .owed] ∧
      t.sda.queue.map isSent = [false, false, false] ∧ t.day.state = .cutoff := by decide +kernel

/-! ## Intake -/

/-- A form call and its place in the buffer: another frame waits in front of it. -/
def behindAnother : State := onLine .s3 (fun l => { l with buffer := [(.d1, .formCall 900)] }) branch

theorem witness_refused_not_signed_on :
    let s := setSignOn .s3 none branch
    delivered .s3 .d1 (.keyRequest request1042) s = some s ∧ refusedEarly .s3 request1042 s .notSignedOn false :=
  ⟨by decide +kernel, .inl ⟨by decide +kernel, fun rec h => by
    have e : codeRecord request1042.code (setSignOn .s3 none branch) = some withdrawal := by decide +kernel
    rw [e] at h; cases h; rfl, rfl, rfl⟩⟩

theorem witness_refused_unknown_code :
    let r := { request1042 with code := 999 }
    delivered .s3 .d1 (.keyRequest r) branch = some branch ∧ refusedEarly .s3 r branch .unknownCode false :=
  ⟨by decide +kernel, .inr (.inl ⟨by decide +kernel, by decide +kernel, rfl, rfl⟩)⟩

theorem witness_refused_form :
    refusedEarly .s3 { request1042 with form := 4 } branch .formMismatch false :=
  .inr (.inr ⟨withdrawal, by decide +kernel, .inl (by decide +kernel), .inl ⟨.inl (by decide +kernel), rfl, rfl⟩⟩)

theorem witness_refused_input :
    refusedEarly .s3 { request1042 with fields := [⟨9, "287.43".toList⟩] } branch (.input (some 2)) false :=
  .inr (.inr ⟨withdrawal, by decide +kernel, .inl (by decide +kernel), .inr ⟨form12, by decide +kernel, by decide +kernel,
    .inl ⟨some 2, by decide +kernel, rfl, rfl⟩⟩⟩)

/-- What check 4 finds in the request of section 1.7. -/
def found1042 : Found := ⟨some 28743, some "40017733".toList⟩

/-- The branch in a day state. -/
def branchIn (d : DayState) : State := onDay (fun x => { x with state := d }) branch

theorem witness_refused_by_day :
    refusedEarly .s3 request1042 (branchIn .noDate) .noBusinessDate true ∧
      refusedEarly .s3 request1042 (branchIn .cutoff) .dayClosed true ∧
      refusedEarly .s3 request1042 (branchIn .settled) .dayClosed true :=
  ⟨.inr (.inr ⟨withdrawal, by decide +kernel, .inl (by decide +kernel), .inr ⟨form12, by decide +kernel, by decide +kernel,
      .inr ⟨found1042, by decide +kernel, rfl, .inl ⟨rfl, rfl⟩⟩⟩⟩),
    .inr (.inr ⟨withdrawal, by decide +kernel, .inl (by decide +kernel), .inr ⟨form12, by decide +kernel, by decide +kernel,
      .inr ⟨found1042, by decide +kernel, rfl, .inr (.inl ⟨rfl, rfl, rfl⟩)⟩⟩⟩),
    .inr (.inr ⟨withdrawal, by decide +kernel, .inl (by decide +kernel), .inr ⟨form12, by decide +kernel, by decide +kernel,
      .inr ⟨found1042, by decide +kernel, rfl, .inr (.inr ⟨rfl, rfl⟩)⟩⟩⟩)⟩

/-- The branch with the withdrawal's record changed. -/
def withCode (rec : TctRec) : State := onTbl (fun x => { x with tct := rec :: codes.tail }) branch

/-- The withdrawal of section 1.7 fails one of checks 6 to 13: the part that the branch's own data settle. -/
theorem refusedLater_of {rec : TctRec} {s : State} {why : Reason} (h : codeRecord 210 s = some rec)
    (k : tellerAt .s3 s ≠ none ∧ rec.requestFormat = 12 ∧ formatOf 12 s = some form12 ∧
      checkFields (decimalsOf s) rec form12 (sentFields request1042.fields) = .ok found1042 ∧
      dayRefusal s.day.state rec.dayClass = none ∧ authorityReaches .s3 rec s = true ∧ rec.routing ≠ .localCode ∧
      tellerAt .s3 s = some 417)
    (l : (s.jrn.free < (if rec.dayClass = .customer then 68 else 4) ∧ why = .journalFull) ∨
      ((if rec.dayClass = .customer then 68 else 4) ≤ s.jrn.free ∧
        (((lineOf .s3 s).setup.depth ≤ stationCount .s3 s ∧ why = .stationDepth) ∨
          (stationCount .s3 s < (lineOf .s3 s).setup.depth ∧ 32 ≤ s.ttr.ott.length ∧ why = .trackerFull) ∨
          (stationCount .s3 s < (lineOf .s3 s).setup.depth ∧ s.ttr.ott.length < 32 ∧
            ((rec.passbookUse = .required ∧ insertedBook .s3 s = none ∧ why = .passbookRequired) ∨
              ((rec.passbookUse = .required → insertedBook .s3 s ≠ none) ∧
                ((s.blc.link ≠ .lost ∧ 48 ≤ reversalSum s ∧ why = .adviceFull) ∨
                  (s.blc.link = .lost ∧ rec.routing = .online ∧ why = .linkDown) ∨
                  (s.blc.link = .lost ∧ rec.routing = .onlineStandin ∧ standinFails 417 rec found1042 s why) ∨
                  (((s.blc.link ≠ .lost ∧ reversalSum s < 48) ∨ (s.blc.link = .lost ∧ rec.routing = .onlineStandin ∧
                      ∀ y, ¬ standinFails 417 rec found1042 s y)) ∧
                    ∃ a, found1042.amount = some a ∧ rec.cashDirection ≠ .noCash ∧
                      cashFails .s3 417 rec.cashDirection a (usableFields form12 (sentFields request1042.fields)) s
                        why)))))))) :
    refusedLater .s3 request1042 s why := by
  obtain ⟨k1, k2, k3, k4, k5, k6, k7, k8⟩ := k
  exact ⟨rec, form12, found1042, h, .inl k1, k2.symm, k3, k4, k5, .inr (.inr ⟨k6, k7, 417, k8, l⟩)⟩

theorem witness_refused_authority :
    refusedLater .s3 request1042 (withCode { withdrawal with minAuthority := .supervisor }) .authority :=
  ⟨{ withdrawal with minAuthority := .supervisor }, form12, found1042, by decide +kernel, .inl (by decide +kernel), rfl,
    by decide +kernel, by decide +kernel, by decide +kernel, .inl ⟨by decide +kernel, rfl⟩⟩

theorem witness_refused_local :
    refusedLater .s3 { form := 2, code := 901, fields := [] } (onJrn (fun j => { j with free := 3 }) branch) .journalFull :=
  ⟨localCode 901 .signOff 2, form2, ⟨none, none⟩, by decide +kernel, .inl (by decide +kernel), rfl, by decide +kernel,
    by decide +kernel, by decide +kernel,
    .inr (.inl ⟨by decide +kernel, rfl, by decide +kernel, by decide +kernel, rfl⟩)⟩

theorem witness_refused_space :
    refusedLater .s3 request1042 (onJrn (fun j => { j with free := 67 }) branch) .journalFull ∧
      refusedLater .s3 request1042 (onTtr (fun t => { t with
        ott := List.replicate 2 { entry311 with ref := ⟨.s3, 1⟩ } }) branch) .stationDepth ∧
      refusedLater .s3 request1042 (onTtr (fun t => { t with ott := List.replicate 32 entry311 }) branch) .trackerFull :=
  ⟨refusedLater_of (rec := withdrawal) (by decide +kernel) (by decide +kernel) (.inl ⟨by decide +kernel, rfl⟩),
    refusedLater_of (rec := withdrawal) (by decide +kernel) (by decide +kernel)
      (.inr ⟨by decide +kernel, .inl ⟨by decide +kernel, rfl⟩⟩),
    refusedLater_of (rec := withdrawal) (by decide +kernel) (by decide +kernel)
      (.inr ⟨by decide +kernel, .inr (.inl ⟨by decide +kernel, by decide +kernel, rfl⟩)⟩)⟩

/-- 48 REVERSAL advices wait. -/
def reversals48 : State :=
  onSda (fun d => { d with
    queue := (List.range 48).map fun i => .advice ⟨i + 1, .reversal ⟨.s5, i + 1⟩ .lateApproval .noCash 0, none⟩ }) branch

theorem witness_refused_online :
    refusedLater .s3 request1042 (withCode { withdrawal with passbookUse := .required }) .passbookRequired ∧
      refusedLater .s3 request1042 reversals48 .adviceFull ∧
      refusedLater .s3 request1042
        (onBlc (fun b => { b with link := .lost }) (withCode { withdrawal with routing := .online })) .linkDown ∧
      refusedLater .s3 request1042 (onBlc (fun b => { b with link := .lost }) branch) .standinCeiling :=
  ⟨refusedLater_of (rec := { withdrawal with passbookUse := .required }) (by decide +kernel) (by decide +kernel)
      (.inr ⟨by decide +kernel, .inr (.inr ⟨by decide +kernel, by decide +kernel, .inl ⟨rfl, by decide +kernel, rfl⟩⟩)⟩),
    refusedLater_of (rec := withdrawal) (by decide +kernel) (by decide +kernel)
      (.inr ⟨by decide +kernel, .inr (.inr ⟨by decide +kernel, by decide +kernel,
        .inr ⟨by decide +kernel, .inl ⟨by decide +kernel, by decide +kernel, rfl⟩⟩⟩)⟩),
    refusedLater_of (rec := { withdrawal with routing := .online }) (by decide +kernel) (by decide +kernel)
      (.inr ⟨by decide +kernel, .inr (.inr ⟨by decide +kernel, by decide +kernel,
        .inr ⟨by decide +kernel, .inr (.inl ⟨rfl, rfl, rfl⟩)⟩⟩)⟩),
    refusedLater_of (rec := withdrawal) (by decide +kernel) (by decide +kernel)
      (.inr ⟨by decide +kernel, .inr (.inr ⟨by decide +kernel, by decide +kernel,
        .inr ⟨by decide +kernel, .inr (.inr (.inl ⟨rfl, rfl,
          .inl ⟨28743, rfl, .inl ⟨by decide +kernel, rfl⟩⟩⟩))⟩⟩)⟩)⟩

/-- The OUT leg of 3/1042 at a drawer without its change. -/
theorem witness_refused_leg :
    refusedLater .s3 request1042 (setPosition (some .s3) emptyPosition branch) .noExactChange :=
  refusedLater_of (rec := withdrawal) (by decide +kernel) (by decide +kernel)
    (.inr ⟨by decide +kernel, .inr (.inr ⟨by decide +kernel, by decide +kernel,
      .inr ⟨by decide +kernel, .inr (.inr (.inr ⟨.inl ⟨by decide +kernel, by decide +kernel⟩, 28743, rfl, by decide +kernel,
        .inr ⟨.inr (by decide +kernel), .inr ⟨by decide +kernel, 28745, by decide +kernel,
          .inr (.inl ⟨by decide +kernel, .inr ⟨rfl, by decide +kernel, rfl⟩⟩)⟩⟩⟩))⟩⟩)⟩)

/-- A breakdown keyed for denomination 1. -/
def keyed (count : String) : List KeyField := [⟨48, count.toList⟩]

/-- The drawer reads OPEN; the drawer is SUSPECT; an entry past the table, and one above 65,535; an IN leg without a
breakdown. -/
theorem witness_cashFails :
    cashFails .s3 417 .cashIn 5 [] (onLine .s3 (fun l => { l with drawerOpen := true }) branch) .drawerOpen ∧
      cashFails .s3 417 .cashIn 5 [] (setPosition (some .s3) { drawer29 with state := .suspect } branch) .suspect ∧
      cashFails .s3 417 .cashIn 5 [⟨59, "1".toList⟩] branch .breakdownMismatch ∧
      cashFails .s3 417 .cashIn 5 (keyed "65536") branch .breakdownMismatch ∧
      cashFails .s3 417 .cashIn 3 [] branch .breakdownRequired :=
  ⟨.inl ⟨by decide +kernel, by decide +kernel, rfl⟩, .inr ⟨.inr (by decide +kernel), .inl ⟨by decide +kernel, rfl⟩⟩,
    .inr ⟨.inr (by decide +kernel), .inr ⟨by decide +kernel, _, rfl,
      .inl ⟨⟨_, List.mem_singleton.2 rfl, by decide +kernel, by decide +kernel, .inl (by decide +kernel)⟩, rfl⟩⟩⟩,
    .inr ⟨.inr (by decide +kernel), .inr ⟨by decide +kernel, _, rfl,
      .inl ⟨⟨_, List.mem_singleton.2 rfl, by decide +kernel, by decide +kernel, .inr fun v h => by
        rw [show readDecimal "65536".toList = some 65536 by decide +kernel] at h; cases h; decide⟩, rfl⟩⟩⟩,
    .inr ⟨.inr (by decide +kernel), .inr ⟨by decide +kernel, 5, by decide +kernel,
      .inr (.inl ⟨by decide +kernel, .inl ⟨rfl, by decide +kernel, rfl⟩⟩)⟩⟩⟩

theorem keyedBreakdown_one {count : String} {n : Nat} (h : readDecimal count.toList = some n) (l : n ≤ 65535) :
    keyedBreakdown 11 (keyed count) (keyedPairs ((List.range 11).map fun i =>
      (fieldText (keyed count) (48 + i)).bind readDecimal)) :=
  ⟨⟨_, List.mem_singleton.2 rfl, Nat.le_refl 48, show 48 ≤ 63 by decide⟩, fun f hf _ _ => by
    rw [List.mem_singleton.1 hf]; exact ⟨show 48 ≤ 47 + 11 by decide, n, h, l⟩, rfl⟩

/-- With a breakdown of 10000s keyed: not its sum; 4 where 3 stand; 65,533 beside 3; and past the hard limit. -/
theorem witness_cashFails_keyed :
    cashFails .s3 417 .cashIn 5 (keyed "1") branch .breakdownMismatch ∧
      cashFails .s3 417 .cashOut 40000 (keyed "4") branch .insufficientCash ∧
      cashFails .s3 417 .cashIn 655330000 (keyed "65533") branch .countLimit ∧
      cashFails .s3 417 .cashIn 655320000 (keyed "65532")
        (onTbl (fun x => { x with tlt := x.tlt.map fun l => { l with hardLimit := 655361934 } }) branch) .drawerLimit :=
  ⟨.inr ⟨.inr (by decide +kernel), .inr ⟨by decide +kernel, 5, by decide +kernel,
      .inr (.inr ⟨_, keyedBreakdown_one (n := 1) (by decide +kernel) (by decide), .inl ⟨by decide +kernel, rfl⟩⟩)⟩⟩,
    .inr ⟨.inr (by decide +kernel), .inr ⟨by decide +kernel, 40000, by decide +kernel,
      .inr (.inr ⟨_, keyedBreakdown_one (n := 4) (by decide +kernel) (by decide),
        .inr (.inl ⟨by decide +kernel, rfl, by decide +kernel, rfl⟩)⟩)⟩⟩,
    .inr ⟨.inr (by decide +kernel), .inr ⟨by decide +kernel, 655330000, by decide +kernel,
      .inr (.inr ⟨_, keyedBreakdown_one (n := 65533) (by decide +kernel) (by decide),
        .inr (.inr ⟨by decide +kernel, rfl, .inl ⟨by decide +kernel, rfl⟩⟩)⟩)⟩⟩,
    .inr ⟨.inr (by decide +kernel), .inr ⟨by decide +kernel, 655320000, by decide +kernel,
      .inr (.inr ⟨_, keyedBreakdown_one (n := 65532) (by decide +kernel) (by decide),
        .inr (.inr ⟨by decide +kernel, rfl, .inr ⟨by decide +kernel,
          ⟨{ limits 417 with hardLimit := 655361934 }, by decide +kernel, by decide +kernel, by decide +kernel⟩, rfl⟩⟩)⟩)⟩⟩⟩

/-- The leg of section 2.9. -/
def leg1042 : Leg :=
  { dir := .cashOut, exact := 28743, rounded := 28745,
    breakdown := [(1, 2), (2, 1), (4, 3), (5, 1), (6, 1), (9, 2), (11, 1)] }

theorem witness_AcceptedRequestIsQueued :
    delivered .s3 .d1 (.keyRequest request1042) branch = some branch ∧
      passesIntake .s3 request1042 withdrawal form12 found1042 branch ∧ tellerAt .s3 branch = some 417 ∧
      withdrawal.routing ≠ .localCode ∧ branch.blc.link ≠ .lost ∧ journalRoom withdrawal.dayClass branch = true ∧
      depthRefusal .s3 branch = none ∧ passbookCheck .s3 withdrawal.passbookUse branch = .ok none ∧
      reversalSum branch < 48 ∧
      legOf { st := .s3, teller := 417, tct := withdrawal, request := request1042,
              fields := usableFields form12 (sentFields request1042.fields), found := found1042,
              ref := ⟨.s3, nextNumber .s3 branch⟩, snapshot := none } branch = .ok (some leg1042) := by
  unfold passesIntake; decide +kernel

/-- The stand-in withdrawal 3/1060 of section 5.6: A = 15,000 on account 40017733. -/
def request1060 : KeyRequest :=
  { form := 12, code := 210, fields := [⟨2, "40017733".toList⟩, ⟨9, "150.00".toList⟩] }

/-- The branch of section 5.6: the link LOST, advice 15 and a reservation queued. -/
def standinBranch : State :=
  onBlc (fun b => { b with link := .lost })
    (onTtr (fun t => { t with seqs := t.seqs.set .s3 1060 })
      (onSda (fun d => { d with
        nextAdvice := 16
        queue :=
          [.advice ⟨15, .passbookUpdate ⟨⟨.s4, 88⟩, "40231190".toList, some 1, 5, 2, none⟩ .printerFault, none⟩,
           .reservation ⟨⟨.s4, 90⟩, "40231190".toList, some 1, 5, 0, none⟩] }) branch))

/-- Section 5.6: 3/1060 is approved with advice 16, and 3/1061 of 18,000 is then refused ACCOUNT_CEILING. -/
theorem test_standin_approval :
    let t := run (.keyRequest .s3 request1060) standinBranch
    (mapEntry "40017733".toList t).map (fun e => (e.debit, e.approvals)) = some (15000, 1) ∧ t.sda.nextAdvice = 17 ∧
      queueCount isGeneral t = 3 ∧
      (contextOf .s3 (run (.keyRequest .s3 { request1060 with fields := [⟨2, "40017733".toList⟩, ⟨9, "180".toList⟩] })
        t)).map ScreenContext.message = some "ACCOUNT CEILING".toList := by decide +kernel

theorem witness_recordsOk : recordsOk standinBranch ∧ recordsOk (run (.keyRequest .s3 request1060) standinBranch) ∧
    standinBranch.sda.tellerDays ≠ [] := by
  unfold recordsOk; decide +kernel

/-- What intake knows of 3/1060. -/
def admitted1060 : Admitted :=
  { st := .s3, teller := 417, tct := withdrawal, request := request1060,
    fields := usableFields form12 (sentFields request1060.fields), found := ⟨some 15000, some "40017733".toList⟩,
    ref := ⟨.s3, nextNumber .s3 standinBranch⟩, snapshot := none }

/-- The leg of 3/1060: one 10000 and one 5000. -/
def leg1060 : Leg := { dir := .cashOut, exact := 15000, rounded := 15000, breakdown := [(1, 1), (2, 1)] }

theorem witness_StandinApprovalIsRecorded :
    delivered .s3 .d1 (.keyRequest request1060) standinBranch = some standinBranch ∧
      passesIntake .s3 request1060 withdrawal form12 admitted1060.found standinBranch ∧
      tellerAt .s3 standinBranch = some 417 ∧ withdrawal.routing = .onlineStandin ∧ standinBranch.blc.link = .lost ∧
      journalRoom withdrawal.dayClass standinBranch = true ∧ depthRefusal .s3 standinBranch = none ∧
      passbookCheck .s3 withdrawal.passbookUse standinBranch = .ok none ∧
      standinRefusal admitted1060 standinBranch = none ∧ legOf admitted1060 standinBranch = .ok (some leg1060) ∧
      canWrite 0 { station := some .s3, teller := some 417,
                   body := .txn (nextNumber .s3 standinBranch) 210 .standinApproved, account := some "40017733".toList,
                   amounts := some (15000, 15000), breakdown := [(1, 1), (2, 1)] } standinBranch := by
  unfold passesIntake canWrite; decide +kernel

/-- R101: a second approval on the account raises its entry, its teller's total and the pulse asked for. -/
theorem test_standin_again :
    let s := onSda (fun d => { d with accountMap := [⟨"40017733".toList, 5000, 65535⟩] }) standinBranch
    let t := run (.keyRequest .s3 request1060) s
    t.sda.accountMap = [⟨"40017733".toList, 20000, 65535⟩] ∧ standinTotal 417 t = standinTotal 417 s + 15000 ∧
      (lineOf .s3 t).pulse = some 200 := by decide +kernel

/-- The stand-in checks at their boundaries: a teller total of 35,001, an account debit of 15,001, a map of 64 entries, and
72 general advices, each one past what 3/1060 may meet. -/
theorem witness_standinFails :
    standinFails 417 withdrawal admitted1060.found
        (onSda (fun d => { d with tellerDays := [⟨417, some .s3, 35001, 0, ⟨32000, false⟩, none⟩] }) standinBranch)
        .standinCeiling ∧
      standinFails 417 withdrawal ⟨some 15000, none⟩ standinBranch .accountCeiling ∧
      standinFails 417 withdrawal admitted1060.found
        (onSda (fun d => { d with accountMap := [⟨"40017733".toList, 15001, 1⟩] }) standinBranch) .accountCeiling ∧
      standinFails 417 withdrawal admitted1060.found
        (onSda (fun d => { d with accountMap := (List.range 64).map fun i => ⟨natText i, 1, 1⟩ }) standinBranch)
        .accountMapFull ∧
      standinFails 417 withdrawal admitted1060.found (onTbl (fun x => { x with tltCeiling := 14999 }) standinBranch)
        .accountCeiling ∧
      standinFails 417 withdrawal ⟨none, none⟩
        (onSda (fun d => { d with
          queue := (List.range 72).map fun i => .advice ⟨i + 1, .standin ⟨.s5, i + 1⟩ 208 11 none none ⟨7, false⟩, none⟩ })
          standinBranch) .adviceFull :=
  ⟨.inl ⟨15000, rfl, .inr ⟨by decide +kernel, rfl, .inl ⟨by decide +kernel, rfl⟩⟩⟩,
    .inl ⟨15000, rfl, .inr ⟨by decide +kernel, rfl, .inr ⟨by decide +kernel, .inl ⟨rfl, rfl⟩⟩⟩⟩,
    .inl ⟨15000, rfl, .inr ⟨by decide +kernel, rfl, .inr ⟨by decide +kernel,
      .inr ⟨_, rfl, .inl ⟨⟨"40017733".toList, 15001, 1⟩, by decide +kernel, by decide +kernel, rfl⟩⟩⟩⟩⟩,
    .inl ⟨15000, rfl, .inr ⟨by decide +kernel, rfl, .inr ⟨by decide +kernel,
      .inr ⟨_, rfl, .inr (.inl ⟨by decide +kernel, by decide +kernel, rfl⟩)⟩⟩⟩⟩,
    .inl ⟨15000, rfl, .inr ⟨by decide +kernel, rfl, .inr ⟨by decide +kernel,
      .inr ⟨_, rfl, .inr (.inr ⟨by decide +kernel, by decide +kernel, by decide +kernel, rfl⟩)⟩⟩⟩⟩,
    .inr ⟨by decide +kernel, rfl, .inl rfl⟩⟩

/-- The branch with station 3 SIGNED_OFF. -/
def signedOffBranch : State := setSignOn .s3 none branch

/-- The sign-on of teller 311 (section 3.6, step 5). -/
def signOn311 : KeyRequest := { form := 2, code := 900, fields := [⟨1, "311".toList⟩] }

/-- A sign-off. -/
def signOffKey : KeyRequest := { form := 2, code := 901, fields := [] }

/-- Section 3.6: step 5 signs teller 311 on with a new record counting 1; step 3 signs a teller off. -/
theorem test_sign_on_and_off :
    let t := run (.keyRequest .s3 signOn311) signedOffBranch
    tellerAt .s3 t = some 311 ∧ (tellerDay 311 t).map TellerDay.txCount = some 1 ∧
      (contextOf .s3 t).map ScreenContext.message = some "SIGNED ON".toList ∧
      tellerAt .s3 (run (.keyRequest .s3 signOffKey) branch) = none := by decide +kernel

/-- R61, R62: teller 311 signs on again with a record: its count, its first sign-on
time and its total stand, and the record of teller 417 with it; a sign-off sets its own time. -/
theorem test_sign_on_again :
    let s := onSda (fun d => { d with
      tellerDays := [⟨417, none, 5, 9, ⟨32000, false⟩, none⟩, ⟨311, none, 7, 65535, ⟨31000, false⟩, some ⟨31900, false⟩⟩] })
      signedOffBranch
    (run (.keyRequest .s3 signOn311) s).sda.tellerDays =
        [⟨417, none, 5, 9, ⟨32000, false⟩, none⟩, ⟨311, some .s3, 7, 65535, ⟨31000, false⟩, some ⟨31900, false⟩⟩] ∧
      (run (.keyRequest .s3 signOffKey) branch).sda.tellerDays =
        [⟨417, none, 0, 1, ⟨32000, false⟩, some branch.mrs.clock⟩] ∧
      (tellerDay 311 signedOffBranch).isNone = true := by decide +kernel

theorem witness_sign_on :
    delivered .s3 .d1 (.keyRequest signOn311) signedOffBranch = some signedOffBranch ∧
      passesIntake .s3 signOn311 (localCode 900 .signOn 2) form2 ⟨none, none⟩ signedOffBranch ∧
      (localCode 900 .signOn 2).routing = .localCode ∧ 4 ≤ signedOffBranch.jrn.free ∧
      signedOffBranch.jrn.nextSeq ≤ 4294967295 ∧ tellerAt .s3 signedOffBranch = none ∧
      fieldText (usableFields form2 (sentFields signOn311.fields)) 1 = some "311".toList ∧
      readDecimal "311".toList = some 311 ∧ (∀ a, tellerAt a signedOffBranch ≠ some 311) ∧
      tellerRecord 311 signedOffBranch = some (limits 311) ∧
      reaches (limits 311).authority (localCode 900 .signOn 2).minAuthority = true ∧
      signedOffBranch.sda.tellerDays.length < 64 :=
  ⟨by decide +kernel, by unfold passesIntake; decide +kernel, rfl, by decide +kernel, by decide +kernel, by decide +kernel,
    by decide +kernel, by decide +kernel, fun a => by cases a <;> decide +kernel, by decide +kernel, by decide +kernel,
    by decide +kernel⟩

theorem witness_sign_off :
    delivered .s3 .d1 (.keyRequest signOffKey) branch = some branch ∧
      passesIntake .s3 signOffKey (localCode 901 .signOff 2) form2 ⟨none, none⟩ branch ∧
      (localCode 901 .signOff 2).localAction = some .signOff ∧ tellerAt .s3 branch = some 417 ∧
      ∀ e ∈ branch.ttr.ott, e.ref.station ≠ .s3 := by
  unfold passesIntake; decide +kernel

/-- R59 in its order: a station in use, a teller active elsewhere, numbers of 5 digits and of no record, an authority that does
not reach, and 64 records; R62: 3/1042 in flight. -/
theorem witness_sign_on_refused :
    let one := [⟨1, "311".toList⟩]
    let active := setSignOn .s1 (some 311) signedOffBranch
    let full := onSda (fun d => { d with
      tellerDays := (List.range 64).map fun i => ⟨1000 + i, none, 0, 0, ⟨7, false⟩, none⟩ }) signedOffBranch
    let code := localCode 900 .signOn 2
    signOnFails .s3 code one branch .stationInUse ∧ signOnFails .s3 code one active .tellerActive ∧
      signOnFails .s3 code [⟨1, "00311".toList⟩] signedOffBranch .unknownTeller ∧
      signOnFails .s3 code [⟨1, "9998".toList⟩] signedOffBranch .unknownTeller ∧
      signOnFails .s3 { code with minAuthority := .supervisor } one signedOffBranch .authority ∧
      signOnFails .s3 code one full .tellerListFull ∧ ∃ e ∈ branchAwaiting.ttr.ott, e.ref.station = .s3 := by
  have h : ∀ n, readDecimal "311".toList = some n → n = 311 := fun n h =>
    (Option.some.inj ((show readDecimal "311".toList = some 311 by decide +kernel).symm.trans h)).symm
  have out : ∀ n a, tellerAt a signedOffBranch = some n → n ≠ 311 ∧ n ≠ 9998 := by
    intro n a; cases a <;> decide +revert +kernel
  refine ⟨.inl ⟨by decide +kernel, rfl⟩,
    .inr ⟨by decide +kernel, .inl ⟨_, 311, .s1, rfl, by decide +kernel, by decide, by decide +kernel, rfl⟩⟩,
    .inr ⟨by decide +kernel, .inr ⟨fun x n a hx hn _ => ?_, .inl ⟨fun x n hx _ l => ?_, rfl⟩⟩⟩,
    .inr ⟨by decide +kernel, .inr ⟨fun x n a hx hn _ => ?_, .inl ⟨fun x n hx hn _ _ _ => ?_, rfl⟩⟩⟩,
    .inr ⟨by decide +kernel, .inr ⟨fun x n a hx hn _ => ?_, .inr ⟨_, 311, limits 311, rfl, by decide +kernel, by decide,
      by decide, by decide, by decide +kernel, .inl ⟨by decide +kernel, rfl⟩⟩⟩⟩,
    .inr ⟨by decide +kernel, .inr ⟨fun x n a hx hn _ => ?_, .inr ⟨_, 311, limits 311, rfl, by decide +kernel, by decide,
      by decide, by decide, by decide +kernel,
      .inr ⟨by decide +kernel, by decide +kernel, by decide +kernel, rfl⟩⟩⟩⟩, by decide +kernel⟩
  all_goals cases hx
  · intro e
    have := Option.some.inj ((show readDecimal "00311".toList = some 311 by decide +kernel).symm.trans hn)
    exact (out n a e).1 this.symm
  · exact absurd l (by decide)
  · intro e
    have := Option.some.inj ((show readDecimal "9998".toList = some 9998 by decide +kernel).symm.trans hn)
    exact (out n a e).2 this.symm
  · cases Option.some.inj ((show readDecimal "9998".toList = some 9998 by decide +kernel).symm.trans hn); decide +kernel
  · exact fun e => (out n a e).1 (h n hn)
  · exact fun e => (out n a (show tellerAt a signedOffBranch = some n from e)).1 (h n hn)

/-- R59, R62: a refused sign-on and a refused sign-off are recorded with the number keyed and the teller. -/
theorem test_sign_on_refused :
    let t := run (.keyRequest .s3 signOn311) branch
    let u := run (.keyRequest .s3 signOffKey) branchAwaiting
    t.jrn.entries.map (fun e => (e.draft.teller, e.draft.body)) =
        [(some 311, .localAction 1042 900 .signOn (some .stationInUse) 0)] ∧ tellerAt .s3 t = some 417 ∧
      u.jrn.entries.map (fun e => (e.draft.teller, e.draft.body)) =
        [(some 417, .localAction 1043 901 .signOff (some .inFlight) 0)] ∧ tellerAt .s3 u = some 417 := by decide +kernel

/-- Section 3.6, step 4: a form call at a SIGNED_OFF station is refused and the prompt kept; one of a SIGN_ON code, and one
by a teller signed on, are taken. Behind another frame it waits. -/
theorem test_form_calls :
    (contextOf .s3 (run (.formCall .s3 210) signedOffBranch)).map ScreenContext.message = some "NOT SIGNED ON".toList ∧
      (contextOf .s3 (run (.formCall .s3 900) signedOffBranch)).map ScreenContext.format = some (some 2) ∧
      (contextOf .s3 (run (.formCall .s3 210) branch)).map ScreenContext.format = some (some 12) ∧
      delivered .s3 .d1 (.formCall 210) behindAnother = none ∧ codeRecord 999 branch = none := by decide +kernel

/-! ## Replies, deadlines and the Late List -/

/-- Entry 3/1042 as it awaits its reply. -/
def entry1042 : OttEntry :=
  { ref := ⟨.s3, 1042⟩, teller := 417, code := 210, state := .awaiting 30000, approveFormat := 13, declineFormat := 13,
    replyTimeout := 30, passbookUse := .optional, cashDirection := .cashOut, account := some "40017733".toList,
    leg := some leg1042, snapshot := none }

theorem witness_reply :
    approval.station = Station.s3.num ∧ approval.outcome = 1 ∧ { approval with outcome := 2 }.outcome = 2 ∧
      approval.lines.length ≤ 24 ∧ ottEntry ⟨.s3, approval.seq⟩ branchAwaiting = some entry1042 ∧
      entry1042.state = .awaiting 30000 ∧ branchAwaiting.jrn.nextSeq + 1 ≤ 4294967295 ∧ approval.lines = [] ∧
      (lineWith .drawerRelease (lineOf .s3 branchAwaiting).setup).isSome = true ∧
      (lineOf .s3 branchAwaiting).latches = Four.fill false ∧ (lineOf .s3 branchAwaiting).pulse = none ∧
      draftSlots { station := some .s3, teller := some 417, body := .txn 1042 210 .approved,
                   account := some "40017733".toList, amounts := some (28743, 28745), breakdown := leg1042.breakdown } ≤
        branchAwaiting.jrn.free + 4 := by decide +kernel

/-- Section 1.7: the drawer release pulses on the approval, and not on a decline, which puts the counts back. -/
theorem test_reply_pulse_and_decline :
    (lineOf .s3 (run (.reply .s3 (some approval)) branchAwaiting)).pulse = some 200 ∧
      (lineOf .s3 (run (.reply .s3 (some { approval with outcome := 2 })) branchAwaiting)).pulse = none ∧
      drawerOf .s3 (run (.reply .s3 (some { approval with outcome := 2 })) branchAwaiting) = drawer29 := by decide +kernel

/-- Form 13 with a field of a reply's tag 7 and one of tag 8. -/
def tagBranch : State :=
  onTbl (fun x => { x with sft := [{ form13 with fields :=
    [{ tag := 7, row := 3, column := 1, length := 4, cls := 0, kind := .text, required := false, source := .replyTag },
     { tag := 8, row := 4, column := 1, length := 4, cls := 0, kind := .text, required := false, source := .replyTag }] }] })
    branchAwaiting

/-- R23, R68: a decline shows the reply's text of a tag, and blanks where the reply has none. -/
theorem witness_reply_tags :
    let r := { approval with outcome := 2, fields := [⟨7, "AB".toList⟩] }
    ottEntry ⟨.s3, r.seq⟩ tagBranch = some entry1042 ∧ (∀ y ∈ r.fields, y.tag = 7 → y.text = "AB".toList) ∧
      (∃ y ∈ r.fields, y.tag = 7) ∧ (∀ y ∈ r.fields, y.tag = 8 → y.text = []) ∧
      (contextOf .s3 (run (.reply .s3 (some r)) tagBranch)).map ScreenContext.texts =
        some ["AB  ".toList, "    ".toList] := by decide +kernel

/-- The body of an advice of the queue. -/
def adviceBodyOf : QueueEntry → Option AdviceBody
  | .advice a => some a.body
  | .reservation _ => none

/-- An approval with one passbook line. -/
def approvalWithLine : Reply :=
  { approval with lines := [⟨"01 APR".toList, "WDL".toList, -28743, none⟩], balance := some 90000 }

/-- The job that it asks for. -/
def job1042 : Job := askedJob entry1042 approvalWithLine "40017733".toList

/-- What the printer of station 3 may be as the job joins: empty, with its book, with another, behind an owed write, and
full. -/
theorem witness_job_joins :
    linesAccount entry1042 = some "40017733".toList ∧ approvalWithLine.lines ≠ [] ∧
      entry1042.passbookUse ≠ .notUsed ∧ queueCount isGeneral branchAwaiting < 72 ∧
      printerOf .s3 branchAwaiting = some readyPrinter ∧ readyPrinter.queue.length < 4 ∧
      bookMatches job1042 ⟨"40017733".toList, 2, 5, 7, 18⟩ = true ∧
      bookMatches job1042 ⟨"40099120".toList, 2, 5, 7, 18⟩ = false ∧
      owedFor { readyPrinter with owed := some ⟨"40017733".toList, 5, ⟨7, 19⟩⟩ } ⟨"40017733".toList, 2, 5, 7, 18⟩ = true ∧
      owedFor readyPrinter ⟨"40017733".toList, 2, 5, 7, 18⟩ = false ∧
      lineStarts job1042 ⟨"40017733".toList, 2, 5, 1, 1⟩ layout2 ⟨"01 APR".toList, "WDL".toList, -28743, none⟩ 4
        branchAwaiting := by
  unfold lineStarts; decide +kernel

/-- R84, R85: the job begins at an inserted book, waits where none is, and is refused by a full queue; R68 its words. -/
theorem test_job_joins :
    let t := fun c => run (.reply .s3 (some approvalWithLine)) (setPrinter .s3 (some c) branchAwaiting)
    let words := fun c => (contextOf .s3 (t c)).bind fun x => x.texts[1]?
    let inserted : PrinterContext := { readyPrinter with book := some ⟨"40017733".toList, 2, 5, 7, 18⟩ }
    (headJob .s3 (t inserted)).map Job.state = some .printing ∧ words inserted = some "PRINTING  ".toList ∧
      words readyPrinter = some "BOOK WAIT ".toList ∧
      (t readyPrinter).sda.queue = [grantedReservation job1042] ∧
      words { readyPrinter with queue := List.replicate 4 job1042, state := .printing } = some "QUEUE FULL".toList := by
  decide +kernel

/-- The placement of the job at its start: no layout of the book's type, a stripe past the book, the book's last page full,
and a full page before the last; another's owed write not behind the book. -/
theorem witness_starts_without_line :
    endsAtStart job1042 ⟨"40017733".toList, 3, 5, 7, 18⟩ branchAwaiting .noLayout ∧
      endsAtStart job1042 ⟨"40017733".toList, 2, 5, 17, 1⟩ branchAwaiting .badStripe ∧
      endsAtStart job1042 ⟨"40017733".toList, 2, 5, 16, 22⟩ branchAwaiting .badStripe ∧
      endsAtStart job1042 ⟨"40017733".toList, 2, 5, 16, 21⟩ branchAwaiting .bookFull ∧
      turnsAtStart job1042 ⟨"40017733".toList, 2, 5, 15, 21⟩ layout2 branchAwaiting ∧
      owedFor { readyPrinter with owed := some ⟨"40017733".toList, 5, ⟨7, 18⟩⟩ } ⟨"40017733".toList, 2, 5, 7, 18⟩ = true ∧
      placeBefore (bookPlace ⟨"40017733".toList, 2, 5, 7, 18⟩) ⟨7, 18⟩ = false ∧
      (∀ r, QueueEntry.reservation r ∈ branchAwaiting.sda.queue → r.ref ≠ job1042.ref) ∧
      draftSlots (passbookDraft .s3 (some 417) (jobReservation (metBook job1042 ⟨"40017733".toList, 2, 5, 17, 1⟩)) .badStripe
        .notDue) ≤ branchAwaiting.jrn.free :=
  ⟨.inl ⟨rfl, by decide +kernel, rfl, rfl⟩,
    .inr ⟨layout2, 1, ⟨.inr ⟨rfl, by decide +kernel⟩, rfl⟩, .inl ⟨by decide +kernel, rfl⟩⟩,
    .inr ⟨layout2, 22, ⟨.inr ⟨rfl, by decide +kernel⟩, rfl⟩, .inl ⟨by decide +kernel, rfl⟩⟩,
    .inr ⟨layout2, 21, ⟨.inr ⟨rfl, by decide +kernel⟩, rfl⟩, .inr ⟨by decide +kernel, rfl, rfl, rfl, rfl⟩⟩,
    ⟨⟨.inr ⟨rfl, by decide +kernel⟩, rfl⟩, by decide +kernel, by decide +kernel⟩,
    by decide +kernel, by decide +kernel, fun r h => absurd h (by simp [show branchAwaiting.sda.queue = [] by rfl]),
    by decide +kernel⟩

/-- R22, R87, R93: a job with a bad stripe ends as it is made, its advice queued and its PASSBOOK entry before the TXN entry
(log 32), and the screen names the cause (log 15); a full page is turned. -/
theorem test_starts_without_line :
    let t := fun b => run (.reply .s3 (some approvalWithLine))
      (setPrinter .s3 (some { readyPrinter with book := some b }) branchAwaiting)
    let words := fun b => (contextOf .s3 (t b)).bind fun x => x.texts[1]?
    let bad : Book := ⟨"40017733".toList, 2, 5, 17, 1⟩
    let full : Book := ⟨"40017733".toList, 2, 5, 15, 21⟩
    (printerOf .s3 (t bad)).map PrinterContext.queue = some [] ∧ words bad = some "BAD STRIPE".toList ∧
      (t bad).jrn.entries.map (fun e => e.draft.body) =
        [.passbook 1042 (some 5) 1 0 .badStripe .notDue, .txn 1042 210 .approved] ∧
      (t bad).sda.queue.map adviceBodyOf =
        [some (.passbookUpdate ⟨⟨.s3, 1042⟩, "40017733".toList, some 5, 1, 0, none⟩ .badStripe)] ∧
      words full = some "TURN WAIT ".toList ∧
      (printerOf .s3 (t full)).bind (fun c => c.item.map PrinterItem.body) = some (.stripeWrite ⟨16, 1⟩ .turn) := by
  decide +kernel

/-- Entry 3/1042 in the Late List. -/
def lateBranch : State := run (.deadlineExpiry ⟨.s3, 1042⟩) branchAwaiting

/-- The Late List entry of 3/1042. -/
def late1042 : LateEntry := { ref := ⟨.s3, 1042⟩, code := 210, dir := .cashOut, rounded := 28745, expiry := 300000 }

theorem witness_late :
    ottEntry ⟨.s3, approval.seq⟩ lateBranch = none ∧ lateEntry ⟨.s3, approval.seq⟩ lateBranch = some late1042 ∧
      lateBranch.jrn.nextSeq ≤ 4294967295 ∧ (heldRefs lateBranch).Nodup ∧ approval.lines.length ≤ 24 := by decide +kernel

/-- The Late List of section 1.9: 16 entries, the oldest 6/77. -/
def fullLate : State :=
  onTtr (fun t => { t with
    late := ⟨⟨.s6, 77⟩, 220, .cashIn, 5000, 1000⟩ :: (List.range 15).map fun i => ⟨⟨.s6, 78 + i⟩, 220, .noCash, 0, 2000⟩ })
    (onJrn (fun j => { j with reserved := j.reserved + 32, free := j.free - 32 }) branchAwaiting)

/-- Section 1.9: the expiry displaces 6/77; the list holds 16 entries again and the reserved slots fall by 4. -/
theorem test_full_late_list :
    let t := run (.deadlineExpiry ⟨.s3, 1042⟩) fullLate
    t.ttr.late.length = 16 ∧ lateEntry ⟨.s6, 77⟩ t = none ∧ t.ttr.late.getLast?.map LateEntry.ref = some ⟨.s3, 1042⟩ ∧
      t.jrn.reserved + 4 = fullLate.jrn.reserved ∧ fullLate.ttr.late.length = 16 ∧
      t.jrn.entries.map (fun e => e.draft.body) = [.txn 1042 210 .timedOut, .late .expired 77 220 0 none] ∧
      (tellerDay 417 t).map TellerDay.txCount = some 1 := by decide +kernel

/-- R27 and R21: the expiry writes its LATE entry, and a reply for it is then unmatched. -/
theorem test_late_expiry :
    let t := run (.lateExpiry ⟨.s3, 1042⟩) lateBranch
    t.ttr.late = [] ∧ t.jrn.entries.length = lateBranch.jrn.entries.length + 1 ∧
      (run (.reply .s3 (some approval)) t).mrs.unmatchedReplies = 1 := by decide +kernel

/-! ## Cash -/

theorem witness_rounding_and_breakdown :
    0 < 5 ∧ greedyBreakdown faces29 drawer29 28745 = some leg1042.breakdown ∧ leg1042.dir = .cashOut ∧
      { leg1042 with dir := .cashIn }.dir = .cashIn ∧ 1 ≤ drawer29.counts.length := by decide +kernel

/-- The greedy breakdown of 7 over faces 5 and 2 with 3 and 0 of them: one 5 is taken and 2 remain. -/
theorem witness_greedy :
    let p := positionWith [3, 0] 15
    let rest := fun i => if i = 0 then 7 else 2
    let take := fun i => if i = 0 then 1 else 0
    rest 0 = 7 ∧ (∀ (i : Nat) (d : DntRec), [(⟨5, .note, 0⟩ : DntRec), ⟨2, .coin, 0⟩][i]? = some d →
      take i = min ((countsAt p (i + 1)).committed - (countsAt p (i + 1)).reservedOut - d.floor) (rest i / d.face) ∧
        rest (i + 1) = rest i - take i * d.face) := by
  refine ⟨rfl, fun i d h => ?_⟩
  match i, h with
  | 0, h => cases h; decide
  | 1, h => cases h; decide
  | _ + 2, h => cases h

/-- Past the denominations of the branch no count is reserved and no leg reserves. -/
theorem countsAt_past {p : Position} {i : Nat} (h : p.counts.length < i) : countsAt p i = ⟨0, 0, 0⟩ := by
  have h0 : i ≠ 0 := by omega
  simp only [countsAt, if_neg h0, List.getElem?_eq_none (show p.counts.length ≤ i - 1 by omega), Option.getD_none]

theorem witness_reservationsOk :
    reservationsOk branchAwaiting ∧ legsReserve .cashOut .s3 1 branchAwaiting = 2 ∧
      answers (step branchAwaiting) = true := by
  refine ⟨⟨by unfold transactionsOk; decide +kernel, fun p => ?_, fun p => ?_, by decide +kernel, fun st i => ?_⟩,
    by decide +kernel, by decide +kernel⟩
  · cases p with
    | none => unfold positionOk; decide +kernel
    | some st => cases st <;> (unfold positionOk; decide +kernel)
  · cases p with
    | none => decide +kernel
    | some st => cases st <;> decide +kernel
  · have near : ∀ i < 12, (countsAt (drawerOf st branchAwaiting) i).reservedOut = legsReserve .cashOut st i branchAwaiting ∧
        (countsAt (drawerOf st branchAwaiting) i).pendingIn = legsReserve .cashIn st i branchAwaiting := by
      cases st <;> decide +kernel
    rcases Nat.lt_or_ge i 12 with h | h
    · exact near i h
    · have far : ∀ dir, legsReserve dir st i branchAwaiting = 0 := fun dir => by
        have e : pairCount leg1042.breakdown i = 0 := by
          have : leg1042.breakdown.find? (fun p => p.1 = i) = none := List.find?_eq_none.2 fun p hp e => by
            have := (show ∀ p ∈ leg1042.breakdown, p.1 < 12 by decide +kernel) p hp
            have := of_decide_eq_true e
            omega
          rw [pairCount, this]; rfl
        have o : branchAwaiting.ttr.ott = [entry311, entry1042] := by decide +kernel
        rw [legsReserve, o]
        cases st <;> cases dir <;> first | rfl | exact congrArg (fun n => 0 + (n + 0)) e
      rw [countsAt_past (show (drawerOf st branchAwaiting).counts.length < i from
        Nat.lt_of_lt_of_le (show (drawerOf st branchAwaiting).counts.length < 12 by cases st <;> decide +kernel) h), far, far]
      exact ⟨rfl, rfl⟩

/-- The counts 3×10000 of the transfer of section 2.11. -/
def threeNotes : List KeyField := [⟨48, "3".toList⟩]

theorem witness_transfer :
    cashOk branch ∧ checkTransfer true .s3 417 threeNotes branch = .ok [(1, 3)] ∧
      checkTransfer false .s3 417 threeNotes
        (setPosition none (positionWith [3, 0, 0, 0, 0, 0, 0, 0, 0, 0, 0] 30000) branch) = .ok [(1, 3)] :=
  ⟨witness_cashOk, by decide +kernel, by decide +kernel⟩

/-- The transfer as keyed. -/
def transferKey : KeyRequest := { form := 4, code := 902, fields := threeNotes }

/-- The transfer at its station, and the same refused where the drawer has no such notes. -/
theorem witness_transfer_keyed :
    delivered .s3 .d1 (.keyRequest transferKey) branch = some branch ∧
      passesIntake .s3 transferKey (localCode 902 .toReserve 4) form4 ⟨none, none⟩ branch ∧ 4 ≤ branch.jrn.free ∧
      tellerAt .s3 branch = some 417 ∧ usableFields form4 (sentFields transferKey.fields) = threeNotes ∧
      checkTransfer true .s3 417 [⟨48, "4".toList⟩] branch = .error .insufficientCash ∧
      lineWith .drawerRelease (lineOf .s3 branch).setup = some .dl1 ∧
      canWrite 0 (localEntry .s3 417 902 .toReserve none 0 (some (30000, 30000)) [(1, 3)] branch) branch := by
  unfold passesIntake canWrite; decide +kernel

/-- R175: a pulse of 200 ms begins; a running one ends at its own time; a latch and a line without the function absorb it. -/
theorem test_pulse :
    let pulse := fun f => (lineOf .s3 (run (.keyRequest .s3 transferKey) (onLine .s3 f branch))).pulse
    pulse id = some (branch.uptime + 200) ∧ pulse (fun l => { l with pulse := some 150 }) = some 150 ∧
      pulse (fun l => { l with latches := ⟨true, false, false, false⟩ }) = none ∧
      pulse (fun l => { l with setup := { l.setup with functions := ⟨.lamp, .drawerSense, .alarmIn, .spareIn⟩ } }) = none := by
  decide +kernel

/-- Section 2.11: 3×10000 go to the reserve; the sum of the two totals stands. -/
theorem test_transfer :
    let t := run (.keyRequest .s3 { form := 4, code := 902, fields := threeNotes }) branch
    (drawerOf .s3 t).total = 11935 ∧ t.csh.reserve.total = 30000 ∧ (drawerOf .s3 t).txCount = 1 ∧
      (lineOf .s3 t).pulse = some 200 := by decide +kernel

/-- The checks of a transfer, one failing each: nothing keyed, an entry past the table, counts of 0, a SUSPECT drawer, more
than the drawer holds, a reserve at its bound, and the teller's hard limit. -/
theorem witness_transferFails :
    let stock := fun n => setPosition none (positionWith (n :: List.replicate 10 0) (n * 10000)) branch
    transferFails true .s3 417 [] branch .breakdownRequired ∧
      transferFails true .s3 417 [⟨59, "1".toList⟩] branch .breakdownMismatch ∧
      transferFails true .s3 417 (keyed "0") branch .breakdownRequired ∧
      transferFails true .s3 417 (keyed "1") (setPosition (some .s3) { drawer29 with state := .suspect } branch) .suspect ∧
      transferFails true .s3 417 (keyed "4") branch .insufficientCash ∧
      transferFails true .s3 417 (keyed "3") (stock 65533) .countLimit ∧
      transferFails false .s3 417 (keyed "4") (stock 9) .drawerLimit :=
  ⟨.inl ⟨by decide, rfl⟩,
    .inr (.inl ⟨⟨_, List.mem_singleton.2 rfl, by decide +kernel, by decide +kernel, .inl (by decide +kernel)⟩, rfl⟩),
    .inr (.inr ⟨_, _, _, _, keyedBreakdown_one (n := 0) (by decide +kernel) (by decide), rfl, rfl, rfl,
      .inl ⟨by decide +kernel, rfl⟩⟩),
    .inr (.inr ⟨_, _, _, _, keyedBreakdown_one (n := 1) (by decide +kernel) (by decide), rfl, rfl, rfl,
      .inr ⟨by decide +kernel, .inl ⟨.inl (by decide +kernel), rfl⟩⟩⟩),
    .inr (.inr ⟨_, _, _, _, keyedBreakdown_one (n := 4) (by decide +kernel) (by decide), rfl, rfl, rfl,
      .inr ⟨by decide +kernel, .inr ⟨by decide +kernel, by decide +kernel, .inl ⟨by decide +kernel, rfl⟩⟩⟩⟩),
    .inr (.inr ⟨_, _, _, _, keyedBreakdown_one (n := 3) (by decide +kernel) (by decide), rfl, rfl, rfl,
      .inr ⟨by decide +kernel, .inr ⟨by decide +kernel, by decide +kernel, .inr ⟨by decide +kernel,
        .inl ⟨.inl (by decide +kernel), rfl⟩⟩⟩⟩⟩),
    .inr (.inr ⟨_, _, _, _, keyedBreakdown_one (n := 4) (by decide +kernel) (by decide), rfl, rfl, rfl,
      .inr ⟨by decide +kernel, .inr ⟨by decide +kernel, by decide +kernel, .inr ⟨by decide +kernel,
        .inr ⟨by decide +kernel, by decide +kernel, rfl, ⟨limits 417, by decide +kernel, by decide +kernel⟩, rfl⟩⟩⟩⟩⟩)⟩

/-- R47: the total of section 2.9 is above the soft limit and sets EXCESS_CASH; the approval of section 1.7 takes it below
and clears it. -/
theorem test_excess_cash :
    let s := evaluateExcess .s3 417 branch
    (drawerOf .s3 s).excess = true ∧ flagSet .excessCash s.mrs.flags = true ∧
      tellerRecord 417 branch = some (limits 417) ∧
      (drawerOf .s3 (run (.reply .s3 (some approval)) (evaluateExcess .s3 417 branchAwaiting))).excess = false := by
  decide +kernel

/-- R44, R54: a posting of R = 28,745 beside a cash-out total 1 below its bound saturates it and raises
COUNTER_SATURATED. -/
theorem test_saturated_posting :
    let t := postLeg .s3 417 leg1042 (setPosition (some .s3) { drawer29 with cashOut := 999999999998, txCount := 65534 } branch)
    (drawerOf .s3 t).cashOut = 999999999999 ∧ (drawerOf .s3 t).txCount = 65535 ∧ (drawerOf .s3 t).rounding = -2 ∧
      flagSet .counterSaturated t.mrs.flags = true ∧
      flagSet .counterSaturated (postLeg .s3 417 leg1042 branch).mrs.flags = false := by decide +kernel

/-- The counts of section 2.9 with one note of face 20 missing. -/
def declared29 : List Nat := [3, 1, 0, 5, 2, 4, 0, 0, 5, 0, 3]

theorem witness_balancing : cashOk branch ∧ declared29.length = branch.tbl.dnt.length := ⟨witness_cashOk, rfl⟩

/-- A balancing as keyed: an entry for each denomination. -/
def balanceKey : KeyRequest :=
  { form := 4, code := 903, fields := (List.range 11).map fun i => ⟨48 + i, natText (declared29.getD i 0)⟩ }

/-- A balancing and a position enquiry at their station, and a balancing refused for a missing count. -/
theorem witness_balancing_keyed :
    let enquiry := localCode 903 .positionEnquiry 4
    let s := onTbl (fun x => { x with tct := [enquiry] }) branch
    delivered .s3 .d1 (.keyRequest balanceKey) branch = some branch ∧
      passesIntake .s3 balanceKey (localCode 903 .balance 4) form4 ⟨none, none⟩ branch ∧ 4 ≤ branch.jrn.free ∧
      tellerAt .s3 branch = some 417 ∧
      checkBalance (some .s3) (usableFields form4 (sentFields balanceKey.fields)) branch = .ok declared29 ∧
      (match checkBalance (some .s3) threeNotes branch with
        | .ok _ => false
        | .error _ => true) = true ∧
      passesIntake .s3 { balanceKey with fields := [] } enquiry form4 ⟨none, none⟩ s := by
  unfold passesIntake; decide +kernel

/-- Section 2.11: a note of face 20 too few is an over/short of -20, and the drawer is BALANCED. -/
theorem test_balancing :
    let t := run (.keyRequest .s3 balanceKey) branch
    (drawerOf .s3 t).state = .balanced ∧ (drawerOf .s3 t).total = 41915 ∧ (drawerOf .s3 t).overShort = .value (-20) ∧
      declared29.length = branch.tbl.dnt.length := by decide +kernel

/-- Each entry of the balancing as keyed is read. -/
theorem balanceKey_read : ∀ f ∈ balanceKey.fields, 48 ≤ f.tag → f.tag ≤ 63 →
    f.tag ≤ 47 + 11 ∧ ∃ v, readDecimal f.text = some v ∧ v ≤ 65535 := by
  intro f hf _ _
  have h : balanceKey.fields.all (fun f => decide (f.tag ≤ 58) &&
      (match readDecimal f.text with | some v => decide (v ≤ 65535) | none => false)) = true := by decide +kernel
  have h := List.all_eq_true.1 h f hf
  rw [Bool.and_eq_true, decide_eq_true_eq] at h
  refine ⟨h.1, ?_⟩
  cases e : readDecimal f.text with
  | none => rw [e] at h; cases h.2
  | some v => rw [e] at h; exact ⟨v, rfl, of_decide_eq_true h.2⟩

/-- The transaction of the station in the OTT. -/
theorem mem_awaiting : entry1042 ∈ branchAwaiting.ttr.ott := by decide +kernel

/-- The checks of a balancing, one failing each: an entry missing, an entry past the table, a transaction of the station in
the OTT, an OUT leg of any drawer for the reserve, and a declared value past its bound. -/
theorem witness_balanceFails :
    let huge := onTbl (fun x => { x with dnt := [⟨99999999, .note, 0⟩] }) branch
    balanceFails (some .s3) threeNotes branch .breakdownRequired ∧
      balanceFails (some .s3) (⟨59, "1".toList⟩ :: balanceKey.fields) branch .breakdownMismatch ∧
      balanceFails (some .s3) balanceKey.fields branchAwaiting .inFlight ∧
      balanceFails none balanceKey.fields branchAwaiting .inFlight ∧
      balanceFails (some .s3) (keyed "65535") huge .countLimit :=
  ⟨.inl ⟨⟨1, by decide +kernel, by decide +kernel⟩, rfl⟩,
    .inr ⟨by decide +kernel, .inl ⟨⟨⟨59, "1".toList⟩, by decide +kernel, by decide, by decide, .inl (by decide +kernel)⟩, rfl⟩⟩,
    .inr ⟨by decide +kernel, .inr ⟨balanceKey_read, True, ⟨fun _ => ⟨_, mem_awaiting, rfl⟩, fun _ => trivial⟩,
      .inl ⟨trivial, rfl⟩⟩⟩,
    .inr ⟨by decide +kernel, .inr ⟨balanceKey_read, True, ⟨fun _ => ⟨some .s3, ⟨3, 2, 0⟩, by decide +kernel, by decide⟩,
      fun _ => trivial⟩, .inl ⟨trivial, rfl⟩⟩⟩,
    .inr ⟨by decide +kernel, .inr ⟨fun f hf _ _ => by
        rw [List.mem_singleton.1 hf]; exact ⟨by decide +kernel, 65535, by decide +kernel, by decide⟩,
      False, ⟨False.elim, by decide +kernel⟩, .inr ⟨id, by decide +kernel, rfl⟩⟩⟩⟩

/-- Section 2.12: the first balancing of a SUSPECT position leaves its over/short UNKNOWN. -/
theorem test_balancing_suspect :
    let s := setPosition (some .s3) { drawer29 with state := .suspect, total := 42935 } branch
    let t := carryBalance (some .s3) 417 [3, 1, 0, 5, 2, 4, 0, 0, 6, 0, 3] s
    (drawerOf .s3 t).state = .balanced ∧ (drawerOf .s3 t).total = 41935 ∧ (drawerOf .s3 t).overShort = .unknown := by
  decide +kernel

/-! ## Screens and management requests -/

theorem witness_MirrorRedaction : 12 < 16 ∧ 15 < 16 := by decide

/-- A state after a management request has been taken by the idle MRS. -/
def taken (id : Nat) (r : MgmtRequest) (s : State) : State :=
  onMrs (fun m => { m with places := m.places ++ [⟨id, r, true⟩] }) s

/-- An idle MRS with an empty buffer takes any request: the first hypothesis of every statement about one. -/
theorem witness_mgmtTaken (id : Nat) (r : MgmtRequest) (s : State) (h : waitingStops s = 0) (e : s.mrs.places = []) :
    mgmtTaken id r s (taken id r s) :=
  ⟨h, s.mrs.places ++ [⟨id, r, true⟩], rfl,
    .inr ⟨fun p hp => (by rw [e] at hp; cases hp), by rw [e]; decide, rfl⟩⟩

theorem witness_mgmtTaken_branch (id : Nat) (r : MgmtRequest) : mgmtTaken id r branch (taken id r branch) :=
  witness_mgmtTaken id r branch (by decide +kernel) rfl

/-- A request that waits in the buffer behind one already taken is taken there. -/
theorem witness_mgmtTaken_waiting :
    mgmtTaken 2 .totalsRead (onMrs (fun m => { m with places := [⟨1, .dayCutoff, true⟩, ⟨2, .totalsRead, false⟩] }) branch)
      (onMrs (fun m => { m with places := [⟨1, .dayCutoff, true⟩, ⟨2, .totalsRead, true⟩] })
        (onMrs (fun m => { m with places := [⟨1, .dayCutoff, true⟩, ⟨2, .totalsRead, false⟩] }) branch)) :=
  ⟨by decide +kernel, _, rfl, .inl ⟨[⟨1, .dayCutoff, true⟩], [], rfl, fun p hp => (by cases hp with
    | head => rfl
    | tail _ h => cases h), rfl⟩⟩

/-- R73: a text of 41 characters is cut to 40 with a star; an expiry of 1 s and of 3,600 s is taken, 0 and 3,601 refused;
an empty text withdraws; the expiry withdraws. -/
theorem test_broadcast :
    (run (.broadcastText 1 (List.replicate 41 'A') 1) branch).scm.broadcast =
        some ⟨List.replicate 39 'A' ++ ['*'], 1000⟩ ∧
      (run (.broadcastText 1 ['A'] 3600) branch).scm.broadcast = some ⟨['A'], 3600000⟩ ∧
      (run (.broadcastText 1 ['A'] 0) branch).scm.broadcast = none ∧
      ((run (.broadcastText 1 ['A'] 3601) branch).blc.replies.map MgmtReply.status) = [.badRequest] ∧
      (run .broadcastExpiry (run (.broadcastText 1 ['A'] 3600) branch)).scm.broadcast = none ∧
      (run (.broadcastText 1 [] 3601) branch).blc.replies.map MgmtReply.status = [.done] := by decide +kernel

/-! ## Passbook printers -/

/-- The job 3/1050 of section 4.5: 5 lines, the last with a balance. -/
def job1050 : Job :=
  { ref := ⟨.s3, 1050⟩, account := "40017733".toList, serial := some 5, bookType := some 2, met := true,
    lines := List.replicate 4 ⟨"01 APR".toList, "DEP".toList, 500, none⟩ ++ [⟨"01 APR".toList, "DEP".toList, 500, some 90000⟩],
    balance := none, next := 1, printed := 0, lastBalance := none, layout := some layout2, place := some ⟨7, 18⟩,
    state := .bookWait, cause := none, outcome := none, timer := some 120000 }

/-- The book of section 4.5. -/
def book5 : Book := { account := "40017733".toList, bookType := 2, serial := 5, page := 7, line := 18 }

/-- The branch with a printer context at station 3. -/
def withPrinter (c : PrinterContext) : State := setPrinter .s3 (some c) branch

/-- The job before it has met its book: no layout and no place yet. -/
def unmet1050 : Job := { job1050 with met := false, layout := none, place := none }

/-- The job waits for its book. -/
def waiting1050 : PrinterContext := { readyPrinter with queue := [unmet1050] }

/-- The first line of the job is outstanding. -/
def printing1050 (j : Job) : PrinterContext :=
  { readyPrinter with
    book := some book5
    state := .printing
    item := some { body := .printLine ⟨7, 18⟩ [] none, accepted := true, timer := some 30000 }
    queue := [{ j with state := .printing, timer := none }] }

theorem witness_StripeReadIsRecorded :
    delivered .s3 .d2 (.stripeRead book5) (withPrinter waiting1050) = some (withPrinter waiting1050) ∧
      printerOf .s3 (withPrinter waiting1050) = some waiting1050 ∧ waiting1050.state ≠ .down ∧
      bookMatches unmet1050 book5 = true ∧
      bookMatches job1050 { book5 with account := "40099120".toList } = false ∧
      layoutOf 2 (withPrinter waiting1050) = some layout2 := by decide +kernel

/-- Section 4.5: the matching book begins the job at 7/18; another account shows WRONG BOOK; a book of page 1, line 1
begins at the first line F1 = 4. -/
theorem test_stripe_read :
    let t := run (.stripeRead .s3 book5) (withPrinter waiting1050)
    let u := run (.stripeRead .s3 { book5 with account := "40099120".toList }) (withPrinter waiting1050)
    let v := run (.stripeRead .s3 { book5 with page := 1, line := 1 }) (withPrinter waiting1050)
    (headJob .s3 t).bind Job.place = some ⟨7, 18⟩ ∧ (printerOf .s3 t).map PrinterContext.state = some .printing ∧
      promptAt .s3 u = .wrongBook ∧ (headJob .s3 v).bind Job.place = some ⟨1, 4⟩ := by decide +kernel

/-- The job waits for its page 8 to be turned. -/
def turning1050 : Job := { job1050 with state := .turnWait, place := some ⟨8, 1⟩, next := 4, printed := 3 }

/-- Its printer, READY and without a book, TURN PAGE shown. -/
def turningPrinter : PrinterContext := { readyPrinter with prompt := .turnPage, queue := [turning1050] }

/-- In TURN_WAIT: the job's book behind, at and past its place, another book, and an owed write for that other book. -/
theorem witness_turn_wait :
    delivered .s3 .d2 (.stripeRead book5) (withPrinter turningPrinter) = some (withPrinter turningPrinter) ∧
      isJobsBook turning1050 book5 = true ∧ isJobsBook turning1050 { book5 with serial := 6 } = false ∧
      placeBefore (bookPlace book5) ⟨8, 1⟩ = true ∧
      placeBefore (bookPlace { book5 with page := 8, line := 1 }) ⟨8, 1⟩ = false ∧
      placeBefore (bookPlace { book5 with page := 8, line := 2 }) ⟨8, 1⟩ = false ∧
      lineStarts turning1050 { book5 with page := 8, line := 1 } layout2 ⟨"01 APR".toList, "DEP".toList, 500, none⟩ 1
        (withPrinter turningPrinter) ∧
      readRecorded book5 turningPrinter { turningPrinter with book := some book5 } :=
  ⟨by decide +kernel, by decide +kernel, by decide +kernel, by decide +kernel, by decide +kernel, by decide +kernel,
    by unfold lineStarts; decide +kernel, ⟨_, rfl, .inl ⟨by decide +kernel, by decide +kernel⟩⟩⟩

/-- What a read leaves of an owed write for its book: handed where the stripe is behind, cleared where it is not. -/
theorem witness_readRecorded :
    let c := fun (l : Nat) => { readyPrinter with owed := some ⟨"40017733".toList, 5, ⟨7, l⟩⟩ }
    readRecorded book5 (c 19)
        { c 19 with book := some book5, state := .printing, item := some (handed (.stripeWrite ⟨7, 19⟩ .owed)) } ∧
      readRecorded book5 (c 18) { c 18 with book := some book5, owed := none } ∧
      readRecorded book5 { c 19 with state := .down } { c 19 with state := .down, book := some book5 } :=
  ⟨⟨_, rfl, .inr ⟨_, by decide +kernel, rfl, by decide +kernel⟩⟩, ⟨_, rfl, .inr ⟨_, by decide +kernel, rfl, by decide +kernel⟩⟩,
    ⟨_, rfl, .inr ⟨_, by decide +kernel, rfl, by decide +kernel⟩⟩⟩

/-- R80, R91: the job's book behind its place is repaired with TURN PAGE kept, at it resumed; another book shows WRONG BOOK,
also while its own owed write is handed and at a printer in DOWN. -/
theorem test_turn_wait :
    let read := fun b c => run (.stripeRead .s3 b) (withPrinter c)
    let other : Book := { book5 with serial := 6 }
    let behind := { turningPrinter with owed := some ⟨"40017733".toList, 6, ⟨9, 1⟩⟩ }
    let items := fun s => (printerOf .s3 s).bind fun c => c.item.map PrinterItem.body
    items (read book5 turningPrinter) = some (.stripeWrite ⟨8, 1⟩ .repair) ∧ promptAt .s3 (read book5 turningPrinter) = .turnPage ∧
      (headJob .s3 (read { book5 with page := 8, line := 1 } turningPrinter)).map Job.state = some .printing ∧
      promptAt .s3 (read other turningPrinter) = .wrongBook ∧
      items (read other behind) = some (.stripeWrite ⟨9, 1⟩ .owed) ∧ promptAt .s3 (read other behind) = .wrongBook ∧
      promptAt .s3 (read other { turningPrinter with state := .down }) = .wrongBook := by decide +kernel

theorem witness_PrinterReportsClearTheBook :
    delivered .s3 .d2 .bookRemoved (withPrinter (printing1050 job1050)) = some (withPrinter (printing1050 job1050)) ∧
      delivered .s3 .d2 .fault (withPrinter (printing1050 job1050)) = some (withPrinter (printing1050 job1050)) ∧
      printerOf .s3 (withPrinter (printing1050 job1050)) = some (printing1050 job1050) ∧
      ((printing1050 job1050).item.bind PrinterItem.timer).isSome = true ∧
      (readyPrinter.item.bind PrinterItem.timer).isSome = false ∧ waiting1050.item = none ∧
      (∀ i, (printing1050 job1050).item = some i → isPrintLine i.body = true) ∧
      canWrite 0 (passbookDraft .s3 (some 417) (jobReservation job1050) .bookRemoved .notDue)
        (withPrinter (printing1050 job1050)) :=
  ⟨by decide +kernel, by decide +kernel, by decide +kernel, by decide +kernel, by decide +kernel, rfl,
    fun i h => by cases h; rfl, by unfold canWrite; decide +kernel⟩

/-- Section 4.6: a FAULT during line 3 ends the job with 2 lines printed and its end write owed at 1/6. -/
theorem test_fault :
    let j := { job1050 with printed := 2, next := 3, place := some ⟨1, 6⟩ }
    let t := run (.fault .s3) (withPrinter (printing1050 j))
    (printerOf .s3 t).map PrinterContext.state = some .fault ∧
      (printerOf .s3 t).bind PrinterContext.owed = some ⟨"40017733".toList, 5, ⟨1, 6⟩⟩ ∧
      t.jrn.entries.map (fun e => e.draft.body) = [.passbook 1050 (some 5) 5 2 .printerFault .owed] := by decide +kernel

/-- A place of the job's page turn and of its last line: the three cases of PrintedLineAdvancesTheJob. -/
theorem witness_PrintedLineAdvancesTheJob :
    delivered .s3 .d2 .lineDone (withPrinter (printing1050 job1050)) = some (withPrinter (printing1050 job1050)) ∧
      job1050.next < job1050.lines.length ∧ 18 ≠ layout2.linesPerPage ∧ 20 = layout2.linesPerPage ∧
      7 < layout2.pages ∧ layout2.pages ≤ 16 ∧ (job1050.lines[job1050.next]?).isSome = true ∧
      { job1050 with next := 5 }.lines.length ≤ 5 ∧ job1050.account = book5.account ∧ job1050.serial = some book5.serial ∧
      placeBefore ⟨7, 19⟩ (bookPlace book5) = false ∧ placeBefore ⟨16, 21⟩ (bookPlace book5) = false := by decide +kernel

/-- Section 4.5: a LINE_DONE at 7/18 goes on at 7/19; at 7/20 it turns to page 8; the fifth ends the job COMPLETE with its
end write. -/
theorem test_line_done :
    let t := run (.lineDone .s3) (withPrinter (printing1050 job1050))
    let u := run (.lineDone .s3) (withPrinter (printing1050 { job1050 with place := some ⟨7, 20⟩, next := 3, printed := 2 }))
    let v := run (.lineDone .s3) (withPrinter (printing1050 { job1050 with place := some ⟨8, 2⟩, next := 5, printed := 4 }))
    (headJob .s3 t).bind Job.place = some ⟨7, 19⟩ ∧ (headJob .s3 u).map Job.state = some .turnWait ∧
      promptAt .s3 u = .turnPage ∧
      (printerOf .s3 u).bind (fun c => c.item.map PrinterItem.body) = some (.stripeWrite ⟨8, 1⟩ .turn) ∧
      (headJob .s3 v).bind Job.cause = some .complete ∧
      (printerOf .s3 v).bind (fun c => c.item.map PrinterItem.body) = some (.stripeWrite ⟨8, 3⟩ .endWrite) := by
  decide +kernel

/-- A stripe write of the job is outstanding. -/
def writing1050 (purpose : WritePurpose) (state : JobState) : PrinterContext :=
  { printing1050 job1050 with
    item := some { body := .stripeWrite ⟨8, 3⟩ purpose, accepted := true, timer := some 30000 }
    queue := [{ job1050 with state := state, timer := none, printed := 5, next := 6, cause := some .complete }] }

theorem witness_StripeWriteAndWaitEnd :
    delivered .s3 .d2 .writeDone (withPrinter (writing1050 .turn .turnWait)) = some (withPrinter (writing1050 .turn .turnWait)) ∧
      canWrite 0 (passbookDraft .s3 (some 417) (jobReservation { job1050 with printed := 5 }) .complete .written) branch ∧
      canWrite 0 (passbookDraft .s3 (some 417) (jobReservation unmet1050) .bookAbsent .notDue) branch ∧
      canWrite 0 (passbookDraft .s3 (some 417) (jobReservation { job1050 with printed := 3 }) .turnTimeout .owed) branch ∧
      waiting1050.queue.map Job.state = [.bookWait] ∧ waiting1050.queue.map Job.printed = [0] := by
  unfold canWrite; decide +kernel

/-- A repair of the turning job's book is outstanding. -/
def repairing1050 : PrinterContext :=
  { turningPrinter with
    book := some book5, state := .printing
    item := some { body := .stripeWrite ⟨8, 1⟩ .repair, accepted := true, timer := some 30000 } }

/-- An owed write of the waiting job's book is outstanding. -/
def owing1050 : PrinterContext :=
  { waiting1050 with
    book := some book5, state := .printing, owed := some ⟨"40017733".toList, 5, ⟨7, 19⟩⟩
    item := some { body := .stripeWrite ⟨7, 19⟩ .owed, accepted := true, timer := some 30000 } }

/-- The next job of the queue, of the same book. -/
def queued1051 : Job :=
  { job1050 with ref := ⟨.s3, 1051⟩, met := false, layout := none, place := none, state := .queued, timer := none }

/-- The third line of 3/1050 is outstanding, and 3/1051 is QUEUED behind it. -/
def behind1050 : PrinterContext :=
  { printing1050 job1050 with
    queue := [{ job1050 with state := .printing, timer := none, printed := 2, next := 3 }, queued1051] }

/-- Its context once a read has failed the line: the job gone with its end write owed. -/
def after1050 : PrinterContext :=
  { readyPrinter with owed := some ⟨"40017733".toList, 5, ⟨7, 18⟩⟩, queue := [queued1051] }

/-- A read with an item outstanding: a line, whose job's owed write the same book then clears so that 3/1051 begins at it,
another book leaving it to wait; an end write, which is owed; and a repair. -/
theorem witness_read_fails :
    failureLeaves behind1050 after1050 ∧
      readRecorded book5 after1050 { after1050 with book := some book5, owed := none } ∧
      lineStarts queued1051 book5 layout2 ⟨"01 APR".toList, "DEP".toList, 500, none⟩ 18 (withPrinter behind1050) ∧
      bookMatches queued1051 { book5 with account := "40099120".toList } = false ∧
      canWrite 0 (passbookDraft .s3 (some 417) (jobReservation { job1050 with printed := 2 }) .bookRemoved .owed)
        (withPrinter behind1050) ∧
      failureLeaves (writing1050 .endWrite .ended)
        { readyPrinter with owed := some ⟨"40017733".toList, 5, ⟨7, 18⟩⟩ } ∧
      failureLeaves repairing1050 { repairing1050 with item := none, state := .ready, book := none } :=
  ⟨.inr ⟨_, _, rfl, rfl, rfl, .inr ⟨_, _, rfl, .inl ⟨rfl, rfl, rfl⟩⟩⟩,
    ⟨_, rfl, .inr ⟨_, by decide +kernel, rfl, by decide +kernel⟩⟩, by unfold lineStarts; decide +kernel,
    by decide +kernel, by unfold canWrite; decide +kernel,
    .inr ⟨_, _, rfl, rfl, rfl, .inr ⟨_, _, rfl, .inr ⟨rfl, rfl, rfl⟩⟩⟩, .inr ⟨_, _, rfl, rfl, rfl, .inl ⟨rfl, rfl, rfl⟩⟩⟩

/-- R80, R85, R92: the read of another book ends 3/1050 BOOK_REMOVED and leaves 3/1051 to wait without WRONG BOOK; that of
their book lets it begin. R81, R85: a removal has it wait too. -/
theorem test_read_fails :
    let read := fun b => run (.stripeRead .s3 b) (withPrinter behind1050)
    let other := read { book5 with account := "40099120".toList }
    let removed := run (.bookRemoved .s3) (withPrinter behind1050)
    other.jrn.entries.map (fun e => e.draft.body) = [.passbook 1050 (some 5) 5 2 .bookRemoved .owed] ∧
      (headJob .s3 other).map (fun j => (j.ref, j.state)) = some (⟨.s3, 1051⟩, .bookWait) ∧ promptAt .s3 other = .noPrompt ∧
      (headJob .s3 (read book5)).bind Job.place = some ⟨7, 18⟩ ∧
      (headJob .s3 removed).map (fun j => (j.ref, j.state)) = some (⟨.s3, 1051⟩, .bookWait) := by decide +kernel

/-- R94: the completion of a book's owed write clears it; one that another job's end has put in its place stands. -/
theorem test_replaced_owed_write :
    let done := fun c => (printerOf .s3 (run (.writeDone .s3) (withPrinter c))).bind PrinterContext.owed
    done owing1050 = none ∧
      done { owing1050 with queue := [turning1050], owed := some ⟨"40099120".toList, 9, ⟨8, 1⟩⟩ } =
        some ⟨"40099120".toList, 9, ⟨8, 1⟩⟩ := by decide +kernel

theorem witness_repair_and_owed_writes :
    delivered .s3 .d2 .writeDone (withPrinter repairing1050) = some (withPrinter repairing1050) ∧
      lineStarts turning1050 { book5 with page := 8, line := 1 } layout2 ⟨"01 APR".toList, "DEP".toList, 500, none⟩ 1
        (withPrinter repairing1050) ∧
      delivered .s3 .d2 .writeDone (withPrinter owing1050) = some (withPrinter owing1050) ∧
      lineStarts unmet1050 { book5 with line := 19 } layout2
        ⟨"01 APR".toList, "DEP".toList, 500, none⟩ 19 (withPrinter owing1050) ∧
      bookMatches unmet1050 { book5 with line := 19 } = true ∧
      ((writing1050 .endWrite .ended).item.map fun i => isEndWrite i.body) = some true ∧
      canWrite 0 (passbookDraft .s3 (some 417) (jobReservation { job1050 with printed := 5 }) .complete .owed)
        (withPrinter (writing1050 .endWrite .ended)) := by
  unfold lineStarts canWrite; decide +kernel

/-- R91, R94: a completed repair resumes its job, a completed owed write lets the waiting job begin, WRONG BOOK withdrawn; an
end write that fails is owed. -/
theorem test_repair_and_owed_writes :
    let t := run (.writeDone .s3) (withPrinter repairing1050)
    let u := run (.writeDone .s3) (withPrinter { owing1050 with prompt := .wrongBook })
    let v := run (.bookRemoved .s3) (withPrinter (writing1050 .endWrite .ended))
    (headJob .s3 t).map Job.state = some .printing ∧ promptAt .s3 t = .noPrompt ∧
      (headJob .s3 u).bind Job.place = some ⟨7, 19⟩ ∧ (printerOf .s3 u).bind PrinterContext.owed = none ∧
      promptAt .s3 u = .noPrompt ∧ headJob .s3 v = none ∧
      v.jrn.entries.map (fun e => e.draft.body) = [.passbook 1050 (some 5) 5 5 .complete .owed] := by decide +kernel

/-- The placements that hand no line at a book read and after a completed repair or owed write: past the last page, on a full
page before it, and, with lines printed, at the full end of the book; the next job of another book. -/
theorem witness_placedWithoutLine :
    let first := unmet1050
    let s := withPrinter waiting1050
    endsAtStart first { book5 with page := 17, line := 1 } s .badStripe ∧
      endsAtStart first { book5 with bookType := 9 } s .noLayout ∧
      endsAtStart turning1050 { book5 with page := 17, line := 1 } s .badStripe ∧
      turnsAtStart first { book5 with line := 21 } layout2 s ∧
      turnsAtStart turning1050 { book5 with page := 8, line := 21 } layout2 s ∧
      startsAt turning1050 { book5 with page := 16, line := 21 } layout2 21 s ∧ 0 < turning1050.printed ∧
      (metBook turning1050 book5).serial = some book5.serial ∧ nextAtOtherBook [] book5 ∧
      nextAtOtherBook [queued1051] { book5 with account := "40099120".toList } ∧
      canWrite 0 (passbookDraft .s3 (some 417) (jobReservation (metBook first book5)) .badStripe .notDue) s :=
  ⟨.inr ⟨layout2, 1, ⟨.inr ⟨rfl, by decide +kernel⟩, rfl⟩, .inl ⟨by decide +kernel, rfl⟩⟩,
    .inl ⟨rfl, by decide +kernel, rfl, rfl⟩,
    .inr ⟨layout2, 1, ⟨.inl rfl, rfl⟩, .inl ⟨by decide +kernel, rfl⟩⟩,
    ⟨⟨.inr ⟨rfl, by decide +kernel⟩, rfl⟩, by decide +kernel, by decide +kernel⟩,
    ⟨⟨.inl rfl, rfl⟩, by decide +kernel, by decide +kernel⟩, ⟨.inl rfl, rfl⟩, by decide, by decide +kernel,
    fun _ h => (nomatch h), fun k h => by cases h; exact ⟨rfl, by decide +kernel⟩, by unfold canWrite; decide +kernel⟩

/-- R87, R90, R93: a read of a bad stripe ends the waiting job with its advice and entry; one of a full page turns it; one of
the full end of the book ends a job with lines printed BOOK_FULL with its end write. -/
theorem test_placed_without_line :
    let read := fun c b => run (.stripeRead .s3 b) (withPrinter c)
    let bad := read waiting1050 { book5 with page := 17, line := 1 }
    let full := read turningPrinter { book5 with page := 16, line := 21 }
    headJob .s3 bad = none ∧ bad.jrn.entries.map (fun e => e.draft.body) = [.passbook 1050 (some 5) 5 0 .badStripe .notDue] ∧
      promptAt .s3 (read waiting1050 { book5 with line := 21 }) = .turnPage ∧
      (headJob .s3 full).bind Job.cause = some .bookFull ∧ promptAt .s3 full = .bookFull ∧
      (printerOf .s3 full).bind (fun c => c.item.map PrinterItem.body) = some (.stripeWrite ⟨16, 21⟩ .endWrite) := by
  decide +kernel

/-- Sections 4.5 and 4.4: the WRITE_DONE of the end write completes the job WRITTEN; a wait in BOOK_WAIT ends it
BOOK_ABSENT, one in TURN_WAIT with lines printed and no book TURN_TIMEOUT with its write owed. -/
theorem test_write_done_and_waits :
    let t := run (.writeDone .s3) (withPrinter (writing1050 .endWrite .ended))
    let u := run (.waitTimerExpiry .s3) (withPrinter waiting1050)
    let v := run (.waitTimerExpiry .s3) (withPrinter { readyPrinter with
      queue := [{ job1050 with state := .turnWait, printed := 3, place := some ⟨8, 1⟩ }] })
    t.jrn.entries.map (fun e => e.draft.body) = [.passbook 1050 (some 5) 5 5 .complete .written] ∧
      (insertedBook .s3 t).map bookPlace = some ⟨8, 3⟩ ∧ headJob .s3 t = none ∧
      u.jrn.entries.map (fun e => e.draft.body) = [.passbook 1050 none 5 0 .bookAbsent .notDue] ∧
      v.jrn.entries.map (fun e => e.draft.body) = [.passbook 1050 (some 5) 5 3 .turnTimeout .owed] ∧
      (printerOf .s3 v).bind PrinterContext.owed = some ⟨"40017733".toList, 5, ⟨8, 1⟩⟩ := by decide +kernel

/-- Ends with 3/1051 QUEUED behind: an end write completed, and the wait timer in BOOK_WAIT and in TURN_WAIT with the job's own
book at its place, past it, another book, and none. -/
theorem witness_job_leaves :
    let write := { writing1050 .endWrite .ended with queue := (writing1050 .endWrite .ended).queue ++ [queued1051] }
    delivered .s3 .d2 .writeDone (withPrinter write) = some (withPrinter write) ∧ queued1051.state = .queued ∧
      turning1050.state = .turnWait ∧ turning1050.place = some ⟨8, 1⟩ ∧ turning1050.outcome = none ∧ 0 < turning1050.printed ∧
      placeBefore ⟨8, 1⟩ (bookPlace { book5 with page := 8, line := 1 }) = false ∧
      placeBefore ⟨8, 1⟩ (bookPlace { book5 with page := 8, line := 2 }) = true ∧
      canWrite 0 (passbookDraft .s3 (some 417) (jobReservation turning1050) .turnTimeout .written) branch ∧
      canWrite 0 (passbookDraft .s3 (some 417) (jobReservation { turning1050 with printed := 0 }) .turnTimeout .notDue) branch := by
  unfold canWrite; decide +kernel

/-- Whether station 3's printer is left with a head job, in a state and at a place, and the journal with the entries given. -/
def leaves (s : State) (seq : Nat) (state : JobState) (place : Option Place) (bodies : List EntryBody) : Bool :=
  decide ((headJob .s3 s).map Job.ref = some ⟨.s3, seq⟩) && decide ((headJob .s3 s).map Job.state = some state) &&
    decide ((headJob .s3 s).bind Job.place = place) && decide ((s.jrn.entries.map fun e => e.draft.body) = bodies)

/-- R85, R92, R93, R94: what the printer of station 3 then holds, and the entry of 3/1050. -/
theorem test_job_leaves :
    let wait := fun b =>
      run (.waitTimerExpiry .s3) (withPrinter { turningPrinter with book := b, queue := [turning1050, queued1051] })
    let write := { writing1050 .endWrite .ended with queue := (writing1050 .endWrite .ended).queue ++ [queued1051] }
    leaves (run (.writeDone .s3) (withPrinter write)) 1051 .printing (some ⟨8, 3⟩)
        [.passbook 1050 (some 5) 5 5 .complete .written] = true ∧
      leaves (run (.waitTimerExpiry .s3) (withPrinter { waiting1050 with queue := [unmet1050, queued1051] })) 1051 .bookWait
        none [.passbook 1050 none 5 0 .bookAbsent .notDue] = true ∧
      leaves (wait (some { book5 with page := 8, line := 1 })) 1050 .ended (some ⟨8, 1⟩) [] = true ∧
      leaves (wait (some { book5 with page := 8, line := 2 })) 1051 .printing (some ⟨8, 2⟩)
        [.passbook 1050 (some 5) 5 3 .turnTimeout .written] = true ∧
      leaves (wait none) 1051 .bookWait none [.passbook 1050 (some 5) 5 3 .turnTimeout .owed] = true := by decide +kernel

/-- R86, R93, R94: 3/1050, its serial taken from a snapshot or not, meets its book while an owed write stands for it and then
ends BOOK_ABSENT: its entry names the serial, and another book of the account no longer matches. Read in FAULT too. -/
theorem test_met_while_owed :
    let job := { unmet1050 with serial := none, bookType := none }
    let wait := fun j => { readyPrinter with queue := [j], owed := some ⟨"40017733".toList, 5, ⟨7, 19⟩⟩ }
    let met := fun j c => run (.stripeRead .s3 book5) (withPrinter { c with queue := [j] })
    let gone := fun s => (run (.waitTimerExpiry .s3) (run (.bookRemoved .s3) s)).jrn.entries.map fun e => e.draft.body
    gone (met job (wait job)) = [.passbook 1050 (some 5) 5 0 .bookAbsent .notDue] ∧
      gone (met unmet1050 (wait job)) = [.passbook 1050 (some 5) 5 0 .bookAbsent .notDue] ∧
      gone (met unmet1050 { wait job with state := .fault }) = [.passbook 1050 (some 5) 5 0 .bookAbsent .notDue] ∧
      (headJob .s3 (met job (wait job))).map (fun j => (j.state, j.timer)) = some (.bookWait, unmet1050.timer) ∧
      promptAt .s3 (run (.stripeRead .s3 { book5 with serial := 6 }) (met job (wait job))) = .wrongBook := by
  decide +kernel

/-! ## Station lines -/

/-- The branch with station 3's line changed. -/
def withLine (f : Line → Line) : State := onLine .s3 f branch

/-- A drop in NEW, with 0 missed. -/
def newDrop : DropStatus := { upDrop with state := .new }

/-- Drop 1 of station 3's line is being polled and was NEW. -/
def polling : State := withLine fun l => { l with exchange := some (.poll .d1), drops := ⟨some newDrop, some upDrop, some upDrop⟩ }

theorem witness_PollAnswers :
    (lineOf .s3 polling).exchange = some (.poll .d1) ∧ (lineOf .s3 polling).drops.get .d1 = some newDrop ∧
      newDrop.state ≠ .up ∧ upDrop.state = .up ∧
      sentByDrop (lineOf .s3 polling).setup.role .d1 (.formCall 210) = true ∧
      sentByDrop (lineOf .s3 polling).setup.role .d1 .lineDone = false ∧
      (lineOf .s3 polling).setup.role = .teller ∧ (contextOf .s3 polling).isSome = true ∧
      (printerOf .s3 polling).map PrinterContext.queue = some [] := by decide +kernel

/-- R169 to R171: the form call takes its place, the drop is UP, and its image is to be sent; a frame of another drop is a
check error; NOTHING frees the place. -/
theorem test_poll_answers :
    (lineOf .s3 (run (.dropFrame .s3 (.formCall 210)) polling)).buffer = [(.d1, .formCall 210)] ∧
      dropState .s3 .d1 (run (.dropFrame .s3 (.formCall 210)) polling) = some .up ∧
      (contextOf .s3 (run (.dropFrame .s3 (.formCall 210)) polling)).map ScreenContext.terminalPending = some true ∧
      (lineOf .s3 (run (.dropFrame .s3 .lineDone) polling)).errors = ⟨1, 0, 0, 0⟩ ∧
      (lineOf .s3 (run (.nothing .s3) polling)).buffer = [] ∧ (lineOf .s3 (run (.nothing .s3) polling)).exchange = none := by
  decide +kernel

/-- Drop 1 of station 3's line is being selected with its image, pending in the context. -/
def selecting : State :=
  setContext .s3 (some { emptyContext .form with terminalPending := true })
    (withLine fun l => { l with exchange := some (.select .d1 (.terminal (emptyContext .form).terminal)) })

/-- A PRINT_LINE is being selected. -/
def selectingPrinter : State :=
  setPrinter .s3 (some { printing1050 job1050 with item := some ⟨.printLine ⟨7, 18⟩ [] none, false, none⟩ })
    (withLine fun l => { l with exchange := some (.select .d2 (.printer (.printLine ⟨7, 18⟩ [] none))) })

/-- Entry 341, as a journal line prints it. -/
def entry341 : Entry := ⟨341, some ⟨2031, 3, 31⟩, ⟨32000, false⟩, dayDraft .opened (some ⟨2031, 3, 31⟩)⟩

/-- A journal printer at station 8 is being selected with entry 341, already accepted by head office. -/
def selectingJournal : State :=
  onLine .s8 (fun l => { l with
      setup := { l.setup with role := .journalPrinter }, drops := ⟨some upDrop, none, none⟩
      exchange := some (.select .d1 (.journalLine entry341)) })
    (onJrn (fun j => { j with
      entries := [entry341], used := 1, free := 16379, nextSeq := 342, lastAccepted := 341, printedCursor := 340 }) branch)

theorem witness_SelectAnswers :
    (lineOf .s3 selecting).exchange = some (.select .d1 (.terminal (emptyContext .form).terminal)) ∧
      (lineOf .s3 selecting).drops.get .d1 = some upDrop ∧ upDrop.state = .up ∧ (contextOf .s3 selecting).isSome = true ∧
      (lineOf .s3 selectingPrinter).drops.get .d2 = some upDrop ∧
      (printerOf .s3 selectingPrinter).bind PrinterContext.item = some ⟨.printLine ⟨7, 18⟩ [] none, false, none⟩ ∧
      (lineOf .s8 selectingJournal).setup.role = .journalPrinter ∧ slotsAccounted selectingJournal := by
  unfold slotsAccounted; decide +kernel

/-- R74, R79, R126, R128, R171: an ACCEPT clears the pending flag, starts the 30 s, moves the cursor and frees; a BUSY holds
the drop back for 1 s. -/
theorem test_select_answers :
    (contextOf .s3 (run (.accept .s3) selecting)).map ScreenContext.terminalPending = some false ∧
      (printerOf .s3 (run (.accept .s3) selectingPrinter)).bind (fun c => c.item.bind PrinterItem.timer) = some 30000 ∧
      (run (.accept .s8) selectingJournal).jrn.printedCursor = 341 ∧ (run (.accept .s8) selectingJournal).jrn.entries = [] ∧
      ((lineOf .s3 (run (.busy .s3) selecting)).drops.get .d1).bind DropStatus.busy = some 1000 := by decide +kernel

/-- Drop 2 has missed two responses and is selected. -/
def missing (n : Nat) (state : DropState) : State :=
  setPrinter .s3 (some (printing1050 job1050))
    (withLine fun l => { l with
      exchange := some (.select .d2 (.printer (.printLine ⟨7, 18⟩ [] none)))
      drops := ⟨some upDrop, some { upDrop with state := state, missed := n }, some upDrop⟩ })

theorem witness_MissedResponses :
    (lineOf .s3 branch).exchange = none ∧ (lineOf .s3 polling).exchange = some (.poll .d1) ∧
      (lineOf .s3 (missing 2 .up)).exchange = some (.select .d2 (.printer (.printLine ⟨7, 18⟩ [] none))) ∧
      (lineOf .s3 (missing 2 .up)).drops.get .d2 = some { upDrop with missed := 2 } ∧
      (lineOf .s3 (missing 1 .up)).drops.get .d2 = some { upDrop with missed := 1 } ∧
      (lineOf .s3 (missing 3 .down)).drops.get .d2 = some { upDrop with state := .down, missed := 3 } ∧
      (lineOf .s3 (missing 2 .up)).setup.role = .teller ∧ (printerOf .s3 (missing 2 .up)).isSome = true := by decide +kernel

/-- Section 9.6: the third silence makes drop 2 DOWN, raises DROP_DOWN and ends the job PRINTER_DOWN; a silence of a DOWN
drop is counted alone. -/
theorem test_third_silence :
    let t := run (.pollResponseTimeout .s3) (missing 2 .up)
    dropState .s3 .d2 t = some .down ∧ (lineOf .s3 t).errors = ⟨0, 0, 0, 1⟩ ∧ flagSet (.dropDown .s3) t.mrs.flags = true ∧
      t.jrn.entries.map (fun e => e.draft.body) = [.passbook 1050 (some 5) 5 0 .printerDown .notDue] ∧
      (printerOf .s3 t).map PrinterContext.state = some .down ∧
      ((lineOf .s3 t).drops.get .d2).bind DropStatus.repoll = some 5000 ∧
      (lineOf .s3 (run (.pollResponseTimeout .s3) (missing 3 .down))).errors = ⟨0, 0, 0, 1⟩ ∧
      (lineOf .s3 (run (.failedResponse .s3 .framing) (missing 1 .up))).errors = ⟨0, 1, 0, 0⟩ := by decide +kernel

theorem witness_LineEvents :
    delivered .s3 .d1 (.formCall 900) behindAnother = some (onLine .s3 (fun l => { l with buffer := [] }) behindAnother) ∧
      (lineOf .s3 branch).drops.get .d1 = some upDrop ∧ (lineOf .s1 branch).drops.get .d1 = none := by decide +kernel

/-- R169, R170, R172, R178: a due re-poll, an attention, a run of characters, and ECHO. -/
theorem test_line_events :
    let down := withLine fun l => { l with drops := ⟨some { upDrop with state := .down, repoll := some 5000 }, none, none⟩ }
    let echo := onLine .s1 (fun l => { l with test := some ⟨.echo, 0, 0, 0, none⟩ }) branch
    ((lineOf .s3 (run (.repollDue .s3 .d1) down)).drops.get .d1).map DropStatus.repollDue = some true ∧
      (lineOf .s3 (run (.attention .s3) branch)).sweep = [.d1, .d2, .d3] ∧
      (lineOf .s3 (run (.unsolicited .s3) branch)).errors = ⟨0, 0, 1, 0⟩ ∧
      (lineOf .s3 (run (.unsolicited .s3) (run (.unsolicited .s3) branch))).errors = ⟨0, 0, 1, 0⟩ ∧
      (lineOf .s1 (run (.echoCharacter .s1 .breakLevel) echo)).echoed = some .breakLevel ∧
      (lineOf .s1 (run (.busyRetryExpiry .s1 .d1) branch)) = lineOf .s1 branch := by decide +kernel

/-- The polls that go next: of a sweep, of a DOWN drop whose 5 s are over, round the drops from the one after drop 1, and none
without a place. -/
theorem witness_polls :
    let l := lineOf .s3 branch
    let due := { l with drops := ⟨some upDrop, some upDrop, some { upDrop with state := .down, repollDue := true }⟩ }
    pollsNext { l with sweep := [.d3] } .d3 ∧ pollsNext due .d3 ∧ pollsNext l .d1 ∧
      pollsNext { l with lastPolled := some .d1 } .d2 ∧ ∀ d, ¬ pollsNext { l with buffer := List.replicate 3 (.d1, .fault) } d := by
  refine ⟨⟨by decide +kernel, .inl rfl⟩, ⟨by decide +kernel, .inr ⟨rfl, .inl ⟨⟨_, rfl, rfl, rfl⟩, fun a h => ?_⟩⟩⟩,
    ⟨by decide +kernel, .inr ⟨rfl, .inr ⟨fun a h => ?_, ⟨_, rfl, by decide⟩, fun a _ => ?_⟩⟩⟩,
    ⟨by decide +kernel, .inr ⟨rfl, .inr ⟨fun a h => ?_, ⟨_, rfl, by decide⟩, fun a _ => ?_⟩⟩⟩,
    fun d h => absurd h.1 (by decide +kernel)⟩
  · obtain ⟨x, hx, h, -⟩ := h
    cases a
    · cases hx; cases h
    · cases hx; cases h
    · exact Nat.le_refl _
  · obtain ⟨x, hx, h, -⟩ := h; cases a <;> (cases hx; cases h)
  · cases a <;> decide +kernel
  · obtain ⟨x, hx, h, -⟩ := h; cases a <;> (cases hx; cases h)
  · cases a <;> decide +kernel

theorem witness_ExchangesAlternate :
    (lineOf .s1 branch).setup.role = .off ∧ (lineOf .s3 polling).exchange ≠ none ∧
      (lineOf .s3 branch).setup.role ≠ .off ∧ (lineOf .s3 branch).exchange = none ∧
      pollChoice (lineOf .s3 branch) = some .d1 ∧ selectChoice .s3 branch = none := by decide +kernel

/-- R168: with an image pending a select goes first, then a poll, and round the drops. -/
theorem test_exchanges :
    let s := setContext .s3 (some { emptyContext .form with terminalPending := true }) branch
    let t := run (.issueExchange .s3) s
    (lineOf .s3 t).exchange = some (.select .d1 (.terminal (emptyContext .form).terminal)) ∧
      (lineOf .s3 (run (.issueExchange .s3) (onLine .s3 (fun l => { l with exchange := none }) t))).exchange =
        some (.poll .d1) ∧
      (lineOf .s3 (run (.issueExchange .s3) (withLine fun l => { l with lastPolled := some .d1 }))).exchange =
        some (.poll .d2) := by decide +kernel

/-- Line 1 runs a loop of two frames, its first on its way. -/
def looping (stopping : Option Nat) (sent : Nat) : State :=
  onLine .s1 (fun l => { l with test := some ⟨.loop 2, sent, 0, 0, stopping⟩ }) branch

theorem witness_LineTests :
    (lineOf .s1 branch).setup.role = .off ∧ testRuns (lineOf .s1 branch) = false ∧ (lineOf .s1 branch).test = none ∧
      (lineOf .s3 branch).setup.role ≠ .off ∧ (lineOf .s1 (looping none 1)).test = some ⟨.loop 2, 1, 0, 0, none⟩ ∧
      (lineOf .s1 (looping (some 9) 1)).test = some ⟨.loop 2, 1, 0, 0, some 9⟩ ∧ Station.ofNat? 9 = none ∧
      waitingStops (looping none 1) = 0 := by decide +kernel

/-- R178: frames judged, the last frame, a STOP that waits, and the bounds 0 and 256 of a loop's count. -/
theorem test_line_tests :
    (lineOf .s1 (run (.loopFrameReturn .s1 .equal) (looping none 1))).test = some ⟨.loop 2, 2, 1, 0, none⟩ ∧
      (lineOf .s1 (run (.loopFrameTimeout .s1) (looping none 2))).test = some ⟨.idle, 2, 0, 1, none⟩ ∧
      (run (.loopFrameReturn .s1 .badCheck) (looping (some 9) 1)).blc.replies = [⟨9, .done, .testCounts 1 0 1⟩] ∧
      (run (.lineTest 9 1 3 0) (looping none 1)).blc.replies = [] ∧
      (run (.lineTest 9 1 2 0) branch).blc.replies.map MgmtReply.status = [.badRequest] ∧
      (run (.lineTest 9 1 2 256) branch).blc.replies.map MgmtReply.status = [.badRequest] ∧
      (lineOf .s1 (run (.lineTest 9 1 2 255) branch)).test = some ⟨.loop 255, 1, 0, 0, none⟩ ∧
      (lineOf .s1 (run (.lineTest 9 1 1 0) branch)).test = some ⟨.echo, 0, 0, 0, none⟩ ∧
      (run (.lineTest 9 3 1 0) branch).blc.replies.map MgmtReply.status = [.roleOrder] := by decide +kernel

/-- A LINE-SETUP of line 4 for role TELLER, its drawer sense where a cold start puts it. -/
def setup4 : LineSetupRequest :=
  { line := 4, role := 2, drop1 := true, drop2 := true, drop3 := false, functions := ⟨4, 1, 2, 5⟩, depth := 2, mirrorKey := 12,
    mirrorMask := 3, mirrorFill := 35 }

/-- The setup that a request for a line with drop 2 carries. -/
def lineSetup4 (role : Role) (r : LineSetupRequest) : LineSetup :=
  { role := role, printerPresent := r.drop2, mirrorPresent := r.drop3,
    functions := ⟨.drawerRelease, .drawerSense, .alarmIn, .lamp⟩, depth := 2, mirrorKey := r.mirrorKey, mirrorMask := 3,
    mirrorFill := '#' }

/-- Line 4 with its drawer found open long since, counted errors and a latch. -/
def openDrawer4 : State :=
  onLine .s4 (fun l => { l with
    drawerOpen := true, openTimer := some 5, leftOpen := true, errors := ⟨1, 2, 3, 4⟩, latches := ⟨true, false, false, true⟩ }) branch

/-- R165, R166, R173, R174, R176: a LINE-SETUP that keeps DRAWER_SENSE on its wire keeps the drawer watch, one that takes it away
ends it; the error summary and the latches stand in both. -/
theorem test_setup_drawer_watch :
    let kept := lineOf .s4 (run (.lineSetup 9 setup4) openDrawer4)
    let gone := lineOf .s4 (run (.lineSetup 9 { setup4 with functions := ⟨4, 3, 2, 5⟩ }) openDrawer4)
    (kept.openTimer, kept.leftOpen, gone.openTimer, gone.leftOpen) = (some 5, true, none, false) ∧
      [kept.errors, gone.errors] = [⟨1, 2, 3, 4⟩, ⟨1, 2, 3, 4⟩] ∧ gone.latches = ⟨true, false, false, true⟩ := by
  decide +kernel

/-- The setups of the test above keep the wire of DRAWER_SENSE, or leave it without one. -/
theorem witness_drawer_wire :
    lineWith .drawerSense (lineSetup4 .teller setup4) = lineWith .drawerSense (lineOf .s4 openDrawer4).setup ∧
      (readSetup { setup4 with functions := ⟨4, 3, 2, 5⟩ }).map (lineWith .drawerSense) = some none ∧
      lineWith .drawerSense (lineOf .s4 openDrawer4).setup = some .dl2 := by decide +kernel

/-- R64: a line newly TELLER at a SIGNED_OFF station shows the request format of the lowest SIGN_ON code. -/
theorem witness_freshScreen :
    tellerAt .s4 branch = none ∧ signOnPrompt branch = some 2 ∧ formatOf 2 branch = some form2 ∧
      (contextOf .s4 (run (.lineSetup 9 setup4) branch)).map (fun c => (c.format, c.shown, c.texts, c.mode)) =
        some (some 2, some form2, [[]], .signOnPrompt) := by decide +kernel

theorem carried4 {role code key : Nat} {drop2 drop3 : Bool} {x : Role} (h : roleOfCode code = some x)
    (k : x = .journalPrinter → drop2 = false ∧ drop3 = false) (l : key ≤ 15) :
    setupCarried { setup4 with line := role, role := code, drop2 := drop2, drop3 := drop3, mirrorKey := key }
      (lineSetup4 x { setup4 with drop2 := drop2, drop3 := drop3, mirrorKey := key }) :=
  ⟨h, fun d => by cases d <;> rfl, rfl, rfl, rfl, k, fun a b hab e => by
      cases a <;> cases b <;> (first | exact absurd rfl hab | cases e),
    ⟨show 1 ≤ 2 by decide, show 2 ≤ 4 by decide, rfl⟩, ⟨l, rfl⟩,
    ⟨show 3 ≤ 15 by decide, rfl⟩, show 32 ≤ 35 by decide, show 35 ≤ 126 by decide, rfl⟩

/-- Setups of every role, one refused for its depth, and each of the other refusals: a role changed without OFF, a second
journal printer, a drop changed under its role. -/
theorem witness_LineSetup :
    (∀ st : Station, 0 ≠ st.num) ∧ (∀ x, ¬ setupCarried { setup4 with depth := 5 } x) ∧
      setupCarried setup4 (lineSetup4 .teller setup4) ∧
      setupCarried { setup4 with role := 1 } (lineSetup4 .off setup4) ∧
      setupCarried { setup4 with role := 3, drop2 := false } (lineSetup4 .journalPrinter { setup4 with drop2 := false }) ∧
      (lineOf .s4 branch).setup.role = .off ∧ testRuns (lineOf .s4 branch) = false ∧
      (∀ a, (lineOf a branch).setup.role ≠ .journalPrinter) ∧ (lineOf .s3 branch).setup.role = .teller ∧
      (lineSetup4 .teller { setup4 with drop3 := true, mirrorKey := 7 }).functions = (lineOf .s3 branch).setup.functions ∧
      setupFails .s3 (lineSetup4 .journalPrinter { setup4 with drop2 := false }) branch .roleOrder ∧
      setupFails .s4 (lineSetup4 .journalPrinter { setup4 with drop2 := false })
        (onLine .s1 (fun l => { l with setup := { l.setup with role := .journalPrinter } }) branch) .roleConflict ∧
      setupFails .s3 (lineSetup4 .teller setup4) branch .roleOrder :=
  ⟨fun st => by cases st <;> decide, fun x h => absurd h.2.2.2.2.2.2.2.1.2.1 (by decide),
    carried4 (role := 4) (key := 12) rfl (by decide) (by decide), carried4 (role := 4) (key := 12) rfl (by decide) (by decide),
    carried4 (role := 4) (key := 12) rfl (by decide) (by decide), by decide +kernel, by decide +kernel,
    fun a => by cases a <;> decide +kernel, by decide +kernel, by decide +kernel,
    ⟨by decide, .inl ⟨.inl (by decide +kernel), rfl⟩⟩, ⟨by decide, .inr (.inl ⟨by decide +kernel, by decide +kernel, rfl,
      ⟨.s1, by decide +kernel⟩, rfl⟩)⟩, ⟨by decide, .inr (.inr ⟨by decide +kernel, by decide +kernel, by decide +kernel, rfl⟩)⟩⟩

/-- Station 3 with a live transaction, a job in print and its reservation, as its line is set OFF. -/
def offBranch : State :=
  setPrinter .s3 (some (printing1050 { job1050 with printed := 2 }))
    (onSda (fun d => { d with queue := [grantedReservation job1050] }) branchAwaiting)

/-- A journal printer at station 1 that has printed 342, entries 341 to 345 held and accepted up to 344. -/
def printedBranch : State :=
  onLine .s1 (fun l => { l with setup := { l.setup with role := .journalPrinter } })
    (onJrn (fun j => { j with
      entries := (List.range 5).map fun i =>
        ⟨341 + i, some ⟨2031, 3, 31⟩, ⟨32000, false⟩, dayDraft .opened (some ⟨2031, 3, 31⟩)⟩
      used := 5, free := 16375, nextSeq := 346, lastAccepted := 344, printedCursor := 342 }) branch)

/-- The outputs ready: an image, a printer's item and an entry to print; and the one that goes next. -/
theorem witness_selects :
    let s := setContext .s3 (some { emptyContext .form with terminalPending := true, mirrorPending := true })
      (withPrinter { owing1050 with item := some (handed (.stripeWrite ⟨7, 19⟩ .owed)) })
    outputReady .s3 s .d1 (.terminal (emptyContext .form).terminal) ∧ outputReady .s3 s .d3 (.mirror (emptyContext .form).mirror) ∧
      outputReady .s3 s .d2 (.printer (.stripeWrite ⟨7, 19⟩ .owed)) ∧
      selectsNext .s3 (onLine .s3 (fun l => { l with lastSelected := some .d1 }) s) .d2
        (.printer (.stripeWrite ⟨7, 19⟩ .owed)) ∧
      outputReady .s1 (onLine .s1 (fun l => { l with drops := l.drops.set .d1 (some upDrop) }) printedBranch) .d1
        (.journalLine ⟨343, some ⟨2031, 3, 31⟩, ⟨32000, false⟩, dayDraft .opened (some ⟨2031, 3, 31⟩)⟩) :=
  ⟨⟨⟨_, rfl, rfl, rfl⟩, _, rfl, rfl, by decide +kernel, rfl⟩, ⟨⟨_, rfl, rfl, rfl⟩, _, rfl, rfl, by decide +kernel, rfl⟩,
    ⟨⟨_, rfl, rfl, rfl⟩, _, _, rfl, rfl, rfl, rfl⟩,
    ⟨⟨⟨_, rfl, rfl, rfl⟩, _, _, rfl, rfl, rfl, rfl⟩, fun a _ _ => by cases a <;> decide +kernel⟩,
    ⟨_, rfl, rfl, rfl⟩, _, by decide +kernel, rfl⟩

theorem witness_LineSetOffAndReset :
    (lineOf .s3 offBranch).setup.role = .teller ∧
      (offBranch.ttr.ott.filter fun e => e.ref.station = .s3).map OttEntry.ref = [⟨.s3, 1042⟩] ∧
      offBranch.jrn.reserved = reservedSlots offBranch ∧ 2 * 1 ≤ offBranch.jrn.free ∧
      offBranch.jrn.nextSeq + 2 ≤ 4294967296 ∧ (printerOf .s3 offBranch).isSome = true ∧
      (lineOf .s1 printedBranch).setup.role = .journalPrinter ∧ slotsAccounted printedBranch ∧
      (readSetup { setup4 with line := 1, role := 1 }).map LineSetup.role = some .off := by
  unfold slotsAccounted; decide +kernel

theorem witness_linesOk_printer : linesOk printedBranch :=
  ⟨fun st => by cases st <;> (unfold lineOk; decide +kernel),
    fun a b ha hb => by cases a <;> cases b <;> (first | rfl | exact absurd ha (by decide +kernel) | exact absurd hb (by decide +kernel))⟩

/-- R28, R96, R127, R128: the OFF of a TELLER line abandons 3/1042 and ends its job LINE_OFF; that of the journal printer
frees the entries accepted, printed or not. -/
theorem test_line_off :
    let t := run (.lineSetup 9 { setup4 with line := 3, role := 1 }) offBranch
    let u := run (.lineSetup 9 { setup4 with line := 1, role := 1 }) printedBranch
    t.jrn.entries.map (fun e => e.draft.body) = [.txn 1042 210 .abandoned, .passbook 1050 (some 5) 5 2 .lineOff .owed] ∧
      t.sda.queue.map adviceBodyOf =
        [some (.passbookUpdate ⟨⟨.s3, 1050⟩, "40017733".toList, some 5, 5, 2, none⟩ .lineOff),
         some (.reversal ⟨.s3, 1042⟩ .abandonedOnLineOff .cashOut 28745)] ∧
      u.jrn.entries.map Entry.seq = [345] ∧ u.jrn.printedCursor = 342 ∧ slotsAccounted u := by
  unfold slotsAccounted; decide +kernel

/-- R165 to R167, R179: a role taken, the sign-on prompt, a role changed without OFF refused, a TELLER line set OFF, and a
reset. -/
theorem test_line_setup :
    let t := run (.lineSetup 9 setup4) branch
    let u := run (.lineSetup 9 { setup4 with line := 3, role := 1 }) branchAwaiting
    (lineOf .s4 t).setup.role = .teller ∧ (contextOf .s4 t).map ScreenContext.mode = some .signOnPrompt ∧
      printerOf .s4 t = some readyPrinter ∧ dropState .s4 .d2 t = some .new ∧ dropState .s4 .d3 t = none ∧
      (run (.lineSetup 9 { setup4 with line := 3, role := 3, drop2 := false }) branch).blc.replies.map MgmtReply.status =
        [.roleOrder] ∧
      u.ttr.ott.map OttEntry.ref = [⟨.s5, 311⟩] ∧ tellerAt .s3 u = none ∧ contextOf .s3 u = none ∧
      u.sda.queue.map adviceBodyOf = [some (.reversal ⟨.s3, 1042⟩ .abandonedOnLineOff .cashOut 28745)] ∧
      (lineOf .s3 (run (.lineReset 9 3) polling)).drops.get .d1 = some newDrop := by decide +kernel

theorem witness_LineControl :
    (Station.ofNat? 9 = none) ∧ Station.ofNat? 4 = some .s4 ∧ (Four.fill true).get .dl4 = true := by decide +kernel

/-- R174, R175, R177: SET reaches the lines of the mask; the LAMP drives while a teller is signed on in an OPEN day; the
release drives during its pulse. -/
theorem test_line_control :
    let t := run (.lineControl 9 3 1 ⟨true, false, true, false⟩) branch
    (lineOf .s3 t).latches = ⟨true, false, true, false⟩ ∧ t.blc.replies.map MgmtReply.status = [.done] ∧
      drivenLevel .s3 .dl1 t = some true ∧ drivenLevel .s3 .dl1 branch = some false ∧ drivenLevel .s3 .dl4 branch = some true ∧
      drivenLevel .s1 .dl4 branch = some false ∧ drivenLevel .s3 .dl2 branch = none ∧
      drivenLevel .s3 .dl1 (requestPulse .s3 branch) = some true ∧
      (run (.lineControl 9 9 1 (Four.fill true)) branch).blc.replies.map MgmtReply.status = [.badRequest] ∧
      (run (.lineControl 9 3 3 (Four.fill true)) branch).blc.replies.map MgmtReply.status = [.badRequest] := by decide +kernel

theorem witness_DrawerIsWatched :
    lineWith .drawerSense (lineOf .s3 branch).setup = some .dl2 ∧ (lineOf .s3 branch).drawerOpen = false ∧
      (lineOf .s3 (withLine fun l => { l with drawerOpen := true, leftOpen := true })).drawerOpen = true ∧
      (lineOf .s3 branch).openTimer = none ∧
      (lineOf .s3 (run (.drawerSenseChange .s3 true) branch)).openTimer = some 60000 := by decide +kernel

/-- R175, R176: the drawer left open, and closed again; the end of a pulse. -/
theorem test_drawer :
    let t := run (.drawerOpenTimerExpiry .s3) (run (.drawerSenseChange .s3 true) branch)
    (lineOf .s3 t).leftOpen = true ∧ flagSet .drawerLeftOpen t.mrs.flags = true ∧
      (contextOf .s3 t).map (fun c => c.statusLine.take 39) = some "ONLINE OPEN TELLER 417 DRAWER LEFT OPEN".toList ∧
      (lineOf .s3 (run (.drawerSenseChange .s3 false) t)).leftOpen = false ∧
      (lineOf .s3 (run (.drawerPulseEnd .s3) (requestPulse .s3 branch))).pulse = none := by decide +kernel

/-- Section 5.7: the queue holds advice 30, a REVERSAL; the advice counter stands at 31. -/
def alarmBranch : State :=
  onSda (fun d => { d with nextAdvice := 31, queue := [.advice ⟨30, .reversal ⟨.s2, 7⟩ .lateApproval .cashOut 500, none⟩] }) branch

theorem witness_AlarmIsQueued :
    lineWith .alarmIn (lineOf .s3 alarmBranch).setup = some .dl3 ∧ alarmStands .s3 alarmBranch = false ∧
      canWrite 0 (alarmDraft .s3 alarmBranch.mrs.clock 1) alarmBranch ∧
      (run (.alarmInRising .s3) alarmBranch).sda.queue.length = 2 := by
  unfold canWrite; decide +kernel

/-- Section 5.7: the alarm goes ahead of the REVERSAL; raised again, its repeat count is 2 and the entry's too. -/
theorem test_alarm :
    let t := run (.alarmInRising .s3) alarmBranch
    let u := run (.alarmInRising .s3) t
    t.sda.queue.filterMap entryNumber = [31, 30] ∧ t.sda.nextAdvice = 32 ∧
      u.sda.queue.map adviceBodyOf =
        [some (.alarm .s3 ⟨0, true⟩ 2), some (.reversal ⟨.s2, 7⟩ .lateApproval .cashOut 500)] ∧
      u.jrn.entries.map (fun e => e.draft.body) = [.alarm ⟨0, true⟩ 1, .alarm ⟨0, true⟩ 2] ∧
      u.blc.events.map EventNotice.flag = [.alarm] := by decide +kernel

/-- R195: the rise of ALARM places one notice with its station; while it waits, a rise after a STATUS-READ places no
second. -/
theorem test_notice :
    let t := run (.alarmInRising .s3) alarmBranch
    let read := run (.statusRead 9 []) t
    let released := onSda (fun d => { d with queue := [] }) read
    flagSet .alarm alarmBranch.mrs.flags = false ∧ t.blc.events = [⟨.alarm, ⟨0, true⟩, some .s3⟩] ∧
      flagSet .alarm t.mrs.flags = true ∧ flagSet .alarm read.mrs.flags = false ∧
      (run (.alarmInRising .s3) released).blc.events = t.blc.events := by decide +kernel

/-! ## The branch link -/

/-- R202: the check value of this generator over the nine digit characters, from the public catalogues of such checks
(register at all ones, no reflection, no inversion), and 0 over the whole with its check bytes. -/
theorem test_frame_check :
    frameCheck ("123456789".toList.map charByte) = 0xAEE7#16 ∧ frameCheck ("123456789".toList.map charByte ++ [0xAE, 0xE7]) = 0 := by
  decide +kernel

/-- A frame from head office to the concentrator, or to a station, of a kind, with its segment byte and payload. -/
def inbound (dest : Nat) (kind segment : Nat) (payload : List Byte) : List Byte :=
  frameBytes { dest := byteOf dest, source := 255, kind := byteOf kind, segment := byteOf segment, payload := payload }

theorem witness_frames :
    ([7] : List Byte).length ≤ 1024 ∧ judgeFrame (inbound 0 5 128 [7]) = .valid .linkCheck 0 0 true [7] ∧
      judgeFrame (inbound 0 5 128 [7] ++ [0]) = .frameCheck ∧ judgeFrame (inbound 1 5 128 [7]) = .frameForm ∧
      judgeFrame [0, 255, 5, 128, 0, 1, 7, 0, 0] = .frameCheck ∧ judgeFrame (inbound 0 5 144 [7]) = .frameForm ∧
      judgeFrame (inbound 3 1 128 [3, 4]) = .valid .reply 3 0 true [3, 4] ∧
      judgeFrame (inbound 0 2 128 [9, 11]) = .valid .mgmtReq 0 0 true [9, 11] ∧
      readMgmt [9, 11] = some (9, .totalsRead) ∧
      judgeFrame (inbound 0 3 128 [0, 16, 1]) = .valid .adviceAck 0 0 true [0, 16, 1] ∧
      judgeFrame (inbound 0 4 128 [0, 16, 1]) = .valid .batchAck 0 0 true [0, 16, 1] ∧
      judgeFrame (inbound 0 2 0 [9]) = .valid .mgmtReq 0 0 false [9] ∧
      judgeFrame (inbound 0 2 15 [9]) = .valid .mgmtReq 0 15 false [9] := by decide +kernel

/-- R183, R190: a whole LINK_CHECK in a frame; a first and a second segment; a segment without its first. -/
theorem test_inbound_frames :
    (run (.inboundFrame (inbound 0 5 128 [7])) branch).blc.linkAnswer = some 7 ∧
      (run (.inboundFrame (inbound 0 2 0 [9])) branch).blc.reassembly = some ⟨.mgmtReq, 1, [9]⟩ ∧
      (run (.inboundFrame (inbound 0 2 129 [11])) (run (.inboundFrame (inbound 0 2 0 [9])) branch)).mrs.places =
        [⟨9, .totalsRead, false⟩] ∧
      (run (.inboundFrame (inbound 0 2 1 [9])) branch).blc.frameForm = 1 ∧
      (run (.inboundFrame [0, 255, 5, 128, 0, 1, 7, 0, 0]) branch).blc.frameCheck = 1 := by decide +kernel

/-- The last segments of a REPLY, a request, two acknowledgements and a LINK_CHECK, each of the kind gathered. -/
theorem witness_last_segment :
    judgeFrame (inbound 3 1 129 [4]) = .valid .reply 3 1 true [4] ∧
      judgeFrame (inbound 0 2 129 [11]) = .valid .mgmtReq 0 1 true [11] ∧
      judgeFrame (inbound 0 3 129 [1]) = .valid .adviceAck 0 1 true [1] ∧
      judgeFrame (inbound 0 4 129 [1]) = .valid .batchAck 0 1 true [1] ∧
      judgeFrame (inbound 0 5 129 []) = .valid .linkCheck 0 1 true [] ∧
      readMgmt ([9] ++ [11]) = some (9, .totalsRead) ∧ readMgmt ([] ++ []) = none ∧
      (run (.inboundFrame (inbound 0 2 0 [9])) branch).blc.reassembly = some ⟨.mgmtReq, 1, [9]⟩ ∧
      (run (.inboundFrame (inbound 0 2 0 [9])) branch).blc.link ≠ .lost := by decide +kernel

/-- On a LOST link: a first segment, a whole LINK_CHECK, and what restores the link without a STANDIN advice. -/
theorem test_lost_link_frames :
    let lost := onBlc (fun b => { b with link := .lost, silence := none }) branch
    let t := run (.inboundFrame (inbound 0 2 0 [9])) lost
    lost.sda.queue.any (isKind .standin) = false ∧ t.blc.link = .up ∧ t.blc.reassembly = some ⟨.mgmtReq, 1, [9]⟩ ∧
      t.blc.silence = some (branch.uptime + 1000 * branch.mrs.settings.linkSilence) ∧
      flagSet .linkRestored t.mrs.flags = true ∧
      (run (.mgmtReq 9 .totalsRead) lost).blc.link = .up ∧
      (run (.inboundFrame (inbound 0 2 0 [9])) standinBranch).blc.link = .up ∧
      (run (.inboundFrame (inbound 0 2 0 [9])) (run (.keyRequest .s3 request1060) standinBranch)).blc.link = .recovering := by
  decide +kernel

/-- R191: a request taken into the buffer; a fifth is an overrun. -/
theorem test_request_buffer :
    let full := onMrs (fun m => { m with places := List.replicate 4 ⟨1, .totalsRead, true⟩ }) branch
    (run (.mgmtReq 9 .totalsRead) branch).mrs.places = [⟨9, .totalsRead, false⟩] ∧
      (run (.mgmtReq 9 .totalsRead) full).mrs.overruns = 1 ∧ branch.mrs.places.length < 4 ∧ 4 ≤ full.mrs.places.length := by
  decide +kernel

/-- The queue of section 5.6 as it awaits its acknowledgements, the link RECOVERING. -/
def sentBranch : State :=
  onBlc (fun b => { b with link := .recovering }) (onSda (fun d => { d with
    queue :=
      [.advice ⟨15, .passbookUpdate ⟨⟨.s4, 88⟩, "40231190".toList, some 1, 5, 2, none⟩ .printerFault, some 15000⟩,
       .advice ⟨17, .standin ⟨.s6, 412⟩ 208 210 (some "40017733".toList) (some (12000, 12000)) ⟨32000, false⟩, some 15000⟩,
       .advice ⟨18, .alarm .s3 ⟨32000, false⟩ 2, some 15000⟩] }) branch)

theorem witness_AdviceAcknowledged :
    sentAdvice 16 sentBranch = none ∧ (sentAdvice 15 sentBranch).isSome = true ∧
      (sentAdvice 17 sentBranch).map (fun a => adviceKind a.body) = some .standin ∧
      (sentAdvice 18 sentBranch).map (fun a => adviceKind a.body) = some .alarm ∧
      (contextOf .s3 (arrive sentBranch)).isSome = true ∧
      canWrite 0 { station := some .s6, teller := none, body := .late .adviceRefused 412 210 17 (some .standin),
                   account := some "40017733".toList, amounts := some (12000, 12000), breakdown := [] } sentBranch := by
  unfold canWrite; decide +kernel

/-- Section 5.6: the refusal of advice 17, the last STANDIN, makes the link UP, raises ADVICE_REFUSED and writes its LATE
entry; the acknowledgement of an alarm sends the images; an expired deadline returns the advice in its place. -/
theorem test_advice_answers :
    let t := run (.adviceAck (some ⟨17, 2⟩)) sentBranch
    t.blc.link = .up ∧ flagSet .adviceRefused t.mrs.flags = true ∧
      t.jrn.entries.map (fun e => e.draft.body) = [.late .adviceRefused 412 210 17 (some .standin)] ∧
      t.sda.queue.filterMap entryNumber = [15, 18] ∧
      (contextOf .s3 (run (.adviceAck (some ⟨18, 1⟩)) sentBranch)).map ScreenContext.mirrorPending = some true ∧
      (run (.adviceAckTimeout 15) sentBranch).sda.queue.countP isSent = 2 ∧
      (run (.adviceAck (some ⟨16, 1⟩)) sentBranch).sda.unmatchedAcks = 1 := by decide +kernel

/-- Entries 341 to 345, each of one slot. -/
def entries341 : List Entry := (List.range 5).map fun i => { entry341 with seq := 341 + i }

/-- The store of section 6.8, TRICKLE, a journal printer at station 8 with its cursor at 345. -/
def trickleBranch : State :=
  onMrs (fun m => { m with settings := { m.settings with journalMode := .trickle } })
    (onLine .s8 (fun l => { l with setup := { l.setup with role := .journalPrinter } })
      (onBlc (fun b => { b with sending := none }) (onJrn (fun j => { j with
        entries := entries341, used := 5, free := 16375, nextSeq := 346, lastAccepted := 340, printedCursor := 345,
        batchCounter := 210 }) branch)))

/-- Batch 210 is outstanding. -/
def trickleSent210 : State := run .transmit trickleBranch

theorem witness_trickle :
    (trickleSent210.jrn.trickle).map TrickleBatch.number = some 210 ∧ slotsAccounted trickleSent210 ∧
      trickleOf 209 trickleSent210 = none ∧ settlementOf 209 trickleSent210 = none ∧
      outstandingSettlement branch = none := by
  unfold slotsAccounted; decide +kernel

/-- Section 6.8: batch 210 carries 341 to 345; accepted, it frees them; rejected, the pause starts. -/
theorem test_trickle :
    (trickleSent210.jrn.trickle).map (fun b => (b.batch.first, b.batch.last, b.batch.count)) = some (341, 345, 5) ∧
      trickleSent210.jrn.batchCounter = 211 ∧
      (run (.batchAck (some ⟨210, 1⟩)) trickleSent210).jrn.lastAccepted = 345 ∧
      (run (.batchAck (some ⟨210, 1⟩)) trickleSent210).jrn.entries = [] ∧
      (run (.batchAck (some ⟨210, 2⟩)) trickleSent210).jrn.pause = some 60000 ∧
      (run .trickleBatchTimeout trickleSent210).jrn.trickle = none ∧
      (run .rejectionPauseEnd (run (.batchAck (some ⟨210, 2⟩)) trickleSent210)).jrn.pause = none ∧
      (run (.batchAck (some ⟨209, 1⟩)) trickleSent210).jrn.unmatchedAcks = 1 := by decide +kernel

/-- The trickle batch of section 6.8 still outstanding as the day is SETTLING in phase JOURNAL, with no later entry and with
one. -/
def trickleSettling (es : List Entry) : State :=
  onDay (fun d => { d with state := .settling, settlement := some ⟨.journal, none, none, 0, [], none⟩ })
    (onJrn (fun j => { j with entries := j.entries ++ es, used := j.used + es.length, free := j.free - es.length })
      trickleSent210)

/-- R139: its acceptance that finds no entry left to send begins TOTALS with the parts; one that leaves an entry does not. -/
theorem test_trickle_ends_the_phase :
    let t := fun es => run (.batchAck (some ⟨210, 1⟩)) (trickleSettling es)
    (t []).day.settlement.map (fun c => (c.phase, c.parts)) = some (.totals, totalsParts (t [])) ∧
      (t [{ entry341 with seq := 346 }]).day = (trickleSettling []).day ∧
      ((trickleSettling []).jrn.trickle).map (fun b => b.batch.last) = some 345 ∧
      (∀ e ∈ (trickleSettling []).jrn.entries, e.seq ≤ 345) ∧
      ∃ e ∈ (trickleSettling [{ entry341 with seq := 346 }]).jrn.entries, 345 < e.seq := by decide +kernel

/-- A settlement batch of the entries held. -/
def batch58 : Batch := { number := 58, content := .journal ⟨341, 345, 5, 0, entries341⟩ }

/-- A last totals part. -/
def batch60 : Batch := { number := 60, content := .totals (.tellers 2 2 []) }

/-- The day in settlement with a batch outstanding. -/
def settling (phase : Phase) (b : Batch) (attempts : Nat) (parts : List TotalsPart) : State :=
  onDay (fun d => { d with state := .settling, settlement := some ⟨phase, some b, some 60000, attempts, parts, none⟩ })
    { trickleBranch with ttr := { trickleBranch.ttr with ott := [] } }

theorem witness_settlement :
    (settling .journal batch58 0 []).day.settlement = some ⟨.journal, some batch58, some 60000, 0, [], none⟩ ∧
      (settling .journal batch58 0 []).jrn.trickle = none ∧
      canWrite 0 (dayDraft .settled branch.day.date) (settling .totals batch60 0 [.tellers 2 2 []]) ∧
      canWrite 0 (dayDraft .settleFailed branch.day.date) (settling .journal batch58 2 []) := by
  unfold canWrite; decide +kernel

/-- Section 7.6: accepted, the last journal batch ends the phase; rejected twice it is sent again, the third fails the day;
the last totals part settles it; a trailing batch is dropped for a pause. -/
theorem test_settlement :
    let x := fun s : State => s.day.settlement.map fun c => (c.phase, c.attempts, c.current.isSome, c.outstanding.isSome)
    x (run (.batchAck (some ⟨58, 1⟩)) (settling .journal batch58 1 [])) = some (.totals, 0, false, false) ∧
      x (run (.batchAck (some ⟨58, 2⟩)) (settling .journal batch58 1 [])) = some (.journal, 2, true, false) ∧
      (run .settlementBatchTimeout (settling .journal batch58 2 [])).day.state = .settleFailed ∧
      (run (.batchAck (some ⟨60, 1⟩)) (settling .totals batch60 0 [.tellers 2 2 []])).day.state = .settled ∧
      (run (.batchAck (some ⟨60, 1⟩)) (settling .totals batch60 0 [.tellers 2 2 [], .tellers 3 3 []])).day.state = .settling ∧
      (run (.batchAck (some ⟨58, 2⟩)) (settling .trailing batch58 0 [])).day.settlement.bind Settlement.pause = some 60000 ∧
      (run .trailingPauseEnd (run (.batchAck (some ⟨58, 2⟩)) (settling .trailing batch58 0 []))).day.settlement.bind
        Settlement.pause = none := by decide +kernel

theorem witness_LinkCheck :
    branch.blc.sending = none ∧ branch.blc.link ≠ .lost ∧ standinBranch.blc.link = .lost ∧
      (run (.linkCheck (some 7)) branch).blc.linkAnswer = some 7 ∧ (heldRefs branch).Nodup := by decide +kernel

/-- Sections 10.4 and 11.6: the answer carries the states and counts; the first frame of a LOST link restores it. -/
theorem test_link_check :
    (run .transmit (run (.linkCheck (some 7)) branch)).blc.sending.map Prod.fst = some (.linkAnswer 7 .up .opened 0 0) ∧
      (run (.linkCheck (some 7)) standinBranch).blc.link = .up ∧
      flagSet .linkRestored (run (.linkCheck (some 7)) standinBranch).mrs.flags = true ∧
      (run (.linkCheck none) branch).blc.frameForm = 1 := by decide +kernel

/-- Section 10.5: the silence loses the link; an AWAITING entry waits on, a QUEUED one ends LINK_DOWN with its request. -/
theorem test_silence :
    let t := run .silenceTimerExpiry (run (.keyRequest .s3 request1042) branch)
    t.blc.link = .lost ∧ t.ttr.ott = [entry311] ∧ t.blc.requests = [] ∧ drawerOf .s3 t = drawer29 ∧
      (contextOf .s3 t).map ScreenContext.message = some "LINK DOWN 3/1042".toList ∧
      flagSet .linkLost t.mrs.flags = true ∧
      (run (.keyRequest .s3 request1042) branch).jrn.nextSeq ≤ 4294967295 := by decide +kernel

/-- Two transactions of station 3 QUEUED, and one AWAITING. -/
def twoQueued : State :=
  onJrn (fun j => { j with reserved := 12, free := 15172 }) (onTtr (fun t => { t with
    ott := [{ entry1042 with state := .queued, leg := none }, entry311,
            { entry1042 with ref := ⟨.s3, 1043⟩, state := .queued, leg := none }] }) branch)

/-- Section 10.5, R20: both end LINK_DOWN in the order of their acceptance (log 32), and the screen names the last. -/
theorem witness_silence_of_two :
    let t := run .silenceTimerExpiry twoQueued
    (twoQueued.ttr.ott.filter fun e => e.state = .queued).map OttEntry.ref = [⟨.s3, 1042⟩, ⟨.s3, 1043⟩] ∧
      (heldRefs twoQueued).Nodup ∧ twoQueued.blc.link ≠ .lost ∧ twoQueued.jrn.nextSeq + 2 ≤ 4294967296 ∧
      t.jrn.entries.map (fun e => e.draft.body) = [.txn 1042 210 .linkDown, .txn 1043 210 .linkDown] ∧
      t.jrn.reserved = 4 ∧ (contextOf .s3 t).map ScreenContext.message = some "LINK DOWN 3/1043".toList := by decide +kernel

/-- For each class a state in which the arbiter takes from it, every class before it without a ready message. -/
theorem witness_TransmitterTakesByRank :
    (arbiterChoice (run (.linkCheck (some 7)) branch)).map Prod.fst = some .linkAnswer ∧
      (arbiterChoice (run (.alarmInRising .s3) alarmBranch)).map Prod.fst = some .alarmAdvice ∧
      (arbiterChoice alarmBranch).map Prod.fst = some .otherAdvice ∧
      (arbiterChoice (onBlc (fun b => { b with events := [⟨.alarm, ⟨0, true⟩, some .s3⟩] }) branch)).map Prod.fst =
        some .event ∧
      (arbiterChoice (run .settlementBatchTimeout (settling .journal batch58 0 []))).map Prod.fst = some .settlement ∧
      arbiterChoice branch = none ∧ arbiterChoice standinBranch = none := by decide +kernel

/-- Section 10.3: the classes by rank. A management reply waits before a request, and frees its place. -/
theorem test_transmit :
    let s := run (.totalsRead 9) (run (.keyRequest .s3 request1042) branch)
    let t := run .transmit s
    (arbiterChoice s).map Prod.fst = some .mgmtReply ∧ t.mrs.places = [] ∧
      (arbiterChoice (run .transmitEnd t)).map Prod.fst = some .request ∧ (run .transmit t).blc.requests.length = 1 ∧
      (arbiterChoice sentBranch).isNone = true ∧ (arbiterChoice trickleBranch).map Prod.fst = some .trickle := by
  decide +kernel

/-- R2, R66, R195, R201: a key request and a form call begin with their station, and an EVENT names one for ALARM alone. -/
theorem test_stations_on_the_wire :
    readDropContent 2 [3, 0, 210] = some (.formCall 210) ∧ readDropContent 2 [0, 210] = none ∧
      readDropContent 1 [3, 12, 0, 210, 0] = some (.keyRequest { form := 12, code := 210, fields := [] }) ∧
      (outPayload (.event ⟨.linkLost, ⟨0, true⟩, none⟩)).length + 1 =
        (outPayload (.event ⟨.alarm, ⟨0, true⟩, some .s3⟩)).length := by decide +kernel

/-- R178, R202: a LINE-TEST carries a count for LOOP alone. -/
theorem test_line_test_on_the_wire :
    readRequest 8 [3, 1] = some (.lineTest 3 1 0) ∧ readRequest 8 [3, 3] = some (.lineTest 3 3 0) ∧
      readRequest 8 [3, 2, 7] = some (.lineTest 3 2 7) ∧ readRequest 8 [3, 2] = none ∧ readRequest 8 [3, 1, 7] = none := by
  decide +kernel

/-- R174, R201: the line levels that LINE-CONTROL answers are ACTIVE, 1, or INACTIVE, 2. -/
theorem test_levels_on_the_wire :
    contentBytes (.latches ⟨true, false, true, false⟩) = [1, 2, 1, 2] := by decide +kernel

/-- R140: the totals of a branch with one Teller Day Record are two parts, with none one. -/
theorem test_totals_parts : (totalsParts branch).length = 2 ∧ (totalsParts State.reset).length = 1 := by decide +kernel

/-- The frame of a LINK_ANSWER: destination 255, source 0, kind 21, last segment 0, five payload bytes, the check number. -/
theorem test_outbound_frame :
    (outFrames (.linkAnswer 7 .up .opened 0 0)).map (fun f => f.take 7) = [[255, 0, 21, 128, 0, 5, 7]] := by decide +kernel

/-- A batch of 64 entries, whose payload goes out as two segments. -/
def wideBatch : OutMsg :=
  .batch ⟨58, .journal ⟨341, 404, 64, 0, (List.range 64).map fun i => { entry341 with seq := 341 + i }⟩⟩

theorem witness_two_segments :
    (outPayload wideBatch).length = 1556 ∧
      (outFrames wideBatch).map (fun f => (f.take 4, f.length)) = [([255, 0, 20, 0], 1032), ([255, 0, 20, 129], 540)] := by
  decide +kernel

/-! ## Loaded tables -/

/-- A whole PLT of one layout in one fragment. -/
def loadPlt (last : Bool) (number : Nat) : Fragment :=
  { loadId := 7, number := number, last := last, body := .plt [{ layout2 with bookType := 1 + number }] }

/-- A load is in progress. -/
def loading : State := run (.tableLoad 9 (loadPlt false 0)) branch

/-- A settled day, where a DNT may be committed (section 8.12), with no count of any denomination. -/
def emptyBranch : State := setPosition (some .s3) emptyPosition closedBranch

/-- The faces of section 8.12, with another coin at index 8. -/
def dnt812 (coin : Nat) : Fragment :=
  { loadId := 8, number := 0, last := true
    body := .dnt (some ⟨2, 5⟩) ([10000, 5000, 2000, 1000, 500, 200, 100, coin, 20, 10, 5].map fun f => ⟨f, 2, 0⟩) }

theorem witness_TablesAreLoadedAndRead :
    badHeader (loadPlt false 0) = false ∧ branch.tbl.load = none ∧
      (loading.tbl.load).map LoadContext.next = some 1 ∧ fits (loadPlt false 0).body = true ∧
      commitCheck (loadPlt true 0).body branch = .ok (.plt [{ layout2 with bookType := 1 }]) ∧
      commitCheck (.plt [{ layout2 with linesPerPage := 9 }]) branch = .error (.checkFailed 1 .range (some 2)) ∧
      fits (.plt (List.replicate 9 layout2)) = false ∧
      canWrite 0 (tableDraft .plt 7 1) branch ∧ tableIdOfCode 6 = none ∧ tableIdOfCode 5 = some .plt := by
  unfold canWrite; decide +kernel

/-- Whether a checked table commits. -/
def commits (b : FragmentBody) (s : State) : Bool :=
  match commitCheck b s with
  | .ok _ => true
  | .error _ => false

/-- Form 2 and form 13 as a fragment carries them. -/
def rawForms : List RawFormat :=
  [⟨2, 1, "SIGN ON".toList, [⟨1, 3, 1, 4, 0, 1, false, 1⟩]⟩, ⟨13, 2, "RESULT".toList, [⟨1, 3, 1, 10, 0, 3, false, 7⟩]⟩]

/-- A TCT, an SFT, a DNT and a TLT that commit, and what the counts and sign-ons that stand hold back (R161). -/
theorem witness_commits :
    commits (.tct [goodTct]) branch = true ∧ commits (.sft rawForms) (onTbl (fun x => { x with tct := [] }) branch) = true ∧
      commits (dnt812 30).body closedBranch = true ∧ commits (.tlt (some 30000) [⟨417, 1, 1, 2, 3⟩]) branch = true ∧
      commits (.tlt (some 30000) [⟨311, 1, 1, 2, 3⟩]) branch = false ∧ commits (.sft rawForms) branch = false ∧
      commits (.tct [goodTct]) (onTbl (fun x => { x with dnt := [] }) branch) = false ∧
      countsAt (positionOf (some .s3) closedBranch) 1 ≠ ⟨0, 0, 0⟩ := by decide +kernel

/-- R156 to R162: begin, out of order, another load, not loading, capacity, commit, abort, idle. -/
theorem test_table_load :
    let st := fun s : State => s.blc.replies.map MgmtReply.status
    st loading = [.accepted] ∧
      st (run (.tableLoad 9 (loadPlt false 2)) { loading with blc := branch.blc }) = [.sequence] ∧
      st (run (.tableLoad 9 { loadPlt false 0 with loadId := 3 }) { loading with blc := branch.blc }) = [.loadBusy] ∧
      st (run (.tableLoad 9 (loadPlt false 1)) branch) = [.notLoading] ∧
      st (run (.tableLoad 9 { loadPlt true 0 with body := .plt (List.replicate 9 layout2) }) branch) = [.capacity] ∧
      (run (.tableLoad 9 (loadPlt true 0)) branch).tbl.pltId = some 7 ∧
      st (run (.tableLoad 9 (loadPlt true 1)) { loading with blc := branch.blc }) = [.committed] ∧
      (run (.tableAbort 9) loading).tbl.load = none ∧
      flagSet .loadAbandoned (run .loadIdleExpiry loading).mrs.flags = true := by decide +kernel

/-- Section 8.12: in an OPEN day WRONG_DAY_STATE; on a settled one 30 commits, and one record fewer is IN_USE while a count
stands. -/
theorem test_coin_replaced :
    let st := fun s : State => s.blc.replies.map MgmtReply.status
    st (run (.tableLoad 9 (dnt812 25)) branch) = [.wrongDayState] ∧
      st (run (.tableLoad 9 (dnt812 30)) closedBranch) = [.committed] ∧
      st (run (.tableLoad 9 { dnt812 25 with body := .dnt (some ⟨2, 5⟩) [⟨5, 2, 0⟩] }) closedBranch) = [.inUse 0] ∧
      st (run (.tableLoad 9 { dnt812 25 with body := .dnt (some ⟨2, 5⟩) [⟨5, 2, 0⟩] }) emptyBranch) = [.committed] ∧
      st (run (.tableLoad 9 (dnt812 27)) closedBranch) = [.checkFailed 8 .increment (some 8)] ∧
      st (run (.tableLoad 9 (dnt812 20)) closedBranch) = [.checkFailed 9 .order (some 9)] := by decide +kernel

/-- R163: a TABLE-READ from an index on; index 0 and table 6 refused. -/
theorem test_table_read :
    (run (.tableRead 9 4 2) branch).blc.replies =
        [⟨9, .done, .tableRead .tlt none 2 (.tlt 30000 [limits 311]) 2⟩] ∧
      (run (.tableRead 9 4 0) branch).blc.replies.map MgmtReply.status = [.badRequest] ∧
      (run (.tableRead 9 6 1) branch).blc.replies.map MgmtReply.status = [.badRequest] := by decide +kernel

/-! ## Management and the day -/

theorem witness_SettingsClockAndReads :
    ([SettingName.linkSilence, .highWater].Nodup) ∧ ¬ ([SettingName.highWater, .highWater].Nodup) ∧
      storedValue .linkSilence 4 ≠ 4 ∧ storedValue .linkSilence 120 = 120 ∧ Station.ofNat? 9 = none ∧ 86399 < 86400 := by
  decide +kernel

/-- The branch with an over/short of 5 at every position. -/
def balancedBranch : State :=
  onCsh (fun c => { drawers := c.drawers.mapWith fun _ p => { p with overShort := .value 5 }
                    reserve := { c.reserve with overShort := .value 5 } }) branch

/-- R55: nine over/short values have a sum, and the nine positions of a cold start, where none has one, have none. -/
theorem witness_overShort :
    nineOf Position.overShort balancedBranch = (List.replicate 9 5).map OverShort.value ∧
      (snapshotOf balancedBranch.csh).sums.overShort = some 45 ∧ (snapshotOf State.reset.csh).sums.overShort = none ∧
      (nineOf id State.reset).any (fun q => decide (q.overShort = .absent)) = true := by decide +kernel

/-- R193: settings within range, clamped below and above, named twice, and a journal mode of neither kind. -/
theorem test_settings :
    let t := run (.settingsWrite 9 [(.linkSilence, 4), (.highWater, 96), (.journalMode, 2)]) branch
    (t.mrs.settings.linkSilence, t.mrs.settings.highWater, t.mrs.settings.journalMode) = (5, 95, .trickle) ∧
      t.blc.replies = [⟨9, .doneClamped, .clamped [(.linkSilence, 5), (.highWater, 95)]⟩] ∧
      (run (.settingsWrite 9 [(.journalMode, 3)]) branch).blc.replies.map MgmtReply.status = [.badRequest] ∧
      (run (.settingsWrite 9 [(.highWater, 60), (.highWater, 61)]) branch).blc.replies.map MgmtReply.status = [.badRequest] ∧
      (run (.settingsRead 9) branch).blc.replies = [⟨9, .done, .settings branch.mrs.settings⟩] := by decide +kernel

/-- R196, R198: the last second and the first beyond it; a status read clears the flags it reports; an unknown kind. -/
theorem test_clock_and_status :
    (run (.clockSet 9 86399) branch).mrs.clock = ⟨86399, false⟩ ∧ (run (.clockSet 9 86400) branch).mrs.clock = ⟨0, true⟩ ∧
      tick (run (.clockSet 9 86399) branch) = { tick (run (.clockSet 9 86399) branch) with
        mrs := { (tick (run (.clockSet 9 86399) branch)).mrs with clock := ⟨0, false⟩ } } ∧
      flagSet .retentionLost (run (.statusRead 9 [3]) branch).mrs.flags = false ∧
      (run (.statusRead 9 [9]) branch).blc.replies.map MgmtReply.status = [.badRequest] ∧
      (run (.badRequest 9 18) branch).blc.replies.map MgmtReply.status = [.badRequest] := by decide +kernel

/-- A branch ready to settle: CUTOFF, nothing open, every position at rest. -/
def atRest : State :=
  { branch with
    ttr := { branch.ttr with ott := [] }
    scm := { branch.scm with signOn := Eight.fill none }
    csh := { drawers := Eight.fill { emptyPosition with state := .notOpened }
             reserve := { emptyPosition with state := .balanced } }
    day := { branch.day with state := .cutoff } }

theorem witness_SettleConditionIsJudged :
    settleCondition atRest = true ∧ atRest.day.state = .cutoff ∧ settleCondition branch = false ∧
      canWrite 0 (dayDraft .settling atRest.day.date) atRest := by
  unfold canWrite; decide +kernel

/-- R134, R139: the settle condition holds: the day is SETTLING; its DAY entry is the entry to send. -/
theorem test_settling :
    (judgeSettle atRest).day.state = .settling ∧
      (judgeSettle atRest).day.settlement.map Settlement.phase = some .journal ∧
      (judgeSettle atRest).jrn.entries.map (fun e => e.draft.body) = [.day .settling (some ⟨2031, 3, 31⟩)] := by
  decide +kernel

theorem witness_DayRequests :
    (branchIn .cutoff).day.state = .cutoff ∧ (branchIn .cutoff).ttr.ott ≠ [] ∧
      validDate ⟨2031, 4, 1⟩ = true ∧ laterDate ⟨2031, 4, 1⟩ ⟨2031, 3, 31⟩ = true ∧
      closedBranch.day.date = some ⟨2031, 3, 31⟩ ∧ 1 ≤ closedBranch.jrn.free + closedBranch.jrn.used ∧
      closedBranch.jrn.entries.getLast? = none ∧ validDate ⟨2031, 4, 31⟩ = false ∧
      printerRoleHeld trickleBranch = true := by decide +kernel

/-- A branch in CUTOFF with a teller signed on and drawer 3 ACTIVE, its OTT empty. -/
def forceable : State := { branchIn .cutoff with ttr := { branch.ttr with ott := [] } }

/-- Section 7.6: cutoff, force, retry and roll, and their refusals in other day states. -/
theorem test_day_requests :
    let st := fun s : State => s.blc.replies.map MgmtReply.status
    (run (.dayCutoff 9) branch).day.state = .cutoff ∧ st (run (.dayCutoff 9) (branchIn .cutoff)) = [.wrongDayState] ∧
      st (run (.dayForce 9) (branchIn .cutoff)) = [.inFlight] ∧
      (run (.dayForce 9) forceable).day.drawerMarks.get .s3 = true ∧ tellerAt .s3 (run (.dayForce 9) forceable) = none ∧
      (run (.dayForce 9) forceable).day.state = .settling ∧
      (run (.settleRetry 9) (onDay (fun d => { d with state := .settleFailed }) (settling .journal batch58 3 []))).day.state =
        .settling ∧
      st (run (.settleRetry 9) branch) = [.wrongDayState] := by decide +kernel

/-- Section 7.6: the roll to 2031-04-01 opens the day: one entry, sequence 1, batch counter 1, drawer 3 NOT_OPENED with its
counts; an earlier date and an unprinted journal are refused. -/
theorem test_date_roll :
    let t := run (.dateRoll 9 ⟨2031, 4, 1⟩) closedBranch
    t.day.state = .opened ∧ t.jrn.entries.map Entry.seq = [1] ∧ (t.jrn.used, t.jrn.batchCounter, t.jrn.nextSeq) = (1, 1, 2) ∧
      (drawerOf .s3 t).state = .notOpened ∧ (drawerOf .s3 t).total = 41935 ∧ t.ttr.seqs.get .s3 = 1042 ∧
      (run (.dateRoll 9 ⟨2031, 3, 31⟩) closedBranch).blc.replies.map MgmtReply.status = [.badDate] ∧
      (run (.dateRoll 9 ⟨2031, 4, 1⟩) (onDay (fun d => { d with state := .settled })
        (onJrn (fun j => { j with printedCursor := 344 }) trickleBranch))).blc.replies.map MgmtReply.status =
        [.journalUnprinted] := by decide +kernel

/-- Section 11.6: a start after a loss of power: 3/1042 is abandoned with its REVERSAL, 6/77's slots return, and the
reservation of 4/90 is converted with its write OWED. -/
theorem test_warm_start :
    let s := onTtr (fun t => { t with ott := [entry1042], late := [{ late1042 with ref := ⟨.s6, 77⟩ }] })
      (onJrn (fun j => { j with reserved := 6, free := 15178 }) (onSda (fun d => { d with
        queue := [.reservation ⟨⟨.s4, 90⟩, "40231190".toList, some 1, 5, 2, none⟩] }) branchAwaiting))
    let t := run .start s
    t.ttr.ott = [] ∧ t.ttr.late = [] ∧ t.jrn.reserved = 0 ∧
      t.sda.queue.map adviceBodyOf =
        [some (.passbookUpdate ⟨⟨.s4, 90⟩, "40231190".toList, some 1, 5, 2, none⟩ .restart),
         some (.reversal ⟨.s3, 1042⟩ .abandonedOnRestart .cashOut 28745)] ∧
      t.jrn.entries.map (fun e => e.draft.body) =
        [.txn 1042 210 .abandoned, .passbook 90 (some 1) 5 2 .restart .owed] ∧
      t.blc.link = .lost ∧ drawerOf .s3 t = drawer29 := by decide +kernel

/-- R199: a start without the marker is a cold start. -/
theorem test_cold_start :
    run .start { branch with rts := ⟨false⟩ } = { State.reset with slc := (run .start { branch with rts := ⟨false⟩ }).slc } ∧
      flagSet .retentionLost (run .start { branch with rts := ⟨false⟩ }).mrs.flags = true := by decide +kernel

/-- R176: the level of a DRAWER_SENSE wire that stays DL2 is kept by a cold start (log 24). -/
theorem witness_cold_drawer :
    lineWith .drawerSense (lineOf .s3 branch).setup = some .dl2 ∧
      (lineOf .s3 (run .start { branch with rts := ⟨false⟩ })).drawerOpen = false := by decide +kernel

/-- No row of the table gives bits, so no word spells a command (log 1). -/
theorem test_no_word : decodeTableWord 16 0 = none ∧ branch.withFetchWord 16 0 = branch := ⟨rfl, rfl⟩

end Sys2Proof.Tests
end

section
/-! SUPPORT. Transactions in flight: the arrival of a reply and its matching (R21), the end of an OTT entry by a DECLINED
reply (R23), and the end of a Late List entry by its expiry (R27). -/

namespace Sys2Proof.Machine
open Sys2Proof

/-! ## A frame arrives -/

/-- The frame of a message makes no screen context and removes none. -/
@[simp] theorem contextOf_arrive_isSome (st : Station) (s : State) :
    (contextOf st (arrive s)).isSome = (contextOf st s).isSome := by
  have part : contextOf st (arrive s) = contextOf st (validFrame s) := by simp [arrive, contextOf]
  rw [part]
  unfold validFrame
  split
  · rw [restoreLink, contextOf_refreshAll, Option.isSome_map]
    simp [contextOf, restartSilence]
  · rfl

@[simp] theorem positionOf_arrive (p : Option Station) (s : State) : positionOf p (arrive s) = positionOf p s := by
  cases p <;> simp [positionOf, drawerOf]

/-- A reply is taken by the state that its frame leaves; DAY then judges the settle condition. -/
theorem exec_reply (dest : Station) (r : Reply) (s : State) :
    exec (.reply dest (some r)) s = .next (judgeSettle (takeReply dest (some r) (arrive s))) := rfl

/-! ## The entries of a reference (R18, R25) -/

theorem ottEntry_congr {ref : Ref} {s t : State} (h : t.ttr.ott = s.ttr.ott) : ottEntry ref t = ottEntry ref s := by
  unfold ottEntry; rw [h]

theorem lateEntry_congr {ref : Ref} {s t : State} (h : t.ttr.late = s.ttr.late) : lateEntry ref t = lateEntry ref s := by
  unfold lateEntry; rw [h]

theorem ottEntry_ref {ref : Ref} {e : OttEntry} {s : State} (h : ottEntry ref s = some e) : e.ref = ref := by
  simpa using List.find?_some h

theorem lateEntry_ref {ref : Ref} {l : LateEntry} {s : State} (h : lateEntry ref s = some l) : l.ref = ref := by
  simpa using List.find?_some h

/-- The Late List has no entry of a reference that it has been filtered of. -/
theorem lateEntry_removed {ref : Ref} {s t : State} (h : t.ttr.late = s.ttr.late.filter fun x => x.ref ≠ ref) :
    lateEntry ref t = none := by
  unfold lateEntry; rw [h, List.find?_eq_none]; simp

/-- A reference that the Late List holds is not in the OTT (R18). -/
theorem ottEntry_none_of_late {ref : Ref} {l : LateEntry} {s : State} (hn : (heldRefs s).Nodup)
    (h : lateEntry ref s = some l) : ottEntry ref s = none := by
  have inLate : ref ∈ s.ttr.late.map LateEntry.ref := List.mem_map.2 ⟨l, List.mem_of_find?_eq_some h, lateEntry_ref h⟩
  unfold ottEntry
  rw [List.find?_eq_none]
  intro e he
  have inOtt : e.ref ∈ s.ttr.ott.map OttEntry.ref := List.mem_map_of_mem he
  simpa using fun hr : e.ref = ref => List.disjoint_of_nodup_append hn (hr ▸ inOtt) inLate

/-! ## The matching of replies (R21) -/

section Matching

variable {dest : Station} {r : Reply} {s : State}

/-- A DECLINED reply that finds its entry AWAITING ends it. -/
theorem takeReply_declined {e : OttEntry} {deadline : Nat} (hst : r.station = dest.num) (ho : r.outcome = 2)
    (hl : r.lines.length ≤ 24) (he : ottEntry ⟨dest, r.seq⟩ s = some e) (ha : e.state = .awaiting deadline) :
    takeReply dest (some r) s = decline e r s := by
  have fits : ¬ Config.jobLines < r.lines.length := Nat.not_lt.2 hl
  simp [takeReply, replyApproved, replyRef, hst, ho, fits, he, ha]

/-- A reply of either outcome whose reference the Late List alone holds is a late reply. -/
theorem takeReply_late {l : LateEntry} (hst : r.station = dest.num) (ho : r.outcome = 1 ∨ r.outcome = 2)
    (hl : r.lines.length ≤ 24) (hn : ottEntry ⟨dest, r.seq⟩ s = none) (he : lateEntry ⟨dest, r.seq⟩ s = some l) :
    takeReply dest (some r) s = lateReply l (decide (r.outcome = 1)) s := by
  have fits : ¬ Config.jobLines < r.lines.length := Nat.not_lt.2 hl
  rcases ho with ho | ho <;> simp [takeReply, replyApproved, replyRef, hst, ho, fits, hn, he]

/-- A reply whose reference neither table holds is discarded, whatever else it says. -/
theorem takeReply_unmatched (hst : r.station = dest.num) (hn : ottEntry ⟨dest, r.seq⟩ s = none)
    (he : lateEntry ⟨dest, r.seq⟩ s = none) : takeReply dest (some r) s = countUnmatchedReply s := by
  cases ho : replyApproved r with
  | none => simp [takeReply, ho]
  | some ok => simp [takeReply, ho, replyRef, hst, hn, he]

end Matching

/-- A discarded reply counts once more. -/
theorem countUnmatchedReply_count (s : State) :
    (countUnmatchedReply s).mrs.unmatchedReplies = satCount 65535 s.mrs.unmatchedReplies := by
  simp [countUnmatchedReply, Config.topCounter]

theorem countUnmatchedReply_flag (s : State) : flagSet .unmatchedReply (countUnmatchedReply s).mrs.flags = true :=
  flagSet_raise _ _

/-! ## The entries that ends write (R116, R117) -/

/-- A TXN entry without a breakdown takes no more than the 4 slots of its reservation. -/
theorem txnDraft_slots (e : OttEntry) (o : TxnOutcome) : draftSlots (txnDraft e o []) ≤ 4 := by
  unfold draftSlots draftBytes txnDraft
  dsimp only
  split <;> split <;> simp

/-- A LATE entry takes no more than the 2 slots of its reservation. -/
theorem lateDraft_slots (l : LateEntry) (c : LateCause) : draftSlots (lateDraft l c) ≤ 2 := by
  unfold draftSlots draftBytes lateDraft
  dsimp only
  split <;> simp

/-- What has been written stands also between states that agree with these on all that the writing of an entry reads and
changes. -/
theorem wrote_congr {k : Nat} {d : Draft} {s s' t t' : State} (h : wrote k d s' t') (hj : s'.jrn = s.jrn)
    (hd : s'.day.date = s.day.date) (hc : s'.mrs.clock = s.mrs.clock) (ht : t.jrn = t'.jrn) : wrote k d s t := by
  unfold wrote at *; rw [ht, h, hj, hd, hc]

/-! ## The end of a Late List entry (R25 to R27) -/

theorem endLate_ttr (l : LateEntry) (c : LateCause) (s : State) :
    (endLate l c s).ttr = { s.ttr with late := s.ttr.late.filter fun x => x.ref ≠ l.ref } := by
  simp [endLate, removeLate]

theorem endLate_wrote (l : LateEntry) (c : LateCause) {s : State} (h : s.jrn.nextSeq ≤ 4294967295) :
    wrote 2 (lateDraft l c) s (endLate l c s) :=
  wrote_congr (writeEntry_wrote ⟨(lateDraft_slots l c).trans (Nat.le_add_left _ _), h⟩) rfl rfl rfl
    (by simp [endLate, Config.lateSlots])

theorem raisedOnly_endLate (l : LateEntry) (c : LateCause) (s : State) : raisedOnly journalFlags s (endLate l c s) :=
  raisedOnly_of_eq (raisedOnly_writeEntry Config.lateSlots (lateDraft l c) s) (by simp [endLate]) (by simp [endLate])

/-- A LATE entry counts for no teller, so the end of a Late List entry leaves the SDA's record as it was. -/
theorem endLate_sda (l : LateEntry) (c : LateCause) (s : State) : (endLate l c s).sda = s.sda := by
  have uncounted : countedTeller (lateDraft l c) = none := rfl
  simpa [endLate] using writeEntry_sda uncounted s

theorem endLate_reach (l : LateEntry) (c : LateCause) (s : State) :
    keeps [.ttr, .jrn, .blc, .mrs] s (endLate l c s) := by
  simp [keeps, endLate_sda]

/-- A late reply takes its entry from the Late List, and leaves the rest of the list. -/
theorem lateReply_late (l : LateEntry) (approved : Bool) (s : State) :
    (lateReply l approved s).ttr.late = s.ttr.late.filter fun x => x.ref ≠ l.ref := by
  cases approved <;> simp [lateReply, endLate_ttr]

theorem exec_lateExpiry (ref : Ref) (s : State) : exec (.lateExpiry ref) s = execLateExpiry ref s := rfl

theorem exec_lateExpiry_some {ref : Ref} {l : LateEntry} {s : State} (h : lateEntry ref s = some l) :
    exec (.lateExpiry ref) s = .next (endLate l .expired s) := by
  rw [exec_lateExpiry, execLateExpiry, h]

theorem exec_lateExpiry_none {ref : Ref} {s : State} (h : lateEntry ref s = none) :
    exec (.lateExpiry ref) s = .next s := by
  rw [exec_lateExpiry, execLateExpiry, h]

/-- A reply after the expiry of its Late List entry finds neither table holding its reference. -/
theorem takeReply_after_expiry {ref : Ref} {l : LateEntry} {r : Reply} {s : State} (hn : (heldRefs s).Nodup)
    (hl : lateEntry ref s = some l) (hst : r.station = ref.station.num) (hseq : r.seq = ref.seq) :
    takeReply ref.station (some r) (arrive (endLate l .expired s)) =
      countUnmatchedReply (arrive (endLate l .expired s)) := by
  have named : (⟨ref.station, r.seq⟩ : Ref) = ref := by rw [hseq]
  refine takeReply_unmatched hst ?_ ?_ <;> rw [named]
  · exact (ottEntry_congr (by simp)).trans (ottEntry_none_of_late hn hl)
  · exact lateEntry_removed (s := s) (by simp [endLate_ttr, lateEntry_ref hl])

/-- A reply that is taken before the expiry of its Late List entry takes the entry from the list. -/
theorem lateEntry_after_reply {ref : Ref} {l : LateEntry} {r : Reply} {s : State} (hn : (heldRefs s).Nodup)
    (hl : lateEntry ref s = some l) (hst : r.station = ref.station.num) (hseq : r.seq = ref.seq)
    (ho : r.outcome = 1 ∨ r.outcome = 2) (hlines : r.lines.length ≤ 24) :
    lateEntry ref (judgeSettle (takeReply ref.station (some r) (arrive s))) = none := by
  have named : (⟨ref.station, r.seq⟩ : Ref) = ref := by rw [hseq]
  have late : takeReply ref.station (some r) (arrive s) = lateReply l (decide (r.outcome = 1)) (arrive s) := by
    refine takeReply_late hst ho hlines ?_ ?_ <;> rw [named]
    · exact (ottEntry_congr (by simp)).trans (ottEntry_none_of_late hn hl)
    · exact (lateEntry_congr (by simp)).trans hl
  exact lateEntry_removed (s := s) (by simp [late, lateReply_late, lateEntry_ref hl])

/-- Settles O28: the expiry ends the entry, and whichever of expiry and reply comes second finds no entry. -/
theorem lateExpiryEndsTheEntry : Obligations.LateExpiryEndsTheEntry := by
  unfold Obligations.LateExpiryEndsTheEntry
  intro ref s l r hn hl hseqs hst hseq
  have hr := lateEntry_ref hl
  constructor
  · refine ⟨endLate l .expired s, exec_lateExpiry_some hl, endLate_reach l _ s, ?_, ?_, raisedOnly_endLate l _ s, ?_⟩
    · rw [endLate_ttr, hr]
    · rw [← hr]; exact endLate_wrote l .expired hseqs
    · refine ⟨countUnmatchedReply (arrive (endLate l .expired s)), ?_, by simp, by simp, by simp, ?_,
        countUnmatchedReply_flag _⟩
      · rw [exec_reply, takeReply_after_expiry hn hl hst hseq]
      · simp [countUnmatchedReply_count]
  · intro ho hlines
    have gone := lateEntry_after_reply hn hl hst hseq ho hlines
    exact ⟨_, exec_reply _ _ _, gone, exec_lateExpiry_none gone⟩

/-! ## Result screens (R65, R67, R68) -/

/-- The context of a station once a format has been composed there as a result. -/
def resultContext (st : Station) (number : Nat) (info : ResultInfo) (message : Text) (s : State) (c : ScreenContext) :
    ScreenContext :=
  recomposed st s { c with
    mode := .result
    format := some number
    shown := formatOf number s
    texts := ((formatOf number s).map (resultTexts st info s)).getD []
    errorTag := none
    message := message }

theorem contextOf_composeResult (st a : Station) (number : Nat) (info : ResultInfo) (message : Text) (s : State) :
    contextOf a (composeResult st number info message s) =
      if a = st then (contextOf st s).map (resultContext st number info message s) else contextOf a s := by
  unfold composeResult
  rw [contextOf_composeWith]
  congr 2
  funext c
  unfold resultContext
  cases formatOf number s <;> rfl

/-- A composition at one station leaves every other station's context. -/
theorem otherScreens_composeResult (st : Station) (number : Nat) (info : ResultInfo) (message : Text) (s : State) :
    otherScreens st s (composeResult st number info message s) := by
  refine ⟨by simp, by simp, fun x hx => ?_⟩
  rw [contextOf_composeResult, if_neg hx]

/-- The field of an OUTPUT format shows the text of its source, fitted. -/
theorem resultTexts_getElem {st : Station} {info : ResultInfo} {s : State} {fmt : SftFormat} {i : Nat} {f : SftField}
    (hk : fmt.kind = .output) (hf : fmt.fields[i]? = some f) :
    (resultTexts st info s fmt)[i]? = some (fitField (decimalsOf s) f.kind f.length (sourceText st info s f)) := by
  simp [resultTexts, hf, hk]

/-- The text of a tag among fields that carry one text for it at most: that text where a field carries the tag, blank where
none does. -/
theorem fieldText_unique {fields : List KeyField} {tag : Nat} {x : Text} (one : ∀ y ∈ fields, y.tag = tag → y.text = x)
    (carried : x ≠ [] → ∃ y ∈ fields, y.tag = tag) : (fieldText fields tag).getD [] = x := by
  unfold fieldText
  cases h : fields.find? fun f => f.tag = tag with
  | some y =>
    have carries : y.tag = tag := by simpa using List.find?_some h
    simpa using one y (List.mem_of_find?_eq_some h) carries
  | none =>
    have blank : x = [] := by
      by_contra hx
      obtain ⟨y, hy, ht⟩ := carried hx
      simpa [ht] using List.find?_eq_none.1 h y hy
    simp [blank]

/-! ## The end of an OTT entry (R18, R46) -/

theorem positionOf_releaseLeg (st : Station) (leg : Option Leg) (p : Option Station) (s : State) :
    positionOf p (releaseLeg st leg s) =
      if p = some st then afterLeg releasedPosition leg (positionOf p s) else positionOf p s := by
  cases leg with
  | none => simp [releaseLeg, afterLeg]
  | some g =>
    simp only [releaseLeg, positionOf_setPosition, afterLeg]
    split
    · next h => rw [h]; rfl
    · rfl

theorem endEntry_ttr (e : OttEntry) (o : TxnOutcome) (b : Breakdown) (s : State) :
    (endEntry e o b s).ttr = { s.ttr with ott := s.ttr.ott.filter fun x => x.ref ≠ e.ref } := by
  simp [endEntry, removeOtt]

theorem endEntry_wrote (e : OttEntry) (o : TxnOutcome) {s : State} (h : s.jrn.nextSeq ≤ 4294967295) :
    wrote 4 (txnDraft e o []) s (endEntry e o [] s) :=
  wrote_congr (writeEntry_wrote ⟨(txnDraft_slots e o).trans (Nat.le_add_left _ _), h⟩) rfl rfl rfl
    (by simp [endEntry, Config.ottSlots])

theorem endEntry_counted (e : OttEntry) (o : TxnOutcome) {s : State} (h : s.jrn.nextSeq ≤ 4294967295) :
    countedFor (some e.teller) s (endEntry e o [] s) := by
  have counted := writeEntry_counted (k := 4) (d := txnDraft e o []) (s := s)
    ⟨(txnDraft_slots e o).trans (Nat.le_add_left _ _), h⟩
  simpa [countedFor, endEntry, Config.ottSlots, countedTeller, txnDraft] using counted

theorem raisedOnly_endEntry (e : OttEntry) (o : TxnOutcome) (b : Breakdown) (s : State) :
    raisedOnly journalFlags s (endEntry e o b s) :=
  raisedOnly_of_eq (raisedOnly_writeEntry Config.ottSlots (txnDraft e o b) s) (by simp [endEntry]) (by simp [endEntry])

/-! ## A DECLINED reply (R23) -/

/-- What the decline format reads beside the state. -/
def declineInfo (e : OttEntry) (r : Reply) : ResultInfo :=
  { reply := some r, breakdown := [], position := some e.ref.station, passbook := "NO LINES".toList, ref := e.ref,
    reason := r.reason }

/-- The state in which a DECLINED reply has its result composed: the leg released and the entry ended. -/
def declinedEnd (e : OttEntry) (s : State) : State := endEntry e .declined [] (releaseLeg e.ref.station e.leg s)

theorem decline_eq (e : OttEntry) (r : Reply) (s : State) :
    decline e r s = composeResult e.ref.station e.declineFormat (declineInfo e r)
      (refMessage "DECLINED".toList e.ref) (declinedEnd e s) := rfl

theorem decline_ttr (e : OttEntry) (r : Reply) (s : State) :
    (decline e r s).ttr = { s.ttr with ott := s.ttr.ott.filter fun x => x.ref ≠ e.ref } := by
  simp [decline_eq, declinedEnd, endEntry_ttr]

theorem positionOf_decline (e : OttEntry) (r : Reply) (p : Option Station) (s : State) :
    positionOf p (decline e r s) =
      if p = some e.ref.station then afterLeg releasedPosition e.leg (positionOf p s) else positionOf p s := by
  rw [← positionOf_releaseLeg]
  cases p <;> simp [decline_eq, declinedEnd, positionOf, drawerOf]

theorem decline_wrote (e : OttEntry) (r : Reply) {s : State} (h : s.jrn.nextSeq ≤ 4294967295) :
    wrote 4 (txnDraft e .declined []) s (decline e r s) :=
  wrote_congr (endEntry_wrote e .declined (s := releaseLeg e.ref.station e.leg s) (by simpa using h)) (by simp) (by simp)
    (by simp) (by simp [decline_eq, declinedEnd])

theorem decline_counted (e : OttEntry) (r : Reply) {s : State} (h : s.jrn.nextSeq ≤ 4294967295) :
    countedFor (some e.teller) s (decline e r s) := by
  have counted := endEntry_counted e .declined (s := releaseLeg e.ref.station e.leg s) (by simpa using h)
  simpa [countedFor, decline_eq, declinedEnd] using counted

theorem raisedOnly_decline (e : OttEntry) (r : Reply) (s : State) : raisedOnly journalFlags s (decline e r s) :=
  raisedOnly_of_eq
    (raisedOnly_from (raisedOnly_endEntry e .declined [] (releaseLeg e.ref.station e.leg s)) (by simp) (by simp))
    (by simp [decline_eq, declinedEnd]) (by simp [decline_eq, declinedEnd])

theorem otherScreens_decline (e : OttEntry) (r : Reply) (s : State) : otherScreens e.ref.station s (decline e r s) := by
  have others := otherScreens_composeResult e.ref.station e.declineFormat (declineInfo e r)
    (refMessage "DECLINED".toList e.ref) (declinedEnd e s)
  have scm : (declinedEnd e s).scm = s.scm := by simp [declinedEnd]
  simpa [decline_eq, otherScreens, contextOf, scm] using others

theorem contextOf_decline (e : OttEntry) (r : Reply) (s : State) :
    contextOf e.ref.station (decline e r s) = (contextOf e.ref.station s).map
      (resultContext e.ref.station e.declineFormat (declineInfo e r) (refMessage "DECLINED".toList e.ref)
        (declinedEnd e s)) := by
  rw [decline_eq, contextOf_composeResult, if_pos rfl]
  simp [contextOf, declinedEnd]

/-- The screen of a DECLINED reply: mode, message, pending images, and the decline format with no error tag. -/
theorem decline_shows (e : OttEntry) (r : Reply) {s : State} (h : (contextOf e.ref.station s).isSome = true) :
    screenShows e.ref.station .result (refMessage "DECLINED".toList e.ref) (decline e r s) ∧
      ∃ c, contextOf e.ref.station (decline e r s) = some c ∧ c.format = some e.declineFormat ∧
        c.shown = formatOf e.declineFormat s ∧ c.errorTag = none ∧
        c.texts = ((formatOf e.declineFormat s).map
          (resultTexts e.ref.station (declineInfo e r) (declinedEnd e s))).getD [] := by
  obtain ⟨c0, hc0⟩ := Option.isSome_iff_exists.1 h
  have shown : formatOf e.declineFormat (declinedEnd e s) = formatOf e.declineFormat s := by simp [formatOf, declinedEnd]
  have hc := contextOf_decline e r s
  rw [hc0, Option.map_some] at hc
  refine ⟨⟨_, hc, rfl, rfl, rfl, rfl⟩, _, hc, rfl, shown, rfl, ?_⟩
  rw [← shown]; rfl

/-- A field of the decline format whose source reads a text shows it, fitted by the currency decimals as they stood. -/
theorem declineTexts_getElem {e : OttEntry} {r : Reply} {s : State} {fmt : SftFormat} {i : Nat} {f : SftField} {x : Text}
    (hk : fmt.kind = .output) (hf : fmt.fields[i]? = some f)
    (hx : sourceText e.ref.station (declineInfo e r) (declinedEnd e s) f = x) :
    (resultTexts e.ref.station (declineInfo e r) (declinedEnd e s) fmt)[i]? =
      some (fitField (decimalsOf s) f.kind f.length x) := by
  have decimals : decimalsOf (declinedEnd e s) = decimalsOf s := by simp [decimalsOf, declinedEnd]
  rw [resultTexts_getElem hk hf, hx, decimals]

/-- Settles O24: the reply's frame arrives, the entry ends unposted, and its decline format is composed. -/
theorem declinedReplyEndsTheEntry : Obligations.DeclinedReplyEndsTheEntry := by
  unfold Obligations.DeclinedReplyEndsTheEntry
  intro dest r s e deadline hst ho hl he ha hseq
  have taken : takeReply dest (some r) (arrive s) = decline e r (arrive s) :=
    takeReply_declined hst ho hl ((ottEntry_congr (by simp)).trans he) ha
  have named := ottEntry_ref he
  obtain rfl : e.ref.station = dest := by rw [named]
  have seq : r.seq = e.ref.seq := by rw [named]
  have room : (arrive s).jrn.nextSeq ≤ 4294967295 := by simpa using hseq
  rw [exec_reply, taken, seq]
  refine ⟨decline e r (arrive s), rfl, by simp [keeps], ?_, fun p => ?_, ?_, ?_, ?_, raisedOnly_decline e r _,
    otherScreens_decline e r _, fun hc => ?_⟩
  · simpa using decline_ttr e r (arrive s)
  · simpa using positionOf_decline e r p (arrive s)
  · exact wrote_congr (decline_wrote e r room) (by simp) (by simp) (by simp) rfl
  · simpa [countedFor] using decline_counted e r room
  · simp
  · have there : (contextOf e.ref.station (arrive s)).isSome = true := by simpa using hc
    have format : formatOf e.declineFormat (arrive s) = formatOf e.declineFormat s := by simp [formatOf]
    have decimals : decimalsOf (arrive s) = decimalsOf s := by simp [decimalsOf]
    obtain ⟨shows, c, hctx, hformat, hshown, herr, htexts⟩ := decline_shows e r there
    rw [format] at hshown htexts
    refine ⟨shows, c, hctx, hformat, hshown, herr, fun fmt i f hfmt hk hf => ?_⟩
    rw [htexts, hfmt, ← decimals]
    refine ⟨fun x hsrc one carried => declineTexts_getElem hk hf ?_, fun hsrc => declineTexts_getElem hk hf ?_⟩
    · simpa [sourceText, hsrc, declineInfo] using fieldText_unique one carried
    · simp [sourceText, hsrc, declineInfo]

end Sys2Proof.Machine
end

section
/-! SUPPORT. The branch link: what a valid frame does in each link state (R185, R187), and the LINK_CHECK with its answer,
as it is placed and as the transmitter takes it (R188 to R190). -/

namespace Sys2Proof.Machine
open Sys2Proof

/-! ## A valid frame is taken (R185, R187) -/

theorem restartSilence_silence (s : State) :
    (restartSilence s).blc.silence = some (s.uptime + 1000 * s.mrs.settings.linkSilence) := rfl

theorem restoreLink_silence (s : State) :
    (restoreLink s).blc.silence = some (s.uptime + 1000 * s.mrs.settings.linkSilence) := by
  simp [restoreLink, restartSilence_silence]

theorem restoreLink_link (s : State) : (restoreLink s).blc.link = restoredState s := by simp [restoreLink]

theorem restoreLink_flag (s : State) : flagSet .linkRestored (restoreLink s).mrs.flags = true := by
  simp [restoreLink, flagSet_raise]

theorem restoreLink_follow (s : State) : statusLinesFollow s (restoreLink s) :=
  follow_from (refreshAll_follow _) (by simp) (by simp)

theorem validFrame_of_not_lost {s : State} (h : s.blc.link ≠ .lost) : validFrame s = restartSilence s := if_neg h

theorem validFrame_of_lost {s : State} (h : s.blc.link = .lost) : validFrame s = restoreLink s := if_pos h

/-- The silence timer runs anew from any valid frame, in each link state. -/
theorem validFrame_silence (s : State) :
    (validFrame s).blc.silence = some (s.uptime + 1000 * s.mrs.settings.linkSilence) := by
  by_cases h : s.blc.link = .lost
  · rw [validFrame_of_lost h, restoreLink_silence]
  · rw [validFrame_of_not_lost h, restartSilence_silence]

/-! ## A LINK_CHECK (R190) -/

theorem readNat_one (b : Byte) : readNat 1 [b] = some (b.toNat, []) := by simp [readNat, readBytes, beValue]

theorem readCheckNumber_byte (b : Byte) : readCheckNumber [b] = some b.toNat := by
  rw [readCheckNumber, readNat_one]; rfl

theorem exec_linkCheck (n : Option Nat) (s : State) : exec (.linkCheck n) s = .next (takeLinkCheck n (arrive s)) := rfl

theorem takeLinkCheck_some (k : Nat) (s : State) :
    takeLinkCheck (some k) s = onBlc (fun b => { b with linkAnswer := some k }) s := rfl

theorem takeLinkCheck_none (s : State) :
    takeLinkCheck none s = onBlc (fun b => { b with frameForm := satCount 65535 b.frameForm }) s := rfl

/-- A LINK_CHECK leaves the silence timer as its frame has started it. -/
theorem linkCheck_silence (n : Option Nat) (s : State) :
    (takeLinkCheck n (arrive s)).blc.silence = some (s.uptime + 1000 * s.mrs.settings.linkSilence) := by
  simp [arrive, validFrame_silence]

/-- A LINK_CHECK in UP and RECOVERING reaches nothing but the link's record, and leaves the link state. -/
theorem linkCheck_of_not_lost (n : Option Nat) {s : State} (h : s.blc.link ≠ .lost) :
    keeps [.blc] s (takeLinkCheck n (arrive s)) ∧ (takeLinkCheck n (arrive s)).blc.link = s.blc.link := by
  simp [keeps, arrive, validFrame_of_not_lost h]

theorem linkCheck_reach (n : Option Nat) (s : State) : keeps [.scm, .blc, .mrs] s (takeLinkCheck n (arrive s)) := by
  simp [keeps]

/-- A LINK_CHECK in LOST restores the link: its state, the flag, and every status line. -/
theorem linkCheck_of_lost (n : Option Nat) {s : State} (h : s.blc.link = .lost) :
    (takeLinkCheck n (arrive s)).blc.link = restoredState s ∧
      flagSet .linkRestored (takeLinkCheck n (arrive s)).mrs.flags = true ∧
      statusLinesFollow s (takeLinkCheck n (arrive s)) := by
  have restored : arrive s = discardPart (restoreLink s) := by rw [arrive, validFrame_of_lost h]
  rw [restored]
  refine ⟨by simp [restoreLink_link], by simp [restoreLink_flag], ?_⟩
  exact follow_to (restoreLink_follow s) (by simp) (by simp) (by simp) (by simp [drawerOf]) (by simp) (by simp)

/-! ## The answer is taken (R188, R189) -/

/-- Wherever the arbiter takes at all, the answers to LINK_CHECKs rank first. -/
theorem classOrder_head {l : LinkState} (h : l ≠ .lost) : (classOrder l).head? = some .linkAnswer := by
  cases l with
  | up => rfl
  | recovering => rfl
  | lost => exact absurd rfl h

/-- The message in which an answer of a check number goes out: with the states and counts as they stand. -/
def linkAnswerOf (k : Nat) (s : State) : OutMsg :=
  .linkAnswer k s.blc.link s.day.state s.blc.requests.length (s.sda.queue.countP isUnsent)

theorem readyMessage_linkAnswer {k : Nat} {s : State} (h : s.blc.linkAnswer = some k) :
    readyMessage s .linkAnswer = some (linkAnswerOf k s) := by
  simp [readyMessage, h, linkAnswerOf, queueCount]

/-- A waiting answer is what the arbiter chooses. -/
theorem arbiterChoice_linkAnswer {k : Nat} {s : State} (hl : s.blc.link ≠ .lost) (h : s.blc.linkAnswer = some k) :
    arbiterChoice s = some (.linkAnswer, linkAnswerOf k s) := by
  obtain ⟨rest, order⟩ := List.head?_eq_some_iff.1 (classOrder_head hl)
  simp [arbiterChoice, order, readyMessage_linkAnswer h]

/-- The idle transmitter takes the message that the arbiter chooses, and its owner takes it as sent. -/
theorem exec_transmit_chosen {c : OutClass} {m : OutMsg} {s : State} (idle : s.blc.sending = none)
    (h : arbiterChoice s = some (c, m)) :
    exec .transmit s = .next (onBlc (fun b => { b with sending := some (m, outFrames m) }) (ownerSent c m s)) := by
  change execTransmit s = _
  simp [execTransmit, idle, h]

/-- Settles O54: the frame of a LINK_CHECK is taken as any valid frame, and its answer, placed in the first class, is built
as the transmitter takes it. -/
theorem linkCheckIsAnswered : Obligations.LinkCheckIsAnswered := by
  unfold Obligations.LinkCheckIsAnswered
  refine ⟨readCheckNumber_byte, fun n s => ?_, fun k s idle hl hk => ?_⟩
  · have silence := linkCheck_silence n s
    refine ⟨_, exec_linkCheck n s, ?_, ?_, fun hl => ?_, fun hl => ?_⟩
    · rintro k rfl; exact takeLinkCheck_some k _
    · rintro rfl; exact takeLinkCheck_none _
    · obtain ⟨reach, stands⟩ := linkCheck_of_not_lost n hl
      exact ⟨reach, silence, stands⟩
    · obtain ⟨restored, flag, follow⟩ := linkCheck_of_lost n hl
      exact ⟨linkCheck_reach n s, restored, silence, flag, follow⟩
  · exact ⟨linkAnswerOf k s, rfl, exec_transmit_chosen idle (arbiterChoice_linkAnswer hl hk)⟩

end Sys2Proof.Machine
end

section
/-! SUPPORT. The step (R198 and the queue of commands): every command is carried out to a next state. -/

namespace Sys2Proof.Machine
open Sys2Proof

/-- Settles O1. -/
theorem stepRunsTheFrontCommand : Obligations.StepRunsTheFrontCommand := by
  unfold Obligations.StepRunsTheFrontCommand
  intro c rest s
  rfl

theorem step_idle {s : State} (h : s.pending = []) : step s = .next (tick s) := by rw [step, h]

/-- The clock's next second, from 86,399 to 0. -/
theorem nextSecond (n : Nat) : (n + 1) % Config.daySeconds = if n = 86399 then 0 else (n + 1) % 86400 := by
  simp only [Config.daySeconds]
  split <;> omega

/-- Settles O2: the idle step is `tick`, which touches the clock and the running time alone. -/
theorem idleStepIsOneSecond : Obligations.IdleStepIsOneSecond := by
  unfold Obligations.IdleStepIsOneSecond
  intro s h
  exact ⟨tick s, step_idle h, by simp [keeps, tick], by simp [tick, nextSecond]⟩

/-! ## What no command touches -/

/-- A state has the commands that wait and the running time of another. -/
def sameQueue (s t : State) : Prop := t.pending = s.pending ∧ t.uptime = s.uptime

/-- A command answers a next state, with the queue and the running time as they were. -/
def answersNext (o : Host.Outcome State Fault Refusal) (s : State) : Prop := ∃ t, o = .next t ∧ sameQueue s t

theorem answersNext_next {s t : State} (h : sameQueue s t) : answersNext (.next t) s := ⟨t, rfl, h⟩

theorem delivered_sameQueue {st : Station} {d : Drop} {f : DropFrame} {s t : State} (h : delivered st d f s = some t) :
    sameQueue s t := by
  obtain ⟨-, ⟨-, rfl⟩ | ⟨rest, -, rfl⟩⟩ := delivered_cases h <;> simp [sameQueue]

/-- A frame's owner takes it, where it is delivered, and else nothing happens. -/
theorem answersNext_delivered {st : Station} {d : Drop} {f : DropFrame} {s : State} {act : State → State}
    (h : ∀ u, sameQueue u (act u)) :
    answersNext (match delivered st d f s with
      | some u => .next (act u)
      | none => .next s) s := by
  split
  · next u hu =>
    obtain ⟨hp, ht⟩ := delivered_sameQueue hu
    exact answersNext_next ⟨(h u).1.trans hp, (h u).2.trans ht⟩
  · exact answersNext_next ⟨rfl, rfl⟩

theorem withRequest_sameQueue {act : State → State} (h : ∀ u, sameQueue u (act u)) (id : Nat) (r : MgmtRequest)
    (s : State) : sameQueue s (withRequest id r act s) := by
  have taken : ∀ f, sameQueue s (act (onMrs f s)) := fun f => h (onMrs f s)
  unfold withRequest
  split
  · exact ⟨rfl, rfl⟩
  · split
    · split
      · exact taken _
      · exact ⟨rfl, rfl⟩
    · split
      · exact taken _
      · simp [sameQueue]

theorem failExchange_sameQueue {count : State → State} (h : ∀ u, sameQueue u (count u)) (st : Station) (s : State) :
    sameQueue s (failExchange st count s) := by
  unfold failExchange
  split
  · exact ⟨rfl, rfl⟩
  · obtain ⟨hp, ht⟩ := h (endExchange st s)
    simp [sameQueue, hp, ht]

/-- Every command answers a next state, the queue and the running time untouched. -/
theorem exec_answersNext (c : Instr) (s : State) : answersNext (exec c s) s := by
  cases c with
  | keyRequest st r => exact answersNext_delivered fun u => by simp [sameQueue]
  | formCall st code => exact answersNext_delivered fun u => by simp [sameQueue]
  | stripeRead st b => exact answersNext_delivered fun u => by simp [sameQueue]
  | bookRemoved st => exact answersNext_delivered fun u => by simp [sameQueue]
  | lineDone st => exact answersNext_delivered fun u => by simp [sameQueue]
  | writeDone st => exact answersNext_delivered fun u => by simp [sameQueue]
  | fault st => exact answersNext_delivered fun u => by simp [sameQueue]
  | tableLoad id f => exact answersNext_next (withRequest_sameQueue (fun u => by simp [sameQueue]) ..)
  | tableAbort id => exact answersNext_next (withRequest_sameQueue (fun u => by simp [sameQueue]) ..)
  | tableRead id t i => exact answersNext_next (withRequest_sameQueue (fun u => by simp [sameQueue]) ..)
  | settingsWrite id items => exact answersNext_next (withRequest_sameQueue (fun u => by simp [sameQueue]) ..)
  | settingsRead id => exact answersNext_next (withRequest_sameQueue (fun u => by simp [sameQueue]) ..)
  | lineSetup id r => exact answersNext_next (withRequest_sameQueue (fun u => by simp [sameQueue]) ..)
  | lineControl id st op mask => exact answersNext_next (withRequest_sameQueue (fun u => by simp [sameQueue]) ..)
  | lineTest id line mode n => exact answersNext_next (withRequest_sameQueue (fun u => by simp [sameQueue]) ..)
  | lineReset id line => exact answersNext_next (withRequest_sameQueue (fun u => by simp [sameQueue]) ..)
  | statusRead id lines => exact answersNext_next (withRequest_sameQueue (fun u => by simp [sameQueue]) ..)
  | totalsRead id => exact answersNext_next (withRequest_sameQueue (fun u => by simp [sameQueue]) ..)
  | clockSet id secs => exact answersNext_next (withRequest_sameQueue (fun u => by simp [sameQueue]) ..)
  | dayCutoff id => exact answersNext_next (withRequest_sameQueue (fun u => by simp [sameQueue]) ..)
  | dayForce id => exact answersNext_next (withRequest_sameQueue (fun u => by simp [sameQueue]) ..)
  | settleRetry id => exact answersNext_next (withRequest_sameQueue (fun u => by simp [sameQueue]) ..)
  | dateRoll id d => exact answersNext_next (withRequest_sameQueue (fun u => by simp [sameQueue]) ..)
  | broadcastText id t e => exact answersNext_next (withRequest_sameQueue (fun u => by simp [sameQueue]) ..)
  | badRequest id kind => exact answersNext_next (withRequest_sameQueue (fun u => by simp [sameQueue]) ..)
  | failedResponse st why =>
    exact answersNext_next (failExchange_sameQueue (fun u => by cases why <;> simp [sameQueue]) st s)
  | pollResponseTimeout st => exact answersNext_next (failExchange_sameQueue (fun u => by simp [sameQueue]) st s)
  | dropFrame st f =>
    simp only [exec, execDropFrame]
    split
    · exact answersNext_next (by simp [sameQueue])
    · exact answersNext_next (failExchange_sameQueue (fun u => by simp [sameQueue]) st s)
    · exact answersNext_next (by simp [sameQueue])
  | nothing st =>
    simp only [exec, execNothing]
    split
    · exact answersNext_next (by simp [sameQueue])
    · exact answersNext_next (failExchange_sameQueue (fun u => by simp [sameQueue]) st s)
    · exact answersNext_next (by simp [sameQueue])
  | accept st =>
    simp only [exec, execAccept]
    split
    · exact answersNext_next (by simp [sameQueue])
    · exact answersNext_next (failExchange_sameQueue (fun u => by simp [sameQueue]) st s)
    · exact answersNext_next (by simp [sameQueue])
  | busy st =>
    simp only [exec, execBusy]
    split
    · exact answersNext_next (by simp [sameQueue])
    · exact answersNext_next (failExchange_sameQueue (fun u => by simp [sameQueue]) st s)
    · exact answersNext_next (by simp [sameQueue])
  | repollDue st d => exact answersNext_next (by simp [sameQueue])
  | busyRetryExpiry st d => exact answersNext_next (by simp [sameQueue])
  | issueExchange st =>
    simp only [exec, execIssueExchange]
    split <;> exact answersNext_next (by simp [sameQueue])
  | attention st =>
    simp only [exec, execAttention]
    split <;> exact answersNext_next (by simp [sameQueue])
  | unsolicited st =>
    simp only [exec, execUnsolicited]
    split <;> exact answersNext_next (by simp [sameQueue])
  | echoCharacter st c =>
    simp only [exec, execEchoCharacter]
    split
    · split <;> exact answersNext_next (by simp [sameQueue])
    · exact answersNext_next (by simp [sameQueue])
  | loopFrameReturn st how => exact answersNext_next (by simp [sameQueue])
  | loopFrameTimeout st => exact answersNext_next (by simp [sameQueue])
  | drawerSenseChange st opened =>
    simp only [exec, execDrawerSenseChange]
    split
    · exact answersNext_next (by simp [sameQueue])
    · cases opened <;> exact answersNext_next (by simp [sameQueue])
  | drawerOpenTimerExpiry st =>
    simp only [exec, execDrawerOpenTimerExpiry]
    split <;> exact answersNext_next (by simp [sameQueue])
  | alarmInRising st =>
    simp only [exec, execAlarmInRising]
    split <;> exact answersNext_next (by simp [sameQueue])
  | drawerPulseEnd st => exact answersNext_next (by simp [sameQueue])
  | inboundFrame bytes =>
    simp only [exec, execInboundFrame]
    split <;> exact answersNext_next (by simp [sameQueue])
  | reply dest r => exact answersNext_next (by simp [sameQueue])
  | mgmtReq id r => exact answersNext_next (by simp [sameQueue])
  | adviceAck a => exact answersNext_next (by simp [sameQueue])
  | batchAck a => exact answersNext_next (by simp [sameQueue])
  | linkCheck n => exact answersNext_next (by simp [sameQueue])
  | silenceTimerExpiry =>
    simp only [exec, execSilenceTimerExpiry]
    split <;> exact answersNext_next (by simp [sameQueue])
  | transmit =>
    simp only [exec, execTransmit]
    split
    · exact answersNext_next (by simp [sameQueue])
    · split <;> exact answersNext_next (by simp [sameQueue])
  | transmitEnd => exact answersNext_next (by simp [sameQueue])
  | deadlineExpiry ref =>
    simp only [exec, execDeadlineExpiry]
    split
    · split <;> exact answersNext_next (by simp [sameQueue])
    · exact answersNext_next (by simp [sameQueue])
  | lateExpiry ref =>
    simp only [exec, execLateExpiry]
    split <;> exact answersNext_next (by simp [sameQueue])
  | adviceAckTimeout n => exact answersNext_next (by simp [sameQueue])
  | trickleBatchTimeout => exact answersNext_next (by simp [sameQueue])
  | rejectionPauseEnd => exact answersNext_next (by simp [sameQueue])
  | settlementBatchTimeout =>
    simp only [exec, execSettlementBatchTimeout]
    split <;> exact answersNext_next (by simp [sameQueue])
  | trailingPauseEnd => exact answersNext_next (by simp [sameQueue])
  | loadIdleExpiry =>
    simp only [exec, execLoadIdleExpiry]
    split <;> exact answersNext_next (by simp [sameQueue])
  | waitTimerExpiry st => exact answersNext_next (by simp [sameQueue])
  | completionTimerExpiry st => exact answersNext_next (by simp [sameQueue])
  | broadcastExpiry =>
    simp only [exec, execBroadcastExpiry]
    split <;> exact answersNext_next (by simp [sameQueue])
  | start =>
    simp only [exec, execStart]
    split
    · exact answersNext_next (by simp [sameQueue, warmStart, volatileReset])
    · exact answersNext_next (by simp [sameQueue, coldStart])

/-- Settles O3. -/
theorem everyCommandAnswersNext : Obligations.EveryCommandAnswersNext := by
  unfold Obligations.EveryCommandAnswersNext
  intro c s
  exact exec_answersNext c s

/-! ## The state after reset -/

theorem lineOf_reset (st : Station) : lineOf st State.reset = Line.cold := by cases st <;> rfl
theorem positionOf_reset (p : Option Station) : positionOf p State.reset = Position.cold := by
  rcases p with _ | st
  · rfl
  · cases st <;> rfl
theorem tellerAt_reset (st : Station) : tellerAt st State.reset = none := by cases st <;> rfl
theorem contextOf_reset (st : Station) : contextOf st State.reset = none := by cases st <;> rfl
theorem printerOf_reset (st : Station) : printerOf st State.reset = none := by cases st <;> rfl

theorem transactionsOk_reset : transactionsOk State.reset := by
  refine ⟨List.nodup_nil, ?_, ?_⟩ <;> decide

theorem journalOk_reset : journalOk State.reset := ⟨transactionsOk_reset, ⟨rfl, rfl, rfl⟩, trivial⟩

theorem queueOk_reset : queueOk State.reset := by
  refine ⟨transactionsOk_reset, by decide, by decide, fun st => ?_, rfl, List.nodup_nil⟩
  exact Nat.zero_le 1

theorem signOnsOk_reset : signOnsOk State.reset := by simp [signOnsOk, tellerAt_reset]

theorem lineOk_cold : lineOk Line.cold := by simp [lineOk, Line.cold, LineSetup.cold, pollHolds]; decide

theorem linesOk_reset : linesOk State.reset := by
  refine ⟨fun st => by rw [lineOf_reset]; exact lineOk_cold, fun a b h => ?_⟩
  rw [lineOf_reset] at h; cases h

theorem contextsOk_reset : contextsOk State.reset := by
  intro st; simp [contextOf_reset, printerOf_reset, lineOf_reset, Line.cold, LineSetup.cold]

theorem cashOk_reset : cashOk State.reset := by
  intro p; rw [positionOf_reset]; exact ⟨rfl, fun _ => rfl⟩

theorem dayOk_reset : dayOk State.reset := ⟨by simp [State.reset, dayClosed], by simp [State.reset, dayClosed], by simp [State.reset]⟩

theorem requestsOk_reset : requestsOk State.reset := by
  refine ⟨by decide, rfl, rfl, by decide, fun st t h => ?_⟩
  rw [lineOf_reset] at h; cases h

theorem countersOk_reset : countersOk State.reset := by
  refine ⟨fun st => ?_, ?_, ?_, ?_, ?_⟩
  · simp [State.reset, Config.topSequence]
  · decide
  · decide
  · decide
  · simp [settingsOk, State.reset, Settings.cold]

theorem reservationsOk_reset : reservationsOk State.reset := by
  refine ⟨transactionsOk_reset, cashOk_reset, fun p => ?_, ⟨rfl, by simp [State.reset, Position.cold]⟩, fun st i => ?_⟩
  · rw [positionOf_reset]; simp [Position.cold]
  · have drawer : drawerOf st State.reset = Position.cold := positionOf_reset (some st)
    rw [drawer]
    simp [countsAt, Position.cold, legsReserve, State.reset]

theorem recordsOk_reset : recordsOk State.reset := by simp [recordsOk, State.reset]

/-- Settles O4. -/
theorem resetMeetsTheInvariants : Obligations.ResetMeetsTheInvariants :=
  ⟨journalOk_reset, queueOk_reset, signOnsOk_reset, linesOk_reset, contextsOk_reset, cashOk_reset, dayOk_reset,
    requestsOk_reset, countersOk_reset, reservationsOk_reset, recordsOk_reset⟩

end Sys2Proof.Machine
end

section
/-! SUPPORT. Positions whose counts and total change together, and the counts of a position under another denomination table. -/

namespace Sys2Proof.Machine
open Sys2Proof

/-! ## Counts under a breakdown (R42 to R46) -/

theorem applyPairs_length (f : Counts → Nat → Counts) (b : Breakdown) (i : Nat) (cs : List Counts) :
    (applyPairs f b i cs).length = cs.length := by
  induction cs generalizing i with
  | nil => rfl
  | cons c rest ih => simp [applyPairs, ih]

@[simp] theorem movePairs_length (f : Counts → Nat → Counts) (b : Breakdown) (p : Position) :
    (movePairs f b p).counts.length = p.counts.length := applyPairs_length f b 1 p.counts

/-- A change of counts that keeps the committed counts keeps them all. -/
theorem applyPairs_committed {f : Counts → Nat → Counts} (hf : ∀ c n, (f c n).committed = c.committed) (b : Breakdown) (i : Nat)
    (cs : List Counts) : (applyPairs f b i cs).map Counts.committed = cs.map Counts.committed := by
  induction cs generalizing i with
  | nil => rfl
  | cons c rest ih => simp [applyPairs, ih, hf]

theorem committedCounts_movePairs {f : Counts → Nat → Counts} (hf : ∀ c n, (f c n).committed = c.committed) (b : Breakdown)
    (p : Position) : committedCounts (movePairs f b p) = committedCounts p := applyPairs_committed hf b 1 p.counts

theorem declareCounts_length (ds : List Nat) (cs : List Counts) : (declareCounts ds cs).length = cs.length := by
  induction ds generalizing cs with
  | nil => simp [declareCounts]
  | cons d ds ih => cases cs <;> simp [declareCounts, ih]

/-! ## Positions (R30) -/

section
variable {dnt : List DntRec} {p : Position}

/-- A position whose total has been recomputed is well kept, whatever else is written. -/
theorem positionOk_of_total {q : Position} (hl : q.counts.length = dnt.length)
    (ht : q.total = countsValue (dnt.map DntRec.face) (committedCounts q)) : positionOk dnt q := ⟨hl, fun _ => ht⟩

/-- A position that keeps its total and its committed counts, and stays SUSPECT if it was, stays well kept. -/
theorem positionOk_same {q : Position} (h : positionOk dnt p) (hl : q.counts.length = p.counts.length)
    (hc : committedCounts q = committedCounts p) (ht : q.total = p.total) (hs : p.state = .suspect → q.state = .suspect) :
    positionOk dnt q := by
  obtain ⟨len, total⟩ := h
  exact ⟨hl.trans len, fun k => by rw [ht, hc]; exact total fun e => k (hs e)⟩

theorem activated_counts (p : Position) : (activated p).counts = p.counts ∧ (activated p).total = p.total := by
  unfold activated
  split <;> exact ⟨rfl, rfl⟩

theorem postedFigures_counts (leg : Leg) (p : Position) :
    (postedFigures leg p).counts = p.counts ∧ (postedFigures leg p).total = p.total := by
  unfold postedFigures
  cases leg.dir <;> exact activated_counts _

theorem counts_of_leg {f g : Counts → Nat → Counts} (leg : Leg) (p : Position) :
    (match leg.dir with
      | .cashOut => movePairs f leg.breakdown p
      | .cashIn => movePairs g leg.breakdown p
      | .noCash => p).counts.length = p.counts.length := by
  cases leg.dir <;> simp

theorem positionOk_posted {leg : Leg} {counts : Leg → Position → Position}
    (hc : (counts leg p).counts.length = p.counts.length) (h : positionOk dnt p) :
    positionOk dnt (postedFigures leg (retotal (dnt.map DntRec.face) (counts leg p))) := by
  obtain ⟨same, total⟩ := postedFigures_counts leg (retotal (dnt.map DntRec.face) (counts leg p))
  refine positionOk_of_total (by rw [same]; exact hc.trans h.1) ?_
  rw [total, committedCounts, same]
  rfl

theorem positionOk_movePairs {f : Counts → Nat → Counts} {b : Breakdown} (hf : ∀ c n, (f c n).committed = c.committed)
    (h : positionOk dnt p) : positionOk dnt (movePairs f b p) :=
  positionOk_same h (movePairs_length f b p) (committedCounts_movePairs hf b p) rfl id

theorem positionOk_reserved {leg : Leg} (h : positionOk dnt p) : positionOk dnt (reservedPosition leg p) := by
  unfold reservedPosition
  cases leg.dir with
  | noCash => exact h
  | cashOut => exact positionOk_movePairs (fun _ _ => by rfl) h
  | cashIn => exact positionOk_movePairs (fun _ _ => by rfl) h

theorem positionOk_released {leg : Leg} (h : positionOk dnt p) : positionOk dnt (releasedPosition leg p) := by
  unfold releasedPosition
  cases leg.dir with
  | noCash => exact h
  | cashOut => exact positionOk_movePairs (fun _ _ => by rfl) h
  | cashIn => exact positionOk_movePairs (fun _ _ => by rfl) h

theorem positionOk_transferSide {f : Counts → Nat → Counts} {b : Breakdown} (h : positionOk dnt p) :
    positionOk dnt (transferSide f (dnt.map DntRec.face) b p) := by
  unfold transferSide
  dsimp only
  obtain ⟨same, total⟩ := activated_counts
    { retotal (dnt.map DntRec.face) (movePairs f b p) with
      txCount := satCount Config.topCounter (retotal (dnt.map DntRec.face) (movePairs f b p)).txCount }
  refine positionOk_of_total (by rw [same]; exact (movePairs_length f b p).trans h.1) ?_
  rw [total, committedCounts, same]
  rfl

theorem positionOk_balanced {declared : List Nat} (h : positionOk dnt p) :
    positionOk dnt (balancedPosition (dnt.map DntRec.face) declared p) :=
  positionOk_of_total ((declareCounts_length declared p.counts).trans h.1) rfl

theorem clearReservations_committed (p : Position) : committedCounts (clearReservations p) = committedCounts p := by
  simp [committedCounts, clearReservations, Function.comp_def]

theorem positionOk_checked (h : positionOk dnt p) : positionOk dnt (checkedPosition (dnt.map DntRec.face) p) := by
  have cleared : positionOk dnt (clearReservations p) :=
    positionOk_same h (by simp [clearReservations]) (clearReservations_committed p) rfl id
  unfold checkedPosition
  split
  · exact cleared
  · exact ⟨cleared.1, fun k => absurd rfl k⟩

theorem positionOk_opened (h : positionOk dnt p) : positionOk dnt (openedPosition p) :=
  positionOk_same h rfl rfl rfl fun k => by simp [openedPosition, k]

end

/-! ## Another denomination table (R56, R161) -/

/-- A count record with nothing in it. -/
def noCounts : Counts := ⟨0, 0, 0⟩

/-- Each denomination that counts are held of has the same face in both tables. -/
def facesKept (new old : List DntRec) (cs : List Counts) : Prop :=
  ∀ (i : Nat) (c : Counts), cs[i]? = some c → c = noCounts ∨ (new[i]?).map DntRec.face = (old[i]?).map DntRec.face

theorem recount_length (new old : List DntRec) (cs : List Counts) : (recount new old cs).length = new.length := by
  induction new generalizing old cs with
  | nil => rfl
  | cons n ns ih => cases old <;> cases cs <;> simp [recount, ih]

theorem recount_nil (new : List DntRec) (cs : List Counts) (old : List DntRec) (h : old = [] ∨ cs = []) :
    recount new old cs = List.replicate new.length noCounts := by
  induction new generalizing old cs with
  | nil => rfl
  | cons n ns ih =>
    have next := ih [] [] (.inl rfl)
    rcases h with rfl | rfl
    · simp [recount, next, noCounts, List.replicate_succ]
    · cases old <;> simp [recount, next, noCounts, List.replicate_succ]

/-- Where the faces of what is held are kept, each denomination keeps its counts. -/
theorem recount_getD {new old : List DntRec} {cs : List Counts} (h : facesKept new old cs) (hl : cs.length = old.length)
    (i : Nat) : ((recount new old cs)[i]?).getD noCounts = (cs[i]?).getD noCounts := by
  induction new generalizing old cs i with
  | nil =>
    cases hc : cs[i]? with
    | none => simp [recount]
    | some c =>
      rcases h i c hc with rfl | k
      · simp [recount]
      · have : i < old.length := by rw [← hl]; exact (List.getElem?_eq_some_iff.1 hc).1
        simp [this] at k
  | cons n ns ih =>
    cases old with
    | nil =>
      have none : cs = [] := List.length_eq_zero_iff.1 hl
      subst none
      rw [recount_nil _ _ _ (.inl rfl)]
      rw [List.getElem?_replicate]
      split <;> rfl
    | cons o os =>
      cases cs with
      | nil => simp at hl
      | cons c rest =>
        cases i with
        | zero =>
          rcases h 0 c rfl with rfl | k
          · simp [recount, noCounts]
          · have : n.face = o.face := by simpa using k
            simp [recount, this]
        | succ i =>
          simp only [recount, List.getElem?_cons_succ]
          exact ih (fun j d hd => by simpa using h (j + 1) d hd) (by simpa using hl) i

/-- Where the faces of what is held are kept, the committed counts keep their value. -/
theorem countsValue_recount {new old : List DntRec} {cs : List Counts} (h : facesKept new old cs) (hl : cs.length = old.length) :
    countsValue (new.map DntRec.face) ((recount new old cs).map Counts.committed) =
      countsValue (old.map DntRec.face) (cs.map Counts.committed) := by
  have zeros : ∀ fs : List DntRec, ∀ n, countsValue (fs.map DntRec.face) ((List.replicate n noCounts).map Counts.committed) = 0 := by
    intro fs n
    induction fs generalizing n with
    | nil => simp [countsValue]
    | cons f fs ih =>
      cases n with
      | zero => simp [countsValue]
      | succ n => simpa [countsValue, List.replicate_succ, noCounts] using ih n
  induction new generalizing old cs with
  | nil =>
    have empty : cs = List.replicate cs.length noCounts := by
      refine List.eq_replicate_iff.2 ⟨rfl, fun c hc => ?_⟩
      obtain ⟨i, hi, hic⟩ := List.getElem_of_mem hc
      rcases h i c (by rw [List.getElem?_eq_getElem hi, hic]) with rfl | k
      · rfl
      · simp [hl ▸ hi] at k
    rw [empty, zeros]
    simp [recount, countsValue]
  | cons n ns ih =>
    cases old with
    | nil =>
      rw [recount_nil _ _ _ (.inl rfl), zeros]
      simp [countsValue]
    | cons o os =>
      cases cs with
      | nil => simp at hl
      | cons c rest =>
        have next := ih (old := os) (cs := rest) (fun j d hd => by simpa using h (j + 1) d hd) (by simpa using hl)
        unfold countsValue at next
        simp only [countsValue, recount, List.map_cons, List.zip_cons_cons, List.sum_cons, next]
        rcases h 0 c rfl with rfl | k
        · simp [noCounts]
        · have : n.face = o.face := by simpa using k
          simp [this]

/-- A table that no held denomination refuses keeps the faces of what each position holds. -/
theorem facesKept_of_unused {new : List DntRec} {s : State} (h : dntInUse new s = none) (hs : cashOk s) (p : Option Station) :
    facesKept new s.tbl.dnt (positionOf p s).counts := by
  intro i c hc
  by_cases hz : c = noCounts
  · exact .inl hz
  right
  have hi : i < s.tbl.dnt.length := by rw [← (hs p).1]; exact (List.getElem?_eq_some_iff.1 hc).1
  have here : holdsAt (i + 1) (positionOf p s) = true := by
    have at_i : countsAt (positionOf p s) (i + 1) = c := by simp [countsAt, hc]
    unfold holdsAt
    rw [at_i]
    by_contra hn
    apply hz
    simp only [Bool.or_eq_true, decide_eq_true_eq, not_or] at hn
    obtain ⟨⟨h1, h2⟩, h3⟩ := hn
    unfold noCounts
    cases c
    simp only [Counts.mk.injEq] at *
    omega
  have held : i + 1 ∈ heldIndices s := by
    unfold heldIndices
    refine List.mem_filter.2 ⟨by simpa using hi, ?_⟩
    cases p with
    | none => rw [Bool.or_eq_true]; exact .inr here
    | some st =>
      rw [Bool.or_eq_true]
      exact .inl (List.any_eq_true.2 ⟨_, (Eight.mem_toList _ _).2 ⟨st, rfl⟩, here⟩)
  unfold dntInUse at h
  dsimp only at h
  rw [if_neg (List.ne_nil_of_mem held)] at h
  split at h
  · cases h
  · have none := List.find?_eq_none.1 (Option.map_eq_none_iff.1 h) (i + 1) held
    simpa [faceAt] using none

theorem positionOk_recount {new : List DntRec} {s : State} (h : dntInUse new s = none) (hs : cashOk s) (p : Option Station) :
    positionOk new { positionOf p s with counts := recount new s.tbl.dnt (positionOf p s).counts } := by
  obtain ⟨len, total⟩ := hs p
  refine ⟨recount_length _ _ _, fun k => ?_⟩
  rw [committedCounts, countsValue_recount (facesKept_of_unused h hs p) len]
  exact total k

end Sys2Proof.Machine
end

section
/-! SUPPORT. The elementary moves of the part. Every command but START is a chain of them, so that what each elementary move
keeps, every such command keeps. A move of a wider kind stands only where the kind is allowed. -/

namespace Sys2Proof.Machine
open Sys2Proof

/-- The kinds of moves that reach further than a single invariant lets pass: a station's screen context, its printer context,
the role of its line, a frame placed in its receive buffer, an accepted request or a sign-on, the last accepted sequence, the date
roll, the ALARM flag, the clock, the clearing of the flags, the taking of a notice, and the line tests; and loose moves, which stand where the
transactions hold a reference twice or pass their capacities. -/
inductive Wide where
  | screens (st : Station) | printers (st : Station) | roles (st : Station) | frame (st : Station)
  | loose | enter | accept | roll | alarm | clock | reads | notice | tests

/-- Two queue entries are alike: advices of one number, kind and alarm station, or two reservations. -/
def alike (q r : QueueEntry) : Prop :=
  entryNumber r = entryNumber q ∧ alarmStation r = alarmStation q ∧ ∀ k, isKind k r = isKind k q

/-- A line keeps its role and the presence of its printer, and is well kept if it was. -/
def sameRole (k l : Line) : Prop :=
  l.setup.role = k.setup.role ∧ l.setup.printerPresent = k.setup.printerPresent ∧ (lineOk k → lineOk l)

/-- One elementary move of the part, of a plain kind or of a wider one that is allowed. -/
inductive Move (K : Wide → Prop) : State → State → Prop
  | csh (f : Csh → Csh) (s) (h : cashOk s → cashOk (onCsh f s)) : Move K s (onCsh f s)
  | day (f : Day → Day) (s) : Move K s (onDay f s)
  | tbl (f : Tbl → Tbl) (s) (h : (f s.tbl).dnt = s.tbl.dnt) : Move K s (onTbl f s)
  | dnt (x : DntHeader) (rs : List DntRec) (n : Nat) (s) (h : dntInUse rs s = none) : Move K s (activate (.dnt x rs) n s)
  | slc (f : Slc → Slc) (s) (h : ∀ st, sameRole (s.slc.lines.get st) ((f s.slc).lines.get st))
      (ht : K .tests ∨ ∀ st, ((f s.slc).lines.get st).test = (s.slc.lines.get st).test) : Move K s (onSlc f s)
  | roles (st : Station) (f : Line → Line) (s) (h : K (.roles st)) (ht : (f (lineOf st s)).test = (lineOf st s).test) :
      Move K s (onLine st f s)
  | frame (st : Station) (d : Drop) (f : DropFrame) (s) (h : K (.frame st)) :
      Move K s (onLine st (fun l => { l with buffer := l.buffer ++ [(d, f)] }) s)
  | blc (f : Blc → Blc) (s) (h : (f s.blc).events = s.blc.events) : Move K s (onBlc f s)
  | notice (s) (h : K .notice) : Move K s (onBlc (fun b => { b with events := b.events.tail }) s)
  | mrs (f : Mrs → Mrs) (s) (hf : (f s.mrs).flags = s.mrs.flags) (hc : (f s.mrs).clock = s.mrs.clock)
      (hs : settingsOk s.mrs.settings → settingsOk (f s.mrs).settings) : Move K s (onMrs f s)
  | clock (n : Nat) (s) (h : K .clock) (hn : n < 86400) :
      Move K s (onMrs (fun m => { m with clock := { secs := n, unset := false } }) s)
  | reads (f : Mrs → Mrs) (s) (h : K .reads) (hf : (f s.mrs).flags = EventFlags.clear) (hc : (f s.mrs).clock = s.mrs.clock)
      (hs : (f s.mrs).settings = s.mrs.settings) : Move K s (onMrs f s)
  | raise (f : EventFlag) (s) (h : f ≠ .alarm) : Move K s (Machine.raise f s)
  | alarm (st : Station) (s) (h : K .alarm) : Move K s (raiseWith .alarm (some st) s)
  | compose (st : Station) (f : ScreenContext → ScreenContext) (s) : Move K s (composeWith st f s)
  | context (st : Station) (c c' : ScreenContext) (s) (hc : contextOf st s = some c) (ht : c'.terminal = c.terminal)
      (hm : c'.mirror = c.mirror) : Move K s (setContext st (some c') s)
  | broadcast (b : Option Broadcast) (s) : Move K s (onScm (fun m => { m with broadcast := b }) s)
  | signOff (st : Station) (s) : Move K s (setSignOn st none s)
  | signOn (st : Station) (n : Nat) (s) (h : K .enter) (hr : (lineOf st s).setup.role = .teller)
      (hn : ∀ a, tellerAt a s ≠ some n) : Move K s (setSignOn st (some n) s)
  | screens (st : Station) (c : Option ScreenContext) (s) (h : K (.screens st))
      (hc : ∀ x, c = some x → imageOk x.terminal.rows ∧ imageOk x.mirror) : Move K s (setContext st c s)
  | printer (st : Station) (c c' : PrinterContext) (s) (hc : printerOf st s = some c)
      (hl : c.queue.length ≤ 4 → c'.queue.length ≤ 4) : Move K s (setPrinter st (some c') s)
  | printers (st : Station) (c : Option PrinterContext) (s) (h : K (.printers st)) (hc : ∀ x, c = some x → x.queue = []) :
      Move K s (setPrinter st c s)
  | queue (q : List QueueEntry) (s) (h : List.Forall₂ alike s.sda.queue q) : Move K s (onSda (fun a => { a with queue := q }) s)
  | drop (p : QueueEntry → Bool) (s) : Move K s (onSda (fun a => { a with queue := a.queue.filter p }) s)
  | convert (ref : Ref) (f : Reservation → Reservation) (cause : EndCause) (s) :
      Move K s (convertReservation ref f cause s)
  | reserve (r : Reservation) (s) (h : generalRoom s = true) : Move K s (addReservation r s)
  | standin (b : AdviceBody) (s) (hb : adviceKind b = .standin) (h : generalRoom s = true) : Move K s (queueAdvice b s)
  | queueAlarm (st : Station) (s) (h : alarmStands st s = false) : Move K s (Machine.queueAlarm st s)
  | records (f : Sda → Sda) (s) (hq : (f s.sda).queue = s.sda.queue) (hn : (f s.sda).nextAdvice = s.sda.nextAdvice)
      (hr : recordsOk s → recordsOk (onSda f s)) : Move K s (onSda f s)
  | write (d : Draft) (s) : Move K s (writeEntry 0 d s)
  | free (s) : Move K s (freeEntries s)
  | jrn (f : Jrn → Jrn) (s) (he : (f s.jrn).entries = s.jrn.entries) (hu : (f s.jrn).used = s.jrn.used)
      (hr : (f s.jrn).reserved = s.jrn.reserved) (hf : (f s.jrn).free = s.jrn.free)
      (hn : (f s.jrn).nextSeq = s.jrn.nextSeq) (ha : (f s.jrn).lastAccepted = s.jrn.lastAccepted)
      (hb : (f s.jrn).batchCounter = s.jrn.batchCounter ∨
        (1 ≤ (f s.jrn).batchCounter ∧ (f s.jrn).batchCounter ≤ 65535)) : Move K s (onJrn f s)
  | accept (n : Nat) (s) (h : K .accept) : Move K s (onJrn (fun j => { j with lastAccepted := n }) s)
  | number (st : Station) (s) : Move K s (giveNumber st s)
  | enter (e : OttEntry) (s) (h : K .enter) (hf : Config.ottSlots ≤ s.jrn.free) (hl : s.ttr.ott.length < Config.ottCapacity)
      (hr : reversalSum s < Config.reversalCommitment) (hn : K .loose ∨ e.ref ∉ heldRefs s) :
      Move K s (reserveSlots Config.ottSlots (onTtr (fun t => { t with ott := t.ott ++ [e] }) s))
  | await (f : OttEntry → OttEntry) (s) (hf : ∀ e, (f e).ref = e.ref) :
      Move K s (onTtr (fun t => { t with ott := t.ott.map f }) s)
  | leave (e : OttEntry) (o : TxnOutcome) (b : Breakdown) (s) (h : K .loose ∨ e ∈ s.ttr.ott) : Move K s (endEntry e o b s)
  | abandon (cause : ReversalCause) (e : OttEntry) (s) (h : K .loose ∨ e ∈ s.ttr.ott) :
      Move K s (endEntry e .abandoned [] (queueReversal e.ref cause e.cashDirection (entryRounded e) s))
  | late (l : LateEntry) (cause : LateCause) (s) (h : l ∈ s.ttr.late) : Move K s (endLate l cause s)
  | lateApproval (l : LateEntry) (s) (h : l ∈ s.ttr.late) :
      Move K s (endLate l .lateApproval (queueReversal l.ref .lateApproval l.dir l.rounded s))
  | timedOut (e : OttEntry) (st : Station) (f : ScreenContext → ScreenContext) (s) (h : e ∈ s.ttr.ott) :
      Move K s (moveToLate e (removeOtt e.ref (composeWith st f (writeEntry Config.ottSlots (txnDraft e .timedOut []) s))))
  | rollSda (s) (h : K .roll) :
      Move K s (onSda (fun a => { a with tellerDays := [], accountMap := [], nextAdvice := 1 }) s)
  | rollJrn (s) (h : K .roll) : Move K s (journalNewDay s)

/-- A chain of elementary moves. -/
abbrev Moves (K : Wide → Prop) : State → State → Prop := Relation.ReflTransGen (Move K)

theorem Move.moves {K : Wide → Prop} {s t : State} (h : Move K s t) : Moves K s t := .single h

/-- What every elementary move keeps, a chain of them keeps. -/
theorem Moves.keep {K : Wide → Prop} {P : State → Prop} (h : ∀ s t, Move K s t → P s → P t) {s t : State}
    (m : Moves K s t) (hs : P s) : P t := by
  induction m with
  | refl => exact hs
  | tail _ last ih => exact h _ _ last ih

/-- A relation that is reflexive and transitive, and holds of every elementary move, holds of a chain of them. -/
theorem Moves.relate {K : Wide → Prop} {R : State → State → Prop} (hr : ∀ s, R s s)
    (ht : ∀ s t u, R s t → R t u → R s u) (h : ∀ s t, Move K s t → R s t) {s t : State} (m : Moves K s t) : R s t := by
  induction m with
  | refl => exact hr _
  | tail _ last ih => exact ht _ _ _ ih (h _ _ last)

variable {K : Wide → Prop} {s t : State}

theorem Moves.step (h : Moves K s t) {u : State} (m : Move K t u) : Moves K s u := .tail h m

/-! ## Updates of one record -/

/-- A position replaced by another that is well kept leaves the cash well kept. -/
theorem cashOk_setPosition {p : Option Station} {x : Position} (hx : positionOk s.tbl.dnt x) (h : cashOk s) :
    cashOk (setPosition p x s) := by
  intro q
  have same : (setPosition p x s).tbl.dnt = s.tbl.dnt := by simp
  rw [same]
  by_cases hq : q = p
  · subst hq
    simpa using hx
  · simpa [hq] using h q

theorem setPosition_moves {p : Option Station} {x : Position}
    (hx : positionOk t.tbl.dnt (positionOf p t) → positionOk t.tbl.dnt x) (h : Moves K s t) :
    Moves K s (setPosition p x t) := by
  have kept : cashOk t → cashOk (setPosition p x t) := fun k => cashOk_setPosition (hx (k p)) k
  unfold setPosition at kept ⊢
  cases p with
  | none => exact h.step (.csh _ t kept)
  | some st => exact h.step (.csh _ t kept)

theorem onLine_moves {st : Station} {f : Line → Line} (hr : sameRole (lineOf st t) (f (lineOf st t))) (h : Moves K s t)
    (ht : K .tests ∨ (f (lineOf st t)).test = (lineOf st t).test := by exact .inr rfl) : Moves K s (onLine st f t) := by
  unfold onLine setLine
  refine h.step (.slc _ t (fun a => ?_) (ht.imp_right fun k a => ?_))
  swap
  · by_cases ha : a = st
    · subst ha; simpa [lineOf] using k
    · simp [ha]
  by_cases ha : a = st
  · subst ha; simpa [lineOf] using hr
  · simp [ha, sameRole]

theorem setPrinter_moves {st : Station} {c c' : PrinterContext} (hc : printerOf st t = some c)
    (hl : c'.queue.length ≤ c.queue.length) (h : Moves K s t) : Moves K s (setPrinter st (some c') t) :=
  h.step (.printer st c c' t hc fun k => hl.trans k)

theorem onPrinter_moves {st : Station} {f : PrinterContext → PrinterContext}
    (hf : ∀ c, (f c).queue.length ≤ c.queue.length) (h : Moves K s t) : Moves K s (onPrinter st f t) := by
  unfold onPrinter
  split
  · next c hc => exact setPrinter_moves hc (hf c) h
  · exact h

theorem foldl_moves {α : Type} {f : State → α → State} (hf : ∀ u a, Moves K s u → Moves K s (f u a)) (xs : List α)
    (h : Moves K s t) : Moves K s (xs.foldl f t) := by
  induction xs generalizing t with
  | nil => exact h
  | cons x rest ih => exact ih (hf t x h)

theorem forStations_moves {f : Station → State → State} (hf : ∀ st u, Moves K s u → Moves K s (f st u))
    (h : Moves K s t) : Moves K s (forStations f t) :=
  foldl_moves (fun u st => hf st u) _ h

/-- Every position changed in the same way, by a change that keeps one well kept. -/
theorem cashOk_onPositions {f : Position → Position} (hf : ∀ p, positionOk s.tbl.dnt p → positionOk s.tbl.dnt (f p)) (h : cashOk s) :
    cashOk (onCsh (onPositions f) s) := by
  intro p
  cases p with
  | none => exact hf _ (h none)
  | some st => simpa [positionOf, drawerOf, onPositions] using hf _ (h (some st))

/-! ## Flags and journal -/

theorem raise_moves {f : EventFlag} (hf : f ≠ .alarm) (h : Moves K s t) : Moves K s (raise f t) := h.step (.raise f t hf)

theorem raiseIf_moves {f : EventFlag} {b : Bool} (hf : f ≠ .alarm) (h : Moves K s t) : Moves K s (raiseIf b f t) := by
  unfold raiseIf
  split
  · exact raise_moves hf h
  · exact h

theorem countUnmatchedReply_moves (h : Moves K s t) : Moves K s (countUnmatchedReply t) :=
  raise_moves (by decide) (h.step (.mrs _ t rfl rfl id))

theorem countOverrun_moves (h : Moves K s t) : Moves K s (countOverrun t) :=
  raise_moves (by decide) (h.step (.mrs _ t rfl rfl id))

theorem writeEntry_moves {d : Draft} (h : Moves K s t) : Moves K s (writeEntry 0 d t) := h.step (.write d t)

theorem advanceBatchCounter_moves (h : Moves K s t) : Moves K s (advanceBatchCounter t) :=
  h.step (.jrn _ t rfl rfl rfl rfl rfl rfl (.inr (wrapNext_range (by decide))))

theorem freeEntries_moves (h : Moves K s t) : Moves K s (freeEntries t) := h.step (.free t)

theorem acceptSequence_moves {n : Nat} (hk : K .accept) (h : Moves K s t) : Moves K s (acceptSequence n t) :=
  freeEntries_moves (h.step (.accept n t hk))

/-! ## Screens -/

theorem composeWith_moves {st : Station} {f : ScreenContext → ScreenContext} (h : Moves K s t) :
    Moves K s (composeWith st f t) := h.step (.compose st f t)

theorem refresh_moves {st : Station} (h : Moves K s t) : Moves K s (refresh st t) := composeWith_moves h

theorem refreshAll_moves (h : Moves K s t) : Moves K s (refreshAll t) := forStations_moves (fun _ _ => refresh_moves) h

theorem composeInput_moves {st : Station} {mode : ScreenMode} {number : Option Nat} {fields : List KeyField}
    {err : Option Nat} {message : Text} (h : Moves K s t) :
    Moves K s (composeInput st mode number fields err message t) := composeWith_moves h

theorem composePrompt_moves {st : Station} {message : Text} (h : Moves K s t) :
    Moves K s (composePrompt st message t) := composeInput_moves h

theorem composeKept_moves {st : Station} {mode : ScreenMode} {message : Text} (h : Moves K s t) :
    Moves K s (composeKept st mode message t) := composeWith_moves h

theorem composeResult_moves {st : Station} {number : Nat} {info : ResultInfo} {message : Text} (h : Moves K s t) :
    Moves K s (composeResult st number info message t) := composeWith_moves h

theorem refusalScreen_moves {st : Station} {r : KeyRequest} {why : Reason} (h : Moves K s t) :
    Moves K s (refusalScreen st r why t) := by
  unfold refusalScreen
  split
  · exact composeKept_moves h
  · split
    · split
      · exact composeInput_moves h
      · exact composeKept_moves h
    · exact composeKept_moves h

theorem setContext_moves {st : Station} {c c' : ScreenContext} (hc : contextOf st t = some c)
    (ht : c'.terminal = c.terminal) (hm : c'.mirror = c.mirror) (h : Moves K s t) :
    Moves K s (setContext st (some c') t) := h.step (.context st c c' t hc ht hm)

theorem pendBoth_moves {st : Station} (h : Moves K s t) : Moves K s (pendBoth st t) := by
  unfold pendBoth
  split
  · next c hc => exact setContext_moves hc (by rfl) (by rfl) h
  · exact h

theorem pendImage_moves {st : Station} {d : Drop} (h : Moves K s t) : Moves K s (pendImage st d t) := by
  unfold pendImage
  split
  · next c hc =>
    cases d with
    | d1 => exact setContext_moves hc (by rfl) (by rfl) h
    | d2 => exact h
    | d3 => exact setContext_moves hc (by rfl) (by rfl) h
  · exact h

theorem noteCopy_moves {st : Station} {item : SelectItem} (h : Moves K s t) : Moves K s (noteCopy st item t) := by
  unfold noteCopy
  split
  · next c _ hc => exact setContext_moves hc (by rfl) (by rfl) h
  · next c _ hc => exact setContext_moves hc (by rfl) (by rfl) h
  · exact h

theorem imageAccepted_moves {st : Station} {terminal : Bool} (h : Moves K s t) :
    Moves K s (imageAccepted st terminal t) := by
  unfold imageAccepted
  split
  · exact h
  · next c hc => split <;> exact setContext_moves hc (by rfl) (by rfl) h

theorem setSignOff_moves {st : Station} (h : Moves K s t) : Moves K s (setSignOn st none t) := h.step (.signOff st t)

/-! ## Cash -/

theorem evaluateExcess_moves {st : Station} {n : Nat} (h : Moves K s t) : Moves K s (evaluateExcess st n t) := by
  unfold evaluateExcess
  split
  · exact h
  · dsimp only
    split
    · split
      · exact h
      · exact refresh_moves (raise_moves (by decide) (setPosition_moves (fun k => k) h))
    · split
      · exact refresh_moves (setPosition_moves (fun k => k) h)
      · exact h

theorem requestPulse_moves {st : Station} (h : Moves K s t) : Moves K s (requestPulse st t) := by
  unfold requestPulse
  split
  · exact h
  · split
    · exact h
    · split
      · exact h
      · exact onLine_moves ⟨by rfl, by rfl, fun k => by exact k⟩ h

theorem postAt_moves {st : Station} {n : Nat} {leg : Leg} {counts : Leg → Position → Position}
    (hc : ∀ p, (counts leg p).counts.length = p.counts.length) (h : Moves K s t) : Moves K s (postAt st n leg counts t) :=
  evaluateExcess_moves (raiseIf_moves (by decide) (setPosition_moves (positionOk_posted (hc _)) h))

theorem postLeg_moves {st : Station} {n : Nat} {leg : Leg} (h : Moves K s t) : Moves K s (postLeg st n leg t) :=
  postAt_moves (counts_of_leg leg) h

theorem postStandin_moves {st : Station} {n : Nat} {leg : Leg} (h : Moves K s t) : Moves K s (postStandin st n leg t) :=
  postAt_moves (counts_of_leg leg) h

theorem reserveLeg_moves {st : Station} {leg : Option Leg} (h : Moves K s t) : Moves K s (reserveLeg st leg t) := by
  unfold reserveLeg
  split
  · exact setPosition_moves positionOk_reserved h
  · exact h

theorem releaseLeg_moves {st : Station} {leg : Option Leg} (h : Moves K s t) : Moves K s (releaseLeg st leg t) := by
  unfold releaseLeg
  split
  · exact setPosition_moves positionOk_released h
  · exact h

theorem carryTransfer_moves {toReserve : Bool} {st : Station} {n : Nat} {b : Breakdown} (h : Moves K s t) :
    Moves K s (carryTransfer toReserve st n b t) := by
  have taken := setPosition_moves (p := transferSource toReserve st) (positionOk_transferSide
    (f := fun c n => { c with committed := c.committed - n }) (b := b)) h
  exact requestPulse_moves (evaluateExcess_moves (raiseIf_moves (by decide)
    (setPosition_moves (fun k => by simpa [facesOf] using positionOk_transferSide k) taken)))

theorem unmark_moves {p : Option Station} (h : Moves K s t) : Moves K s (unmark p t) := by
  unfold unmark
  cases p <;> exact h.step (.day _ t)

theorem carryBalance_moves {p : Option Station} {n : Nat} {declared : List Nat} (h : Moves K s t) :
    Moves K s (carryBalance p n declared t) := by
  unfold carryBalance
  cases p with
  | none => exact unmark_moves (raiseIf_moves (by decide) (setPosition_moves positionOk_balanced h))
  | some st =>
    exact requestPulse_moves (evaluateExcess_moves (unmark_moves (raiseIf_moves (by decide)
      (setPosition_moves positionOk_balanced h))))

end Sys2Proof.Machine
end

section
/-! SUPPORT. The operations of the Advice Queue, of the records and of printing as chains of elementary moves. -/

namespace Sys2Proof.Machine
open Sys2Proof

variable {K : Wide → Prop} {s t : State}

/-! ## The Advice Queue and the records -/

theorem alike_refl (q : QueueEntry) : alike q q := ⟨rfl, rfl, fun _ => rfl⟩

/-- A queue each of whose entries is replaced by one alike. -/
theorem queueMap_moves {g : QueueEntry → QueueEntry} (hg : ∀ q, alike q (g q)) (h : Moves K s t) :
    Moves K s (onSda (fun a => { a with queue := a.queue.map g }) t) := by
  refine h.step (.queue (t.sda.queue.map g) t ?_)
  rw [List.forall₂_map_right_iff]
  exact List.forall₂_same.2 fun q _ => hg q

theorem alike_unsend (q : QueueEntry) : alike q (unsend q) := by cases q <;> exact ⟨rfl, rfl, fun _ => rfl⟩

theorem alike_markSent (n deadline : Nat) (q : QueueEntry) : alike q (markSent n deadline q) := by
  cases q with
  | reservation r => exact alike_refl _
  | advice a =>
    unfold markSent
    dsimp only
    split
    · exact ⟨rfl, rfl, fun _ => rfl⟩
    · exact alike_refl _

theorem alike_repeatAlarm (st : Station) (q : QueueEntry) : alike q (repeatAlarm st q) := by
  rcases q with ⟨n, body, sent⟩ | r
  · cases body with
    | alarm st' time k =>
      unfold repeatAlarm
      dsimp only
      split
      · exact ⟨rfl, rfl, fun _ => rfl⟩
      · exact alike_refl _
    | standin => exact alike_refl _
    | reversal => exact alike_refl _
    | passbookUpdate => exact alike_refl _
  · exact alike_refl _

theorem forall₂_updateReservation (ref : Ref) (f : Reservation → Reservation) (q : List QueueEntry) :
    List.Forall₂ alike q (updateReservation ref f q) := by
  induction q with
  | nil => exact .nil
  | cons x rest ih =>
    cases x with
    | advice a => exact .cons (alike_refl _) ih
    | reservation r =>
      unfold updateReservation
      split
      · exact .cons ⟨rfl, rfl, fun _ => rfl⟩ (List.forall₂_same.2 fun q _ => alike_refl q)
      · exact .cons (alike_refl _) ih

theorem tellReservation_moves {ref : Ref} {f : Reservation → Reservation} (h : Moves K s t) :
    Moves K s (tellReservation ref f t) := h.step (.queue _ t (forall₂_updateReservation ref f _))

theorem returnAllUnsent_moves (h : Moves K s t) : Moves K s (returnAllUnsent t) := queueMap_moves alike_unsend h

theorem adviceSent_moves {n : Nat} (h : Moves K s t) : Moves K s (adviceSent n t) :=
  queueMap_moves (alike_markSent n _) h

/-- The records are well kept where each is replaced by one of its teller with a transaction count within its bound. -/
theorem recordsOk_map {g : TellerDay → TellerDay} (ht : ∀ r, (g r).teller = r.teller)
    (hc : ∀ r, r.txCount ≤ 65535 → (g r).txCount ≤ 65535) (h : recordsOk s) :
    recordsOk (onSda (fun a => { a with tellerDays := a.tellerDays.map g }) s) := by
  obtain ⟨⟨hl, hn, hb⟩, hm⟩ := h
  refine ⟨⟨by simpa using hl, ?_, ?_⟩, hm⟩
  · have same : TellerDay.teller ∘ g = TellerDay.teller := funext ht
    simpa [same] using hn
  · intro r hr
    obtain ⟨r0, hr0, rfl⟩ := List.mem_map.1 (show r ∈ s.sda.tellerDays.map g from hr)
    obtain ⟨h1, h2, h3⟩ := hb r0 hr0
    exact ⟨by rw [ht]; exact h1, by rw [ht]; exact h2, hc r0 h3⟩

theorem satCount_le {b n : Nat} : satCount b n ≤ b := by unfold satCount; split <;> omega

theorem satCount_pos {b n : Nat} (h : 1 ≤ b) : 1 ≤ satCount b n := by unfold satCount; split <;> omega

theorem tellerDayOff_moves {n : Nat} (h : Moves K s t) : Moves K s (tellerDayOff n t) :=
  h.step (.records _ t rfl rfl (recordsOk_map (fun r => by split <;> rfl) fun r h => by split <;> exact h))

/-- Where the find of a teller's record fails, no record is of the teller. -/
theorem tellerDay_none {n : Nat} (h : tellerDay n s = none) : n ∉ s.sda.tellerDays.map TellerDay.teller := by
  intro hm
  obtain ⟨r, hr, rfl⟩ := List.mem_map.1 hm
  simpa using List.find?_eq_none.1 h r hr

/-- One more at the end of distinct items stays distinct. -/
theorem nodup_snoc {α : Type} {xs : List α} {x : α} (h : xs.Nodup) (hx : x ∉ xs) : (xs ++ [x]).Nodup :=
  List.nodup_append.2 ⟨h, List.nodup_singleton _, fun a ha b hb => by
    rintro rfl; rw [List.mem_singleton.1 hb] at ha; exact hx ha⟩

theorem tellerDayOn_moves {n : Nat} {st : Station} (h1 : 1 ≤ n) (h2 : n ≤ 9999)
    (hl : tellerDay n t = none → t.sda.tellerDays.length < 64) (h : Moves K s t) : Moves K s (tellerDayOn n st t) := by
  unfold tellerDayOn
  split
  · exact h.step (.records _ t rfl rfl (recordsOk_map (fun r => by split <;> rfl) fun r h => by split <;> exact h))
  · next hn =>
    refine h.step (.records _ t rfl rfl fun h => ?_)
    obtain ⟨⟨-, hd, hb⟩, hm⟩ := h
    refine ⟨⟨?_, ?_, ?_⟩, hm⟩
    · have := hl hn; simp; omega
    · simpa using nodup_snoc hd (tellerDay_none hn)
    · intro r hr
      rcases List.mem_append.1 (show r ∈ t.sda.tellerDays ++ _ from hr) with hr | hr
      · exact hb r hr
      · rw [List.mem_singleton.1 hr]; exact ⟨h1, h2, Nat.zero_le _⟩

theorem mapEntry_none {account : Text} (h : mapEntry account s = none) :
    account ∉ s.sda.accountMap.map MapEntry.account := by
  intro hm
  obtain ⟨r, hr, rfl⟩ := List.mem_map.1 hm
  simpa using List.find?_eq_none.1 h r hr

/-- A map entry with one more debit of an amount. -/
def debited (account : Text) (a : Nat) (e : MapEntry) : MapEntry :=
  if e.account = account then
    { e with debit := e.debit + a, approvals := satCount Config.topCounter e.approvals } else e

theorem debited_account (account : Text) (a : Nat) (e : MapEntry) : (debited account a e).account = e.account := by
  unfold debited; split <;> rfl

theorem debited_approvals {account : Text} {a : Nat} {e : MapEntry} (h : 1 ≤ e.approvals ∧ e.approvals ≤ 65535) :
    1 ≤ (debited account a e).approvals ∧ (debited account a e).approvals ≤ 65535 := by
  unfold debited
  split
  · exact ⟨satCount_pos (by decide), satCount_le⟩
  · exact h

theorem recordDebit_moves {n : Nat} {account : Text} {a : Nat}
    (hl : mapEntry account t = none → t.sda.accountMap.length < 64) (h : Moves K s t) :
    Moves K s (recordDebit n account a t) := by
  refine h.step (.records _ t rfl rfl fun h => ?_)
  have tellers := recordsOk_map (g := fun r => if r.teller = n then { r with standinTotal := r.standinTotal + a } else r)
    (fun r => by split <;> rfl) (fun r h => by split <;> exact h) h
  obtain ⟨-, hml, hmn, hmb⟩ := h
  refine ⟨tellers.1, ?_⟩
  simp only [onSda_sda]
  split
  · change (t.sda.accountMap.map (debited account a)).length ≤ 64 ∧
      ((t.sda.accountMap.map (debited account a)).map MapEntry.account).Nodup ∧
      ∀ e ∈ t.sda.accountMap.map (debited account a), _
    refine ⟨by simpa using hml, ?_, fun e he => ?_⟩
    · have same : MapEntry.account ∘ debited account a = MapEntry.account := funext (debited_account account a)
      simpa [same] using hmn
    · obtain ⟨e0, he0, rfl⟩ := List.mem_map.1 he
      exact debited_approvals (hmb e0 he0)
  · next hn =>
    refine ⟨?_, by simpa using nodup_snoc hmn (mapEntry_none hn), fun e he => ?_⟩
    · have := hl hn; simp; omega
    · rcases List.mem_append.1 he with he | he
      · exact hmb e he
      · rw [List.mem_singleton.1 he]; exact ⟨Nat.le_refl 1, Nat.le_of_ble_eq_true rfl⟩

/-- A change of the count of unmatched acknowledgements alone. -/
theorem unmatchedAcks_moves {f : Nat → Nat} (h : Moves K s t) :
    Moves K s (onSda (fun a => { a with unmatchedAcks := f a.unmatchedAcks }) t) := h.step (.records _ t rfl rfl id)

theorem convertReservation_moves {ref : Ref} {f : Reservation → Reservation} {cause : EndCause} (h : Moves K s t) :
    Moves K s (convertReservation ref f cause t) := h.step (.convert ref f cause t)

theorem raiseAlarm_moves {st : Station} (hk : K .alarm) (h : Moves K s t) : Moves K s (raiseAlarm st t) := by
  have first : Moves K s (if alarmStands st t then onSda (fun a => { a with queue := a.queue.map (repeatAlarm st) }) t
      else queueAlarm st t) := by
    split
    · exact queueMap_moves (alike_repeatAlarm st) h
    · next hn => exact h.step (.queueAlarm st t (by simpa using hn))
  unfold raiseAlarm
  dsimp only
  split
  · exact writeEntry_moves (first.step (.alarm st _ hk))
  · exact first.step (.alarm st _ hk)

/-! ## Printing -/

variable {st : Station}

theorem setHead_moves {j : Job} (h : Moves K s t) : Moves K s (setHead st j t) :=
  onPrinter_moves (fun c => by split <;> simp [*]) h

theorem setPrompt_moves {p : Prompt} (h : Moves K s t) : Moves K s (setPrompt st p t) := by
  unfold setPrompt
  split
  · next c hc =>
    split
    · exact h
    · exact refresh_moves (setPrinter_moves hc (Nat.le_refl _) h)
  · exact h

theorem handItem_moves {body : ItemBody} (h : Moves K s t) : Moves K s (handItem st body t) :=
  onPrinter_moves (fun _ => Nat.le_refl _) h

theorem handLine_moves (h : Moves K s t) : Moves K s (handLine st t) := by
  unfold handLine
  split
  · exact h
  · split
    · exact handItem_moves (setHead_moves h)
    · exact h

theorem oweEndWrite_moves {j : Job} (h : Moves K s t) : Moves K s (oweEndWrite st j t) :=
  onPrinter_moves (fun _ => Nat.le_refl _) (setHead_moves h)

theorem endWrite_moves {j : Job} (h : Moves K s t) : Moves K s (endWrite st j t) := by
  unfold endWrite
  split
  · exact h
  · split
    · exact setHead_moves h
    · split
      · split
        · split
          · exact setHead_moves h
          · exact handItem_moves h
        · exact oweEndWrite_moves h
      · exact oweEndWrite_moves h

theorem endHead_moves {cause : EndCause} (h : Moves K s t) : Moves K s (endHead st cause t) := by
  unfold endHead
  split
  · exact endWrite_moves (setHead_moves (setPrompt_moves h))
  · exact h

theorem finishHead_moves {teller : Option Nat} (h : Moves K s t) : Moves K s (finishHead st teller t) := by
  unfold finishHead
  split
  · exact h
  · exact onPrinter_moves (fun c => by simp) (writeEntry_moves (convertReservation_moves h))

theorem pageFull_moves {j : Job} {page pages : Nat} (h : Moves K s t) : Moves K s (pageFull st j page pages t) := by
  unfold pageFull
  split
  · exact endHead_moves (setHead_moves h)
  · exact handItem_moves (setPrompt_moves (setHead_moves h))

theorem judgeStart_moves {j : Job} {layout : PltRec} {b : Book} (h : Moves K s t) :
    Moves K s (judgeStart st j layout b t) := by
  unfold judgeStart
  dsimp only
  split
  · exact endHead_moves (setHead_moves h)
  · split
    · exact pageFull_moves h
    · exact handLine_moves (setHead_moves h)

theorem beginPlacement_moves (h : Moves K s t) : Moves K s (beginPlacement st t) := by
  unfold beginPlacement
  split
  · dsimp only
    split
    · exact judgeStart_moves (setPrompt_moves (setHead_moves h))
    · split
      · exact judgeStart_moves (setPrompt_moves (setHead_moves h))
      · exact endHead_moves (setPrompt_moves (setHead_moves h))
  · exact h

theorem dealOwed_moves (h : Moves K s t) : Moves K s (dealOwed st t) := by
  unfold dealOwed
  split
  · split
    · split
      · split
        · split
          · exact handItem_moves h
          · exact h
        · exact onPrinter_moves (fun _ => Nat.le_refl _) h
      · exact h
    · exact h
  · exact h

theorem resumeBookWait_moves (h : Moves K s t) : Moves K s (resumeBookWait st t) := by
  unfold resumeBookWait
  split
  · split
    · exact beginPlacement_moves h
    · exact h
  · exact h

theorem enterBookWait_moves {j : Job} (h : Moves K s t) : Moves K s (enterBookWait st j t) := setHead_moves h

theorem beginHead_moves (h : Moves K s t) : Moves K s (beginHead st t) := by
  unfold beginHead
  split
  · split
    · split
      · split
        · exact resumeBookWait_moves (dealOwed_moves (enterBookWait_moves h))
        · exact beginPlacement_moves h
      · exact enterBookWait_moves h
    · exact enterBookWait_moves h
  · exact h

theorem advanceQueue_moves {k : Nat} (h : Moves K s t) : Moves K s (advanceQueue k st t) := by
  induction k generalizing t with
  | zero => exact h
  | succ k ih =>
    unfold advanceQueue
    split
    · split
      · exact ih (finishHead_moves h)
      · split
        · exact ih (beginHead_moves h)
        · exact h
    · exact h

theorem goOn_moves (h : Moves K s t) : Moves K s (goOn st t) := advanceQueue_moves h

theorem failItem_moves {cause : EndCause} (h : Moves K s t) : Moves K s (failItem st cause t) := by
  unfold failItem
  split
  · exact h
  · next c hc =>
    split
    · exact h
    · have cleared := setPrinter_moves (c' := { c with item := none }) hc (Nat.le_refl _) h
      dsimp only
      split
      · exact endHead_moves cleared
      · split
        · exact oweEndWrite_moves cleared
        · exact cleared
      · exact cleared
      · exact cleared
      · exact cleared

theorem clearAndFail_moves {state : PrinterContext → PrinterState} {cause : EndCause} (h : Moves K s t) :
    Moves K s (clearAndFail st state cause t) := failItem_moves (onPrinter_moves (fun _ => Nat.le_refl _) h)

theorem offerTurn_moves {ready : Bool} {j : Job} {b : Book} (h : Moves K s t) :
    Moves K s (offerTurn st ready j b t) := by
  unfold offerTurn
  split
  · exact h
  · split
    · exact setPrompt_moves h
    · split
      · exact h
      · split
        · exact handItem_moves h
        · exact beginPlacement_moves h

theorem offerBook_moves (h : Moves K s t) : Moves K s (offerBook st t) := by
  unfold offerBook
  split
  · split
    · split
      · exact setPrompt_moves h
      · exact resumeBookWait_moves (setHead_moves h)
    · exact offerTurn_moves h
    · exact h
    · exact h
    · exact h
  · exact h

theorem leaveEnded_moves (h : Moves K s t) : Moves K s (leaveEnded st t) := by
  unfold leaveEnded
  split
  · split
    · exact finishHead_moves h
    · exact h
  · exact h

theorem takeStripeRead_moves {b : Book} (h : Moves K s t) : Moves K s (takeStripeRead st b t) := by
  have recorded : Moves K s (onPrinter st (fun c => { c with book := some b })
      (leaveEnded st (clearAndFail st reportedState .bookRemoved t))) :=
    onPrinter_moves (fun _ => Nat.le_refl _) (leaveEnded_moves (clearAndFail_moves h))
  unfold takeStripeRead
  refine goOn_moves (offerBook_moves (dealOwed_moves ?_))
  split
  · exact setPrompt_moves recorded
  · exact recorded

theorem takeBookRemoved_moves (h : Moves K s t) : Moves K s (takeBookRemoved st t) :=
  setPrompt_moves (goOn_moves (clearAndFail_moves h))

theorem takeFault_moves (h : Moves K s t) : Moves K s (takeFault st t) := goOn_moves (clearAndFail_moves h)

theorem takePrinterDown_moves (h : Moves K s t) : Moves K s (takePrinterDown st t) := goOn_moves (clearAndFail_moves h)

theorem takePrinterUp_moves (h : Moves K s t) : Moves K s (takePrinterUp st t) :=
  goOn_moves (onPrinter_moves (fun c => by split <;> exact Nat.le_refl _) h)

theorem lineCompleted_moves {j : Job} {balance : Option Int} (h : Moves K s t) :
    Moves K s (lineCompleted st j balance t) := by
  unfold lineCompleted
  dsimp only
  split
  · exact endHead_moves (setHead_moves (tellReservation_moves h))
  · split
    · split
      · exact pageFull_moves (setHead_moves (tellReservation_moves h))
      · exact handLine_moves (setHead_moves (tellReservation_moves h))
    · exact setHead_moves (tellReservation_moves h)

theorem takeLineDone_moves (h : Moves K s t) : Moves K s (takeLineDone st t) := by
  unfold takeLineDone
  split
  · exact h
  · next c hc =>
    split
    · have done := setPrinter_moves (c' := itemDone c) hc (Nat.le_refl _) h
      dsimp only
      split
      · exact goOn_moves (lineCompleted_moves done)
      · exact done
    · exact h

theorem writeCompleted_moves {purpose : WritePurpose} (h : Moves K s t) : Moves K s (writeCompleted st purpose t) := by
  unfold writeCompleted
  split
  · exact h
  · split
    · split
      · exact beginPlacement_moves h
      · exact h
    · exact h
  · split
    · split
      · exact setHead_moves h
      · exact h
    · exact h
  · exact resumeBookWait_moves (onPrinter_moves (fun c => by split <;> exact Nat.le_refl _) h)

theorem takeWriteDone_moves (h : Moves K s t) : Moves K s (takeWriteDone st t) := by
  unfold takeWriteDone
  split
  · exact h
  · next c hc =>
    split
    · exact goOn_moves (writeCompleted_moves (setPrinter_moves hc (Nat.le_refl _) h))
    · exact h

theorem takeWaitExpiry_moves (h : Moves K s t) : Moves K s (takeWaitExpiry st t) := by
  unfold takeWaitExpiry
  split
  · split
    · exact goOn_moves (endHead_moves h)
    · exact goOn_moves (endHead_moves h)
    · exact h
    · exact h
    · exact h
  · exact h

theorem takeCompletionExpiry_moves (h : Moves K s t) : Moves K s (takeCompletionExpiry st t) := by
  unfold takeCompletionExpiry
  split
  · split
    · exact takeFault_moves h
    · exact h
  · exact h

theorem itemAccepted_moves {body : ItemBody} (h : Moves K s t) : Moves K s (itemAccepted st body t) := by
  refine onPrinter_moves (fun c => ?_) h
  split
  · split <;> exact Nat.le_refl _
  · exact Nat.le_refl _

theorem createJob_moves {ref : Ref} {account : Option Text} {snapshot : Option Book} {lines : List PassLine}
    {balance : Option Int} (h : Moves K s t) : Moves K s (createJob ref account snapshot lines balance t).1 := by
  unfold createJob
  dsimp only
  split
  · exact h
  · next c hc =>
    split
    · exact h
    · next hlen =>
      split
      · exact h
      · split
        · exact h
        · next acc _ hroom =>
          have reserved := h.step (.reserve (createdReservation (newJob ref acc snapshot lines balance)) t
            (by simpa using hroom))
          have same : printerOf ref.station (addReservation (createdReservation (newJob ref acc snapshot lines balance)) t)
              = some c := by simpa [printerOf] using hc
          refine goOn_moves ?_
          unfold onPrinter
          rw [same]
          refine reserved.step (.printer _ c _ _ same fun _ => ?_)
          have : c.queue.length < 4 := by simpa [Config.printQueueCapacity] using hlen
          simpa using this

/-- The end of a printer's queue, its line set OFF, up to the removal of the context itself. -/
theorem endQueueOff_moves {k : Nat} {teller : Option Nat} (h : Moves K s t) :
    Moves K s (endQueueOff k st teller t) := by
  induction k generalizing t with
  | zero => exact h
  | succ k ih =>
    unfold endQueueOff
    split
    · exact h
    · exact ih (finishHead_moves (setHead_moves h))

theorem removePrinter_moves {teller : Option Nat} (hk : K (.printers st)) (h : Moves K s t) :
    Moves K s (removePrinter st teller t) := by
  unfold removePrinter
  split
  · exact h
  · next c hc =>
    exact (endQueueOff_moves (setPrinter_moves (c' := { c with item := none }) hc (Nat.le_refl _) h)).step
      (.printers _ _ _ hk (by simp))

end Sys2Proof.Machine
end

section
/-! SUPPORT. The operations of the day, the transactions, intake, the lines, the link, the setups, the tables and the
management requests as chains of elementary moves; and with them every command but START. -/

namespace Sys2Proof.Machine
open Sys2Proof

variable {K : Wide → Prop} {s t : State}

/-! ## The day -/

theorem onDay_moves {f : Day → Day} (h : Moves K s t) : Moves K s (onDay f t) := h.step (.day f t)

theorem changeDay_moves {d : DayState} (h : Moves K s t) : Moves K s (changeDay d t) :=
  refreshAll_moves (writeEntry_moves (onDay_moves h))

theorem onSettlement_moves {f : Settlement → Settlement} (h : Moves K s t) : Moves K s (onSettlement f t) := onDay_moves h

theorem beginTotals_moves (h : Moves K s t) : Moves K s (beginTotals t) := onSettlement_moves h

theorem journalPhaseEnd_moves (h : Moves K s t) : Moves K s (journalPhaseEnd t) := by
  unfold journalPhaseEnd
  split
  · exact beginTotals_moves h
  · exact h

theorem phaseAfterAcceptance_moves (h : Moves K s t) : Moves K s (phaseAfterAcceptance t) := by
  unfold phaseAfterAcceptance
  split
  · split
    · exact journalPhaseEnd_moves h
    · exact h
  · exact h

theorem beginJournalPhase_moves (h : Moves K s t) : Moves K s (beginJournalPhase t) :=
  journalPhaseEnd_moves (onDay_moves h)

theorem judgeSettle_moves (h : Moves K s t) : Moves K s (judgeSettle t) := by
  unfold judgeSettle
  split
  · exact beginJournalPhase_moves (changeDay_moves h)
  · exact h

theorem settlementSent_moves {b : Batch} (h : Moves K s t) : Moves K s (settlementSent b t) := by
  unfold settlementSent
  extract_lets built s1
  have sent : Moves K s s1 := onSettlement_moves h
  split
  · exact advanceBatchCounter_moves sent
  · exact sent

theorem trickleSent_moves {b : JournalBatch} (h : Moves K s t) : Moves K s (trickleSent b t) :=
  advanceBatchCounter_moves (h.step (.jrn _ t rfl rfl rfl rfl rfl rfl (.inl rfl)))

theorem endSettlement_moves (h : Moves K s t) : Moves K s (endSettlement t) := changeDay_moves (onDay_moves h)

theorem settlementAccepted_moves {b : Batch} (hk : K .accept) (h : Moves K s t) :
    Moves K s (settlementAccepted b t) := by
  unfold settlementAccepted
  split
  · exact phaseAfterAcceptance_moves (onDay_moves (acceptSequence_moves hk h))
  · dsimp only
    split
    · split
      · exact endSettlement_moves (onDay_moves h)
      · exact onDay_moves h
    · exact onDay_moves h

theorem failDay_moves (h : Moves K s t) : Moves K s (failDay t) := raise_moves (by decide) (changeDay_moves h)

theorem settlementFails_moves (h : Moves K s t) : Moves K s (settlementFails t) := by
  unfold settlementFails
  split
  · exact h
  · split
    · exact onDay_moves h
    · dsimp only
      split
      · exact failDay_moves (onDay_moves h)
      · exact onDay_moves h

theorem rollDay_moves {d : Date} (hk : K .roll) (h : Moves K s t) : Moves K s (rollDay d t) :=
  changeDay_moves ((((onDay_moves h).step (.rollSda _ hk)).step
    (.csh _ _ (cashOk_onPositions fun _ => positionOk_opened))).step (.rollJrn _ hk))

/-! ## The transactions -/

theorem giveNumber_moves {st : Station} (h : Moves K s t) : Moves K s (giveNumber st t) := h.step (.number st t)

theorem onBlc_moves {f : Blc → Blc} (hf : ∀ b, (f b).events = b.events) (h : Moves K s t) :
    Moves K s (onBlc f t) := h.step (.blc f t (hf _))

theorem withdrawRequest_moves {ref : Ref} (h : Moves K s t) : Moves K s (withdrawRequest ref t) := onBlc_moves (fun _ => by rfl) h

theorem endEntry_moves {e : OttEntry} {o : TxnOutcome} {b : Breakdown} (he : K .loose ∨ e ∈ t.ttr.ott)
    (h : Moves K s t) : Moves K s (endEntry e o b t) := h.step (.leave e o b t he)

/-- Distinct entries of the OTT leave it one after another. -/
theorem foldl_leaving {f : State → OttEntry → State}
    (hf : ∀ u e, (K .loose ∨ e ∈ u.ttr.ott) → Moves K s u → Moves K s (f u e))
    (ho : ∀ u e, (f u e).ttr.ott = u.ttr.ott.filter fun x => x.ref ≠ e.ref) (es : List OttEntry)
    (he : K .loose ∨ (es.map OttEntry.ref).Nodup ∧ ∀ e ∈ es, e ∈ t.ttr.ott) (h : Moves K s t) :
    Moves K s (es.foldl f t) := by
  induction es generalizing t with
  | nil => exact h
  | cons e rest ih =>
    refine ih (he.imp_right fun k => ?_) (hf t e (he.imp_right fun k => k.2 e (by simp)) h)
    obtain ⟨hn, hm⟩ := k
    obtain ⟨hne, hrest⟩ := List.nodup_cons.1 hn
    refine ⟨hrest, fun x hx => ?_⟩
    rw [ho]
    refine List.mem_filter.2 ⟨hm x (by simp [hx]), ?_⟩
    simp only [decide_not, Bool.not_eq_eq_eq_not, Bool.not_true, decide_eq_false_iff_not]
    exact fun hr => hne (hr ▸ List.mem_map_of_mem hx)

/-- The entries of the OTT that pass a test are distinct. -/
theorem filter_ott {p : OttEntry → Bool} (hk : K .loose ∨ transactionsOk t) :
    K .loose ∨ ((t.ttr.ott.filter p).map OttEntry.ref).Nodup ∧ ∀ e ∈ t.ttr.ott.filter p, e ∈ t.ttr.ott := by
  refine hk.imp_right fun ⟨hn, _⟩ => ⟨?_, fun e he => List.mem_of_mem_filter he⟩
  exact ((List.filter_sublist).map OttEntry.ref).nodup (List.Nodup.of_append_left hn)

theorem endLinkDown_moves {e : OttEntry} (he : K .loose ∨ e ∈ t.ttr.ott) (h : Moves K s t) :
    Moves K s (endLinkDown e t) :=
  composeResult_moves (endEntry_moves (by simpa using he) (releaseLeg_moves (withdrawRequest_moves h)))

theorem endQueued_moves (hk : K .loose ∨ transactionsOk t) (h : Moves K s t) : Moves K s (endQueued t) :=
  foldl_leaving (fun _ _ => endLinkDown_moves) (fun u e => by simp [endLinkDown, endEntry, removeOtt]) _ (filter_ott hk) h

theorem takeLines_moves {e : OttEntry} {r : Reply} (h : Moves K s t) : Moves K s (takeLines e r t).1 := by
  unfold takeLines
  split
  · exact h
  · exact createJob_moves h

theorem postApproved_moves {e : OttEntry} (h : Moves K s t) : Moves K s (postApproved e t) := by
  unfold postApproved
  split
  · exact h
  · dsimp only
    split
    · exact postLeg_moves h
    · exact requestPulse_moves (postLeg_moves h)

theorem approve_moves {e : OttEntry} {r : Reply} (he : e ∈ t.ttr.ott) (h : Moves K s t) : Moves K s (approve e r t) :=
  composeResult_moves (endEntry_moves (.inr (by simpa using he)) (takeLines_moves (postApproved_moves h)))

theorem decline_moves {e : OttEntry} {r : Reply} (he : e ∈ t.ttr.ott) (h : Moves K s t) : Moves K s (decline e r t) :=
  composeResult_moves (endEntry_moves (.inr (by simpa using he)) (releaseLeg_moves h))

theorem endLate_moves {l : LateEntry} {c : LateCause} (hl : l ∈ t.ttr.late) (h : Moves K s t) :
    Moves K s (endLate l c t) := h.step (.late l c t hl)

theorem timeOut_moves {e : OttEntry} (he : e ∈ t.ttr.ott) (h : Moves K s t) : Moves K s (timeOut e t) :=
  (releaseLeg_moves h).step (.timedOut e _ _ _ (by simpa using he))

theorem lateReply_moves {l : LateEntry} {ok : Bool} (hl : l ∈ t.ttr.late) (h : Moves K s t) :
    Moves K s (lateReply l ok t) := by
  unfold lateReply
  split
  · exact h.step (.lateApproval l t hl)
  · exact endLate_moves hl h

theorem abandonAll_moves {cause : ReversalCause} {p : OttEntry → Bool} (hk : K .loose ∨ transactionsOk t)
    (h : Moves K s t) : Moves K s (abandonAll cause p t) :=
  foldl_leaving (fun _ e he h => (releaseLeg_moves (withdrawRequest_moves h)).step (.abandon cause e _ (by simpa using he)))
    (fun u e => by simp [endEntry, removeOtt]) _ (filter_ott hk) h

theorem takeReply_moves {dest : Station} {r : Option Reply} (h : Moves K s t) : Moves K s (takeReply dest r t) := by
  unfold takeReply
  split
  · exact countUnmatchedReply_moves h
  · split
    · split
      · exact countUnmatchedReply_moves h
      · split
        · next e he =>
          have held : e ∈ t.ttr.ott := List.mem_of_find?_eq_some he
          split
          · exact countUnmatchedReply_moves h
          · split
            · exact approve_moves held h
            · exact decline_moves held h
        · split
          · next l hl => exact lateReply_moves (List.mem_of_find?_eq_some hl) h
          · exact countUnmatchedReply_moves h
    · exact countUnmatchedReply_moves h

/-! ## Intake -/

theorem refuseLocal_moves {q : LocalRequest} {teller : Option Nat} {target : Nat} {why : Reason} (h : Moves K s t) :
    Moves K s (refuseLocal q teller target why t) := refusalScreen_moves (writeEntry_moves h)

theorem localDone_moves {q : LocalRequest} {teller : Option Nat} {target : Nat} {amounts : Option (Int × Int)}
    {written shown : Breakdown} {position : Option Station} {words : Text} (h : Moves K s t) :
    Moves K s (localDone q teller target amounts written shown position words t) :=
  writeEntry_moves (composeResult_moves h)

/-- A number keyed as a teller's is one of 1 to 9,999. -/
theorem keyedTeller_range {fields : List KeyField} {n : Nat} (h : keyedTeller fields = some n) : 1 ≤ n ∧ n ≤ 9999 := by
  unfold keyedTeller at h
  split at h
  · cases h
  · split at h
    · simpa using (Option.filter_eq_some_iff.1 h).2
    · cases h

/-- A sign-on that passes is of a teller from 1 to 9,999 for whom a record stands or can be made. -/
theorem checkSignOn_ok {q : LocalRequest} {n : Nat} (h : checkSignOn q s = .ok n) :
    (1 ≤ n ∧ n ≤ 9999) ∧ (tellerDay n s = none → s.sda.tellerDays.length < 64) := by
  unfold checkSignOn at h
  split at h
  · cases h
  · split at h
    · cases h
    · split at h
      · cases h
      · next k hk =>
        split at h
        · cases h
        · split at h
          · cases h
          · split at h
            · cases h
            · next hfull =>
              cases h
              exact ⟨keyedTeller_range hk, fun hn => by simpa [hn, Config.tellerDayCapacity] using hfull⟩

/-- A sign-on that passes names a teller who is signed on nowhere. -/
theorem checkSignOn_free {q : LocalRequest} {n : Nat} (h : checkSignOn q s = .ok n) (a : Station) :
    tellerAt a s ≠ some n := by
  unfold checkSignOn at h
  split at h
  · cases h
  · next hst =>
    split at h
    · cases h
    · next hel =>
      split at h
      · cases h
      · next k hk =>
        have keyed : keyedNumber q.fields = some k := by
          unfold keyedTeller at hk
          unfold keyedNumber
          split at hk
          · cases hk
          · next x hx =>
            split at hk
            · rw [hx]; exact (Option.filter_eq_some_iff.1 hk).1
            · cases hk
        split at h
        · cases h
        · split at h
          · cases h
          · split at h
            · cases h
            · cases h
              intro ha
              by_cases hs : a = q.st
              · subst hs; simp [ha] at hst
              · refine hel ?_
                rw [keyed]
                exact List.any_eq_true.2 ⟨a, Station.mem_all a, by simp [hs, ha]⟩

theorem localSignOn_moves {q : LocalRequest} (hk : K .enter) (hr : (lineOf q.st t).setup.role = .teller)
    (h : Moves K s t) : Moves K s (localSignOn q t) := by
  unfold localSignOn
  split
  · exact refuseLocal_moves h
  · next n hn =>
    obtain ⟨⟨h1, h2⟩, hl⟩ := checkSignOn_ok hn
    have on := h.step (.signOn q.st n t hk hr (checkSignOn_free hn))
    exact localDone_moves (evaluateExcess_moves (tellerDayOn_moves h1 h2 (by simpa [tellerDay] using hl) on))

theorem signOff_moves {st : Station} {n : Nat} (h : Moves K s t) : Moves K s (signOff st n t) :=
  tellerDayOff_moves (setSignOff_moves h)

theorem localSignOff_moves {q : LocalRequest} {n : Nat} (h : Moves K s t) : Moves K s (localSignOff q n t) := by
  unfold localSignOff
  split
  · exact refuseLocal_moves h
  · exact writeEntry_moves (composePrompt_moves (signOff_moves h))

theorem localTransfer_moves {toReserve : Bool} {q : LocalRequest} {n : Nat} (h : Moves K s t) :
    Moves K s (localTransfer toReserve q n t) := by
  unfold localTransfer
  split
  · exact refuseLocal_moves h
  · exact localDone_moves (carryTransfer_moves h)

theorem localBalance_moves {q : LocalRequest} {n : Nat} (h : Moves K s t) : Moves K s (localBalance q n t) := by
  unfold localBalance
  dsimp only
  split
  · exact refuseLocal_moves h
  · exact localDone_moves (carryBalance_moves h)

theorem handLocal_moves {q : LocalRequest} (hk : K .enter) (hr : (lineOf q.st t).setup.role = .teller)
    (h : Moves K s t) : Moves K s (handLocal q t) := by
  unfold handLocal
  split
  · exact localSignOn_moves hk hr h
  · exact localSignOff_moves h
  · exact localTransfer_moves h
  · exact localTransfer_moves h
  · exact localBalance_moves h
  · exact localDone_moves h
  · exact h

/-- Passing over ends at a number that is not held, wherever the counter stands, where fewer are held than there are. -/
theorem passOver_free {top start : Nat} {held : List Nat} (hl : held.length < top) :
    passOver top held (held.length + 1) start ∉ held := by
  have ht : 1 ≤ top := by omega
  by_cases hin : 1 ≤ start ∧ start ≤ top
  · obtain ⟨k, hk, hn, -⟩ := passOver_first hin.1 hin.2 hl
    exact hn
  · unfold passOver
    by_cases hs : start ∈ held
    · rw [if_pos (by simpa using hs)]
      have next : 1 ≤ wrapNext top start ∧ wrapNext top start ≤ top := wrapNext_range ht
      have one : wrapNext top start = 1 := by
        unfold wrapNext
        split <;> omega
      rw [one]
      refine (passOver_or ht _ 1 le_rfl ht).elim (fun ⟨k, _, hn, _⟩ => hn) fun hall => ?_
      have all : ∀ x ∈ start :: (List.range held.length).map (· + 1), x ∈ held := by
        intro x hx
        rcases List.mem_cons.1 hx with rfl | hx
        · exact hs
        · obtain ⟨j, hj, rfl⟩ := List.mem_map.1 hx
          have hj' := List.mem_range.1 hj
          have := hall j hj'
          rwa [show (1 - 1 + j) % top = j from by rw [Nat.sub_self, Nat.zero_add, Nat.mod_eq_of_lt (by omega)]] at this
      have distinct : (start :: (List.range held.length).map (· + 1)).Nodup := by
        refine List.nodup_cons.2 ⟨fun hx => ?_, List.nodup_range.map (add_left_injective 1)⟩
        obtain ⟨j, hj, rfl⟩ := List.mem_map.1 hx
        have := List.mem_range.1 hj
        omega
      have := (distinct.subperm all).length_le
      simp at this
    · rw [if_neg (by simpa using hs)]
      exact hs

/-- A station's next number is held by no transaction. -/
theorem nextNumber_free {st : Station} (h : transactionsOk s) :
    ({ station := st, seq := nextNumber st s } : Ref) ∉ heldRefs s := by
  obtain ⟨-, hott, hlate⟩ := h
  have few : (heldSequences st s).length < Config.topSequence := by
    have : (heldSequences st s).length ≤ (heldRefs s).length := by
      unfold heldSequences heldRefs
      rw [List.length_map]
      exact List.length_filter_le _ _
    unfold heldRefs at this
    simp only [List.length_append, List.length_map, Config.ottCapacity, Config.lateCapacity, Config.topSequence] at *
    omega
  intro hm
  refine passOver_free (start := s.ttr.seqs.get st) few ?_
  exact List.mem_map.2 ⟨_, List.mem_filter.2 ⟨hm, by simp⟩, rfl⟩

theorem acceptRequest_moves {q : Admitted} {leg : Option Leg} (hk : K .enter) (hf : Config.ottSlots ≤ t.jrn.free)
    (hl : t.ttr.ott.length < Config.ottCapacity) (hr : reversalSum t < Config.reversalCommitment)
    (hn : K .loose ∨ q.ref ∉ heldRefs t) (h : Moves K s t) : Moves K s (acceptRequest q leg t) :=
  composeInput_moves (onBlc_moves (fun _ => by rfl) (reserveLeg_moves (h.step (.enter _ t hk hf hl hr hn))))

theorem onlinePath_moves {q : Admitted} (hk : K .enter) (hf : Config.ottSlots ≤ t.jrn.free)
    (hl : t.ttr.ott.length < Config.ottCapacity) (hn : K .loose ∨ q.ref ∉ heldRefs t) (h : Moves K s t) :
    Moves K s (onlinePath q t) := by
  unfold onlinePath
  split
  · exact refusalScreen_moves h
  · split
    · exact refusalScreen_moves h
    · exact acceptRequest_moves hk hf hl (by omega) hn h

/-- A stand-in request that passes its checks finds a general place, and a debit finds its map entry or a place for one. -/
theorem standinRefusal_none {q : Admitted} (h : standinRefusal q s = none) :
    generalRoom s = true ∧ ∀ a acc, q.found.amount = some a → q.tct.cashDirection = .cashOut → q.found.account = some acc →
      mapEntry acc s = none → s.sda.accountMap.length < 64 := by
  unfold standinRefusal at h
  split at h
  · next hn =>
    refine ⟨by simpa using h, fun a acc ha => ?_⟩
    rw [hn] at ha; cases ha
  · next a ha =>
    split at h
    · cases h
    · split at h
      · cases h
      · split at h
        · cases h
        · next hm =>
          refine ⟨by simpa using h, fun a' acc ha' hd hacc hn => ?_⟩
          simp only [hd, if_true, mapRefusal, hacc, hn] at hm
          split at hm
          · cases hm
          · next hlen => exact Nat.lt_of_not_le hlen

/-- A leg stands only where the code has a direction and the request an amount. -/
theorem legOf_some {q : Admitted} {g : Leg} (h : legOf q s = .ok (some g)) :
    g.dir = q.tct.cashDirection ∧ q.tct.cashDirection ≠ .noCash ∧ q.found.amount = some g.exact := by
  unfold legOf at h
  split at h
  · cases h
  · cases h
  · next a ha hd =>
    split at h
    · cases h
    · next leg hleg =>
      cases h
      unfold cashChecks at hleg
      split at hleg
      · cases hleg
      · split at hleg
        · cases hleg
        · dsimp only at hleg
          split at hleg
          · cases hleg
          · cases hleg
            exact ⟨rfl, fun h => hd h, ha⟩

theorem approveStandin_moves {q : Admitted} {leg : Option Leg} (hr : standinRefusal q t = none) (hl : legOf q t = .ok leg)
    (h : Moves K s t) : Moves K s (approveStandin q leg t) := by
  obtain ⟨room, places⟩ := standinRefusal_none hr
  have posted : Moves K s (postStandinLeg q.st q.teller leg t) := by
    unfold postStandinLeg
    split
    · exact postStandin_moves h
    · exact h
  have same : (postStandinLeg q.st q.teller leg t).sda = t.sda := by simp
  have debit : Moves K s (standinDebit q leg (postStandinLeg q.st q.teller leg t)) := by
    unfold standinDebit
    split
    · next g acc hacc =>
      split
      · next hd =>
        obtain ⟨hdir, -, ham⟩ := legOf_some hl
        refine recordDebit_moves (fun hn => ?_) posted
        rw [same]
        refine places _ acc ham (hdir ▸ hd) hacc ?_
        simpa [mapEntry, same] using hn
      · exact posted
    · exact posted
  have queue : (standinDebit q leg (postStandinLeg q.st q.teller leg t)).sda.queue = t.sda.queue := by simp
  have room' : generalRoom (standinDebit q leg (postStandinLeg q.st q.teller leg t)) = true := by
    unfold generalRoom queueCount at *
    rw [queue]; exact room
  have queued := debit.step (.standin (standinBody q leg t.mrs.clock) _ rfl room')
  have written := writeEntry_moves (d := standinDraft q leg) queued
  unfold approveStandin pulseFor
  refine composeResult_moves ?_
  split
  · split
    · exact written
    · exact requestPulse_moves written
  · exact written

theorem standinPath_moves {q : Admitted} (h : Moves K s t) : Moves K s (standinPath q t) := by
  unfold standinPath
  split
  · exact refusalScreen_moves h
  · split
    · exact refusalScreen_moves h
    · exact approveStandin_moves (by assumption) (by assumption) h

/-- Where a day class finds journal room, the 4 slots of an OTT entry are free. -/
theorem journalRoom_slots {cls : DayClass} (h : journalRoom cls s = true) : Config.ottSlots ≤ s.jrn.free := by
  unfold journalRoom at h
  cases cls with
  | customer => exact le_trans (by decide) (of_decide_eq_true h)
  | admin => exact of_decide_eq_true h

/-- A station within its depth finds a place in the OTT. -/
theorem depthRefusal_none {st : Station} (h : depthRefusal st s = none) : s.ttr.ott.length < Config.ottCapacity := by
  unfold depthRefusal at h
  split at h
  · cases h
  · split at h
    · cases h
    · omega

theorem routeRequest_moves {st : Station} {n : Nat} {rec : TctRec} {r : KeyRequest} {fields : List KeyField}
    {found : Found} {ref : Ref} (hk : K .enter) (hn : K .loose ∨ ref ∉ heldRefs t) (h : Moves K s t) :
    Moves K s (routeRequest st n rec r fields found ref t) := by
  unfold routeRequest
  split
  · exact refusalScreen_moves h
  · next room =>
    split
    · exact refusalScreen_moves h
    · next deep =>
      split
      · exact refusalScreen_moves h
      · dsimp only
        split
        · split
          · exact standinPath_moves h
          · exact refusalScreen_moves h
        · exact onlinePath_moves hk (journalRoom_slots (by simpa using room)) (depthRefusal_none deep) hn h

theorem admitRequest_moves {st : Station} {rec : TctRec} {r : KeyRequest} {fields : List KeyField} {found : Found}
    {ref : Ref} (hk : K .enter) (hr : (lineOf st t).setup.role = .teller) (hn : K .loose ∨ ref ∉ heldRefs t)
    (h : Moves K s t) : Moves K s (admitRequest st rec r fields found ref t) := by
  unfold admitRequest
  split
  · exact refusalScreen_moves h
  · split
    · exact refusalScreen_moves h
    · split
      · unfold routeLocal
        split
        · exact refusalScreen_moves h
        · exact handLocal_moves hk hr h
      · exact h
      · exact routeRequest_moves hk hn h
      · exact routeRequest_moves hk hn h
      · exact h

theorem takeKeyRequest_moves {st : Station} {r : KeyRequest} (hk : K .enter) (hr : (lineOf st t).setup.role = .teller)
    (hn : K .loose ∨ transactionsOk t) (h : Moves K s t) : Moves K s (takeKeyRequest st r t) := by
  unfold takeKeyRequest
  split
  · exact refusalScreen_moves h
  · split
    · exact refusalScreen_moves h
    · split
      · exact refusalScreen_moves h
      · refine admitRequest_moves hk (by simpa [lineOf] using hr) (hn.imp_right fun k => ?_) (giveNumber_moves h)
        simpa [heldRefs] using nextNumber_free k

theorem takeFormCall_moves {st : Station} {code : Nat} (h : Moves K s t) : Moves K s (takeFormCall st code t) := by
  unfold takeFormCall
  split
  · exact composeWith_moves h
  · split
    · exact composeWith_moves h
    · exact composeInput_moves h

/-! ## The lines -/

/-- A line of the same setup is well kept if its buffer has room where the other's has, and it has no traffic where the other,
being OFF, has none. -/
theorem lineOk_of_setup {k l : Line} (hs : l.setup = k.setup)
    (hb : k.buffer.length + pollHolds k ≤ Config.receivePlaces → l.buffer.length + pollHolds l ≤ Config.receivePlaces)
    (ho : k.setup.role = .off → k.exchange = none ∧ k.buffer = [] ∧ k.drops = ⟨none, none, none⟩ →
      l.exchange = none ∧ l.buffer = [] ∧ l.drops = ⟨none, none, none⟩) (h : lineOk k) : lineOk l := by
  obtain ⟨d1, d2, mk, mm, fs, buf, off⟩ := h
  unfold lineOk
  rw [hs]
  exact ⟨d1, d2, mk, mm, fs, hb buf, fun hr => ho hr (off hr)⟩

/-- Where no drop has a state, changing the state of one leaves it so. -/
theorem noDrops_set (d : Drop) (f : DropStatus → DropStatus) :
    (⟨none, none, none⟩ : Three (Option DropStatus)).set d
      (((⟨none, none, none⟩ : Three (Option DropStatus)).get d).map f) = ⟨none, none, none⟩ := by
  cases d <;> rfl

theorem onDrop_moves {st : Station} {d : Drop} {f : DropStatus → DropStatus} (h : Moves K s t) :
    Moves K s (onDrop st d f t) := by
  refine onLine_moves ⟨by rfl, by rfl, lineOk_of_setup (by rfl) (fun k => by exact k) fun _ ⟨he, hb, hd⟩ => ⟨he, hb, ?_⟩⟩ h
  simp only [hd]
  exact noDrops_set d f

theorem tellUp_moves {st : Station} {d : Drop} (h : Moves K s t) : Moves K s (tellUp st d t) := by
  unfold tellUp
  split
  · exact takePrinterUp_moves h
  · exact pendImage_moves h
  · exact pendImage_moves h
  · exact h
  · exact h

theorem responded_moves {st : Station} {d : Drop} (h : Moves K s t) : Moves K s (responded st d t) := by
  unfold responded
  dsimp only
  split
  · exact onDrop_moves h
  · exact tellUp_moves (onDrop_moves h)

theorem missed_moves {st : Station} {d : Drop} (h : Moves K s t) : Moves K s (missed st d t) := by
  unfold missed
  split
  · exact h
  · split
    · exact h
    · split
      · unfold dropDown
        dsimp only
        split
        · exact takePrinterDown_moves (raise_moves (by simp) (onDrop_moves h))
        · exact raise_moves (by simp) (onDrop_moves h)
      · exact onDrop_moves h

theorem countCheckError_moves {st : Station} (h : Moves K s t) : Moves K s (countCheckError st t) :=
  onLine_moves ⟨by rfl, by rfl, fun k => by exact k⟩ h

theorem countFraming_moves {st : Station} (h : Moves K s t) : Moves K s (countFraming st t) :=
  onLine_moves ⟨by rfl, by rfl, fun k => by exact k⟩ h

theorem countNoResponse_moves {st : Station} (h : Moves K s t) : Moves K s (countNoResponse st t) :=
  onLine_moves ⟨by rfl, by rfl, fun k => by exact k⟩ h

theorem unsolicited_moves {st : Station} (h : Moves K s t) : Moves K s (unsolicited st t) := by
  unfold unsolicited
  split
  · exact h
  · exact onLine_moves ⟨by rfl, by rfl, fun k => by exact k⟩ h

theorem endExchange_moves {st : Station} (h : Moves K s t) : Moves K s (endExchange st t) :=
  onLine_moves ⟨by rfl, by rfl, lineOk_of_setup (by rfl) (fun k => le_trans (Nat.add_le_add_left (Nat.zero_le _) _) k)
    fun _ ⟨_, hb, hd⟩ => ⟨rfl, hb, hd⟩⟩ h

theorem failExchange_moves {st : Station} {count : State → State} (hc : ∀ u, Moves K s u → Moves K s (count u))
    (h : Moves K s t) : Moves K s (failExchange st count t) := by
  unfold failExchange
  split
  · exact h
  · exact missed_moves (hc _ (endExchange_moves h))

theorem pollChoice_room {l : Line} {d : Drop} (h : pollChoice l = some d) : l.buffer.length < Config.receivePlaces := by
  unfold pollChoice at h
  split at h
  · assumption
  · cases h

theorem issuePoll_moves {st : Station} {d : Drop} (hr : (lineOf st t).setup.role ≠ .off)
    (hp : (lineOf st t).buffer.length < Config.receivePlaces) (h : Moves K s t) : Moves K s (issuePoll st d t) := by
  unfold issuePoll
  exact onLine_moves ⟨by rfl, by rfl, lineOk_of_setup (by rfl) (fun _ => by exact hp) fun k => absurd k hr⟩ h

theorem issueSelect_moves {st : Station} {d : Drop} {i : SelectItem} (hr : (lineOf st t).setup.role ≠ .off)
    (h : Moves K s t) : Moves K s (issueSelect st d i t) :=
  noteCopy_moves (onLine_moves ⟨by rfl, by rfl, lineOk_of_setup (by rfl)
    (fun k => le_trans (Nat.add_le_add_left (Nat.zero_le _) _) k) fun k => absurd k hr⟩ h)

theorem issueNext_moves {st : Station} (hr : (lineOf st t).setup.role ≠ .off) (h : Moves K s t) :
    Moves K s (issueNext st t) := by
  unfold issueNext
  dsimp only
  split
  · exact issuePoll_moves hr (pollChoice_room (by assumption)) h
  · exact issueSelect_moves hr h
  · exact issueSelect_moves hr h
  · exact issuePoll_moves hr (pollChoice_room (by assumption)) h
  · exact h

theorem frameAnswer_moves {st : Station} {d : Drop} {f : DropFrame} (hk : K (.frame st)) (h : Moves K s t) :
    Moves K s (frameAnswer st d f t) := by
  unfold frameAnswer
  dsimp only
  split
  · exact (responded_moves (endExchange_moves h)).step (.frame st d f _ hk)
  · exact countCheckError_moves (responded_moves (endExchange_moves h))

theorem outputAccepted_moves {st : Station} {item : SelectItem} (h : Moves K s t) :
    Moves K s (outputAccepted st item t) := by
  unfold outputAccepted
  split
  · exact imageAccepted_moves h
  · exact imageAccepted_moves h
  · exact itemAccepted_moves h
  · exact freeEntries_moves (h.step (.jrn _ t rfl rfl rfl rfl rfl rfl (.inl rfl)))

theorem judgeLoopFrame_moves {st : Station} {equal : Bool} (hk : K .tests) (h : Moves K s t) :
    Moves K s (judgeLoopFrame st equal t) := by
  unfold judgeLoopFrame
  split
  · exact h
  · split
    · dsimp only
      split
      · exact onBlc_moves (fun _ => by rfl) (onLine_moves ⟨by rfl, by rfl, fun k => by exact k⟩ h (.inl hk))
      · exact onLine_moves ⟨by rfl, by rfl, fun k => by exact k⟩ h (.inl hk)
    · exact h
    · exact h

/-! ## The discrete lines -/

theorem nextSample_moves (h : Moves K s t) : Moves K s (nextSample t) := h.step (.slc _ t (fun _ => ⟨by rfl, by rfl, id⟩) (.inr fun _ => by rfl))

theorem startDrawerTimer_moves {st : Station} (h : Moves K s t) : Moves K s (startDrawerTimer st t) :=
  onLine_moves ⟨by rfl, by rfl, fun k => by exact k⟩ h

theorem endDrawerWatch_moves {st : Station} (h : Moves K s t) : Moves K s (endDrawerWatch st t) := by
  unfold endDrawerWatch
  dsimp only
  split
  · exact refresh_moves (onLine_moves ⟨by rfl, by rfl, fun k => by exact k⟩ h)
  · exact onLine_moves ⟨by rfl, by rfl, fun k => by exact k⟩ h

theorem answer_moves {id : Nat} {status : MgmtStatus} {content : ReplyContent} (h : Moves K s t) :
    Moves K s (answer id status content t) := onBlc_moves (fun _ => by rfl) h

theorem refuseRequest_moves {id : Nat} {why : MgmtStatus} (h : Moves K s t) : Moves K s (refuseRequest id why t) :=
  answer_moves h

theorem takeLineControl_moves {id station op : Nat} {mask : Four Bool} (h : Moves K s t) :
    Moves K s (takeLineControl id station op mask t) := by
  unfold takeLineControl
  split
  · exact answer_moves (nextSample_moves (onLine_moves ⟨by rfl, by rfl, fun k => by exact k⟩ h))
  · exact refuseRequest_moves h

/-! ## The link -/

theorem restartSilence_moves (h : Moves K s t) : Moves K s (restartSilence t) := onBlc_moves (fun _ => by rfl) h

theorem validFrame_moves (h : Moves K s t) : Moves K s (validFrame t) := by
  unfold validFrame
  split
  · exact refreshAll_moves (raise_moves (by decide) (restartSilence_moves (onBlc_moves (fun _ => by rfl) h)))
  · exact restartSilence_moves h

theorem settlementLinkLost_moves (h : Moves K s t) : Moves K s (settlementLinkLost t) := onSettlement_moves h

theorem loseLink_moves (hk : K .loose ∨ transactionsOk t) (h : Moves K s t) : Moves K s (loseLink t) :=
  refreshAll_moves (settlementLinkLost_moves ((returnAllUnsent_moves (endQueued_moves (by simpa [transactionsOk, heldRefs] using hk) (raise_moves (by decide)
    (onBlc_moves (fun _ => by rfl) h)))).step (.jrn _ _ rfl rfl rfl rfl rfl rfl (.inl rfl))))

theorem removeAdvice_moves {a : Advice} (h : Moves K s t) : Moves K s (removeAdvice a t) := by
  have gone : Moves K s (alarmEnded a
      (onSda (fun d => { d with queue := d.queue.filter fun q => !isSentNumber a.number q }) t)) := by
    unfold alarmEnded
    split
    · exact pendBoth_moves (h.step (.drop _ t))
    · exact h.step (.drop _ t)
  unfold removeAdvice recoverLink
  split
  · exact refreshAll_moves (onBlc_moves (fun _ => by rfl) gone)
  · exact gone

theorem unmatchedAck_moves (h : Moves K s t) : Moves K s (unmatchedAck t) := unmatchedAcks_moves h

theorem takeAdviceAck_moves {a : Option Ack} (h : Moves K s t) : Moves K s (takeAdviceAck a t) := by
  unfold takeAdviceAck
  split
  · exact unmatchedAck_moves h
  · split
    · exact removeAdvice_moves h
    · exact writeEntry_moves (raise_moves (by decide) (removeAdvice_moves h))
    · exact unmatchedAck_moves h
    · exact unmatchedAck_moves h

theorem unmatchedBatchAck_moves (h : Moves K s t) : Moves K s (unmatchedBatchAck t) :=
  h.step (.jrn _ t rfl rfl rfl rfl rfl rfl (.inl rfl))

theorem answerTrickle_moves {b : TrickleBatch} {ok : Bool} (hk : K .accept) (h : Moves K s t) :
    Moves K s (answerTrickle b ok t) := by
  unfold answerTrickle
  split
  · exact phaseAfterAcceptance_moves (acceptSequence_moves hk (h.step (.jrn _ t rfl rfl rfl rfl rfl rfl (.inl rfl))))
  · exact h.step (.jrn _ t rfl rfl rfl rfl rfl rfl (.inl rfl))

theorem takeBatchAck_moves {a : Option Ack} (hk : K .accept) (h : Moves K s t) : Moves K s (takeBatchAck a t) := by
  unfold takeBatchAck
  split
  · exact unmatchedBatchAck_moves h
  · split
    · exact unmatchedBatchAck_moves h
    · split
      · exact answerTrickle_moves hk h
      · split
        · exact settlementAccepted_moves hk h
        · exact settlementFails_moves h
      · exact unmatchedBatchAck_moves h

theorem countFrameForm_moves (h : Moves K s t) : Moves K s (countFrameForm t) := onBlc_moves (fun _ => by rfl) h

theorem takeLinkCheck_moves {n : Option Nat} (h : Moves K s t) : Moves K s (takeLinkCheck n t) := by
  unfold takeLinkCheck
  split
  · exact onBlc_moves (fun _ => by rfl) h
  · exact countFrameForm_moves h

theorem placeRequest_moves {id : Nat} {r : MgmtRequest} (h : Moves K s t) : Moves K s (placeRequest id r t) := by
  unfold placeRequest
  split
  · exact h.step (.mrs _ t rfl rfl fun k => k)
  · exact countOverrun_moves h

theorem dispatch_moves {k : InboundKind} {dest : Nat} {payload : Bytes} (ha : K .accept)
    (h : Moves K s t) : Moves K s (dispatch k dest payload t) := by
  unfold dispatch
  split
  · split
    · exact judgeSettle_moves (takeReply_moves h)
    · exact h
  · split
    · exact placeRequest_moves h
    · exact countFrameForm_moves h
  · exact judgeSettle_moves (takeAdviceAck_moves h)
  · exact takeBatchAck_moves ha h
  · exact takeLinkCheck_moves h

theorem setReassembly_moves {r : Option Reassembly} (h : Moves K s t) : Moves K s (setReassembly r t) := onBlc_moves (fun _ => by rfl) h

theorem discardPart_moves (h : Moves K s t) : Moves K s (discardPart t) := by
  unfold discardPart
  split
  · exact countFrameForm_moves (setReassembly_moves h)
  · exact h

theorem takeFirstSegment_moves {k : InboundKind} {dest segment : Nat} {last : Bool} {payload : Bytes}
    (ha : K .accept) (h : Moves K s t) : Moves K s (takeFirstSegment k dest segment last payload t) := by
  unfold takeFirstSegment
  split
  · split
    · exact dispatch_moves ha h
    · exact setReassembly_moves h
  · exact countFrameForm_moves h

theorem gather_moves {k : InboundKind} {dest segment : Nat} {last : Bool} {payload : Bytes}
    (ha : K .accept) (h : Moves K s t) : Moves K s (gather k dest segment last payload t) := by
  unfold gather
  split
  · exact takeFirstSegment_moves ha h
  · split
    · unfold takeNextSegment
      split
      · exact dispatch_moves ha (setReassembly_moves h)
      · split
        · exact countFrameForm_moves (setReassembly_moves h)
        · exact setReassembly_moves h
    · exact takeFirstSegment_moves ha (discardPart_moves h)

theorem arrive_moves (h : Moves K s t) : Moves K s (arrive t) := discardPart_moves (validFrame_moves h)

theorem ownerSent_moves {c : OutClass} {m : OutMsg} (hn : K .notice) (h : Moves K s t) :
    Moves K s (ownerSent c m t) := by
  unfold ownerSent
  split
  · exact onBlc_moves (fun _ => by rfl) h
  · exact adviceSent_moves h
  · exact adviceSent_moves h
  · exact (onBlc_moves (fun _ => by rfl) h).step (.mrs _ _ rfl rfl fun k => k)
  · refine (onBlc_moves (fun _ => by rfl) h).step (.await _ _ fun e => ?_)
    split <;> rfl
  · exact settlementSent_moves h
  · exact h.step (.notice t hn)
  · exact trickleSent_moves h
  · exact h

end Sys2Proof.Machine
end

section
/-! SUPPORT. The setups, the line tests, the tables and the management requests as chains of elementary moves; and with
them every command but START, with the wider kinds of moves that it makes. -/

namespace Sys2Proof.Machine
open Sys2Proof

variable {K : Wide → Prop} {s t : State}

/-! ## Setups -/

theorem rewatchDrawer_moves {st : Station} {old new : Option DiscreteLine} (h : Moves K s t) :
    Moves K s (rewatchDrawer st old new t) := by
  unfold rewatchDrawer
  split
  · exact h
  · split
    · exact endDrawerWatch_moves h
    · next d =>
      extract_lets level s1
      have found : Moves K s s1 := nextSample_moves (onLine_moves ⟨by rfl, by rfl, fun k => by exact k⟩ (endDrawerWatch_moves h))
      split
      · exact startDrawerTimer_moves found
      · exact found

theorem onLineRole_moves {st : Station} {f : Line → Line} (hk : K (.roles st)) (h : Moves K s t)
    (ht : (f (lineOf st t)).test = (lineOf st t).test := by exact rfl) : Moves K s (onLine st f t) :=
  h.step (.roles st f t hk ht)

theorem replaceSetup_moves {st : Station} {x : LineSetup} (hk : K (.roles st)) (h : Moves K s t) :
    Moves K s (replaceSetup st x t) := rewatchDrawer_moves (onLineRole_moves hk h)

/-- The images of a context with nothing composed yet are whole. -/
theorem imageOk_empty (m : ScreenMode) : imageOk (emptyContext m).terminal.rows ∧ imageOk (emptyContext m).mirror := by
  have blank : imageOk (List.replicate Config.mainRows blankRow ++ [blankRow]) := by
    refine ⟨by simp, fun r hr => ?_⟩
    have : r = blankRow := (List.mem_append.1 hr).elim List.eq_of_mem_replicate List.mem_singleton.1
    subst this
    simp [blankRow]
  exact ⟨blank, blank⟩

theorem emptyContext_moves {st : Station} {m : ScreenMode} (hk : K (.screens st)) (h : Moves K s t) :
    Moves K s (setContext st (some (emptyContext m)) t) :=
  h.step (.screens _ _ t hk fun x hx => by cases hx; exact imageOk_empty m)

theorem freshContext_moves {st : Station} (hk : K (.screens st)) (h : Moves K s t) : Moves K s (freshContext st t) := by
  unfold freshContext
  split
  · exact composePrompt_moves (emptyContext_moves hk h)
  · exact refresh_moves (emptyContext_moves hk h)

theorem makePrinter_moves {st : Station} (hk : K (.printers st)) (h : Moves K s t) : Moves K s (makePrinter st t) := by
  unfold makePrinter
  refine h.step (.printers _ _ t hk fun x hx => ?_)
  split at hx
  · cases hx; rfl
  · cases hx

theorem takeRole_moves {st : Station} (hr : K (.roles st)) (hs : K (.screens st)) (hp : K (.printers st)) (h : Moves K s t) :
    Moves K s (takeRole st t) := by
  unfold takeRole
  dsimp only
  split
  · exact freshContext_moves hs (makePrinter_moves hp (onLineRole_moves hr h))
  · exact (onLineRole_moves hr h).step (.jrn _ _ rfl rfl rfl rfl rfl rfl (.inl rfl))
  · exact onLineRole_moves hr h

theorem signOffAt_moves {st : Station} (h : Moves K s t) : Moves K s (signOffAt st t) := by
  unfold signOffAt
  split
  · exact signOff_moves h
  · exact h

theorem setTellerOff_moves {st : Station} (ht : K .loose ∨ transactionsOk t) (hr : K (.roles st)) (hs : K (.screens st)) (hp : K (.printers st))
    (h : Moves K s t) : Moves K s (setTellerOff st t) :=
  onLineRole_moves hr (removePrinter_moves hp (abandonAll_moves (by simpa [transactionsOk, heldRefs, clearContext] using ht)
    ((signOffAt_moves h).step (.screens st none _ hs (by simp)))))

theorem setOff_moves {st : Station} (ht : K .loose ∨ transactionsOk t) (hr : K (.roles st)) (hs : K (.screens st)) (hp : K (.printers st))
    (h : Moves K s t) : Moves K s (setOff st t) := by
  unfold setOff
  split
  · exact setTellerOff_moves ht hr hs hp h
  · exact freeEntries_moves (onLineRole_moves hr h)
  · exact h

theorem carrySetup_moves {st : Station} {x : LineSetup} (ht : K .loose ∨ transactionsOk t) (hr : K (.roles st))
    (hs : K (.screens st)) (hp : K (.printers st)) (h : Moves K s t) : Moves K s (carrySetup st x t) := by
  unfold carrySetup
  split
  · exact replaceSetup_moves hr h
  · exact takeRole_moves hr hs hp (replaceSetup_moves hr h)
  · exact replaceSetup_moves hr (setOff_moves ht hr hs hp h)
  · exact onLineRole_moves hr h

theorem takeLineSetup_moves {id : Nat} {r : LineSetupRequest} (ht : K .loose ∨ transactionsOk t) (hr : ∀ st, K (.roles st))
    (hs : ∀ st, K (.screens st)) (hp : ∀ st, K (.printers st)) (h : Moves K s t) : Moves K s (takeLineSetup id r t) := by
  unfold takeLineSetup
  split
  · split
    · exact refuseRequest_moves h
    · exact answer_moves (carrySetup_moves ht (hr _) (hs _) (hp _) h)
  · exact refuseRequest_moves h

theorem takeStop_moves {id : Nat} {st : Station} (hk : K .tests) (h : Moves K s t) : Moves K s (takeStop id st t) := by
  unfold takeStop
  dsimp only
  split
  · exact answer_moves h
  · split
    · exact onLine_moves ⟨by rfl, by rfl, fun k => by exact k⟩ h (.inl hk)
    · exact answer_moves (onLine_moves ⟨by rfl, by rfl, fun k => by exact k⟩ h (.inl hk))
    · exact answer_moves h

theorem takeLineTest_moves {id line mode count : Nat} (hk : K .tests) (h : Moves K s t) :
    Moves K s (takeLineTest id line mode count t) := by
  unfold takeLineTest
  split
  · exact refuseRequest_moves h
  · dsimp only
    split
    · exact refuseRequest_moves h
    · split
      · exact refuseRequest_moves h
      · split
        · exact takeStop_moves hk h
        · split
          · exact refuseRequest_moves h
          · split
            · exact answer_moves (onLine_moves ⟨by rfl, by rfl, fun k => by exact k⟩ h (.inl hk))
            · exact answer_moves (onLine_moves ⟨by rfl, by rfl, fun k => by exact k⟩ h (.inl hk))

/-- A line that is OFF has no present drop. -/
theorem freshDrops_off {x : LineSetup} (h : x.role = .off) : freshDrops x = ⟨none, none, none⟩ := by
  simp [freshDrops, Three.ofFn, dropPresent, h]

theorem sameRole_resetLine (l : Line) : sameRole l (resetLine l) :=
  ⟨rfl, rfl, lineOk_of_setup rfl (fun _ => Nat.zero_le _) fun hr _ => ⟨rfl, rfl, freshDrops_off hr⟩⟩

theorem takeLineReset_moves {id line : Nat} (hk : K .tests) (h : Moves K s t) : Moves K s (takeLineReset id line t) := by
  unfold takeLineReset
  split
  · exact refuseRequest_moves h
  · exact answer_moves (pendBoth_moves (onLine_moves (sameRole_resetLine _) h (.inl hk)))

/-! ## Tables -/

theorem onTbl_moves {f : Tbl → Tbl} (hf : (f t.tbl).dnt = t.tbl.dnt) (h : Moves K s t) : Moves K s (onTbl f t) :=
  h.step (.tbl f t hf)

theorem endLoad_moves (h : Moves K s t) : Moves K s (endLoad t) := onTbl_moves (by rfl) h

/-- A checked denomination table is not refused by a denomination in use. -/
def unusedTable (c : CheckedTable) (s : State) : Prop := ∀ h rs, c = .dnt h rs → dntInUse rs s = none

theorem activate_moves {c : CheckedTable} {n : Nat} (hc : unusedTable c t) (h : Moves K s t) : Moves K s (activate c n t) := by
  unfold activate
  cases c with
  | dnt x rs => exact h.step (.dnt x rs n t (hc x rs rfl))
  | tct | sft | tlt | plt => exact onTbl_moves (by rfl) h

theorem unlessRefused_ok {c d : CheckedTable} {o : Option MgmtStatus} (h : unlessRefused c o = .ok d) : o = none ∧ d = c := by
  cases o with
  | some why => cases h
  | none => cases h; exact ⟨rfl, rfl⟩

theorem unused_of_checkDntTable {x : DntHeader} {rs : List RawDnt} {c : CheckedTable} (h : checkDntTable x rs s = .ok c) :
    unusedTable c s := by
  unfold checkDntTable at h
  split at h
  · cases h
  · split at h
    · cases h
    · obtain ⟨hn, rfl⟩ := unlessRefused_ok h
      intro y ys hy
      cases hy
      exact hn

/-- A table that the commit check passes holds every denomination in use. -/
theorem unused_of_commitCheck {b : FragmentBody} {c : CheckedTable} (h : commitCheck b s = .ok c) : unusedTable c s := by
  cases b with
  | dnt x rs =>
    unfold commitCheck commitCheckDnt at h
    dsimp only at h
    split at h
    · cases h
    · split at h
      · cases h
      · exact unused_of_checkDntTable h
  | plt rs =>
    unfold commitCheck at h
    dsimp only at h
    split at h
    · cases h
    · cases h; intro y ys hy; cases hy
  | tlt x rs =>
    unfold commitCheck at h
    dsimp only at h
    split at h
    · cases h
    · split at h
      · cases h
      · obtain ⟨-, rfl⟩ := unlessRefused_ok h
        intro y ys hy; cases hy
  | tct rs | sft rs =>
    unfold commitCheck at h
    dsimp only at h
    split at h
    · cases h
    · obtain ⟨-, rfl⟩ := unlessRefused_ok h
      intro y ys hy; cases hy

theorem recomposePrompt_moves {st : Station} (h : Moves K s t) : Moves K s (recomposePrompt st t) := by
  unfold recomposePrompt
  split
  · split
    · exact composePrompt_moves h
    · exact h
  · exact h

theorem commitTable_moves {c : CheckedTable} {n : Nat} (hc : unusedTable c t) (h : Moves K s t) : Moves K s (commitTable c n t) := by
  have written := writeEntry_moves (d := tableDraft (checkedId c) n (checkedCount c))
    (endLoad_moves (activate_moves (c := c) (n := n) hc h))
  unfold commitTable
  dsimp only
  split
  · exact forStations_moves (fun _ _ => recomposePrompt_moves) written
  · exact written

theorem fillShadow_moves {id : Nat} {f : Fragment} {b : FragmentBody} (h : Moves K s t) :
    Moves K s (fillShadow id f b t) := by
  unfold fillShadow
  split
  · exact refuseRequest_moves (endLoad_moves h)
  · split
    · split
      · exact refuseRequest_moves (endLoad_moves h)
      · next hc => exact answer_moves (commitTable_moves (unused_of_commitCheck hc) h)
    · exact answer_moves (onTbl_moves (by rfl) h)

theorem takeFragment_moves {id : Nat} {f : Fragment} (h : Moves K s t) : Moves K s (takeFragment id f t) := by
  unfold takeFragment
  split
  · exact refuseRequest_moves h
  · split
    · split
      · exact fillShadow_moves h
      · exact refuseRequest_moves h
    · split
      · exact refuseRequest_moves h
      · split
        · exact fillShadow_moves h
        · split
          · exact refuseRequest_moves (endLoad_moves h)
          · exact fillShadow_moves h

theorem takeTableAbort_moves {id : Nat} (h : Moves K s t) : Moves K s (takeTableAbort id t) := by
  unfold takeTableAbort
  split
  · exact answer_moves (endLoad_moves h)
  · exact refuseRequest_moves h

theorem takeTableRead_moves {id table first : Nat} (h : Moves K s t) : Moves K s (takeTableRead id table first t) := by
  unfold takeTableRead
  split
  · exact refuseRequest_moves h
  · split
    · exact refuseRequest_moves h
    · exact answer_moves h

/-! ## Management -/

/-- A clamped value lies in its range. -/
theorem clampNat_range {lo hi : Nat} (h : lo ≤ hi) (v : Nat) : lo ≤ clampNat lo hi v ∧ clampNat lo hi v ≤ hi := by
  unfold clampNat
  split
  · omega
  · split <;> omega

/-- Writing one setting keeps the settings within their ranges. -/
theorem settingsOk_writeSetting {x : Settings} (i : SettingName × Nat) (h : settingsOk x) : settingsOk (writeSetting x i) := by
  obtain ⟨name, v⟩ := i
  obtain ⟨silence, advice, batch, turn, drawer, water⟩ := h
  cases name with
  | linkSilence => exact ⟨clampNat_range (by decide) v, advice, batch, turn, drawer, water⟩
  | adviceAck => exact ⟨silence, clampNat_range (by decide) v, batch, turn, drawer, water⟩
  | batchAck => exact ⟨silence, advice, clampNat_range (by decide) v, turn, drawer, water⟩
  | pageTurn => exact ⟨silence, advice, batch, clampNat_range (by decide) v, drawer, water⟩
  | drawerOpen => exact ⟨silence, advice, batch, turn, clampNat_range (by decide) v, water⟩
  | highWater => exact ⟨silence, advice, batch, turn, drawer, clampNat_range (by decide) v⟩
  | journalMode => exact ⟨silence, advice, batch, turn, drawer, water⟩

theorem settingsOk_foldl {x : Settings} (items : List (SettingName × Nat)) (h : settingsOk x) :
    settingsOk (items.foldl writeSetting x) := by
  induction items generalizing x with
  | nil => exact h
  | cons i rest ih => exact ih (settingsOk_writeSetting i h)

theorem takeSettingsWrite_moves {id : Nat} {items : List (SettingName × Nat)} (h : Moves K s t) :
    Moves K s (takeSettingsWrite id items t) := by
  unfold takeSettingsWrite
  split
  · exact refuseRequest_moves h
  · extract_lets s1
    have set : Moves K s s1 := h.step (.mrs _ t rfl rfl (settingsOk_foldl items))
    split
    · exact answer_moves set
    · exact answer_moves set

theorem clearRead_moves {lines : List Nat} (hk : K .reads) (h : Moves K s t) : Moves K s (clearRead lines t) := by
  unfold clearRead
  refine Moves.step ?_ (.slc _ _ (fun st => ?_) (.inr fun st => ?_))
  · exact ((onBlc_moves (fun _ => by rfl) (h.step (.reads _ t hk rfl rfl rfl))).step (.records _ _ rfl rfl (by exact id))).step
      (.jrn _ _ rfl rfl rfl rfl rfl rfl (.inl rfl))
  · simp only [Eight.get_mapWith]
    split <;> exact ⟨by simp, by simp, fun k => by exact k⟩
  · simp only [Eight.get_mapWith]
    split <;> rfl

theorem takeStatusRead_moves {id : Nat} {lines : List Nat} (hk : K .reads) (h : Moves K s t) :
    Moves K s (takeStatusRead id lines t) := by
  unfold takeStatusRead
  split
  · exact answer_moves (clearRead_moves hk h)
  · exact refuseRequest_moves h

theorem takeClockSet_moves {id secs : Nat} (hk : K .clock) (h : Moves K s t) : Moves K s (takeClockSet id secs t) := by
  unfold takeClockSet
  split
  · next hs => exact answer_moves (h.step (.clock _ t hk hs))
  · exact refuseRequest_moves h

theorem takeDayCutoff_moves {id : Nat} (h : Moves K s t) : Moves K s (takeDayCutoff id t) := by
  unfold takeDayCutoff
  split
  · exact answer_moves (judgeSettle_moves (changeDay_moves h))
  · exact refuseRequest_moves h

theorem forceOff_moves {st : Station} (h : Moves K s t) : Moves K s (forceOff st t) := by
  unfold forceOff
  split
  · exact composePrompt_moves (signOff_moves h)
  · exact h

theorem takeDayForce_moves {id : Nat} (h : Moves K s t) : Moves K s (takeDayForce id t) := by
  unfold takeDayForce
  split
  · exact refuseRequest_moves h
  · split
    · exact refuseRequest_moves h
    · exact answer_moves (judgeSettle_moves (onDay_moves (forStations_moves (fun _ _ => forceOff_moves) h)))

theorem takeSettleRetry_moves {id : Nat} (h : Moves K s t) : Moves K s (takeSettleRetry id t) := by
  unfold takeSettleRetry
  split
  · exact refuseRequest_moves h
  · exact answer_moves (changeDay_moves (onSettlement_moves h))

theorem takeDateRoll_moves {id : Nat} {d : Date} (hk : K .roll) (h : Moves K s t) : Moves K s (takeDateRoll id d t) := by
  unfold takeDateRoll
  split
  · exact refuseRequest_moves h
  · exact answer_moves (rollDay_moves hk h)

theorem setBroadcast_moves {b : Option Broadcast} (h : Moves K s t) : Moves K s (setBroadcast b t) :=
  refreshAll_moves (h.step (.broadcast b t))

theorem takeBroadcast_moves {id : Nat} {text : Text} {expiry : Nat} (h : Moves K s t) :
    Moves K s (takeBroadcast id text expiry t) := by
  unfold takeBroadcast
  split
  · exact answer_moves (setBroadcast_moves h)
  · split
    · exact answer_moves (setBroadcast_moves h)
    · exact refuseRequest_moves h

/-! ## Every command -/

theorem withRequest_moves_of {id : Nat} {r : MgmtRequest} {act : State → State}
    (ha : ∀ u, u.ttr = t.ttr → Moves K s u → Moves K s (act u)) (h : Moves K s t) :
    Moves K s (withRequest id r act t) := by
  unfold withRequest
  split
  · exact h
  · split
    · split
      · exact ha _ rfl (h.step (.mrs _ t rfl rfl fun k => k))
      · exact h
    · split
      · exact ha _ rfl (h.step (.mrs _ t rfl rfl fun k => k))
      · exact countOverrun_moves h

theorem withRequest_moves {id : Nat} {r : MgmtRequest} {act : State → State} (ha : ∀ u, Moves K s u → Moves K s (act u))
    (h : Moves K s t) : Moves K s (withRequest id r act t) := withRequest_moves_of (fun u _ => ha u) h

theorem delivered_moves {st : Station} {d : Drop} {f : DropFrame} {u : State} (hd : delivered st d f t = some u)
    (h : Moves K s t) : Moves K s u := by
  unfold delivered at hd
  split at hd
  · cases hd
  · split at hd
    · cases hd; exact h
    · split at hd
      · next head rest hbuf _ =>
        cases hd
        refine onLine_moves ⟨by rfl, by rfl, lineOk_of_setup (by rfl) (fun k => ?_) fun _ ⟨_, hb, _⟩ => ?_⟩ h
        · have : rest.length + 1 + pollHolds (lineOf st t) ≤ Config.receivePlaces := by simpa [hbuf] using k
          exact le_trans (Nat.add_le_add_right (Nat.le_succ _) _) this
        · rw [hbuf] at hb; cases hb
      · cases hd

/-- The wider kinds of moves that each command but START may make; loose moves stand where a proposition says so. -/
def wideOf (loose : Prop) : Instr → Wide → Prop
  | _, .loose => loose
  | .keyRequest .., .enter => True
  | .dropFrame st _, .frame a => a = st
  | .inboundFrame _, .accept => True
  | .batchAck _, .accept => True
  | .transmit, .notice => True
  | .lineSetup .., .roles _ => True
  | .lineSetup .., .screens _ => True
  | .lineSetup .., .printers _ => True
  | .alarmInRising _, .alarm => True
  | .statusRead .., .reads => True
  | .clockSet .., .clock => True
  | .dateRoll .., .roll => True
  | .loopFrameReturn .., .tests => True
  | .loopFrameTimeout _, .tests => True
  | .lineTest .., .tests => True
  | .lineReset .., .tests => True
  | _, _ => False

/-- A frame is delivered at a line in role TELLER alone, whose transactions and role stand. -/
theorem delivered_teller {st : Station} {d : Drop} {f : DropFrame} {u : State} (hd : delivered st d f s = some u) :
    (lineOf st u).setup.role = .teller ∧ u.ttr = s.ttr := by
  unfold delivered at hd
  split at hd
  · cases hd
  · next hr =>
    have hr : (lineOf st s).setup.role = .teller := by simpa using hr
    split at hd
    · cases hd; exact ⟨hr, rfl⟩
    · split at hd
      · cases hd; exact ⟨by simpa using hr, by simp⟩
      · cases hd

/-- Every command but START is a chain of elementary moves, of its own kinds. -/
theorem exec_moves {c : Instr} (hc : c ≠ .start) (h : exec c s = .next t) :
    Moves (wideOf (¬ transactionsOk s) c) s t := by
  have start : ∀ K, Moves K s s := fun _ => .refl
  have held : ∀ c, wideOf (¬ transactionsOk s) c .loose ∨ transactionsOk s := fun c => by
    cases c <;> exact (em (transactionsOk s)).symm
  cases c with
  | start => exact absurd rfl hc
  | keyRequest st r =>
    simp only [exec, execKeyRequest] at h
    split at h <;> cases h
    · next u hd =>
      obtain ⟨hr, httr⟩ := delivered_teller hd
      refine judgeSettle_moves (takeKeyRequest_moves trivial hr ?_ (delivered_moves hd (start _)))
      simpa [transactionsOk, heldRefs, httr] using held (.keyRequest st r)
    · exact start _
  | formCall st code =>
    simp only [exec, execFormCall] at h
    split at h <;> cases h
    · exact takeFormCall_moves (delivered_moves (by assumption) (start _))
    · exact start _
  | stripeRead st b =>
    simp only [exec, execStripeRead] at h
    split at h <;> cases h
    · exact takeStripeRead_moves (delivered_moves (by assumption) (start _))
    · exact start _
  | bookRemoved st =>
    simp only [exec, execBookRemoved] at h
    split at h <;> cases h
    · exact takeBookRemoved_moves (delivered_moves (by assumption) (start _))
    · exact start _
  | lineDone st =>
    simp only [exec, execLineDone] at h
    split at h <;> cases h
    · exact takeLineDone_moves (delivered_moves (by assumption) (start _))
    · exact start _
  | writeDone st =>
    simp only [exec, execWriteDone] at h
    split at h <;> cases h
    · exact takeWriteDone_moves (delivered_moves (by assumption) (start _))
    · exact start _
  | fault st =>
    simp only [exec, execFault] at h
    split at h <;> cases h
    · exact takeFault_moves (delivered_moves (by assumption) (start _))
    · exact start _
  | dropFrame st f =>
    simp only [exec, execDropFrame] at h
    split at h <;> cases h
    · exact frameAnswer_moves (by exact rfl) (start _)
    · exact failExchange_moves (fun _ => countCheckError_moves) (start _)
    · exact unsolicited_moves (start _)
  | nothing st =>
    simp only [exec, execNothing] at h
    split at h <;> cases h
    · exact responded_moves (endExchange_moves (start _))
    · exact failExchange_moves (fun _ => countCheckError_moves) (start _)
    · exact unsolicited_moves (start _)
  | accept st =>
    simp only [exec, execAccept] at h
    split at h <;> cases h
    · exact outputAccepted_moves (responded_moves (endExchange_moves (start _)))
    · exact failExchange_moves (fun _ => countCheckError_moves) (start _)
    · exact unsolicited_moves (start _)
  | busy st =>
    simp only [exec, execBusy] at h
    split at h <;> cases h
    · exact onDrop_moves (responded_moves (endExchange_moves (start _)))
    · exact failExchange_moves (fun _ => countCheckError_moves) (start _)
    · exact unsolicited_moves (start _)
  | failedResponse st why =>
    cases h
    refine failExchange_moves (fun _ => ?_) (start _)
    cases why with
    | checkError => exact countCheckError_moves
    | framing => exact countFraming_moves
  | pollResponseTimeout st => cases h; exact failExchange_moves (fun _ => countNoResponse_moves) (start _)
  | repollDue st d => cases h; exact onDrop_moves (start _)
  | busyRetryExpiry st d => cases h; exact onDrop_moves (start _)
  | issueExchange st =>
    simp only [exec, execIssueExchange] at h
    split at h <;> cases h
    · exact start _
    · next hn => exact issueNext_moves (fun k => hn (.inl k)) (start _)
  | attention st =>
    simp only [exec, execAttention] at h
    split at h <;> cases h
    · exact start _
    · exact onLine_moves ⟨by rfl, by rfl, fun k => by exact k⟩ (start _)
  | unsolicited st =>
    simp only [exec, execUnsolicited] at h
    split at h <;> cases h
    · exact unsolicited_moves (start _)
    · exact start _
  | echoCharacter st k =>
    simp only [exec, execEchoCharacter] at h
    split at h
    · split at h <;> cases h
      · exact onLine_moves ⟨by rfl, by rfl, fun k => by exact k⟩ (start _)
      · exact start _
    · cases h; exact start _
  | loopFrameReturn st how => cases h; exact judgeLoopFrame_moves trivial (start _)
  | loopFrameTimeout st => cases h; exact judgeLoopFrame_moves trivial (start _)
  | drawerSenseChange st opened =>
    simp only [exec, execDrawerSenseChange] at h
    split at h <;> cases h
    · exact start _
    · split
      · exact startDrawerTimer_moves (onLine_moves ⟨by rfl, by rfl, fun k => by exact k⟩ (start _))
      · exact endDrawerWatch_moves (onLine_moves ⟨by rfl, by rfl, fun k => by exact k⟩ (start _))
  | drawerOpenTimerExpiry st =>
    simp only [exec, execDrawerOpenTimerExpiry] at h
    split at h <;> cases h
    · exact refresh_moves (raise_moves (by decide) (onLine_moves ⟨by rfl, by rfl, fun k => by exact k⟩ (start _)))
    · exact start _
  | alarmInRising st =>
    simp only [exec, execAlarmInRising] at h
    split at h <;> cases h
    · exact raiseAlarm_moves trivial (start _)
    · exact start _
  | drawerPulseEnd st => cases h; exact onLine_moves ⟨by rfl, by rfl, fun k => by exact k⟩ (start _)
  | inboundFrame bytes =>
    simp only [exec, execInboundFrame] at h
    split at h <;> cases h
    · exact onBlc_moves (fun _ => by rfl) (start _)
    · exact countFrameForm_moves (start _)
    · exact gather_moves trivial (validFrame_moves (start _))
  | reply dest r => cases h; exact judgeSettle_moves (takeReply_moves (arrive_moves (start _)))
  | mgmtReq id r => cases h; exact placeRequest_moves (arrive_moves (start _))
  | adviceAck a => cases h; exact judgeSettle_moves (takeAdviceAck_moves (arrive_moves (start _)))
  | batchAck a => cases h; exact takeBatchAck_moves trivial (arrive_moves (start _))
  | linkCheck number => cases h; exact takeLinkCheck_moves (arrive_moves (start _))
  | silenceTimerExpiry =>
    simp only [exec, execSilenceTimerExpiry] at h
    split at h <;> cases h
    · exact start _
    · exact judgeSettle_moves (loseLink_moves (held _) (start _))
  | transmit =>
    simp only [exec, execTransmit] at h
    split at h
    · cases h; exact start _
    · split at h <;> cases h
      · exact onBlc_moves (fun _ => by rfl) (ownerSent_moves trivial (start _))
      · exact start _
  | transmitEnd => cases h; exact onBlc_moves (fun _ => by rfl) (start _)
  | deadlineExpiry ref =>
    simp only [exec, execDeadlineExpiry] at h
    split at h
    · next e he =>
      split at h <;> cases h
      · exact judgeSettle_moves (timeOut_moves (List.mem_of_find?_eq_some he) (start _))
      · exact start _
    · cases h; exact start _
  | lateExpiry ref =>
    simp only [exec, execLateExpiry] at h
    split at h <;> cases h
    · next l hl => exact endLate_moves (List.mem_of_find?_eq_some hl) (start _)
    · exact start _
  | adviceAckTimeout number =>
    cases h
    refine queueMap_moves (fun q => ?_) (start _)
    split
    · exact alike_unsend q
    · exact alike_refl q
  | trickleBatchTimeout => cases h; exact (start _).step (.jrn _ _ rfl rfl rfl rfl rfl rfl (.inl rfl))
  | rejectionPauseEnd => cases h; exact (start _).step (.jrn _ _ rfl rfl rfl rfl rfl rfl (.inl rfl))
  | settlementBatchTimeout =>
    simp only [exec, execSettlementBatchTimeout] at h
    split at h <;> cases h
    · exact settlementFails_moves (start _)
    · exact start _
  | trailingPauseEnd => cases h; exact onSettlement_moves (start _)
  | loadIdleExpiry =>
    simp only [exec, execLoadIdleExpiry] at h
    split at h <;> cases h
    · exact raise_moves (by decide) (endLoad_moves (start _))
    · exact start _
  | waitTimerExpiry st => cases h; exact takeWaitExpiry_moves (start _)
  | completionTimerExpiry st => cases h; exact takeCompletionExpiry_moves (start _)
  | broadcastExpiry =>
    simp only [exec, execBroadcastExpiry] at h
    split at h <;> cases h
    · exact setBroadcast_moves (start _)
    · exact start _
  | tableLoad id f => cases h; exact withRequest_moves (fun _ => takeFragment_moves) (start _)
  | tableAbort id => cases h; exact withRequest_moves (fun _ => takeTableAbort_moves) (start _)
  | tableRead id table first => cases h; exact withRequest_moves (fun _ => takeTableRead_moves) (start _)
  | settingsWrite id items => cases h; exact withRequest_moves (fun _ => takeSettingsWrite_moves) (start _)
  | settingsRead id => cases h; exact withRequest_moves (fun _ => answer_moves) (start _)
  | lineSetup id r =>
    cases h
    refine withRequest_moves_of (fun u hu h => judgeSettle_moves (takeLineSetup_moves ?_ (fun _ => trivial) (fun _ => trivial) (fun _ => trivial) h)) (start _)
    simpa [transactionsOk, heldRefs, hu] using held (.lineSetup id r)
  | lineControl id station op mask => cases h; exact withRequest_moves (fun _ => takeLineControl_moves) (start _)
  | lineTest id line mode count => cases h; exact withRequest_moves (fun _ => takeLineTest_moves trivial) (start _)
  | lineReset id line => cases h; exact withRequest_moves (fun _ => takeLineReset_moves trivial) (start _)
  | statusRead id lines => cases h; exact withRequest_moves (fun _ => takeStatusRead_moves trivial) (start _)
  | totalsRead id => cases h; exact withRequest_moves (fun _ => answer_moves) (start _)
  | clockSet id secs => cases h; exact withRequest_moves (fun _ => takeClockSet_moves trivial) (start _)
  | dayCutoff id => cases h; exact withRequest_moves (fun _ => takeDayCutoff_moves) (start _)
  | dayForce id => cases h; exact withRequest_moves (fun _ => takeDayForce_moves) (start _)
  | settleRetry id => cases h; exact withRequest_moves (fun _ => takeSettleRetry_moves) (start _)
  | dateRoll id d => cases h; exact withRequest_moves (fun _ => takeDateRoll_moves trivial) (start _)
  | broadcastText id text expiry => cases h; exact withRequest_moves (fun _ => takeBroadcast_moves) (start _)
  | badRequest id kind => cases h; exact withRequest_moves (fun _ => refuseRequest_moves) (start _)

end Sys2Proof.Machine
end

section
/-! SUPPORT. A start as chains of elementary moves from its own first states; what a step is; and the invariant of the
counters. -/

namespace Sys2Proof.Machine
open Sys2Proof

/-! ## A start -/

section
variable {K : Wide → Prop} {s t : State}

/-- The state of a warm start once every open transaction is abandoned. -/
def abandoned (s : State) : State := abandonAll .abandonedOnRestart (fun _ => true) (volatileReset s)

/-- The values a cold start writes, before the drawers are watched. -/
def coldBase (s : State) : State :=
  { State.reset with
    pending := s.pending
    uptime := s.uptime
    slc := { lines := s.slc.lines.mapWith fun st l =>
               { Line.cold with drawerOpen := coldDrawerLevel s.slc.samples st l }
             samples := s.slc.samples + 9 } }

theorem startWatch_moves {st : Station} (h : Moves K s t) : Moves K s (startWatch st t) := by
  unfold startWatch
  split
  · exact startDrawerTimer_moves h
  · exact h

theorem coldStart_moves : Moves K (coldBase s) (coldStart s) := forStations_moves (fun _ _ => startWatch_moves) .refl

/-- What the volatile reset leaves of the transactions is well kept if they were. -/
theorem transactionsOk_volatileReset (h : transactionsOk s) : transactionsOk (volatileReset s) := by
  obtain ⟨hn, ho, -⟩ := h
  exact ⟨by simpa [heldRefs, volatileReset] using List.Nodup.of_append_left hn, ho, Nat.zero_le _⟩

theorem abandoned_moves (hk : K .loose ∨ transactionsOk s) : Moves K (volatileReset s) (abandoned s) :=
  abandonAll_moves (hk.imp_right transactionsOk_volatileReset) .refl

theorem restartReservation_moves {r : Reservation} (h : Moves K s t) : Moves K s (restartReservation t r) :=
  writeEntry_moves (convertReservation_moves h)

theorem restartAdvices_moves (h : Moves K s t) : Moves K s (restartAdvices t) :=
  foldl_moves (fun _ _ => restartReservation_moves) _ (returnAllUnsent_moves h)

theorem restartPositions_moves (h : Moves K s t) : Moves K s (restartPositions t) :=
  raiseIf_moves (by decide) (h.step (.csh _ t (cashOk_onPositions fun _ => positionOk_checked)))

theorem restartDay_moves (h : Moves K s t) : Moves K s (restartDay t) := by
  unfold restartDay
  split
  · exact h
  · exact h
  · exact judgeSettle_moves h
  · exact beginJournalPhase_moves h
  · exact beginJournalPhase_moves h
  · exact onDay_moves h

theorem restartStation_moves {st : Station} (hs : K (.screens st)) (hp : K (.printers st)) (h : Moves K s t) :
    Moves K s (restartStation st t) := by
  unfold restartStation
  split
  · exact freshContext_moves hs (makePrinter_moves hp h)
  · exact h

theorem warmStart_moves (hs : ∀ st, K (.screens st)) (hp : ∀ st, K (.printers st)) : Moves K (returnReserved (abandoned s)) (warmStart s) := by
  have days : Moves K (returnReserved (abandoned s)) (restartDay (restartPositions (restartAdvices
      (returnReserved (abandoned s))))) := restartDay_moves (restartPositions_moves (restartAdvices_moves .refl))
  exact forStations_moves (fun _ _ => restartStation_moves (hs _) (hp _)) (forStations_moves (fun _ _ => startWatch_moves) days)

/-- The wider kinds of moves that a start makes. -/
def startKinds : Wide → Prop
  | .loose => True
  | .screens _ => True
  | .printers _ => True
  | _ => False

/-- A property that every elementary move of a start, the volatile reset, the return of the reserved slots and the cold values keep,
START keeps. -/
theorem exec_start_keeps {P : State → Prop} (hm : ∀ s t, Move startKinds s t → P s → P t) (hc : ∀ s, P (coldBase s))
    (hv : ∀ s, P s → P (volatileReset s)) (hr : ∀ s, P s → P (returnReserved s)) (h : exec .start s = .next t)
    (hs : P s) : P t := by
  have run : ∀ {u v : State}, Moves startKinds u v → P u → P v := fun m => m.keep hm
  have warm : P (warmStart s) :=
    run (warmStart_moves (fun _ => trivial) (fun _ => trivial)) (hr _ (run (abandoned_moves (.inl trivial)) (hv s hs)))
  have cold : P (coldStart s) := run coldStart_moves (hc s)
  simp only [exec, execStart] at h
  split at h
  · exact Host.Outcome.next.inj h ▸ warm
  · exact Host.Outcome.next.inj h ▸ cold

end

/-! ## A step -/

/-- What an idle second and every command keep, whatever commands wait, every step keeps. -/
theorem everyStepKeeps_of {P : State → Prop} (hq : ∀ s q, P s → P { s with pending := q }) (ht : ∀ s, P s → P (tick s))
    (he : ∀ c s t, exec c s = .next t → P s → P t) : everyStepKeeps P := by
  intro s t hs h
  unfold step at h
  split at h
  · cases h; exact ht s hs
  · next c rest _ => exact he c _ t h (hq s rest hs)

/-- A property that every elementary move, an idle second and the parts of a start keep, every step keeps. -/
theorem everyStepKeeps_of_moves {P : State → Prop} (hm : ∀ K s t, Move K s t → P s → P t)
    (hq : ∀ s q, P s → P { s with pending := q }) (ht : ∀ s, P s → P (tick s)) (hc : ∀ s, P (coldBase s))
    (hv : ∀ s, P s → P (volatileReset s)) (hr : ∀ s, P s → P (returnReserved s)) : everyStepKeeps P := by
  refine everyStepKeeps_of hq ht fun c s t h hs => ?_
  by_cases hstart : c = .start
  · subst hstart; exact exec_start_keeps (hm _) hc hv hr h hs
  · exact (exec_moves hstart h).keep (hm _) hs

/-! ## The counters (R3, R108, R124, R193, R198) -/

/-- The counters, clock and settings of one state are in range where those of another are that shares them, or has them in
range. -/
theorem countersOk_congr {s t : State} (h : countersOk s) (hs : t.ttr.seqs = s.ttr.seqs)
    (ha : t.sda.nextAdvice = s.sda.nextAdvice ∨ 1 ≤ t.sda.nextAdvice ∧ t.sda.nextAdvice ≤ Config.topAdvice)
    (hb : t.jrn.batchCounter = s.jrn.batchCounter ∨ 1 ≤ t.jrn.batchCounter ∧ t.jrn.batchCounter ≤ Config.topBatch)
    (hc : t.mrs.clock = s.mrs.clock) (hx : settingsOk s.mrs.settings → settingsOk t.mrs.settings) :
    countersOk t := by
  obtain ⟨seqs, advice, batch, clock, settings⟩ := h
  refine ⟨hs ▸ seqs, ?_, ?_, hc ▸ clock, hx settings⟩
  · rcases ha with ha | ha
    · rwa [ha]
    · exact ha
  · rcases hb with hb | hb
    · rwa [hb]
    · exact hb

/-- A station's counter after a number is in range (R3). -/
theorem seqs_giveNumber (st a : Station) (s : State) (h : 1 ≤ s.ttr.seqs.get a ∧ s.ttr.seqs.get a ≤ Config.topSequence) :
    1 ≤ (giveNumber st s).ttr.seqs.get a ∧ (giveNumber st s).ttr.seqs.get a ≤ Config.topSequence := by
  by_cases ha : a = st
  · subst ha
    simpa [giveNumber] using wrapNext_range (top := Config.topSequence) (by decide)
  · simpa [giveNumber, ha] using h

theorem countersOk_move (K : Wide → Prop) (s t : State) (m : Move K s t) (h : countersOk s) : countersOk t := by
  have top : 1 ≤ 65535 := by decide
  have advanced : ∀ n, 1 ≤ wrapNext Config.topAdvice n ∧ wrapNext Config.topAdvice n ≤ Config.topAdvice :=
    fun _ => wrapNext_range (by decide)
  cases m
  case number st => exact ⟨fun a => seqs_giveNumber st a s (h.1 a), h.2⟩
  case mrs f hf hc hs => exact countersOk_congr h rfl (.inl rfl) (.inl rfl) hc hs
  case clock n hk hn =>
    obtain ⟨seqs, advice, batch, -, settings⟩ := h
    exact ⟨seqs, advice, batch, hn, settings⟩
  case reads f hk hf hc hs => exact countersOk_congr h rfl (.inl rfl) (.inl rfl) hc (fun k => hs ▸ k)
  case jrn f he hu hr hf hn ha hb => exact countersOk_congr h rfl (.inl rfl) hb rfl id
  case rollSda => exact countersOk_congr h rfl (.inr ⟨le_rfl, top⟩) (.inl rfl) rfl id
  case rollJrn => exact countersOk_congr h rfl (.inl rfl) (.inr ⟨le_rfl, top⟩) rfl id
  case standin => exact countersOk_congr h (by simp) (.inr (advanced _)) (by simp) (by simp) (by simp)
  case queueAlarm => exact countersOk_congr h (by simp) (.inr (advanced _)) (by simp) (by simp) (by simp)
  case abandon => exact countersOk_congr h (by simp) (.inr (by simpa [queueReversal, queueAdvice, advanceAdvice] using advanced _)) (by simp) (by simp) (by simp)
  case lateApproval => exact countersOk_congr h (by simp) (.inr (by simpa [queueReversal, queueAdvice, advanceAdvice] using advanced _)) (by simp) (by simp) (by simp)
  case convert => exact countersOk_congr h (by simp) (.inr (advanced _)) (by simp) (by simp) (by simp)
  case records f hq hn hr => exact countersOk_congr h rfl (.inl hn) (.inl rfl) rfl id
  all_goals exact countersOk_congr h (by simp) (by simp) (by simp) (by simp) (by simp)

theorem countersOk_coldBase (s : State) : countersOk (coldBase s) := by
  obtain ⟨-, -, -, -, -, -, -, -, counters, -, -⟩ := resetMeetsTheInvariants
  exact counters

/-- Settles O13: every elementary move keeps the counters within their ranges, and so do the values of a start and an idle
second. -/
theorem counterInvariantKept : Obligations.CounterInvariantKept :=
  everyStepKeeps_of_moves countersOk_move (fun _ _ h => h)
    (fun s h => by
      obtain ⟨seqs, advice, batch, -, settings⟩ := h
      exact ⟨seqs, advice, batch, Nat.mod_lt _ (by decide), settings⟩)
    countersOk_coldBase
    (fun s h => by
      obtain ⟨seqs, advice, batch, -, settings⟩ := h
      exact ⟨seqs, advice, batch, Nat.zero_lt_succ _, settings⟩)
    (fun _ h => h)

end Sys2Proof.Machine
end

section
/-! SUPPORT. The Teller Day Records and the account map, the contexts of the stations, the flags and the written entries, as
the elementary moves keep them. -/

namespace Sys2Proof.Machine
open Sys2Proof

/-! ## The ends of transactions -/

/-- A property stands under the parts that the ends of transactions are made of. -/
structure TxnParts (P : State → Prop) : Prop where
  ttr : ∀ f s, (∀ x, (f x).seqs = x.seqs) → P s → P (onTtr f s)
  write : ∀ k d s, P s → P (writeEntry k d s)
  hold : ∀ n s, P s → P (reserveSlots n s)
  reversal : ∀ ref cause dir n s, P s → P (queueReversal ref cause dir n s)
  compose : ∀ st f s, P s → P (composeWith st f s)

section
variable {P : State → Prop} {s : State}

theorem TxnParts.endEntry (hp : TxnParts P) {e : OttEntry} {o : TxnOutcome} {b : Breakdown} (h : P s) :
    P (endEntry e o b s) := by
  unfold Machine.endEntry removeOtt
  exact hp.ttr _ _ (fun _ => by rfl) (hp.write _ _ _ h)

theorem TxnParts.endLate (hp : TxnParts P) {l : LateEntry} {c : LateCause} (h : P s) : P (endLate l c s) := by
  unfold Machine.endLate removeLate
  exact hp.ttr _ _ (fun _ => by rfl) (hp.write _ _ _ h)

theorem TxnParts.timedOut (hp : TxnParts P) {e : OttEntry} {st : Station} {f : ScreenContext → ScreenContext} {d : Draft}
    (h : P s) : P (moveToLate e (removeOtt e.ref (composeWith st f (writeEntry Config.ottSlots d s)))) := by
  have ended := hp.ttr (fun t => { t with ott := t.ott.filter fun x => x.ref ≠ e.ref }) _ (fun _ => rfl)
    (hp.compose st f _ (hp.write Config.ottSlots d s h))
  have displaced : ∀ u, P u → P (displaceOldest u) := by
    intro u hu
    unfold displaceOldest
    split
    · exact hu
    · split
      · exact hp.endLate hu
      · exact hu
  unfold moveToLate removeOtt
  exact hp.ttr _ _ (fun _ => by rfl) (hp.hold _ _ (displaced _ ended))

end

/-! ## Records (R61, R103) -/

theorem recordsOk_congr {s t : State} (h : recordsOk s) (hd : t.sda.tellerDays = s.sda.tellerDays)
    (hm : t.sda.accountMap = s.sda.accountMap) : recordsOk t := by
  unfold recordsOk at *
  rw [hd, hm]
  exact h

theorem recordsOk_writeEntry (k : Nat) (d : Draft) (s : State) (h : recordsOk s) : recordsOk (writeEntry k d s) := by
  have counted : ∀ n u, u.sda = s.sda → recordsOk (countTeller n u) := by
    intro n u hu
    have hu' : recordsOk u := recordsOk_congr h (by rw [hu]) (by rw [hu])
    unfold countTeller
    split
    · exact hu'
    · next n =>
      refine recordsOk_congr (recordsOk_map (g := fun r => if r.teller = n then
        { r with txCount := satCount Config.topCounter r.txCount } else r) ?_ ?_ hu') (by simp) (by simp)
      · intro r; split <;> rfl
      · intro r hr; split
        · exact satCount_le
        · exact hr
  unfold writeEntry
  split
  · exact recordsOk_congr h (by simp) (by simp)
  · exact counted _ _ (by simp)

theorem recordsOk_parts : TxnParts recordsOk where
  ttr _ _ _ h := h
  write := recordsOk_writeEntry
  hold _ _ h := recordsOk_congr h (by simp) (by simp)
  reversal _ _ _ _ _ h := recordsOk_congr h (by simp) (by simp)
  compose _ _ _ h := recordsOk_congr h (by simp) (by simp)

theorem recordsOk_move (K : Wide → Prop) (s t : State) (m : Move K s t) (h : recordsOk s) : recordsOk t := by
  have parts := recordsOk_parts
  cases m
  case records f hq hn hr => exact hr h
  case rollSda => exact ⟨⟨by simp, by simp, by simp⟩, by simp, by simp, by simp⟩
  case write d => exact recordsOk_writeEntry 0 d s h
  case leave => exact parts.endEntry h
  case abandon => exact parts.endEntry (parts.reversal _ _ _ _ _ h)
  case late => exact parts.endLate h
  case lateApproval => exact parts.endLate (parts.reversal _ _ _ _ _ h)
  case timedOut => exact parts.timedOut h
  all_goals exact recordsOk_congr h (by simp) (by simp)

theorem recordsOk_kept : everyStepKeeps recordsOk :=
  everyStepKeeps_of_moves recordsOk_move (fun _ _ h => h) (fun _ h => h)
    (fun s => by
      obtain ⟨-, -, -, -, -, -, -, -, -, -, records⟩ := resetMeetsTheInvariants
      exact records)
    (fun _ h => h) (fun _ h => h)

/-! ## Images (R64, R67) -/

theorem fitWidth_length (right : Bool) (n : Nat) (t : Text) : (fitWidth right n t).length = n := by
  have cut : (cutText n t).length ≤ n := by
    unfold cutText
    split
    · assumption
    · split
      · simp
      · simp; omega
  unfold fitWidth
  cases right <;> simp [Nat.sub_add_cancel cut, Nat.add_sub_cancel' cut]

/-- Writing over a row of 80 characters leaves it so long. -/
theorem overwrite_length (column : Nat) (t row : Text) (h : row.length = Config.columns) :
    (overwrite column t row).length = Config.columns := by
  simp only [overwrite, List.length_take, List.length_append, List.length_drop, h, Config.columns]
  omega

/-- Rows of the main area: 23 rows of 80 characters. -/
def mainOk (rows : List Text) : Prop := rows.length = Config.mainRows ∧ ∀ r ∈ rows, r.length = Config.columns

theorem mainOk_placeText {row column : Nat} {t : Text} {rows : List Text} (h : mainOk rows) :
    mainOk (placeText row column t rows) := by
  obtain ⟨hl, hr⟩ := h
  refine ⟨by simpa [placeText] using hl, fun r hm => ?_⟩
  unfold placeText at hm
  obtain ⟨i, hi, rfl⟩ := List.mem_iff_getElem.1 hm
  rw [List.getElem_modify]
  have hi' : i < rows.length := by simpa using hi
  split
  · exact overwrite_length _ _ _ (hr _ (List.getElem_mem hi'))
  · exact hr _ (List.getElem_mem hi')

theorem mainOk_placeFields (fs : List (SftField × Text)) {rows : List Text} (h : mainOk rows) :
    mainOk (placeFields fs rows) := by
  induction fs generalizing rows with
  | nil => exact h
  | cons p rest ih => exact ih (mainOk_placeText h)

theorem mainOk_mainArea (shown : Option SftFormat) (texts : List Text) : mainOk (mainArea shown texts) := by
  have blank : mainOk (List.replicate Config.mainRows blankRow) := by
    refine ⟨by simp, fun r hr => ?_⟩
    rw [List.eq_of_mem_replicate hr]
    simp [blankRow]
  unfold mainArea
  cases shown with
  | none => exact blank
  | some f => exact mainOk_placeFields _ (mainOk_placeText blank)

theorem imageOk_snoc {rows : List Text} {last : Text} (h : mainOk rows) (hl : last.length = Config.columns) :
    imageOk (rows ++ [last]) := by
  obtain ⟨hn, hr⟩ := h
  refine ⟨by simp [hn], fun r hm => ?_⟩
  rcases List.mem_append.1 hm with hm | hm
  · exact hr r hm
  · rw [List.mem_singleton.1 hm]; exact hl

theorem statusLine_length (st : Station) (message : Text) (s : State) : (statusLine st message s).length = Config.columns :=
  fitWidth_length _ _ _

/-- The images of a context just composed are whole. -/
theorem imageOk_recomposed (st : Station) (s : State) (c : ScreenContext) :
    imageOk (recomposed st s c).terminal.rows ∧ imageOk (recomposed st s c).mirror := by
  have blank : blankRow.length = Config.columns := by simp [blankRow]
  refine ⟨imageOk_snoc (mainOk_mainArea _ _) (statusLine_length st c.message s), ?_⟩
  unfold recomposed mirrorImage
  dsimp only
  split
  · exact imageOk_snoc (mainOk_mainArea _ _) blank
  · exact imageOk_snoc (mainOk_mainArea _ _) blank

/-! ## Contexts (R64, R77, R83) -/

/-- Every screen context has whole images and every printer context at most 4 jobs. -/
def contentsOk (s : State) : Prop :=
  ∀ st, (∀ c, contextOf st s = some c → imageOk c.terminal.rows ∧ imageOk c.mirror) ∧
    ∀ c, printerOf st s = some c → c.queue.length ≤ Config.printQueueCapacity

theorem contentsOk_congr {s t : State} (h : contentsOk s) (hc : t.scm.contexts = s.scm.contexts) (hp : t.pbk = s.pbk) :
    contentsOk t := by
  intro st
  have := h st
  simpa [contextOf, printerOf, hc, hp] using this

theorem contentsOk_setContext {s : State} {st : Station} {c : Option ScreenContext} (h : contentsOk s)
    (hc : ∀ x, c = some x → imageOk x.terminal.rows ∧ imageOk x.mirror) : contentsOk (setContext st c s) := by
  intro a
  refine ⟨fun x hx => ?_, fun x hx => (h a).2 x (by simpa [printerOf] using hx)⟩
  by_cases ha : a = st
  · subst ha; exact hc x (by simpa using hx)
  · exact (h a).1 x (by simpa [ha] using hx)

theorem contentsOk_setPrinter {s : State} {st : Station} {c : Option PrinterContext} (h : contentsOk s)
    (hc : ∀ x, c = some x → x.queue.length ≤ Config.printQueueCapacity) : contentsOk (setPrinter st c s) := by
  intro a
  refine ⟨fun x hx => (h a).1 x (by simpa [contextOf] using hx), fun x hx => ?_⟩
  by_cases ha : a = st
  · subst ha; exact hc x (by simpa using hx)
  · exact (h a).2 x (by simpa [ha] using hx)

theorem contentsOk_composeWith (st : Station) (f : ScreenContext → ScreenContext) (s : State) (h : contentsOk s) :
    contentsOk (composeWith st f s) := by
  unfold composeWith
  split
  · exact contentsOk_setContext h fun x hx => by cases hx; exact imageOk_recomposed _ _ _
  · exact h

theorem contentsOk_parts : TxnParts contentsOk where
  ttr _ _ _ h := h
  write _ _ _ h := contentsOk_congr h (by simp) (by simp)
  hold _ _ h := contentsOk_congr h (by simp) (by simp)
  reversal _ _ _ _ _ h := contentsOk_congr h (by simp) (by simp)
  compose := contentsOk_composeWith

theorem contentsOk_move (K : Wide → Prop) (s t : State) (m : Move K s t) (h : contentsOk s) : contentsOk t := by
  have parts := contentsOk_parts
  cases m
  case compose st f => exact contentsOk_composeWith st f s h
  case context st c c' ht hm hc =>
    refine contentsOk_setContext h fun x hx => ?_
    cases hx
    rw [ht, hm]
    exact (h st).1 c hc
  case screens st c hk hc => exact contentsOk_setContext h hc
  case printer st c c' hl hc =>
    refine contentsOk_setPrinter h fun x hx => ?_
    cases hx
    exact hl ((h st).2 c hc)
  case printers st c hk hc => exact contentsOk_setPrinter h fun x hx => by rw [hc x hx]; exact Nat.zero_le _
  case timedOut => exact parts.timedOut h
  all_goals exact contentsOk_congr h (by simp) (by simp)

end Sys2Proof.Machine
end

section
/-! SUPPORT. The contexts, the sign-on states and the lines under a LINE-SETUP and a start, and with them their invariants. -/

namespace Sys2Proof.Machine
open Sys2Proof

/-! ## Reading a station -/

section
variable (a b : Station) {s t : State}

theorem lineOf_congr (h : t.slc = s.slc) : lineOf a t = lineOf a s := by unfold lineOf; rw [h]

theorem contextOf_congr (h : t.scm.contexts = s.scm.contexts) : contextOf a t = contextOf a s := by unfold contextOf; rw [h]

theorem printerOf_congr (h : t.pbk = s.pbk) : printerOf a t = printerOf a s := by unfold printerOf; rw [h]

theorem tellerAt_congr (h : t.scm.signOn = s.scm.signOn) : tellerAt a t = tellerAt a s := by unfold tellerAt; rw [h]

@[simp] theorem lineOf_setContext (c : Option ScreenContext) : lineOf a (setContext b c s) = lineOf a s := rfl

@[simp] theorem lineOf_setPrinter (c : Option PrinterContext) : lineOf a (setPrinter b c s) = lineOf a s := rfl

@[simp] theorem contextOf_onLine (f : Line → Line) : contextOf a (onLine b f s) = contextOf a s := rfl

@[simp] theorem contextOf_setPrinter (c : Option PrinterContext) : contextOf a (setPrinter b c s) = contextOf a s := rfl

@[simp] theorem printerOf_onLine (f : Line → Line) : printerOf a (onLine b f s) = printerOf a s := rfl

@[simp] theorem printerOf_setContext (c : Option ScreenContext) : printerOf a (setContext b c s) = printerOf a s := rfl

@[simp] theorem tellerAt_onLine (f : Line → Line) : tellerAt a (onLine b f s) = tellerAt a s := rfl

end

/-! ## The shape of a station (R64, R77) -/

/-- A station keeps its role and the presence of its printer, and its screen and printer contexts stand where they stood. -/
def sameShape (st : Station) (s t : State) : Prop :=
  (lineOf st t).setup.role = (lineOf st s).setup.role ∧
    (lineOf st t).setup.printerPresent = (lineOf st s).setup.printerPresent ∧
    (contextOf st t).isSome = (contextOf st s).isSome ∧ (printerOf st t).isSome = (printerOf st s).isSome

section
variable {st : Station}

theorem sameShape_of_eq {s t : State} (hl : t.slc = s.slc) (hc : t.scm.contexts = s.scm.contexts) (hp : t.pbk = s.pbk) :
    sameShape st s t := by
  simp [sameShape, lineOf, contextOf, printerOf, hl, hc, hp]

theorem sameShape_refl (s : State) : sameShape st s s := sameShape_of_eq rfl rfl rfl

theorem sameShape_trans (s t u : State) (h : sameShape st s t) (k : sameShape st t u) : sameShape st s u := by
  obtain ⟨h1, h2, h3, h4⟩ := h
  obtain ⟨k1, k2, k3, k4⟩ := k
  exact ⟨k1.trans h1, k2.trans h2, k3.trans h3, k4.trans h4⟩

theorem sameShape_setContext {s : State} {a : Station} {c c' : ScreenContext} (hc : contextOf a s = some c) :
    sameShape st s (setContext a (some c') s) := by
  unfold sameShape
  by_cases ha : st = a
  · subst ha; simp [lineOf, printerOf, hc]
  · simp [lineOf, printerOf, ha]

theorem sameShape_setPrinter {s : State} {a : Station} {c c' : PrinterContext} (hc : printerOf a s = some c) :
    sameShape st s (setPrinter a (some c') s) := by
  unfold sameShape
  by_cases ha : st = a
  · subst ha; simp [lineOf, contextOf, hc]
  · simp [lineOf, contextOf, ha]

theorem sameShape_composeWith (a : Station) (f : ScreenContext → ScreenContext) (s : State) :
    sameShape st s (composeWith a f s) := by
  unfold composeWith
  split
  · next c hc => exact sameShape_setContext hc
  · exact sameShape_refl s

theorem sameShape_move {K : Wide → Prop} (hr : ¬ K (.roles st)) (hs : ¬ K (.screens st)) (hp : ¬ K (.printers st))
    (s t : State) (m : Move K s t) : sameShape st s t := by
  cases m
  case slc f h _ =>
    obtain ⟨role, printer, -⟩ := h st
    exact ⟨role, printer, rfl, rfl⟩
  case roles a f h _ =>
    have ha : st ≠ a := fun e => hr (e ▸ h)
    simp [sameShape, contextOf, printerOf, ha]
  case screens a c h hc =>
    have ha : st ≠ a := fun e => hs (e ▸ h)
    simp [sameShape, lineOf, printerOf, ha]
  case printers a c h hc =>
    have ha : st ≠ a := fun e => hp (e ▸ h)
    simp [sameShape, lineOf, contextOf, ha]
  case frame a d f h =>
    unfold sameShape
    by_cases ha : st = a
    · subst ha; simp [contextOf, printerOf]
    · simp [contextOf, printerOf, ha]
  case compose a f => exact sameShape_composeWith a f s
  case context a c c' ht hm hc => exact sameShape_setContext hc
  case printer a c c' hl hc => exact sameShape_setPrinter hc
  case timedOut e a f h =>
    have parts : TxnParts (sameShape st s) :=
      { ttr := fun _ _ _ k => k
        write := fun _ _ u k => sameShape_trans s u _ k (sameShape_of_eq (by simp) (by simp) (by simp))
        hold := fun _ u k => sameShape_trans s u _ k (sameShape_of_eq (by simp) (by simp) (by simp))
        reversal := fun _ _ _ _ u k => sameShape_trans s u _ k (sameShape_of_eq (by simp) (by simp) (by simp))
        compose := fun a f u k => sameShape_trans s u _ k (sameShape_composeWith a f u) }
    exact parts.timedOut (sameShape_refl s)
  all_goals exact sameShape_of_eq (by simp) (by simp) (by simp)

theorem sameShape_moves {K : Wide → Prop} (hr : ¬ K (.roles st)) (hs : ¬ K (.screens st)) (hp : ¬ K (.printers st))
    {s t : State} (m : Moves K s t) : sameShape st s t :=
  m.relate sameShape_refl sameShape_trans (sameShape_move hr hs hp)

end

/-- The moves of the setup of one station, loose ones with them. -/
def setupOf (st : Station) : Wide → Prop
  | .loose => True
  | .roles a => a = st
  | .screens a => a = st
  | .printers a => a = st
  | _ => False

/-- Loose moves alone. -/
def looseOnly : Wide → Prop
  | .loose => True
  | _ => False

theorem sameShape_loose {st : Station} {s t : State} (m : Moves looseOnly s t) : sameShape st s t :=
  sameShape_moves id id id m

/-! ## A station under a LINE-SETUP (R165 to R167) -/

/-- A station's role and contexts agree: a screen context exactly in role TELLER, a printer context exactly with drop 2 beside
it. -/
def standsAt (st : Station) (s : State) : Prop :=
  ((contextOf st s).isSome = true ↔ (lineOf st s).setup.role = .teller) ∧
    ((printerOf st s).isSome = true ↔ (lineOf st s).setup.role = .teller ∧ (lineOf st s).setup.printerPresent = true)

theorem standsAt_congr {s t : State} {st : Station} (h : sameShape st s t) (hs : standsAt st s) : standsAt st t := by
  obtain ⟨h1, h2, h3, h4⟩ := h
  unfold standsAt
  rw [h1, h2, h3, h4]
  exact hs

theorem contextsOk_iff {s : State} : contextsOk s ↔ contentsOk s ∧ ∀ st, standsAt st s :=
  ⟨fun h => ⟨fun st => ⟨(h st).2.2.1, (h st).2.2.2⟩, fun st => ⟨(h st).1, (h st).2.1⟩⟩,
    fun ⟨hc, hs⟩ st => ⟨(hs st).1, (hs st).2, (hc st).1, (hc st).2⟩⟩

theorem role_replaceSetup (st : Station) (x : LineSetup) (s : State) :
    (lineOf st (replaceSetup st x s)).setup.role = x.role := by
  have h : sameShape st (onLine st (fun l => { l with setup := x }) s) (replaceSetup st x s) :=
    sameShape_loose (rewatchDrawer_moves .refl)
  simpa using h.1

/-- Where no contexts stand, none stand under another setup. -/
theorem contexts_replaceSetup {st : Station} {x : LineSetup} {s : State} (hc : contextOf st s = none)
    (hp : printerOf st s = none) :
    contextOf st (replaceSetup st x s) = none ∧ printerOf st (replaceSetup st x s) = none := by
  have h : sameShape st (onLine st (fun l => { l with setup := x }) s) (replaceSetup st x s) :=
    sameShape_loose (rewatchDrawer_moves .refl)
  obtain ⟨-, -, h3, h4⟩ := h
  rw [contextOf_onLine, hc] at h3
  rw [printerOf_onLine, hp] at h4
  exact ⟨Option.not_isSome_iff_eq_none.1 (by rw [h3]; simp), Option.not_isSome_iff_eq_none.1 (by rw [h4]; simp)⟩

/-- Where no contexts stand, a role that is not TELLER agrees with it. -/
theorem standsAt_of_none {st : Station} {s : State} (hr : (lineOf st s).setup.role ≠ .teller)
    (hc : contextOf st s = none) (hp : printerOf st s = none) : standsAt st s := by
  simp [standsAt, hr, hc, hp]

theorem contexts_none {st : Station} {s : State} (h : standsAt st s) (hr : (lineOf st s).setup.role ≠ .teller) :
    contextOf st s = none ∧ printerOf st s = none := by
  obtain ⟨hc, hp⟩ := h
  exact ⟨by simpa [hr] using hc, by simpa [hr] using hp⟩

/-- The contexts made for a station in role TELLER agree with it. -/
theorem standsAt_fresh {st : Station} {s : State} (hr : (lineOf st s).setup.role = .teller) :
    standsAt st (freshContext st (makePrinter st s)) := by
  have made : ∀ m, standsAt st (setContext st (some (emptyContext m)) (makePrinter st s)) := by
    intro m
    unfold makePrinter standsAt
    cases hp : (lineOf st s).setup.printerPresent <;> simp [hr, hp]
  unfold freshContext
  split
  · exact standsAt_congr (sameShape_loose (composePrompt_moves .refl)) (made _)
  · exact standsAt_congr (sameShape_loose (refresh_moves .refl)) (made _)

theorem setup_freshLine (l : Line) : (freshLine l).setup = l.setup := rfl

theorem standsAt_takeRole {st : Station} {s : State} (hc : contextOf st s = none) (hp : printerOf st s = none) :
    standsAt st (takeRole st s) := by
  unfold takeRole
  dsimp only
  split
  · next hr => exact standsAt_fresh (by simpa [setup_freshLine] using hr)
  · next hr => exact standsAt_congr (sameShape_of_eq rfl rfl rfl) (standsAt_of_none (s := onLine st freshLine s)
      (by simp [setup_freshLine, hr]) hc hp)
  · next hr => exact standsAt_of_none (by simp [setup_freshLine, hr]) hc hp

theorem printerOf_removePrinter (st : Station) (teller : Option Nat) (s : State) :
    printerOf st (removePrinter st teller s) = none := by
  unfold removePrinter
  split
  · assumption
  · simp

/-- The end of a station's print jobs leaves no screen context where none stood. -/
theorem contextOf_removePrinter (st : Station) (teller : Option Nat) (s : State) (h : contextOf st s = none) :
    contextOf st (removePrinter st teller s) = none := by
  unfold removePrinter
  split
  · exact h
  · next c hc =>
    have shape : sameShape st s (endQueueOff c.queue.length st teller (setPrinter st (some { c with item := none }) s)) :=
      sameShape_loose (endQueueOff_moves (setPrinter_moves hc (Nat.le_refl _) .refl))
    obtain ⟨-, -, h3, -⟩ := shape
    rw [contextOf_setPrinter]
    exact Option.not_isSome_iff_eq_none.1 (by rw [h3, h]; simp)

/-- A line set OFF is OFF, without a screen or a printer. -/
theorem contexts_setOff {st : Station} {s : State} (h : standsAt st s) :
    (lineOf st (setOff st s)).setup.role = .off ∧ contextOf st (setOff st s) = none ∧ printerOf st (setOff st s) = none := by
  unfold setOff
  split
  · refine ⟨by simp [setTellerOff, offLine], ?_, ?_⟩
    · refine contextOf_removePrinter st _ _ ?_
      rw [contextOf_congr st (s := clearContext st (signOffAt st s)) (by simp)]
      simp [clearContext]
    · exact printerOf_removePrinter st _ _
  · next hr =>
    obtain ⟨hc, hp⟩ := contexts_none h (by simp [hr])
    refine ⟨?_, ?_, ?_⟩
    · rw [lineOf_congr st (s := onLine st offLine s) (by simp)]; simp [offLine]
    · rw [contextOf_congr st (s := onLine st offLine s) (by simp)]; exact hc
    · rw [printerOf_congr st (s := onLine st offLine s) (by simp)]; exact hp
  · next hr =>
    obtain ⟨hc, hp⟩ := contexts_none h (by simp [hr])
    exact ⟨hr, hc, hp⟩

/-- A LINE-SETUP carried out leaves its station's contexts where its role says. -/
theorem standsAt_carrySetup {st : Station} {x : LineSetup} {s : State} (h : standsAt st s) :
    standsAt st (carrySetup st x s) := by
  have none_then : ∀ u, contextOf st u = none → printerOf st u = none → x.role ≠ .teller →
      standsAt st (replaceSetup st x u) := by
    intro u hc hp hx
    obtain ⟨hc', hp'⟩ := contexts_replaceSetup (x := x) hc hp
    exact standsAt_of_none (by rw [role_replaceSetup]; exact hx) hc' hp'
  unfold carrySetup
  split
  · next hr hx =>
    obtain ⟨hc, hp⟩ := contexts_none h (by simp [hr])
    exact none_then s hc hp (by simp [hx])
  · next hr hx =>
    obtain ⟨hc, hp⟩ := contexts_none h (by simp [hr])
    obtain ⟨hc', hp'⟩ := contexts_replaceSetup (x := x) hc hp
    exact standsAt_takeRole hc' hp'
  · next hx _ =>
    obtain ⟨-, hc, hp⟩ := contexts_setOff h
    exact none_then _ hc hp (by simp [hx])
  · refine standsAt_congr ?_ h
    simp [sameShape]

/-- A LINE-SETUP leaves every station's contexts where its role says. -/
theorem standsAt_takeLineSetup {id : Nat} {r : LineSetupRequest} {s : State} (h : ∀ a, standsAt a s) (a : Station) :
    standsAt a (takeLineSetup id r s) := by
  unfold takeLineSetup
  split
  · next st x _ _ =>
    split
    · exact standsAt_congr (sameShape_loose (refuseRequest_moves .refl)) (h a)
    · refine standsAt_congr (sameShape_loose (answer_moves .refl)) ?_
      by_cases ha : a = st
      · subst ha; exact standsAt_carrySetup (h a)
      · exact standsAt_congr (sameShape_moves (K := setupOf st) ha ha ha
          (carrySetup_moves (.inl trivial) rfl rfl rfl .refl)) (h a)
  · exact standsAt_congr (sameShape_loose (refuseRequest_moves .refl)) (h a)

/-! ## The stations at a start (R64, R77) -/

/-- Making a station's contexts afresh keeps every station whose contexts stand where its role says, and makes them so at a
station in role TELLER. -/
theorem standsAt_restartStation {a b : Station} {s : State}
    (h : standsAt a s ∨ b = a ∧ (lineOf a s).setup.role = .teller) : standsAt a (restartStation b s) := by
  by_cases hb : a = b
  · subst hb
    unfold restartStation
    split
    · next hr => exact standsAt_fresh hr
    · next hr => exact h.elim id fun k => absurd k.2 hr
  · have hs := h.elim id fun k => absurd k.1.symm hb
    exact standsAt_congr (sameShape_moves (K := setupOf b) hb hb hb (restartStation_moves rfl rfl .refl)) hs

theorem role_restartStation (a b : Station) (s : State) :
    (lineOf a (restartStation b s)).setup.role = (lineOf a s).setup.role := by
  rw [lineOf_congr a (s := s)]
  unfold restartStation
  split <;> simp

theorem standsAt_restartStations {a : Station} (xs : List Station) {s : State}
    (h : standsAt a s ∨ a ∈ xs ∧ (lineOf a s).setup.role = .teller) :
    standsAt a (xs.foldl (fun u b => restartStation b u) s) := by
  induction xs generalizing s with
  | nil => exact h.elim id fun k => by simp at k
  | cons b rest ih =>
    refine ih ?_
    rcases h with hs | ⟨hm, hr⟩
    · exact .inl (standsAt_restartStation (.inl hs))
    · rcases List.mem_cons.1 hm with rfl | hm
      · exact .inl (standsAt_restartStation (.inr ⟨rfl, hr⟩))
      · exact .inr ⟨hm, by rw [role_restartStation]; exact hr⟩

theorem standsAt_allStations {a : Station} {s : State} (h : standsAt a s ∨ (lineOf a s).setup.role = .teller) :
    standsAt a (forStations restartStation s) :=
  standsAt_restartStations Station.all (h.imp_right fun hr => ⟨Station.mem_all a, hr⟩)

/-- The volatile reset leaves no context. -/
theorem contexts_volatileReset (a : Station) (s : State) :
    contextOf a (volatileReset s) = none ∧ printerOf a (volatileReset s) = none := by
  simp [volatileReset, contextOf, printerOf]

theorem standsAt_warmStart (s : State) (a : Station) : standsAt a (warmStart s) := by
  have shape : sameShape a (volatileReset s)
      (forStations startWatch (restartDay (restartPositions (restartAdvices (returnReserved (abandoned s)))))) := by
    refine sameShape_trans _ (abandoned s) _ (sameShape_loose (abandoned_moves (.inl trivial))) ?_
    refine sameShape_trans _ (returnReserved (abandoned s)) _ (sameShape_of_eq rfl rfl rfl) ?_
    exact sameShape_loose (forStations_moves (fun _ _ => startWatch_moves)
      (restartDay_moves (restartPositions_moves (restartAdvices_moves .refl))))
  obtain ⟨hc, hp⟩ := contexts_volatileReset a s
  unfold warmStart
  refine standsAt_allStations ?_
  by_cases hr : (lineOf a (volatileReset s)).setup.role = .teller
  · exact .inr (shape.1.trans hr)
  · exact .inl (standsAt_congr shape (standsAt_of_none hr hc hp))

theorem contexts_coldBase (a : Station) (s : State) : contextOf a (coldBase s) = none ∧ printerOf a (coldBase s) = none :=
  ⟨contextOf_reset a, printerOf_reset a⟩

theorem standsAt_coldStart (s : State) (a : Station) : standsAt a (coldStart s) := by
  have off : (lineOf a (coldBase s)).setup.role ≠ .teller := by simp [lineOf, coldBase, Line.cold, LineSetup.cold]
  obtain ⟨hc, hp⟩ := contexts_coldBase a s
  exact standsAt_congr (sameShape_loose coldStart_moves) (standsAt_of_none off hc hp)

theorem standsAt_start {s t : State} (h : exec .start s = .next t) (a : Station) : standsAt a t := by
  simp only [exec, execStart] at h
  split at h
  · exact Host.Outcome.next.inj h ▸ standsAt_warmStart s a
  · exact Host.Outcome.next.inj h ▸ standsAt_coldStart s a

/-! ## The invariant of the contexts -/

section
variable {loose : Prop} {c : Instr} {st : Station}

theorem setup_of_roles (h : wideOf loose c (.roles st)) : ∃ id r, c = .lineSetup id r := by
  cases c with
  | lineSetup id r => exact ⟨id, r, rfl⟩
  | _ => exact False.elim h

theorem setup_of_screens (h : wideOf loose c (.screens st)) : ∃ id r, c = .lineSetup id r := by
  cases c with
  | lineSetup id r => exact ⟨id, r, rfl⟩
  | _ => exact False.elim h

theorem setup_of_printers (h : wideOf loose c (.printers st)) : ∃ id r, c = .lineSetup id r := by
  cases c with
  | lineSetup id r => exact ⟨id, r, rfl⟩
  | _ => exact False.elim h

end

theorem contentsOk_of_none {s : State} (h : ∀ st, contextOf st s = none ∧ printerOf st s = none) : contentsOk s := by
  intro st
  obtain ⟨hc, hp⟩ := h st
  simp [hc, hp]

theorem exec_contentsOk {c : Instr} {s t : State} (h : exec c s = .next t) (hs : contentsOk s) : contentsOk t := by
  by_cases hc : c = .start
  · subst hc
    exact exec_start_keeps (contentsOk_move _) (fun u => contentsOk_of_none fun st => contexts_coldBase st u)
      (fun u _ => contentsOk_of_none fun st => contexts_volatileReset st u) (fun _ k => k) h hs
  · exact (exec_moves hc h).keep (contentsOk_move _) hs

theorem exec_standsAt {c : Instr} {s t : State} (h : exec c s = .next t) (hs : ∀ a, standsAt a s) (a : Station) :
    standsAt a t := by
  by_cases hc : c = .start
  · subst hc; exact standsAt_start h a
  · by_cases hl : ∃ id r, c = .lineSetup id r
    · obtain ⟨id, r, rfl⟩ := hl
      cases h
      have taken : ∀ u, sameShape a s u → (∀ b, standsAt b u) → standsAt a (judgeSettle (takeLineSetup id r u)) :=
        fun u _ hu => standsAt_congr (sameShape_loose (judgeSettle_moves .refl)) (standsAt_takeLineSetup hu a)
      have places : ∀ f b, standsAt b (onMrs f s) := fun f b => hs b
      unfold withRequest
      split
      · exact hs a
      · split
        · split
          · exact taken _ (sameShape_of_eq rfl rfl rfl) (places _)
          · exact hs a
        · split
          · exact taken _ (sameShape_of_eq rfl rfl rfl) (places _)
          · exact standsAt_congr (sameShape_loose (countOverrun_moves .refl)) (hs a)
    · exact standsAt_congr (sameShape_moves (fun k => hl (setup_of_roles k)) (fun k => hl (setup_of_screens k))
        (fun k => hl (setup_of_printers k)) (exec_moves hc h)) (hs a)

/-- Settles O9: a command changes the contexts of a station only under a LINE-SETUP or a start, which leave them where its
role says, and every image composed is whole. -/
theorem contextInvariantKept : Obligations.ContextInvariantKept := by
  refine everyStepKeeps_of (fun _ _ h => h) (fun _ h => h) fun c s t h hs => ?_
  obtain ⟨hc, hst⟩ := contextsOk_iff.1 hs
  exact contextsOk_iff.2 ⟨exec_contentsOk h hc, exec_standsAt h hst⟩

end Sys2Proof.Machine
end

section
/-! SUPPORT. The sign-on states and the station lines as the commands leave them, and their invariants. -/

namespace Sys2Proof.Machine
open Sys2Proof

/-! ## Sign-on states (R58) -/

/-- A station that is not in role TELLER is SIGNED_OFF. -/
def signsAt (a : Station) (s : State) : Prop := (lineOf a s).setup.role ≠ .teller → tellerAt a s = none

/-- No teller is signed on at two stations. -/
def distinctTellers (s : State) : Prop :=
  ∀ a b : Station, ∀ n : Nat, tellerAt a s = some n → tellerAt b s = some n → a = b

theorem signsAt_congr {a : Station} {s t : State} (h : signsAt a s)
    (hr : (lineOf a t).setup.role = (lineOf a s).setup.role) (hs : t.scm.signOn = s.scm.signOn) : signsAt a t := by
  unfold signsAt
  rw [hr, tellerAt_congr a hs]
  exact h

theorem distinctTellers_congr {s t : State} (hs : t.scm.signOn = s.scm.signOn) (h : distinctTellers s) :
    distinctTellers t := by
  intro a b n ha hb
  rw [tellerAt_congr _ hs] at ha hb
  exact h a b n ha hb

theorem distinctTellers_move {K : Wide → Prop} (s t : State) (m : Move K s t) (h : distinctTellers s) :
    distinctTellers t := by
  cases m
  case signOff st =>
    intro a b n ha hb
    rw [tellerAt_setSignOn] at ha hb
    split at ha
    · cases ha
    · split at hb
      · cases hb
      · exact h a b n ha hb
  case signOn st n hk hr hn =>
    intro a b k ha hb
    rw [tellerAt_setSignOn] at ha hb
    split at ha <;> split at hb
    · next e1 e2 => exact e1.trans e2.symm
    · cases ha; exact absurd hb (hn b)
    · cases hb; exact absurd ha (hn a)
    · exact h a b k ha hb
  all_goals exact distinctTellers_congr (by simp) h

theorem signsAt_move {K : Wide → Prop} {a : Station} (hk : ¬ K (.roles a)) (s t : State) (m : Move K s t)
    (h : signsAt a s) : signsAt a t := by
  cases m
  case slc f hf _ => exact signsAt_congr h (hf a).1 rfl
  case roles st f hr _ =>
    have ha : a ≠ st := fun e => hk (e ▸ hr)
    exact signsAt_congr h (by simp [ha]) rfl
  case frame st d f hr =>
    refine signsAt_congr h ?_ rfl
    by_cases ha : a = st
    · subst ha; simp
    · simp [ha]
  case signOff st =>
    intro hr
    rw [tellerAt_setSignOn]
    split
    · rfl
    · exact h hr
  case signOn st n hk hr hn =>
    intro hrole
    rw [tellerAt_setSignOn]
    split
    · next e => exact absurd hr (e ▸ hrole)
    · exact h hrole
  all_goals exact signsAt_congr h (by simp [lineOf]) (by simp)

/-- A station set OFF is SIGNED_OFF. -/
theorem tellerAt_setOff {st : Station} {s : State} (h : signsAt st s) : tellerAt st (setOff st s) = none := by
  have off : tellerAt st (signOffAt st s) = none := by
    unfold signOffAt
    split
    · rw [tellerAt_congr st (s := setSignOn st none s) (by simp [signOff, tellerDayOff])]
      simp
    · assumption
  unfold setOff
  split
  · rw [tellerAt_congr st (s := signOffAt st s) (by simp [setTellerOff, clearContext])]
    exact off
  · next hr => rw [tellerAt_congr st (s := s) (by simp)]; exact h (by simp [hr])
  · next hr => exact h (by simp [hr])

theorem signsAt_of_none {a : Station} {s : State} (h : tellerAt a s = none) : signsAt a s := fun _ => h

theorem signsAt_carrySetup {st : Station} {x : LineSetup} {s : State} (h : signsAt st s) :
    signsAt st (carrySetup st x s) := by
  unfold carrySetup
  split
  · next hr _ =>
    refine signsAt_of_none ?_
    rw [tellerAt_congr st (s := s) (by simp [replaceSetup])]
    exact h (by simp [hr])
  · next hr _ =>
    refine signsAt_of_none ?_
    rw [tellerAt_congr st (s := s) (by simp [replaceSetup])]
    exact h (by simp [hr])
  · refine signsAt_of_none ?_
    rw [tellerAt_congr st (s := setOff st s) (by simp [replaceSetup])]
    exact tellerAt_setOff h
  · exact signsAt_congr h (by simp) rfl

theorem exec_distinctTellers {c : Instr} {s t : State} (h : exec c s = .next t) (hs : distinctTellers s) :
    distinctTellers t := by
  by_cases hc : c = .start
  · subst hc
    refine exec_start_keeps distinctTellers_move (fun u a b n ha => ?_) (fun _ k => k) (fun _ k => k) h hs
    rw [show tellerAt a (coldBase u) = none from tellerAt_reset a] at ha
    cases ha
  · exact (exec_moves hc h).keep distinctTellers_move hs

/-- A property that a LINE-SETUP keeps where it is taken, and loose moves keep, its command keeps. -/
theorem exec_lineSetup_keeps {P : State → Prop} (hm : ∀ s t, Move looseOnly s t → P s → P t)
    (hl : ∀ id r s, P s → P (takeLineSetup id r s)) {id : Nat} {r : LineSetupRequest} {s t : State}
    (h : exec (.lineSetup id r) s = .next t) (hs : P s) : P t := by
  cases h
  have run : ∀ {u v}, Moves looseOnly u v → P u → P v := fun m => m.keep hm
  have taken : ∀ u, P u → P (judgeSettle (takeLineSetup id r u)) := fun u hu => run (judgeSettle_moves .refl) (hl id r u hu)
  have placed : ∀ f, (f s.mrs).flags = s.mrs.flags → (f s.mrs).clock = s.mrs.clock →
      (f s.mrs).settings = s.mrs.settings → P (onMrs f s) := fun f h1 h2 h3 =>
    run (Relation.ReflTransGen.single (.mrs f s h1 h2 fun k => h3 ▸ k)) hs
  unfold withRequest
  split
  · exact hs
  · split
    · split
      · exact taken _ (placed _ rfl rfl rfl)
      · exact hs
    · split
      · exact taken _ (placed _ rfl rfl rfl)
      · exact run (countOverrun_moves .refl) hs

/-- A property that a LINE-SETUP keeps, as do the moves that leave the roles, every command but START keeps. -/
theorem exec_keeps_of_setup {P : State → Prop}
    (hm : ∀ K : Wide → Prop, (∀ a, ¬ K (.roles a)) → ∀ s t, Move K s t → P s → P t)
    (hl : ∀ id r s, P s → P (takeLineSetup id r s)) {c : Instr} {s t : State} (hc : c ≠ .start) (h : exec c s = .next t)
    (hs : P s) : P t := by
  by_cases hset : ∃ id r, c = .lineSetup id r
  · obtain ⟨id, r, rfl⟩ := hset
    exact exec_lineSetup_keeps (hm looseOnly fun _ k => k) hl h hs
  · exact (exec_moves hc h).keep (hm _ fun _ k => hset (setup_of_roles k)) hs

theorem signsAt_takeLineSetup {a : Station} (id : Nat) (r : LineSetupRequest) (s : State) (h : signsAt a s) :
    signsAt a (takeLineSetup id r s) := by
  unfold takeLineSetup
  split
  · next st x _ _ =>
    split
    · exact h
    · by_cases ha : a = st
      · subst ha; exact signsAt_carrySetup (x := x) h
      · exact (carrySetup_moves (K := setupOf st) (.inl trivial) rfl rfl rfl .refl).keep (signsAt_move ha) h
  · exact h

theorem exec_signsAt {c : Instr} {s t : State} {a : Station} (h : exec c s = .next t) (hs : signsAt a s) : signsAt a t := by
  by_cases hc : c = .start
  · subst hc
    refine exec_start_keeps (signsAt_move id) (fun u _ => ?_) (fun u k => ?_) (fun _ k => k) h hs
    · exact (tellerAt_congr a (s := State.reset) rfl).trans (tellerAt_reset a)
    · exact signsAt_congr k (by simp [volatileReset, lineOf, restartedLine]) rfl
  · exact exec_keeps_of_setup (fun K hk => signsAt_move (hk a)) signsAt_takeLineSetup hc h hs

/-- Settles O7: a sign-on is of a teller signed on nowhere, at a station in role TELLER, and a line set OFF signs its teller
off. -/
theorem signOnInvariantKept : Obligations.SignOnInvariantKept := by
  refine everyStepKeeps_of (fun _ _ h => h) (fun _ h => h) fun c s t h hs => ?_
  obtain ⟨distinct, off⟩ := hs
  exact ⟨exec_distinctTellers h distinct, fun st => exec_signsAt h (off st)⟩

end Sys2Proof.Machine
end

section
/-! SUPPORT. The station lines as the commands leave them, and their invariant. -/

namespace Sys2Proof.Machine
open Sys2Proof

/-! ## Lines under the elementary moves -/

theorem lineOk_move {K : Wide → Prop} {a : Station} (hk : ¬ K (.roles a)) (hf : ¬ K (.frame a)) (s t : State)
    (m : Move K s t) (h : lineOk (lineOf a s)) : lineOk (lineOf a t) := by
  cases m
  case slc f hs _ => exact (hs a).2.2 h
  case roles st f hr _ =>
    have ha : a ≠ st := fun e => hk (e ▸ hr)
    simpa [ha] using h
  case frame st d f hr =>
    have ha : a ≠ st := fun e => hf (e ▸ hr)
    simpa [ha] using h
  all_goals
    rw [lineOf_congr a (s := s) (by simp)]
    exact h

/-- The role of a station's line under the moves that leave it. -/
theorem role_move {K : Wide → Prop} {a : Station} (hk : ¬ K (.roles a)) (s t : State) (m : Move K s t) :
    (lineOf a t).setup.role = (lineOf a s).setup.role := by
  cases m
  case slc f hs _ => exact (hs a).1
  case roles st f hr _ =>
    have ha : a ≠ st := fun e => hk (e ▸ hr)
    simp [ha]
  case frame st d f hr =>
    by_cases ha : a = st
    · subst ha; simp
    · simp [ha]
  all_goals rw [lineOf_congr a (s := s) (by simp)]

theorem role_moves {K : Wide → Prop} {a : Station} (hk : ¬ K (.roles a)) {s t : State} (m : Moves K s t) :
    (lineOf a t).setup.role = (lineOf a s).setup.role :=
  m.relate (R := fun s t => (lineOf a t).setup.role = (lineOf a s).setup.role) (fun _ => rfl) (fun _ _ _ h k => k.trans h)
    (role_move hk)

/-! ## A valid answer to a poll (R169, R170) -/

/-- A valid response changes the state of its drop alone. -/
theorem lineOf_responded (st a : Station) (d : Drop) (s : State) :
    lineOf a (responded st d s) = lineOf a (onDrop st d (fun x => { x with
      state := .up, missed := 0, repoll := none, repollDue := false }) s) := by
  unfold responded
  dsimp only
  split
  · rfl
  · exact lineOf_congr a (by simp)

/-- A valid frame is answered with the place that its poll held. -/
theorem lineOk_frameAnswer {a st : Station} {d : Drop} {f : DropFrame} {s : State}
    (hx : (lineOf st s).exchange = some (.poll d)) (h : lineOk (lineOf a s)) : lineOk (lineOf a (frameAnswer st d f s)) := by
  unfold frameAnswer
  dsimp only
  split
  · by_cases ha : a = st
    · subst ha
      have room : (lineOf a s).buffer.length + 1 ≤ Config.receivePlaces := by
        obtain ⟨-, -, -, -, -, buf, -⟩ := h
        simpa [pollHolds, hx] using buf
      refine lineOk_of_setup ?_ (fun _ => ?_) (fun _ off => ?_) h
      · simp [lineOf_responded, onDrop, endExchange]
      · simpa [lineOf_responded, onDrop, endExchange, pollHolds] using room
      · rw [hx] at off; cases off.1
    · rw [lineOf_onLine, if_neg ha]
      exact (responded_moves (endExchange_moves .refl) : Moves looseOnly s _).keep (P := fun u => lineOk (lineOf a u))
        (lineOk_move id id) h
  · exact (countCheckError_moves (responded_moves (endExchange_moves .refl)) : Moves looseOnly s _).keep
      (P := fun u => lineOk (lineOf a u)) (lineOk_move id id) h

/-! ## A line under its LINE-SETUP (R164 to R167) -/

/-- The items of a setup lie within their values (R164, R165). -/
def setupOk (x : LineSetup) : Prop :=
  1 ≤ x.depth ∧ x.depth ≤ 4 ∧ x.mirrorKey ≤ 15 ∧ x.mirrorMask ≤ 15 ∧ functionsDistinct x.functions = true

theorem setupOk_readSetup {r : LineSetupRequest} {x : LineSetup} (h : readSetup r = some x) : setupOk x := by
  unfold readSetup at h
  split at h
  · split at h
    · next hok =>
      cases h
      simp only [Bool.and_eq_true, decide_eq_true_eq] at hok
      obtain ⟨⟨⟨⟨⟨⟨⟨-, fs⟩, d1⟩, d2⟩, key⟩, mask⟩, -⟩, -⟩ := hok
      exact ⟨d1, d2, key, mask, fs⟩
    · cases h
  · cases h

/-- A line without traffic is well kept under a setup within its values. -/
theorem lineOk_of_idle {l : Line} (hs : setupOk l.setup) (he : l.exchange = none) (hb : l.buffer = [])
    (hd : l.setup.role = .off → l.drops = ⟨none, none, none⟩) : lineOk l := by
  obtain ⟨d1, d2, key, mask, fs⟩ := hs
  exact ⟨d1, d2, key, mask, fs, by simp [hb, pollHolds, he], fun hr => ⟨he, hb, hd hr⟩⟩

theorem setupOk_of_lineOk {l : Line} (h : lineOk l) : setupOk l.setup := by
  obtain ⟨d1, d2, key, mask, fs, -, -⟩ := h
  exact ⟨d1, d2, key, mask, fs⟩

theorem lineOk_loose {a : Station} {s t : State} (m : Moves looseOnly s t) (h : lineOk (lineOf a s)) : lineOk (lineOf a t) :=
  m.keep (P := fun u => lineOk (lineOf a u)) (lineOk_move id id) h

/-- An OFF line with another setup is well kept. -/
theorem lineOk_replaceSetup {st : Station} {x : LineSetup} {s : State} (hx : setupOk x)
    (hr : (lineOf st s).setup.role = .off) (h : lineOk (lineOf st s)) : lineOk (lineOf st (replaceSetup st x s)) := by
  obtain ⟨-, -, -, -, -, -, off⟩ := h
  obtain ⟨he, hb, hd⟩ := off hr
  refine lineOk_loose (rewatchDrawer_moves .refl) ?_
  rw [lineOf_onLine, if_pos rfl]
  exact lineOk_of_idle hx he hb fun _ => hd

theorem lineOf_takeRole (st a : Station) (s : State) :
    lineOf a (takeRole st s) = lineOf a (onLine st freshLine s) := by
  refine lineOf_congr a ?_
  unfold takeRole
  dsimp only
  split <;> simp

theorem lineOk_takeRole {st : Station} {s : State} (h : lineOk (lineOf st s)) : lineOk (lineOf st (takeRole st s)) := by
  rw [lineOf_takeRole, lineOf_onLine, if_pos rfl]
  exact lineOk_of_idle (l := freshLine (lineOf st s)) (show setupOk (lineOf st s).setup from setupOk_of_lineOk h)
    rfl rfl fun hr => freshDrops_off hr

theorem lineOk_offLine {l : Line} (h : lineOk l) : lineOk (offLine l) := by
  obtain ⟨d1, d2, key, mask, fs⟩ := setupOk_of_lineOk h
  exact lineOk_of_idle (l := offLine l) ⟨d1, d2, key, mask, fs⟩ rfl rfl fun _ => rfl

theorem lineOk_setOff {st : Station} {s : State} (h : lineOk (lineOf st s)) :
    lineOk (lineOf st (setOff st s)) ∧ (lineOf st (setOff st s)).setup.role = .off := by
  unfold setOff
  split
  · unfold setTellerOff
    dsimp only
    rw [lineOf_onLine, if_pos rfl]
    refine ⟨lineOk_offLine ?_, rfl⟩
    rw [lineOf_congr st (s := s) (by simp [clearContext])]
    exact h
  · rw [lineOf_congr st (s := onLine st offLine s) (by simp), lineOf_onLine, if_pos rfl]
    exact ⟨lineOk_offLine h, rfl⟩
  · next hr => exact ⟨h, hr⟩

theorem lineOk_carrySetup {st : Station} {x : LineSetup} {s : State} (hx : setupOk x) (h : lineOk (lineOf st s)) :
    lineOk (lineOf st (carrySetup st x s)) := by
  unfold carrySetup
  split
  · next hr _ => exact lineOk_replaceSetup hx hr h
  · next hr _ => exact lineOk_takeRole (lineOk_replaceSetup hx hr h)
  · obtain ⟨ok, off⟩ := lineOk_setOff h
    exact lineOk_replaceSetup hx off ok
  · rw [lineOf_onLine, if_pos rfl]
    obtain ⟨-, -, -, -, fs, buf, off⟩ := h
    obtain ⟨d1, d2, key, mask, -⟩ := hx
    exact ⟨d1, d2, key, mask, fs, buf, off⟩

/-- A LINE-SETUP that passes leaves its line in the role it names. -/
theorem role_carrySetup {st : Station} {x : LineSetup} {s : State} (hp : setupRefusal st x s = none) :
    (lineOf st (carrySetup st x s)).setup.role = x.role := by
  unfold carrySetup
  split
  · exact role_replaceSetup st x s
  · rw [lineOf_takeRole, lineOf_onLine, if_pos rfl]
    exact role_replaceSetup st x s
  · exact role_replaceSetup st x _
  · next off named _ =>
    rw [lineOf_onLine, if_pos rfl]
    by_contra hne
    unfold setupRefusal at hp
    simp only at hp
    rw [if_pos ⟨named, .inl ⟨off, fun k => hne k.symm⟩⟩] at hp
    cases hp

/-! ## The invariant of the lines -/

theorem lineOk_takeLineSetup {a : Station} (id : Nat) (r : LineSetupRequest) (s : State) (h : lineOk (lineOf a s)) :
    lineOk (lineOf a (takeLineSetup id r s)) := by
  unfold takeLineSetup
  split
  · next st x _ hx =>
    split
    · exact h
    · by_cases ha : a = st
      · subst ha; exact lineOk_carrySetup (setupOk_readSetup hx) h
      · exact (carrySetup_moves (K := setupOf st) (.inl trivial) rfl rfl rfl .refl).keep
          (P := fun u => lineOk (lineOf a u)) (lineOk_move ha (fun k => k)) h
  · exact h

/-- The role of a station that a LINE-SETUP does not name stands; that of the station it names is the one it names. -/
theorem role_takeLineSetup (id : Nat) (r : LineSetupRequest) (s : State) :
    (∀ a, (lineOf a (takeLineSetup id r s)).setup.role = (lineOf a s).setup.role) ∨
      ∃ st x, setupRefusal st x s = none ∧ (lineOf st (takeLineSetup id r s)).setup.role = x.role ∧
        ∀ a, a ≠ st → (lineOf a (takeLineSetup id r s)).setup.role = (lineOf a s).setup.role := by
  unfold takeLineSetup
  split
  · next st x _ hx =>
    split
    · exact .inl fun _ => rfl
    · next hp =>
      refine .inr ⟨st, x, hp, role_carrySetup hp, fun a ha => ?_⟩
      exact role_moves (K := setupOf st) ha
        (answer_moves (carrySetup_moves (.inl trivial) rfl rfl rfl .refl))
  · exact .inl fun _ => rfl

/-- At most one line is in role JOURNAL_PRINTER. -/
def onePrinter (s : State) : Prop :=
  ∀ a b, (lineOf a s).setup.role = .journalPrinter → (lineOf b s).setup.role = .journalPrinter → a = b

theorem onePrinter_congr {s t : State} (hr : ∀ a, (lineOf a t).setup.role = (lineOf a s).setup.role) (h : onePrinter s) :
    onePrinter t := by
  intro a b ha hb
  rw [hr] at ha hb
  exact h a b ha hb

theorem printerRoleHeld_of {s : State} {a : Station} (h : (lineOf a s).setup.role = .journalPrinter) :
    printerRoleHeld s = true :=
  List.any_eq_true.2 ⟨lineOf a s, (Eight.mem_toList _ _).2 ⟨a, rfl⟩, by simp [h]⟩

theorem onePrinter_takeLineSetup (id : Nat) (r : LineSetupRequest) (s : State) (h : onePrinter s) :
    onePrinter (takeLineSetup id r s) := by
  rcases role_takeLineSetup id r s with same | ⟨st, x, hp, here, others⟩
  · exact onePrinter_congr same h
  · by_cases hsame : (lineOf st (takeLineSetup id r s)).setup.role = (lineOf st s).setup.role
    · refine onePrinter_congr (fun a => ?_) h
      by_cases ha : a = st
      · subst ha; exact hsame
      · exact others a ha
    · have alone : x.role = .journalPrinter → ∀ a, (lineOf a s).setup.role ≠ .journalPrinter := by
        intro hx a ha
        unfold setupRefusal at hp
        simp only at hp
        split at hp
        · cases hp
        · next hrole =>
          split at hp
          · cases hp
          · next hconf =>
            have off : (lineOf st s).setup.role = .off := by
              by_contra hoff
              exact hrole ⟨by simp [hx], .inl ⟨hoff, fun k => hsame (here.trans k)⟩⟩
            exact hconf ⟨hx, off, printerRoleHeld_of ha⟩
      intro a b ha hb
      by_cases ha' : a = st <;> by_cases hb' : b = st
      · exact ha'.trans hb'.symm
      · subst ha'
        exact absurd (others b hb' ▸ hb) (alone (here ▸ ha) b)
      · subst hb'
        exact absurd (others a ha' ▸ ha) (alone (here ▸ hb) a)
      · exact h a b (others a ha' ▸ ha) (others b hb' ▸ hb)

theorem lineOk_restartedLine {l : Line} (h : lineOk l) : lineOk (restartedLine l) :=
  lineOk_of_idle (l := restartedLine l) (show setupOk l.setup from setupOk_of_lineOk h) rfl rfl fun hr => freshDrops_off hr

/-- A cold line is well kept at either level of its drawer. -/
theorem lineOk_coldLine (level : Bool) : lineOk { Line.cold with drawerOpen := level } := by
  have h := lineOk_cold
  exact h

theorem lineOk_coldBase (a : Station) (s : State) : lineOk (lineOf a (coldBase s)) := by
  simp only [lineOf, coldBase, Eight.get_mapWith]
  exact lineOk_coldLine _

theorem lineOk_volatileReset {a : Station} {s : State} (h : lineOk (lineOf a s)) : lineOk (lineOf a (volatileReset s)) := by
  simp only [lineOf, volatileReset, Eight.get_mapWith]
  exact lineOk_restartedLine h

/-- Every line is well kept, and at most one is a journal printer. -/
theorem linesOk_iff {s : State} : linesOk s ↔ (∀ a, lineOk (lineOf a s)) ∧ onePrinter s := Iff.rfl

theorem frame_of {loose : Prop} {c : Instr} {a : Station} (h : wideOf loose c (.frame a)) : ∃ f, c = .dropFrame a f := by
  cases c with
  | dropFrame st f => exact ⟨f, by rw [show a = st from h]⟩
  | _ => exact False.elim h

theorem exec_dropFrame_lineOk {st a : Station} {f : DropFrame} {s t : State} (h : exec (.dropFrame st f) s = .next t)
    (hs : lineOk (lineOf a s)) : lineOk (lineOf a t) := by
  simp only [exec, execDropFrame] at h
  split at h <;> cases h
  · next hx => exact lineOk_frameAnswer hx hs
  · exact lineOk_loose (failExchange_moves (fun _ => countCheckError_moves) .refl) hs
  · exact lineOk_loose (unsolicited_moves .refl) hs

theorem exec_lineOk {c : Instr} {s t : State} {a : Station} (h : exec c s = .next t) (hs : lineOk (lineOf a s)) :
    lineOk (lineOf a t) := by
  by_cases hc : c = .start
  · subst hc
    exact exec_start_keeps (P := fun u => lineOk (lineOf a u)) (lineOk_move id id) (lineOk_coldBase a)
      (fun _ k => lineOk_volatileReset k) (fun _ k => k) h hs
  · by_cases hd : ∃ f, c = .dropFrame a f
    · obtain ⟨f, rfl⟩ := hd
      exact exec_dropFrame_lineOk h hs
    · by_cases hset : ∃ id r, c = .lineSetup id r
      · obtain ⟨id, r, rfl⟩ := hset
        exact exec_lineSetup_keeps (P := fun u => lineOk (lineOf a u)) (lineOk_move (fun k => k) (fun k => k))
          (fun _ _ _ => lineOk_takeLineSetup _ _ _) h hs
      · exact (exec_moves hc h).keep (P := fun u => lineOk (lineOf a u))
          (lineOk_move (fun k => hset (setup_of_roles k)) (fun k => hd (frame_of k))) hs

theorem onePrinter_move {K : Wide → Prop} (hk : ∀ a, ¬ K (.roles a)) (s t : State) (m : Move K s t) (h : onePrinter s) :
    onePrinter t := onePrinter_congr (fun a => role_move (hk a) s t m) h

theorem exec_onePrinter {c : Instr} {s t : State} (h : exec c s = .next t) (hs : onePrinter s) : onePrinter t := by
  by_cases hc : c = .start
  · subst hc
    refine exec_start_keeps (onePrinter_move fun _ => id) (fun u a b ha => ?_) (fun u k => ?_) (fun _ k => k) h hs
    · simp [lineOf, coldBase, Line.cold, LineSetup.cold] at ha
    · exact onePrinter_congr (fun a => by simp [lineOf, volatileReset, restartedLine]) k
  · exact exec_keeps_of_setup (fun K hk => onePrinter_move hk) onePrinter_takeLineSetup hc h hs

/-- Settles O8: a LINE-SETUP that passes is within the values and finds no other journal printer, a poll is issued only where
the buffer has a place for its answer, and an OFF line takes no exchange. -/
theorem lineInvariantKept : Obligations.LineInvariantKept := by
  refine everyStepKeeps_of (fun _ _ h => h) (fun _ h => h) fun c s t h hs => ?_
  obtain ⟨lines, one⟩ := linesOk_iff.1 hs
  exact linesOk_iff.2 ⟨fun st => exec_lineOk h (lines st), exec_onePrinter h one⟩

end Sys2Proof.Machine
end

section
/-! SUPPORT. The transactions with their references, and the journal's slots and sequences, as the elementary moves keep
them. -/

namespace Sys2Proof.Machine
open Sys2Proof

/-! ## Transactions (R18, R25) -/

theorem transactionsOk_congr {s t : State} (h : transactionsOk s) (ho : t.ttr.ott = s.ttr.ott)
    (hl : t.ttr.late = s.ttr.late) : transactionsOk t := by
  unfold transactionsOk heldRefs at *
  rw [ho, hl]
  exact h

/-- The entry of a reference leaves the OTT alone. -/
theorem transactionsOk_leave {s t : State} {e : OttEntry} (h : transactionsOk s)
    (ho : t.ttr.ott = s.ttr.ott.filter fun x => x.ref ≠ e.ref) (hl : t.ttr.late = s.ttr.late) : transactionsOk t := by
  obtain ⟨hn, h1, h2⟩ := h
  unfold transactionsOk heldRefs
  rw [ho, hl]
  refine ⟨?_, (List.length_filter_le _ _).trans h1, h2⟩
  exact ((List.filter_sublist.map OttEntry.ref).append (List.Sublist.refl _)).nodup hn

theorem transactionsOk_late {s t : State} {l : LateEntry} (h : transactionsOk s) (ho : t.ttr.ott = s.ttr.ott)
    (hl : t.ttr.late = s.ttr.late.filter fun x => x.ref ≠ l.ref) : transactionsOk t := by
  obtain ⟨hn, h1, h2⟩ := h
  unfold transactionsOk heldRefs
  rw [ho, hl]
  refine ⟨?_, h1, (List.length_filter_le _ _).trans h2⟩
  exact ((List.Sublist.refl _).append (List.filter_sublist.map LateEntry.ref)).nodup hn

/-- An element of a list without repeated references is the only one of its reference. -/
theorem filter_ref_length {α : Type} (ref : α → Ref) {xs : List α} (h : (xs.map ref).Nodup) {e : α} (he : e ∈ xs) :
    (xs.filter fun x => ref x ≠ ref e).length + 1 = xs.length := by
  induction xs with
  | nil => simp at he
  | cons x rest ih =>
    obtain ⟨hx, hrest⟩ := List.nodup_cons.1 h
    rcases List.mem_cons.1 he with rfl | he
    · have others : ∀ y ∈ rest, ¬ ref y = ref e := fun y hy k => hx (k ▸ List.mem_map_of_mem hy)
      simpa using others
    · have hne : ref x ≠ ref e := fun k => hx (k ▸ List.mem_map_of_mem he)
      simpa [List.filter_cons, hne] using ih hrest he

theorem ott_nodup {s : State} (h : transactionsOk s) : (s.ttr.ott.map OttEntry.ref).Nodup := List.Nodup.of_append_left h.1

theorem late_nodup {s : State} (h : transactionsOk s) : (s.ttr.late.map LateEntry.ref).Nodup := List.Nodup.of_append_right h.1

theorem displaceOldest_late (s : State) (h : transactionsOk s) :
    (displaceOldest s).ttr.late = if s.ttr.late.length < Config.lateCapacity then s.ttr.late else s.ttr.late.tail := by
  have hn := late_nodup h
  unfold displaceOldest
  split
  · next hl => simp [hl]
  · next l rest hl =>
    rw [hl] at hn
    obtain ⟨hx, -⟩ := List.nodup_cons.1 hn
    split
    · next hfull =>
      rw [if_neg (by omega), endLate_ttr, hl]
      have others : ∀ y ∈ rest, ¬ y.ref = l.ref := fun y hy k => hx (k ▸ List.mem_map_of_mem hy)
      simpa using others
    · next hroom => rw [if_pos (by omega), hl]

theorem moveToLate_late (e : OttEntry) (s : State) :
    (moveToLate e s).ttr.late = (displaceOldest s).ttr.late ++ [lateOf e s] := by
  simp [moveToLate]

/-- What a timed-out entry leaves behind: the transactions before its end, without it, and the Late List with it last. -/
theorem transactionsOk_moveToLate {s u : State} {e : OttEntry} (h : transactionsOk s) (he : e ∈ s.ttr.ott)
    (ho : u.ttr.ott = s.ttr.ott.filter fun x => x.ref ≠ e.ref) (hl : u.ttr.late = s.ttr.late) :
    transactionsOk (moveToLate e u) := by
  have hu := transactionsOk_leave h ho hl
  have late : (displaceOldest u).ttr.late.Sublist s.ttr.late := by
    rw [displaceOldest_late u hu, hl]
    split
    · exact List.Sublist.refl _
    · exact List.tail_sublist _
  have room : (displaceOldest u).ttr.late.length < Config.lateCapacity := by
    rw [displaceOldest_late u hu, hl]
    split
    · assumption
    · have := h.2.2
      simp only [List.length_tail, Config.lateCapacity] at *
      omega
  unfold transactionsOk heldRefs
  rw [moveToLate_late, (moveToLate_keeps e u).2.2.1, ho]
  refine ⟨?_, (List.length_filter_le _ _).trans h.2.1, by simpa using room⟩
  rw [List.map_append, ← List.append_assoc]
  refine nodup_snoc ?_ ?_
  · exact ((List.filter_sublist.map OttEntry.ref).append (late.map LateEntry.ref)).nodup h.1
  · intro hm
    rcases List.mem_append.1 hm with hm | hm
    · obtain ⟨x, hx, hr⟩ := List.mem_map.1 hm
      have := (List.mem_filter.1 hx).2
      simp only [ne_eq, decide_eq_true_eq] at this
      exact this hr
    · have hm' : e.ref ∈ s.ttr.late.map LateEntry.ref := (late.map LateEntry.ref).subset hm
      exact (List.disjoint_of_nodup_append h.1) (List.mem_map_of_mem he) hm'

theorem transactionsOk_move {K : Wide → Prop} (hk : ¬ K .loose) (s t : State) (m : Move K s t) (h : transactionsOk s) :
    transactionsOk t := by
  cases m
  case enter e hk' hf hl hr hn =>
    have hne := hn.resolve_left hk
    obtain ⟨hnd, h1, h2⟩ := h
    refine ⟨?_, by simpa using hl, by simpa using h2⟩
    unfold heldRefs at *
    simp only [reserveSlots_keeps, onTtr_ttr, List.map_append, List.map_cons, List.map_nil, List.append_assoc]
    rw [List.nodup_append] at hnd ⊢
    obtain ⟨ho, hl', hd⟩ := hnd
    simp only [List.mem_append, not_or] at hne
    refine ⟨ho, List.nodup_cons.2 ⟨hne.2, hl'⟩, fun a ha b hb => ?_⟩
    rcases List.mem_cons.1 hb with rfl | hb
    · exact fun k => hne.1 (k ▸ ha)
    · exact hd a ha b hb
  case await f hf =>
    obtain ⟨hnd, h1, h2⟩ := h
    have same : OttEntry.ref ∘ f = OttEntry.ref := funext hf
    exact ⟨by simpa [heldRefs, same] using hnd, by simpa using h1, by simpa using h2⟩
  case leave e o b he => exact transactionsOk_leave h (by rw [endEntry_ttr]) (by simp)
  case abandon cause e he => exact transactionsOk_leave (e := e) h (by rw [endEntry_ttr]; simp) (by simp)
  case late l cause hl => exact transactionsOk_late h (by simp) (by rw [endLate_ttr])
  case lateApproval l hl => exact transactionsOk_late (l := l) h (by simp) (by rw [endLate_ttr]; simp)
  case timedOut e st f he =>
    exact transactionsOk_moveToLate h he (by simp [removeOtt]) (by simp [removeOtt])
  all_goals exact transactionsOk_congr h (by simp) (by simp)

/-! ## The slots and sequences of the journal (R115, R119) -/

/-- A journal accounts for its slots with so many reserved, and its entries are consecutive. -/
def balanced (r : Nat) (j : Jrn) : Prop :=
  j.used + j.reserved + j.free = Config.journalSlots ∧ j.reserved = r ∧ j.used = slotsOf j.entries ∧
    consecutive j.entries j.nextSeq

theorem journalOk_iff {s : State} : journalOk s ↔ transactionsOk s ∧ balanced (reservedSlots s) s.jrn :=
  ⟨fun ⟨ht, ⟨h1, h2, h3⟩, h4⟩ => ⟨ht, h1, h2, h3, h4⟩, fun ⟨ht, h1, h2, h3, h4⟩ => ⟨ht, ⟨h1, h2, h3⟩, h4⟩⟩

theorem balanced_congr {r : Nat} {j k : Jrn} (h : balanced r j) (he : k.entries = j.entries) (hu : k.used = j.used)
    (hr : k.reserved = j.reserved) (hf : k.free = j.free) (hn : k.nextSeq = j.nextSeq) : balanced r k := by
  unfold balanced at *
  rw [he, hu, hr, hf, hn]
  exact h

theorem consecutive_snoc {es : List Entry} {n : Nat} {e : Entry} (h : consecutive es n) (he : e.seq = n) :
    consecutive (es ++ [e]) (n + 1) := by
  induction es with
  | nil => exact ⟨by simp [he], trivial⟩
  | cons x rest ih =>
    obtain ⟨hx, hrest⟩ := h
    refine ⟨?_, ih hrest⟩
    have : (rest ++ [e]).length = rest.length + 1 := by simp
    show x.seq + ((rest ++ [e]).length + 1) = n + 1
    omega

theorem consecutive_dropWhile (p : Entry → Bool) {es : List Entry} {n : Nat} (h : consecutive es n) :
    consecutive (es.dropWhile p) n := by
  induction es with
  | nil => exact h
  | cons x rest ih =>
    unfold List.dropWhile
    split
    · exact ih h.2
    · exact h

theorem slotsOf_append (a b : List Entry) : slotsOf (a ++ b) = slotsOf a + slotsOf b := by simp [slotsOf]

/-- A write releases its reservation and takes its slots from the free ones, or is lost with its reservation released. -/
theorem balanced_writeEntry {r k : Nat} {d : Draft} {s : State} (h : balanced r s.jrn) (hk : k ≤ r) :
    balanced (r - k) (writeEntry k d s).jrn := by
  obtain ⟨h1, h2, h3, h4⟩ := h
  by_cases hw : canWrite k d s
  · have w : wrote k d s (writeEntry k d s) := writeEntry_wrote hw
    obtain ⟨room, -⟩ := hw
    rw [w]
    refine ⟨?_, by rw [← h2], ?_, consecutive_snoc h4 rfl⟩
    · show s.jrn.used + draftSlots d + (s.jrn.reserved - k) + (s.jrn.free + k - draftSlots d) = _
      omega
    · simp only [slotsOf_append, h3]
      simp [slotsOf]
  · have lost : writeEntry k d s = loseEntry k s := by
      unfold writeEntry
      rw [if_pos (by unfold canWrite at hw; omega)]
    rw [lost]
    refine ⟨?_, ?_, ?_, ?_⟩
    · simp [loseEntry]; omega
    · simp [loseEntry, h2]
    · simpa [loseEntry] using h3
    · simpa [loseEntry] using h4

theorem balanced_reserveSlots {r n : Nat} {s : State} (h : balanced r s.jrn) (hn : n ≤ s.jrn.free) :
    balanced (r + n) (reserveSlots n s).jrn := by
  obtain ⟨h1, h2, h3, h4⟩ := h
  refine ⟨?_, ?_, ?_, ?_⟩
  · simp [reserveSlots]; omega
  · simp [reserveSlots, h2]
  · simpa [reserveSlots] using h3
  · simpa [reserveSlots] using h4

/-- Freeing returns the slots of the entries that go. -/
theorem balanced_freeEntries {r : Nat} {s : State} (h : balanced r s.jrn) : balanced r (freeEntries s).jrn := by
  obtain ⟨h1, h2, h3, h4⟩ := h
  have split : slotsOf s.jrn.entries =
      slotsOf (s.jrn.entries.takeWhile (freeable s)) + slotsOf (s.jrn.entries.dropWhile (freeable s)) := by
    rw [← slotsOf_append, List.takeWhile_append_dropWhile]
  have taken : ((s.jrn.entries.takeWhile (freeable s)).map fun e => draftSlots e.draft).sum =
      slotsOf (s.jrn.entries.takeWhile (freeable s)) := rfl
  refine ⟨?_, h2, ?_, consecutive_dropWhile _ h4⟩
  · show s.jrn.used - slotsOf _ + s.jrn.reserved + (s.jrn.free + slotsOf _) = _
    omega
  · show s.jrn.used - slotsOf (s.jrn.entries.takeWhile (freeable s)) = slotsOf (s.jrn.entries.dropWhile (freeable s))
    omega

/-- The transactions are well kept and the journal accounts for its slots, with some more reserved than they hold. -/
def journalWith (x : Nat) (s : State) : Prop := transactionsOk s ∧ balanced (reservedSlots s + x) s.jrn

theorem journalWith_zero {s : State} : journalWith 0 s ↔ journalOk s := by
  unfold journalWith
  rw [Nat.add_zero, journalOk_iff]

theorem journalWith_congr {x : Nat} {s t : State} (h : journalWith x s) (ho : t.ttr.ott = s.ttr.ott)
    (hl : t.ttr.late = s.ttr.late) (hj : t.jrn = s.jrn) : journalWith x t := by
  refine ⟨transactionsOk_congr h.1 ho hl, ?_⟩
  have := h.2
  unfold reservedSlots at *
  rwa [ho, hl, hj]

/-- The end of an open transaction releases its 4 slots. -/
theorem journalWith_leave {x : Nat} {s u t : State} {e : OttEntry} {d : Draft} (h : journalWith x s) (he : e ∈ s.ttr.ott)
    (hu : u.jrn = s.jrn) (hj : t.jrn = (writeEntry Config.ottSlots d u).jrn)
    (ho : t.ttr.ott = s.ttr.ott.filter fun x => x.ref ≠ e.ref) (hl : t.ttr.late = s.ttr.late) : journalWith x t := by
  have count := filter_ref_length OttEntry.ref (ott_nodup h.1) he
  refine ⟨transactionsOk_leave h.1 ho hl, ?_⟩
  have slots : reservedSlots s + x - Config.ottSlots = reservedSlots t + x ∧ Config.ottSlots ≤ reservedSlots s + x := by
    unfold reservedSlots
    rw [ho, hl]
    simp only [Config.ottSlots, Config.lateSlots]
    omega
  rw [hj, ← slots.1]
  exact balanced_writeEntry (by rw [hu]; exact h.2) slots.2

theorem journalWith_late {x : Nat} {s u t : State} {l : LateEntry} {d : Draft} (h : journalWith x s) (he : l ∈ s.ttr.late)
    (hu : u.jrn = s.jrn) (hj : t.jrn = (writeEntry Config.lateSlots d u).jrn) (ho : t.ttr.ott = s.ttr.ott)
    (hl : t.ttr.late = s.ttr.late.filter fun x => x.ref ≠ l.ref) : journalWith x t := by
  have count := filter_ref_length LateEntry.ref (late_nodup h.1) he
  refine ⟨transactionsOk_late h.1 ho hl, ?_⟩
  have slots : reservedSlots s + x - Config.lateSlots = reservedSlots t + x ∧ Config.lateSlots ≤ reservedSlots s + x := by
    unfold reservedSlots
    rw [ho, hl]
    simp only [Config.ottSlots, Config.lateSlots]
    omega
  rw [hj, ← slots.1]
  exact balanced_writeEntry (by rw [hu]; exact h.2) slots.2

/-- A write that needs no more slots than so many of its reservation leaves the rest of them free. -/
theorem writeEntry_free {k n : Nat} {d : Draft} {s : State} (h : draftSlots d + n ≤ k) :
    s.jrn.free + n ≤ (writeEntry k d s).jrn.free := by
  by_cases hw : canWrite k d s
  · have w : wrote k d s (writeEntry k d s) := writeEntry_wrote hw
    rw [w]
    show _ ≤ s.jrn.free + k - draftSlots d
    omega
  · have lost : writeEntry k d s = loseEntry k s := by
      unfold writeEntry
      rw [if_pos (by unfold canWrite at hw; omega)]
    rw [lost]
    simp [loseEntry]
    omega

/-- A TXN entry without a breakdown takes at most 2 slots. -/
theorem txnDraft_plain (e : OttEntry) (o : TxnOutcome) : draftSlots (txnDraft e o []) ≤ 2 := by
  unfold draftSlots draftBytes txnDraft
  dsimp only
  split <;> split <;> simp

theorem journalWith_displaceOldest {x : Nat} {s : State} (h : journalWith x s) :
    journalWith x (displaceOldest s) ∧ s.jrn.free ≤ (displaceOldest s).jrn.free := by
  unfold displaceOldest
  split
  · exact ⟨h, le_rfl⟩
  · next l rest hl =>
    split
    · refine ⟨journalWith_late (l := l) (d := lateDraft l .expired) h (by simp [hl]) rfl rfl (by simp) (by rw [endLate_ttr]), ?_⟩
      have := writeEntry_free (n := 0) (k := Config.lateSlots) (d := lateDraft l .expired) (s := s) (lateDraft_slots l _)
      simpa [endLate] using this
    · exact ⟨h, le_rfl⟩

theorem journalWith_timedOut {x : Nat} {s : State} {e : OttEntry} {st : Station} {f : ScreenContext → ScreenContext}
    (h : journalWith x s) (he : e ∈ s.ttr.ott) :
    journalWith x (moveToLate e (removeOtt e.ref (composeWith st f
      (writeEntry Config.ottSlots (txnDraft e .timedOut []) s)))) := by
  generalize hu : removeOtt e.ref (composeWith st f (writeEntry Config.ottSlots (txnDraft e .timedOut []) s)) = u
  have left : journalWith x u :=
    journalWith_leave (d := txnDraft e .timedOut []) h he rfl (by simp [← hu]) (by simp [← hu, removeOtt]) (by simp [← hu])
  have free : 2 ≤ u.jrn.free := by
    have := writeEntry_free (n := 2) (k := Config.ottSlots) (d := txnDraft e .timedOut []) (s := s)
      (Nat.add_le_add_right (txnDraft_plain e _) 2)
    have same : u.jrn.free = (writeEntry Config.ottSlots (txnDraft e .timedOut []) s).jrn.free := by simp [← hu]
    omega
  obtain ⟨displaced, more⟩ := journalWith_displaceOldest left
  refine ⟨transactionsOk_moveToLate h.1 he (by simp [← hu, removeOtt]) (by simp [← hu]), ?_⟩
  have slots : reservedSlots (moveToLate e u) + x = reservedSlots (displaceOldest u) + x + Config.lateSlots := by
    unfold reservedSlots
    rw [moveToLate_late]
    simp only [moveToLate_keeps, displaceOldest_keeps, List.length_append, List.length_cons, List.length_nil,
      Config.lateSlots]
    omega
  rw [slots]
  have held := balanced_reserveSlots (n := Config.lateSlots) displaced.2 (free.trans more)
  simpa [moveToLate] using held

theorem queueReversal_jrn (ref : Ref) (cause : ReversalCause) (dir : CashDirection) (n : Nat) (s : State) :
    (queueReversal ref cause dir n s).jrn = s.jrn := by simp

theorem journalWith_move {K : Wide → Prop} {x : Nat} (hk : ¬ K .loose) (s t : State) (m : Move K s t)
    (h : journalWith x s) : journalWith x t := by
  have kept := transactionsOk_move hk s t m h.1
  cases m
  case enter e hk' hf hl hr hn =>
    refine ⟨kept, ?_⟩
    have held := balanced_reserveSlots (n := Config.ottSlots)
      (s := onTtr (fun t => { t with ott := t.ott ++ [e] }) s) (r := reservedSlots s + x) h.2 hf
    have slots : reservedSlots (reserveSlots Config.ottSlots (onTtr (fun t => { t with ott := t.ott ++ [e] }) s)) + x =
        reservedSlots s + x + Config.ottSlots := by
      simp [reservedSlots, Config.ottSlots]
      omega
    rw [slots]
    exact held
  case await f hf => exact ⟨kept, by simpa [reservedSlots] using h.2⟩
  case leave e o b he =>
    exact journalWith_leave (d := txnDraft e o b) h (he.resolve_left hk) rfl rfl (by rw [endEntry_ttr]) (by simp)
  case abandon cause e he =>
    exact journalWith_leave (e := e) (d := txnDraft e .abandoned []) h (he.resolve_left hk) (queueReversal_jrn _ _ _ _ s) rfl
      (by rw [endEntry_ttr]; simp) (by simp)
  case late l cause hl =>
    exact journalWith_late (d := lateDraft l cause) h hl rfl rfl (by simp) (by rw [endLate_ttr])
  case lateApproval l hl =>
    exact journalWith_late (l := l) (d := lateDraft l .lateApproval) h hl (queueReversal_jrn _ _ _ _ s) rfl (by simp)
      (by rw [endLate_ttr]; simp)
  case timedOut e st f he => exact journalWith_timedOut h he
  case write d => exact ⟨kept, by simpa [reservedSlots] using balanced_writeEntry (k := 0) (d := d) h.2 (Nat.zero_le _)⟩
  case free => exact ⟨kept, by simpa [reservedSlots] using balanced_freeEntries h.2⟩
  case jrn f he hu hr hf hn ha hb => exact ⟨kept, balanced_congr h.2 he hu hr hf hn⟩
  case accept n hk' => exact ⟨kept, balanced_congr h.2 rfl rfl rfl rfl rfl⟩
  case rollJrn hk' =>
    refine ⟨kept, ?_⟩
    obtain ⟨h1, h2, h3, h4⟩ := h.2
    refine ⟨?_, h2, rfl, trivial⟩
    show 0 + s.jrn.reserved + (s.jrn.free + s.jrn.used) = _
    omega
  all_goals exact journalWith_congr h (by simp) (by simp) (by simp)

/-! ## The journal at a start (R119, R200) -/

/-- Abandoning entries takes them from the OTT. -/
theorem abandon_ott (cause : ReversalCause) (e : OttEntry) (s : State) :
    (abandon cause e s).ttr.ott = s.ttr.ott.filter fun x => x.ref ≠ e.ref := by
  unfold abandon
  dsimp only
  rw [endEntry_ttr]
  simp

theorem abandonFold_ott (cause : ReversalCause) (es : List OttEntry) (s : State) :
    ∀ x ∈ (es.foldl (fun acc e => abandon cause e acc) s).ttr.ott, x ∈ s.ttr.ott ∧ ∀ e ∈ es, x.ref ≠ e.ref := by
  induction es generalizing s with
  | nil => intro x hx; exact ⟨hx, by simp⟩
  | cons e rest ih =>
    intro x hx
    obtain ⟨h1, h2⟩ := ih (abandon cause e s) x hx
    rw [abandon_ott] at h1
    obtain ⟨h3, h4⟩ := List.mem_filter.1 h1
    refine ⟨h3, fun y hy => ?_⟩
    rcases List.mem_cons.1 hy with rfl | hy
    · simpa using h4
    · exact h2 y hy

/-- A warm start leaves no open transaction. -/
theorem abandoned_ott (s : State) : (abandoned s).ttr.ott = [] := by
  refine List.eq_nil_iff_forall_not_mem.2 fun x hx => ?_
  obtain ⟨h1, h2⟩ := abandonFold_ott _ _ _ x hx
  exact h2 x (List.mem_filter.2 ⟨h1, rfl⟩) rfl

theorem abandoned_late (s : State) : (abandoned s).ttr.late = [] := by simp [abandoned, volatileReset]

theorem balanced_returnReserved {r : Nat} {s : State} (h : balanced r s.jrn) : balanced 0 (returnReserved s).jrn := by
  obtain ⟨h1, h2, h3, h4⟩ := h
  refine ⟨?_, rfl, h3, h4⟩
  show s.jrn.used + 0 + (s.jrn.free + s.jrn.reserved) = _
  omega

/-- The wider kinds of moves of a start over transactions that are well kept. -/
def soundStart : Wide → Prop
  | .screens _ => True
  | .printers _ => True
  | _ => False

theorem journalOk_warmStart {s : State} (h : journalOk s) : journalOk (warmStart s) := by
  obtain ⟨ht, hb⟩ := journalOk_iff.1 h
  have cut : journalWith (Config.lateSlots * s.ttr.late.length) (volatileReset s) :=
    ⟨transactionsOk_volatileReset ht, balanced_congr (by exact hb) rfl rfl rfl rfl rfl⟩
  have left : journalWith (Config.lateSlots * s.ttr.late.length) (abandoned s) :=
    (abandoned_moves (K := soundStart) (.inr ht)).keep (journalWith_move id) cut
  have returned : journalWith 0 (returnReserved (abandoned s)) := by
    refine ⟨left.1, ?_⟩
    have none : reservedSlots (returnReserved (abandoned s)) = 0 := by
      simp [reservedSlots, returnReserved, abandoned_ott, abandoned_late]
    rw [none]
    exact balanced_returnReserved left.2
  have warm : journalWith 0 (warmStart s) :=
    (warmStart_moves (K := soundStart) (fun _ => trivial) (fun _ => trivial)).keep (journalWith_move id) returned
  exact journalWith_zero.1 warm

theorem journalOk_coldStart (s : State) : journalOk (coldStart s) := by
  obtain ⟨journal, -⟩ := resetMeetsTheInvariants
  have base : journalOk (coldBase s) := journal
  have run : Moves soundStart (coldBase s) (coldStart s) := coldStart_moves
  exact journalWith_zero.1 (run.keep (journalWith_move id) (journalWith_zero.2 base))

/-- Loose moves stand in a command only where the transactions are not well kept. -/
theorem not_loose {c : Instr} {s : State} (h : transactionsOk s) : ¬ wideOf (¬ transactionsOk s) c .loose := by
  cases c <;> exact not_not_intro h

/-- Settles O5: a write takes its slots where it releases its reservation, and each end of a transaction releases exactly the
slots that R119 holds back for it. -/
theorem journalInvariantKept : Obligations.JournalInvariantKept := by
  refine everyStepKeeps_of (fun _ _ h => h) (fun _ h => h) fun c s t h hs => ?_
  by_cases hc : c = .start
  · subst hc
    simp only [exec, execStart] at h
    split at h
    · exact Host.Outcome.next.inj h ▸ journalOk_warmStart hs
    · exact Host.Outcome.next.inj h ▸ journalOk_coldStart s
  · have kept : journalWith 0 t := (exec_moves hc h).keep (journalWith_move (not_loose hs.1)) (journalWith_zero.2 hs)
    exact journalWith_zero.1 kept

end Sys2Proof.Machine
end

section
/-! SUPPORT. The Advice Queue with its areas, order and numbers, as the elementary moves keep them. -/

namespace Sys2Proof.Machine
open Sys2Proof

/-! ## The order of the queue (R107) -/

/-- The ALARM advices stand in front of every other entry. -/
def alarmsFirst (q : List QueueEntry) : Prop := q.Pairwise fun a b => isAlarm b = true → isAlarm a = true

theorem alarmsFirst_iff {q : List QueueEntry} :
    (q.dropWhile isAlarm).all (fun x => !isAlarm x) = true ↔ alarmsFirst q := by
  induction q with
  | nil => simp [alarmsFirst]
  | cons a rest ih =>
    unfold alarmsFirst at *
    rw [List.pairwise_cons]
    by_cases ha : isAlarm a = true
    · simp only [List.dropWhile_cons, ha, if_true, ih]
      exact ⟨fun h => ⟨fun _ _ _ => trivial, h⟩, fun h => h.2⟩
    · simp only [List.dropWhile_cons, ha]
      constructor
      · intro h
        have none : ∀ b ∈ rest, isAlarm b = false := by simpa [ha] using h
        refine ⟨fun b hb k => absurd k (by simp [none b hb]), ?_⟩
        exact List.pairwise_of_forall_mem_list fun x hx y hy k => absurd k (by simp [none y hy])
      · rintro ⟨h, -⟩
        have none : ∀ b ∈ rest, isAlarm b = false := fun b hb => by
          have := h b hb
          simpa [ha] using this
        simpa [ha] using none

/-! ## The numbers of the queue (R108) -/

/-- The areas, the order and the numbers of a queue are kept, with at most so many general entries and reversals. -/
structure QueueFits (q : List QueueEntry) : Prop where
  general : q.countP isGeneral ≤ Config.generalCapacity
  alarms : ∀ st, q.countP (fun x => alarmStation x = some st) ≤ 1
  order : alarmsFirst q
  numbers : (q.filterMap entryNumber).Nodup

theorem queueOk_iff {s : State} :
    queueOk s ↔ transactionsOk s ∧ reversalSum s ≤ Config.reversalCommitment ∧ QueueFits s.sda.queue := by
  constructor
  · rintro ⟨ht, hg, hr, ha, ho, hn⟩
    exact ⟨ht, hr, hg, ha, alarmsFirst_iff.1 ho, hn⟩
  · rintro ⟨ht, hr, hg, ha, ho, hn⟩
    exact ⟨ht, hg, hr, ha, alarmsFirst_iff.2 ho, hn⟩

theorem isAlarm_iff (q : QueueEntry) : isAlarm q = true ↔ ∃ st, alarmStation q = some st := by
  cases q with
  | advice a => cases hb : a.body <;> simp [isAlarm, isKind, adviceKind, alarmStation, hb]
  | reservation r => simp [isAlarm, isKind, alarmStation]

/-- The ALARM advices of the queue are those of its eight stations. -/
theorem countP_isAlarm (q : List QueueEntry) :
    q.countP isAlarm = (Station.all.map fun st => q.countP fun x => alarmStation x = some st).sum := by
  induction q with
  | nil => rfl
  | cons a rest ih =>
    have one : (if isAlarm a = true then 1 else 0) =
        (Station.all.map fun st => if alarmStation a = some st then 1 else 0).sum := by
      cases h : alarmStation a with
      | none =>
        have : ¬ isAlarm a = true := by rw [isAlarm_iff, h]; simp
        simp [this]
      | some st =>
        have : isAlarm a = true := (isAlarm_iff a).2 ⟨st, h⟩
        rw [if_pos this]
        cases st <;> rfl
    simp only [List.countP_cons, ih, List.sum_map_add, decide_eq_true_eq, one]

theorem general_or (q : QueueEntry) :
    isGeneral q = true ∨ isKind .reversal q = true ∨ isAlarm q = true := by
  cases q with
  | advice a => cases hb : a.body <;> simp [isGeneral, isAlarm, isKind, adviceKind, hb]
  | reservation r => simp [isGeneral, isReservation]

theorem length_le_areas (q : List QueueEntry) :
    q.length ≤ q.countP isGeneral + q.countP (isKind .reversal) + q.countP isAlarm := by
  induction q with
  | nil => simp
  | cons a rest ih =>
    simp only [List.length_cons, List.countP_cons]
    rcases general_or a with h | h | h <;> simp only [h, if_true] <;> omega

/-- The numbers of the queue are far fewer than there are. -/
theorem numbers_few {s : State} (hr : reversalSum s ≤ Config.reversalCommitment) (h : QueueFits s.sda.queue) :
    (s.sda.queue.filterMap entryNumber).length < Config.topAdvice := by
  have alarms : s.sda.queue.countP isAlarm ≤ 8 := by
    rw [countP_isAlarm]
    have each := fun st => h.alarms st
    simp only [Station.all, List.map_cons, List.map_nil, List.sum_cons, List.sum_nil]
    have := each .s1; have := each .s2; have := each .s3; have := each .s4
    have := each .s5; have := each .s6; have := each .s7; have := each .s8
    omega
  have reversals : s.sda.queue.countP (isKind .reversal) ≤ Config.reversalCommitment := by
    unfold reversalSum queueCount at hr
    omega
  have all := length_le_areas s.sda.queue
  have fewer := List.length_filterMap_le entryNumber s.sda.queue
  have general := h.general
  simp only [Config.reversalCommitment, Config.generalCapacity, Config.topAdvice] at *
  omega

/-- The number the next advice takes is held by no advice. -/
theorem adviceNumber_free {s : State} (hr : reversalSum s ≤ Config.reversalCommitment) (h : QueueFits s.sda.queue) :
    adviceNumber s ∉ s.sda.queue.filterMap entryNumber := passOver_free (numbers_few hr h)

/-! ## Changes of the queue (R105 to R110) -/

theorem alike_general {a b : QueueEntry} (h : alike a b) : isGeneral b = isGeneral a := by
  obtain ⟨hn, -, hk⟩ := h
  have hres : isReservation b = isReservation a := by
    cases a <;> cases b <;> simp [entryNumber, isReservation] at *
  simp [isGeneral, hk, hres]

/-- A queue whose entries are alike counts as many entries of a test that alike entries pass alike. -/
theorem countP_alike {p : QueueEntry → Bool} (hp : ∀ a b, alike a b → p b = p a) {q r : List QueueEntry}
    (h : List.Forall₂ alike q r) : r.countP p = q.countP p := by
  induction h with
  | nil => rfl
  | cons hab _ ih => simp only [List.countP_cons, ih, hp _ _ hab]

theorem QueueFits.alike {q r : List QueueEntry} (h : QueueFits q) (hq : List.Forall₂ alike q r) : QueueFits r where
  general := by rw [countP_alike (fun _ _ k => alike_general k) hq]; exact h.general
  alarms st := by
    rw [countP_alike (fun a b k => by simp only [k.2.1]) hq]
    exact h.alarms st
  order := by
    have order := alarmsFirst_iff.2 h.order
    refine alarmsFirst_iff.1 ?_
    clear h
    induction hq with
    | nil => exact order
    | @cons a b qs rs hab hrest ih =>
      have same : isAlarm b = isAlarm a := hab.2.2 .alarm
      cases ha : isAlarm a with
      | true =>
        simp only [List.dropWhile_cons, ha, same, if_true] at order ⊢
        exact ih order
      | false =>
        have none : ∀ x ∈ qs, isAlarm x = false := by simpa [List.dropWhile_cons, ha] using order
        have count : rs.countP isAlarm = 0 := by
          rw [countP_alike (p := isAlarm) (fun a b k => k.2.2 .alarm) hrest]
          exact List.countP_eq_zero.2 fun x hx => by simp [none x hx]
        have none' := List.countP_eq_zero.1 count
        simpa [List.dropWhile_cons, ha, same] using none'
  numbers := by
    have same : r.filterMap entryNumber = q.filterMap entryNumber := by
      clear h
      induction hq with
      | nil => rfl
      | cons hab _ ih => simp only [List.filterMap_cons, hab.1, ih]
    rw [same]
    exact h.numbers

theorem QueueFits.sublist {q r : List QueueEntry} (h : QueueFits q) (hs : r.Sublist q) : QueueFits r where
  general := (hs.countP_le).trans h.general
  alarms st := (hs.countP_le).trans (h.alarms st)
  order := h.order.sublist hs
  numbers := (hs.filterMap entryNumber).nodup h.numbers

/-- An entry that is no ALARM advice goes behind the others, with a number of its own and a place in its area. -/
theorem QueueFits.snoc {q : List QueueEntry} {x : QueueEntry} (h : QueueFits q) (ha : isAlarm x = false)
    (hg : isGeneral x = true → q.countP isGeneral < Config.generalCapacity)
    (hn : ∀ n, entryNumber x = some n → n ∉ q.filterMap entryNumber) : QueueFits (q ++ [x]) where
  general := by
    have := h.general
    by_cases hx : isGeneral x = true
    · have := hg hx
      simp only [List.countP_append, List.countP_cons, List.countP_nil, hx, if_true]
      omega
    · simpa [List.countP_append, List.countP_cons, hx] using this
  alarms st := by
    have none : ¬ alarmStation x = some st := fun k => by
      have := (isAlarm_iff x).2 ⟨st, k⟩
      rw [ha] at this; cases this
    simpa [List.countP_append, List.countP_cons, none] using h.alarms st
  order := by
    unfold alarmsFirst
    rw [List.pairwise_append]
    refine ⟨h.order, List.pairwise_singleton _ _, fun a _ b hb k => ?_⟩
    rw [List.mem_singleton.1 hb, ha] at k
    cases k
  numbers := by
    rw [List.filterMap_append]
    cases hx : entryNumber x with
    | none => simpa [List.filterMap_cons, hx] using h.numbers
    | some n =>
      have : [x].filterMap entryNumber = [n] := by simp [hx]
      rw [this]
      exact nodup_snoc h.numbers (hn n hx)

/-- The ALARM advice of a station without one goes behind the other ALARM advices. -/
theorem QueueFits.alarm {q : List QueueEntry} {n : Nat} {st : Station} {time : Stamp} (h : QueueFits q)
    (hs : q.any (fun x => alarmStation x = some st) = false) (hn : n ∉ q.filterMap entryNumber) :
    QueueFits (q.takeWhile isAlarm ++ .advice { number := n, body := .alarm st time 1, sent := none } ::
      q.dropWhile isAlarm) := by
  have perm : (q.takeWhile isAlarm ++ .advice { number := n, body := .alarm st time 1, sent := none } ::
      q.dropWhile isAlarm).Perm (.advice { number := n, body := .alarm st time 1, sent := none } :: q) := by
    have := List.perm_middle (a := QueueEntry.advice { number := n, body := .alarm st time 1, sent := none })
      (l₁ := q.takeWhile isAlarm) (l₂ := q.dropWhile isAlarm)
    rwa [List.takeWhile_append_dropWhile] at this
  refine ⟨?_, fun a => ?_, ?_, ?_⟩
  · rw [perm.countP_eq]
    simpa [List.countP_cons, isGeneral, isKind, adviceKind, isReservation] using h.general
  · rw [perm.countP_eq, List.countP_cons]
    by_cases ha : a = st
    · subst ha
      have none : q.countP (fun x => alarmStation x = some a) = 0 := by
        refine List.countP_eq_zero.2 fun x hx => ?_
        have := List.any_eq_false.1 hs x hx
        simpa using this
      rw [none]
      show 0 + ite _ 1 0 ≤ 1
      split <;> omega
    · have other : ¬ some st = some a := fun k => ha (Option.some.inj k).symm
      show _ + (if decide (some st = some a) = true then 1 else 0) ≤ 1
      rw [if_neg (by simpa using other)]
      exact h.alarms a
  · have front : ∀ x ∈ q.takeWhile isAlarm, isAlarm x = true := fun x hx => List.mem_takeWhile_imp hx
    unfold alarmsFirst
    rw [List.pairwise_append]
    refine ⟨h.order.sublist (List.takeWhile_sublist _), ?_, fun a ha b _ _ => front a ha⟩
    exact List.pairwise_cons.2 ⟨fun _ _ _ => rfl, h.order.sublist (List.dropWhile_sublist _)⟩
  · rw [(perm.filterMap entryNumber).nodup_iff]
    exact List.nodup_cons.2 ⟨hn, h.numbers⟩

theorem convertFirst_same {ref : Ref} {f : Reservation → Reservation} {cause : EndCause} {n : Nat} {p : QueueEntry → Bool}
    (hp : ∀ r, p (.advice { number := n, body := .passbookUpdate (f r) cause, sent := none }) = p (.reservation r))
    (q : List QueueEntry) :
    (convertFirst ref (fun r => { number := n, body := .passbookUpdate (f r) cause, sent := none }) q).countP p =
      q.countP p := by
  induction q with
  | nil => rfl
  | cons x rest ih =>
    cases x with
    | advice a => simp only [convertFirst, List.countP_cons, ih]
    | reservation r =>
      unfold convertFirst
      split
      · simp only [List.countP_cons, hp]
      · simp only [List.countP_cons, ih]

/-- The numbers of a queue with a reservation made an advice are those of the queue and the advice's. -/
theorem convertFirst_numbers {ref : Ref} {f : Reservation → Reservation} {cause : EndCause} {n m : Nat} {q : List QueueEntry}
    (h : m ∈ (convertFirst ref (fun r => { number := n, body := .passbookUpdate (f r) cause, sent := none }) q).filterMap
      entryNumber) : m = n ∨ m ∈ q.filterMap entryNumber := by
  induction q with
  | nil => exact .inr h
  | cons x rest ih =>
    cases x with
    | advice a =>
      rcases List.mem_cons.1 h with rfl | h
      · exact .inr List.mem_cons_self
      · exact (ih h).imp_right (List.mem_cons_of_mem _)
    | reservation r =>
      unfold convertFirst at h
      split at h
      · exact List.mem_cons.1 h
      · exact ih h

/-- A reservation that becomes an advice keeps its place in the general area, with a number of its own. -/
theorem QueueFits.convert {q : List QueueEntry} {ref : Ref} {f : Reservation → Reservation} {cause : EndCause} {n : Nat}
    (h : QueueFits q) (hn : n ∉ q.filterMap entryNumber) :
    QueueFits (convertFirst ref (fun r => { number := n, body := .passbookUpdate (f r) cause, sent := none }) q) where
  general := by rw [convertFirst_same fun r => rfl]; exact h.general
  alarms st := by rw [convertFirst_same fun r => rfl]; exact h.alarms st
  order := by
    have order := h.order
    clear h hn
    unfold alarmsFirst at *
    induction q with
    | nil => exact order
    | cons x rest ih =>
      obtain ⟨hx, hrest⟩ := List.pairwise_cons.1 order
      have none : isAlarm x = false → ∀ y ∈ rest, isAlarm y = false := fun k y hy => by
        have := hx y hy
        rw [k] at this
        simpa using this
      cases x with
      | advice a =>
        unfold convertFirst
        refine List.pairwise_cons.2 ⟨fun b hb hal => ?_, ih hrest⟩
        by_contra hna
        have zero : rest.countP isAlarm = 0 :=
          List.countP_eq_zero.2 fun y hy => by simp [none (by simpa using hna) y hy]
        have zero' := (convertFirst_same (ref := ref) (f := f) (cause := cause) (n := n) (p := isAlarm)
          (fun r => rfl) rest).trans zero
        exact List.countP_eq_zero.1 zero' b hb hal
      | reservation r =>
        have rest_none := none rfl
        unfold convertFirst
        split
        · exact List.pairwise_cons.2 ⟨fun b hb hal => absurd hal (by simp [rest_none b hb]), hrest⟩
        · refine List.pairwise_cons.2 ⟨fun b hb hal => ?_, ih hrest⟩
          have zero : rest.countP isAlarm = 0 := List.countP_eq_zero.2 fun y hy => by simp [rest_none y hy]
          have zero' := (convertFirst_same (ref := ref) (f := f) (cause := cause) (n := n) (p := isAlarm)
            (fun r => rfl) rest).trans zero
          exact absurd hal (List.countP_eq_zero.1 zero' b hb)
  numbers := by
    have numbers := h.numbers
    clear h
    induction q with
    | nil => exact numbers
    | cons x rest ih =>
      cases x with
      | advice a =>
        simp only [convertFirst, List.filterMap_cons, entryNumber, List.mem_cons, not_or] at *
        obtain ⟨ha, hrest⟩ := List.nodup_cons.1 numbers
        refine List.nodup_cons.2 ⟨fun k => ?_, ih hn.2 hrest⟩
        exact (convertFirst_numbers k).elim (fun same => hn.1 same.symm) ha
      | reservation r =>
        unfold convertFirst
        split
        · simp only [List.filterMap_cons, entryNumber] at *
          exact List.nodup_cons.2 ⟨hn, numbers⟩
        · exact ih hn numbers

/-! ## The queue under the moves -/

theorem queueOk_congr {s t : State} (h : queueOk s) (ho : t.ttr.ott = s.ttr.ott) (hl : t.ttr.late = s.ttr.late)
    (hq : t.sda.queue = s.sda.queue) : queueOk t := by
  obtain ⟨ht, hr, hf⟩ := queueOk_iff.1 h
  refine queueOk_iff.2 ⟨transactionsOk_congr ht ho hl, ?_, hq ▸ hf⟩
  simpa [reversalSum, queueCount, ho, hl, hq] using hr

/-- Another queue that fits and holds no more reversals stands under the same transactions. -/
theorem queueOk_queue {s t : State} (h : queueOk s) (ht : t.ttr = s.ttr) (hf : QueueFits t.sda.queue)
    (hc : t.sda.queue.countP (isKind .reversal) ≤ s.sda.queue.countP (isKind .reversal)) : queueOk t := by
  obtain ⟨hx, hr, -⟩ := queueOk_iff.1 h
  refine queueOk_iff.2 ⟨transactionsOk_congr hx (by rw [ht]) (by rw [ht]), ?_, hf⟩
  unfold reversalSum queueCount at *
  rw [ht]
  omega

/-- The queue with an advice queued. -/
theorem queueAdvice_queue (b : AdviceBody) (s : State) :
    (queueAdvice b s).sda.queue = s.sda.queue ++ [.advice { number := adviceNumber s, body := b, sent := none }] := rfl

/-- A reversal goes behind the others. -/
theorem queueFits_reversal {s : State} {ref : Ref} {cause : ReversalCause} {dir : CashDirection} {n : Nat} (h : queueOk s) :
    QueueFits (queueReversal ref cause dir n s).sda.queue := by
  obtain ⟨-, hr, hf⟩ := queueOk_iff.1 h
  unfold queueReversal
  rw [queueAdvice_queue]
  refine hf.snoc rfl (fun k => absurd k (by simp [isGeneral, isKind, adviceKind, isReservation])) fun m hm => ?_
  exact Option.some.inj hm ▸ adviceNumber_free hr hf

theorem reversals_queueReversal {s : State} {ref : Ref} {cause : ReversalCause} {dir : CashDirection} {n : Nat} :
    (queueReversal ref cause dir n s).sda.queue.countP (isKind .reversal) = s.sda.queue.countP (isKind .reversal) + 1 := by
  unfold queueReversal
  rw [queueAdvice_queue]
  simp [isKind, adviceKind]

/-- The end of a transaction leaves its place in the reversals' area to a reversal, or free. -/
theorem queueOk_leave {s t : State} {e : OttEntry} (h : queueOk s) (he : e ∈ s.ttr.ott)
    (ho : t.ttr.ott = s.ttr.ott.filter fun x => x.ref ≠ e.ref) (hl : t.ttr.late = s.ttr.late)
    (hf : QueueFits t.sda.queue)
    (hc : t.sda.queue.countP (isKind .reversal) ≤ s.sda.queue.countP (isKind .reversal) + 1) : queueOk t := by
  obtain ⟨ht, hr, -⟩ := queueOk_iff.1 h
  have count := filter_ref_length OttEntry.ref (ott_nodup ht) he
  refine queueOk_iff.2 ⟨transactionsOk_leave ht ho hl, ?_, hf⟩
  unfold reversalSum queueCount at *
  rw [ho, hl]
  omega

theorem queueOk_late {s t : State} {l : LateEntry} (h : queueOk s) (he : l ∈ s.ttr.late) (ho : t.ttr.ott = s.ttr.ott)
    (hl : t.ttr.late = s.ttr.late.filter fun x => x.ref ≠ l.ref) (hf : QueueFits t.sda.queue)
    (hc : t.sda.queue.countP (isKind .reversal) ≤ s.sda.queue.countP (isKind .reversal) + 1) : queueOk t := by
  obtain ⟨ht, hr, -⟩ := queueOk_iff.1 h
  have count := filter_ref_length LateEntry.ref (late_nodup ht) he
  refine queueOk_iff.2 ⟨transactionsOk_late ht ho hl, ?_, hf⟩
  unfold reversalSum queueCount at *
  rw [ho, hl]
  omega

/-- A transaction that times out keeps its place as it moves to the Late List. -/
theorem queueOk_timedOut {s u : State} {e : OttEntry} (h : queueOk s) (he : e ∈ s.ttr.ott)
    (ho : u.ttr.ott = s.ttr.ott.filter fun x => x.ref ≠ e.ref) (hl : u.ttr.late = s.ttr.late)
    (hq : u.sda.queue = s.sda.queue) : queueOk (moveToLate e u) := by
  obtain ⟨ht, hr, hf⟩ := queueOk_iff.1 h
  have count := filter_ref_length OttEntry.ref (ott_nodup ht) he
  have late : (displaceOldest u).ttr.late.length ≤ s.ttr.late.length := by
    rw [displaceOldest_late u (transactionsOk_leave ht ho hl), hl]
    split
    · exact le_rfl
    · simp
  refine queueOk_iff.2 ⟨transactionsOk_moveToLate ht he ho hl, ?_, by simpa [hq] using hf⟩
  unfold reversalSum queueCount at *
  rw [moveToLate_late, List.length_append, List.length_singleton]
  simp only [moveToLate_keeps, ho, hq]
  omega

theorem queueOk_standin {s : State} {b : AdviceBody} (h : queueOk s) (hb : adviceKind b = .standin)
    (hg : generalRoom s = true) : queueOk (queueAdvice b s) := by
  obtain ⟨-, hr, hf⟩ := queueOk_iff.1 h
  have plain : ∀ k, k ≠ .standin → ∀ n, isKind k (.advice { number := n, body := b, sent := none }) = false := by
    intro k hk n
    simpa [isKind, hb] using fun e => hk e.symm
  refine queueOk_queue h (by simp) ?_ ?_
  · rw [queueAdvice_queue]
    refine hf.snoc (plain .alarm (by decide) _) (fun _ => of_decide_eq_true hg) fun m hm => ?_
    exact Option.some.inj hm ▸ adviceNumber_free hr hf
  · rw [queueAdvice_queue, List.countP_append, List.countP_singleton, plain .reversal (by decide)]
    simp

theorem queueOk_reserve {s : State} {r : Reservation} (h : queueOk s) (hg : generalRoom s = true) :
    queueOk (addReservation r s) := by
  obtain ⟨-, -, hf⟩ := queueOk_iff.1 h
  refine queueOk_queue h (by simp) ?_ ?_
  · exact hf.snoc rfl (fun _ => of_decide_eq_true hg) fun m hm => by cases hm
  · simp [addReservation, isKind]

theorem queueOk_queueAlarm {s : State} {st : Station} (h : queueOk s) (hs : alarmStands st s = false) :
    queueOk (queueAlarm st s) := by
  obtain ⟨-, hr, hf⟩ := queueOk_iff.1 h
  refine queueOk_queue h (by simp) (hf.alarm hs (adviceNumber_free hr hf)) ?_
  show List.countP _ (_ ++ _ :: _) ≤ _
  have parts := congrArg (List.countP (isKind .reversal)) (List.takeWhile_append_dropWhile (p := isAlarm) (l := s.sda.queue))
  rw [List.countP_append] at parts
  rw [List.countP_append, List.countP_cons_of_neg (by simp [isKind, adviceKind]), parts]

theorem queueOk_convert {s : State} {ref : Ref} {f : Reservation → Reservation} {cause : EndCause} (h : queueOk s) :
    queueOk (convertReservation ref f cause s) := by
  obtain ⟨-, hr, hf⟩ := queueOk_iff.1 h
  exact queueOk_queue h (by simp) (hf.convert (adviceNumber_free hr hf)) (convertFirst_same (fun _ => rfl) _).le

theorem queueOk_enter {s : State} {e : OttEntry} (h : queueOk s) (hr : reversalSum s < Config.reversalCommitment)
    (ht : transactionsOk (reserveSlots Config.ottSlots (onTtr (fun t => { t with ott := t.ott ++ [e] }) s))) :
    queueOk (reserveSlots Config.ottSlots (onTtr (fun t => { t with ott := t.ott ++ [e] }) s)) := by
  obtain ⟨-, -, hf⟩ := queueOk_iff.1 h
  refine queueOk_iff.2 ⟨ht, ?_, by simpa using hf⟩
  simp only [reversalSum, queueCount, reserveSlots_keeps, onTtr_ttr, onTtr_sda, List.length_append, List.length_singleton] at *
  omega

theorem queueOk_move {K : Wide → Prop} (hk : ¬ K .loose) (s t : State) (m : Move K s t) (h : queueOk s) : queueOk t := by
  obtain ⟨ht, hr, hf⟩ := queueOk_iff.1 h
  have kept := transactionsOk_move hk s t m ht
  cases m
  case queue q hq => exact queueOk_queue h rfl (hf.alike hq) (countP_alike (fun _ _ k => k.2.2 .reversal) hq).le
  case drop p => exact queueOk_queue h rfl (hf.sublist List.filter_sublist) (List.filter_sublist.countP_le)
  case convert ref f cause => exact queueOk_convert h
  case reserve r hg => exact queueOk_reserve h hg
  case standin b hb hg => exact queueOk_standin h hb hg
  case queueAlarm st hs => exact queueOk_queueAlarm h hs
  case enter e hk' hs hl hsum hn => exact queueOk_enter h hsum kept
  case await f href =>
    refine queueOk_iff.2 ⟨kept, ?_, hf⟩
    simpa [reversalSum, queueCount] using hr
  case leave e o b he =>
    exact queueOk_leave h (he.resolve_left hk) (by rw [endEntry_ttr]) (by simp) (by simpa using hf) (by simp)
  case abandon cause e he =>
    refine queueOk_leave h (he.resolve_left hk) (by rw [endEntry_ttr]; simp) (by simp) ?_ ?_
    · simpa using queueFits_reversal h
    · simpa using reversals_queueReversal.le
  case late l cause hl => exact queueOk_late h hl (by simp) (by rw [endLate_ttr]) (by simpa using hf) (by simp)
  case lateApproval l hl =>
    refine queueOk_late h hl (by simp) (by rw [endLate_ttr]; simp) ?_ ?_
    · simpa using queueFits_reversal h
    · simpa using reversals_queueReversal.le
  case timedOut e st f he => exact queueOk_timedOut h he (by simp [removeOtt]) (by simp) (by simp)
  case records f hq hn hrec => exact queueOk_congr h rfl rfl hq
  all_goals exact queueOk_congr h (by simp) (by simp) (by simp)

theorem queueOk_warmStart {s : State} (h : queueOk s) : queueOk (warmStart s) := by
  obtain ⟨ht, hr, hf⟩ := queueOk_iff.1 h
  have cut : queueOk (volatileReset s) := by
    refine queueOk_iff.2 ⟨transactionsOk_volatileReset ht, ?_, hf⟩
    have fewer : reversalSum (volatileReset s) ≤ reversalSum s := by simp [reversalSum, volatileReset, queueCount]
    exact fewer.trans hr
  have left : queueOk (abandoned s) := (abandoned_moves (K := soundStart) (.inr ht)).keep (queueOk_move id) cut
  have returned : queueOk (returnReserved (abandoned s)) := queueOk_congr left rfl rfl rfl
  exact (warmStart_moves (K := soundStart) (fun _ => trivial) (fun _ => trivial)).keep (queueOk_move id) returned

theorem queueOk_coldStart (s : State) : queueOk (coldStart s) := by
  obtain ⟨-, queue, -⟩ := resetMeetsTheInvariants
  have base : queueOk (coldBase s) := queue
  have run : Moves soundStart (coldBase s) (coldStart s) := coldStart_moves
  exact run.keep (queueOk_move id) base

theorem queueOk_kept : everyStepKeeps queueOk := by
  refine everyStepKeeps_of (fun _ _ h => h) (fun _ h => h) fun c s t h hs => ?_
  by_cases hc : c = .start
  · subst hc
    simp only [exec, execStart] at h
    split at h
    · exact Host.Outcome.next.inj h ▸ queueOk_warmStart hs
    · exact Host.Outcome.next.inj h ▸ queueOk_coldStart s
  · exact (exec_moves hc h).keep (queueOk_move (not_loose hs.1)) hs

/-- Settles O6: each number an advice takes is held by none, each queue operation keeps the ALARM advices in front, and the
reversals and the transactions that may still owe one share their 48 places. -/
theorem adviceQueueInvariantKept : Obligations.AdviceQueueInvariantKept := ⟨queueOk_kept, recordsOk_kept⟩

end Sys2Proof.Machine
end

section
/-! SUPPORT. What each command leaves of the cash, the day, the open transactions, the denominations and the sign-ons; and the
invariant of the day. -/

namespace Sys2Proof.Machine
open Sys2Proof

/-! ## The commands that move neither cash nor the day -/

/-- Cash, day, open transactions, denominations and sign-ons stand. -/
def quiet (s t : State) : Prop :=
  t.csh = s.csh ∧ t.day = s.day ∧ t.ttr.ott = s.ttr.ott ∧ t.tbl.dnt = s.tbl.dnt ∧ t.scm.signOn = s.scm.signOn

theorem quiet_refl (s : State) : quiet s s := ⟨rfl, rfl, rfl, rfl, rfl⟩

theorem quiet_trans {s t u : State} (h : quiet s t) (k : quiet t u) : quiet s u := by
  obtain ⟨h1, h2, h3, h4, h5⟩ := h
  obtain ⟨k1, k2, k3, k4, k5⟩ := k
  exact ⟨k1.trans h1, k2.trans h2, k3.trans h3, k4.trans h4, k5.trans h5⟩

theorem quiet_delivered {st : Station} {d : Drop} {f : DropFrame} {s t : State} (h : delivered st d f s = some t) :
    quiet s t := by
  obtain ⟨-, ⟨-, rfl⟩ | ⟨rest, -, rfl⟩⟩ := delivered_cases h <;> simp [quiet]

/-- What the owner of a request leaves, the taking of the request leaves. -/
theorem quiet_withRequest {id : Nat} {r : MgmtRequest} {act : State → State} {s : State} (h : ∀ u, quiet u (act u)) :
    quiet s (withRequest id r act s) := by
  unfold withRequest
  split
  · exact quiet_refl s
  · split
    · split
      · exact quiet_trans (by simp [quiet]) (h _)
      · exact quiet_refl s
    · split
      · exact quiet_trans (by simp [quiet]) (h _)
      · simp [quiet]

/-- The commands that can move cash or the day, or change the open transactions, the denominations or the sign-ons. -/
def moving : Instr → Bool
  | .keyRequest .. => true
  | .inboundFrame _ => true
  | .reply .. => true
  | .adviceAck _ => true
  | .batchAck _ => true
  | .silenceTimerExpiry => true
  | .transmit => true
  | .deadlineExpiry _ => true
  | .settlementBatchTimeout => true
  | .trailingPauseEnd => true
  | .tableLoad .. => true
  | .lineSetup .. => true
  | .dayCutoff _ => true
  | .dayForce _ => true
  | .settleRetry _ => true
  | .dateRoll .. => true
  | .start => true
  | _ => false

theorem quiet_deliver {st : Station} {d : Drop} {f : DropFrame} {act : State → State} {s t : State}
    (h : (match delivered st d f s with
      | some u => (.next (act u) : Host.Outcome State Fault Refusal)
      | none => .next s) = .next t) (ha : ∀ u, quiet u (act u)) : quiet s t := by
  split at h <;> cases h
  · next u hu => exact quiet_trans (quiet_delivered hu) (ha u)
  · exact quiet_refl s

theorem quiet_failExchange {st : Station} {count : State → State} {s : State} (h : ∀ u, quiet u (count u)) :
    quiet s (failExchange st count s) := by
  unfold failExchange
  split
  · exact quiet_refl s
  · obtain ⟨h1, h2, h3, h4, h5⟩ := h (endExchange st s)
    simp [quiet, h1, h2, h3, h4, h5]

@[simp] theorem endLoad_dnt (s : State) : (endLoad s).tbl.dnt = s.tbl.dnt := rfl

@[simp] theorem takeTableAbort_dnt (id : Nat) (s : State) : (takeTableAbort id s).tbl.dnt = s.tbl.dnt := by
  unfold takeTableAbort
  split <;> simp

theorem exec_quiet {c : Instr} {s t : State} (hc : moving c = false) (h : exec c s = .next t) : quiet s t := by
  cases c with
  | keyRequest | inboundFrame | reply | adviceAck | batchAck | silenceTimerExpiry | transmit | deadlineExpiry
  | settlementBatchTimeout | trailingPauseEnd | tableLoad | lineSetup | dayCutoff | dayForce | settleRetry | dateRoll
  | start => cases hc
  | formCall st code => exact quiet_deliver h fun u => by simp [quiet]
  | stripeRead st b => exact quiet_deliver h fun u => by simp [quiet]
  | bookRemoved st => exact quiet_deliver h fun u => by simp [quiet]
  | lineDone st => exact quiet_deliver h fun u => by simp [quiet]
  | writeDone st => exact quiet_deliver h fun u => by simp [quiet]
  | fault st => exact quiet_deliver h fun u => by simp [quiet]
  | dropFrame st f =>
    simp only [exec, execDropFrame] at h
    split at h <;> cases h
    · simp [quiet]
    · exact quiet_failExchange fun u => by simp [quiet]
    · simp [quiet]
  | nothing st =>
    simp only [exec, execNothing] at h
    split at h <;> cases h
    · simp [quiet]
    · exact quiet_failExchange fun u => by simp [quiet]
    · simp [quiet]
  | accept st =>
    simp only [exec, execAccept] at h
    split at h <;> cases h
    · simp [quiet]
    · exact quiet_failExchange fun u => by simp [quiet]
    · simp [quiet]
  | busy st =>
    simp only [exec, execBusy] at h
    split at h <;> cases h
    · simp [quiet]
    · exact quiet_failExchange fun u => by simp [quiet]
    · simp [quiet]
  | failedResponse st why => cases h; exact quiet_failExchange fun u => by cases why <;> simp [quiet]
  | pollResponseTimeout st => cases h; exact quiet_failExchange fun u => by simp [quiet]
  | repollDue st d => cases h; simp [quiet]
  | busyRetryExpiry st d => cases h; simp [quiet]
  | issueExchange st => simp only [exec, execIssueExchange] at h; split at h <;> cases h <;> simp [quiet]
  | attention st => simp only [exec, execAttention] at h; split at h <;> cases h <;> simp [quiet]
  | unsolicited st => simp only [exec, execUnsolicited] at h; split at h <;> cases h <;> simp [quiet]
  | echoCharacter st k =>
    simp only [exec, execEchoCharacter] at h
    split at h
    · split at h <;> cases h <;> simp [quiet]
    · cases h; exact quiet_refl s
  | loopFrameReturn st how => cases h; simp [quiet]
  | loopFrameTimeout st => cases h; simp [quiet]
  | drawerSenseChange st opened =>
    simp only [exec, execDrawerSenseChange] at h
    split at h <;> cases h
    · exact quiet_refl s
    · split <;> simp [quiet]
  | drawerOpenTimerExpiry st => simp only [exec, execDrawerOpenTimerExpiry] at h; split at h <;> cases h <;> simp [quiet]
  | alarmInRising st => simp only [exec, execAlarmInRising] at h; split at h <;> cases h <;> simp [quiet]
  | drawerPulseEnd st => cases h; simp [quiet]
  | mgmtReq id r => cases h; simp [quiet]
  | linkCheck number => cases h; simp [quiet]
  | transmitEnd => cases h; simp [quiet]
  | lateExpiry ref => simp only [exec, execLateExpiry] at h; split at h <;> cases h <;> simp [quiet]
  | adviceAckTimeout number => cases h; simp [quiet]
  | trickleBatchTimeout => cases h; simp [quiet]
  | rejectionPauseEnd => cases h; simp [quiet]
  | loadIdleExpiry => simp only [exec, execLoadIdleExpiry] at h; split at h <;> cases h <;> simp [quiet]
  | waitTimerExpiry st => cases h; simp [quiet]
  | completionTimerExpiry st => cases h; simp [quiet]
  | broadcastExpiry => simp only [exec, execBroadcastExpiry] at h; split at h <;> cases h <;> simp [quiet]
  | tableAbort id => cases h; exact quiet_withRequest fun u => by simp [quiet]
  | tableRead id table first => cases h; exact quiet_withRequest fun u => by simp [quiet]
  | settingsWrite id items => cases h; exact quiet_withRequest fun u => by simp [quiet]
  | settingsRead id => cases h; exact quiet_withRequest fun u => by simp [quiet]
  | lineControl id station op mask => cases h; exact quiet_withRequest fun u => by simp [quiet]
  | lineTest id line mode count => cases h; exact quiet_withRequest fun u => by simp [quiet]
  | lineReset id line => cases h; exact quiet_withRequest fun u => by simp [quiet]
  | statusRead id lines => cases h; exact quiet_withRequest fun u => by simp [quiet]
  | totalsRead id => cases h; exact quiet_withRequest fun u => by simp [quiet]
  | clockSet id secs => cases h; exact quiet_withRequest fun u => by simp [quiet]
  | broadcastText id text expiry => cases h; exact quiet_withRequest fun u => by simp [quiet]
  | badRequest id kind => cases h; exact quiet_withRequest fun u => by simp [quiet]

/-! ## The day (R130) -/

/-- The day state, the business date and the presence of a settlement context stand. -/
def sameDay (s t : State) : Prop :=
  t.day.state = s.day.state ∧ t.day.settlement.isSome = s.day.settlement.isSome ∧ t.day.date = s.day.date

theorem sameDay_of {s t : State} (h : t.day = s.day) : sameDay s t := by rw [sameDay, h]; exact ⟨rfl, rfl, rfl⟩

theorem sameDay_trans {s t u : State} (h : sameDay s t) (k : sameDay t u) : sameDay s u := by
  obtain ⟨h1, h2, h3⟩ := h
  obtain ⟨k1, k2, k3⟩ := k
  exact ⟨k1.trans h1, k2.trans h2, k3.trans h3⟩

theorem sameDay_onSettlement (f : Settlement → Settlement) (s : State) : sameDay s (onSettlement f s) := by
  simp [sameDay, onSettlement]

theorem sameDay_unmark (p : Option Station) (s : State) : sameDay s (unmark p s) := by
  unfold unmark
  cases p <;> simp [sameDay]

theorem sameDay_markUnbalanced (s : State) : sameDay s (markUnbalanced s) := by simp [sameDay, markUnbalanced]

theorem sameDay_journalPhaseEnd (s : State) : sameDay s (journalPhaseEnd s) := by
  unfold journalPhaseEnd
  split
  · exact sameDay_onSettlement _ _
  · exact sameDay_of rfl

theorem sameDay_phaseAfterAcceptance (s : State) : sameDay s (phaseAfterAcceptance s) := by
  unfold phaseAfterAcceptance
  split
  · split
    · exact sameDay_journalPhaseEnd s
    · exact sameDay_of rfl
  · exact sameDay_of rfl

theorem sameDay_settlementSent (b : Batch) (s : State) : sameDay s (settlementSent b s) := by
  unfold settlementSent
  cases hs : s.day.settlement with
  | none => exact sameDay_onSettlement _ s
  | some c => by_cases hc : c.current.isNone = true <;> simp [hc, sameDay, onSettlement, hs]

theorem sameDay_carryBalance (p : Option Station) (n : Nat) (declared : List Nat) (s : State) :
    sameDay s (carryBalance p n declared s) := by
  unfold carryBalance
  dsimp only
  split
  · next st =>
    refine sameDay_trans (t := unmark (some st) _) (sameDay_trans ?_ (sameDay_unmark (some st) _)) (sameDay_of (by simp; rfl))
    exact sameDay_of (by simp)
  · refine sameDay_trans ?_ (sameDay_unmark none _)
    exact sameDay_of (by simp)

theorem sameDay_handLocal (q : LocalRequest) (s : State) : sameDay s (handLocal q s) := by
  unfold handLocal
  split
  case h_5 =>
    unfold localBalance
    dsimp only
    split
    · exact sameDay_of (by simp)
    · next t _ _ _ declared _ =>
      exact sameDay_trans (sameDay_carryBalance (balanceTarget q.tct q.st) t declared s) (sameDay_of (by simp))
  all_goals exact sameDay_of (by simp)

theorem sameDay_takeKeyRequest (st : Station) (r : KeyRequest) (s : State) : sameDay s (takeKeyRequest st r s) := by
  have routed : ∀ rec action fields ref u, sameDay u (routeLocal st rec action r fields ref u) := by
    intro rec action fields ref u
    unfold routeLocal
    split
    · exact sameDay_of (by simp)
    · exact sameDay_handLocal _ u
  unfold takeKeyRequest admitRequest
  split
  · exact sameDay_of (by simp)
  split
  · exact sameDay_of (by simp)
  split
  · exact sameDay_of (by simp)
  have numbered : sameDay s (giveNumber st s) := sameDay_of (by simp)
  split
  · exact sameDay_of (by simp)
  split
  · exact sameDay_of (by simp)
  split
  case h_1 => exact sameDay_trans numbered (routed _ _ _ _ _)
  all_goals exact sameDay_of (by simp)

/-! ### No transaction and no teller comes while none may -/

/-- No transaction is open and no teller is signed on. -/
def atRest (s : State) : Prop := s.ttr.ott = [] ∧ ∀ st, tellerAt st s = none

/-- Every kind of move but those that let in a transaction or a teller. -/
def noEntrant : Wide → Prop
  | .enter => False
  | _ => True

theorem atRest_congr {s t : State} (h : atRest s) (ho : t.ttr.ott = s.ttr.ott) (hs : t.scm.signOn = s.scm.signOn) :
    atRest t := by
  obtain ⟨h1, h2⟩ := h
  exact ⟨ho.trans h1, fun st => by simpa [tellerAt, hs] using h2 st⟩

theorem atRest_move (s t : State) (m : Move noEntrant s t) (h : atRest s) : atRest t := by
  obtain ⟨empty, none⟩ := h
  cases m
  case enter hk _ _ _ _ => exact hk.elim
  case signOn hk _ _ => exact hk.elim
  case signOff st =>
    refine ⟨empty, fun a => ?_⟩
    by_cases ha : a = st
    · subst ha; simp
    · simpa [ha] using none a
  case await f hf => exact ⟨by simp [empty], none⟩
  case leave e o b he => exact ⟨by rw [endEntry_ttr]; simp [empty], fun a => by simpa [tellerAt] using none a⟩
  case abandon cause e he => exact ⟨by rw [endEntry_ttr]; simp [empty], fun a => by simpa [tellerAt] using none a⟩
  case timedOut e st f he => rw [empty] at he; cases he
  all_goals exact atRest_congr ⟨empty, none⟩ (by simp) (by simp)

/-! ### The invariant under the operations -/

theorem dayOk_iff {s : State} : dayOk s ↔
    (s.day.settlement.isSome = true ↔ dayClosed s.day.state = true) ∧ (dayClosed s.day.state = true → atRest s) ∧
      (s.day.date = none ↔ s.day.state = .noDate) := Iff.rfl

/-- The day stands, and the tellers and transactions with it, or no longer. -/
theorem dayOk_same {s t : State} (h : dayOk s) (hd : sameDay s t) (hr : dayClosed s.day.state = true → atRest s → atRest t) :
    dayOk t := by
  obtain ⟨h1, h2, h3⟩ := h
  obtain ⟨d1, d2, d3⟩ := hd
  refine dayOk_iff.2 ⟨by rw [d1, d2]; exact h1, fun k => ?_, by rw [d1, d3]; exact h3⟩
  rw [d1] at k
  exact hr k (h2 k)

theorem dayOk_moves {s t : State} (h : dayOk s) (hd : sameDay s t) (m : Moves noEntrant s t) : dayOk t :=
  dayOk_same h hd fun _ => m.keep atRest_move

theorem dayOk_congr {s t : State} (h : dayOk s) (hd : t.day = s.day) (ho : t.ttr.ott = s.ttr.ott)
    (hs : t.scm.signOn = s.scm.signOn) : dayOk t :=
  dayOk_same h (sameDay_of hd) fun _ k => atRest_congr k ho hs

/-- An open day that is entered needs no rest. -/
theorem dayOk_changeDay {d : DayState} {s : State} (h : dayOk s) (ho : dayClosed s.day.state = false) (hn : s.day.state ≠ .noDate)
    (hd : d = .opened ∨ d = .cutoff) : dayOk (changeDay d s) := by
  obtain ⟨h1, -, h3⟩ := h
  have closed : dayClosed d = false := by rcases hd with rfl | rfl <;> rfl
  have dated : d ≠ .noDate := by rcases hd with rfl | rfl <;> decide
  refine dayOk_iff.2 ⟨?_, ?_, ?_⟩
  · rw [changeDay_day]; simpa [closed, ho] using h1
  · rw [changeDay_day]; simp [closed]
  · rw [changeDay_day]; simpa [dated, hn] using h3

/-- A closed day that goes on to another closed state stays at rest. -/
theorem dayOk_closed {d : DayState} {s : State} (h : dayOk s) (hs : s.day.settlement.isSome = true)
    (hd : dayClosed d = true) : dayOk (changeDay d s) := by
  obtain ⟨h1, h2, h3⟩ := dayOk_iff.1 h
  have closed := h1.1 hs
  have dated : d ≠ .noDate := by rintro rfl; cases hd
  have dated' : s.day.state ≠ .noDate := by intro k; rw [k] at closed; cases closed
  refine dayOk_iff.2 ⟨?_, fun _ => atRest_congr (h2 closed) (by simp) (by simp), ?_⟩
  · rw [changeDay_day]; simpa [hd] using hs
  · rw [changeDay_day]; simpa [dated, dated'] using h3

theorem atRest_settleCondition {s : State} (h : settleCondition s = true) : atRest s := by
  unfold settleCondition at h
  simp only [Bool.and_eq_true] at h
  obtain ⟨⟨⟨h1, -⟩, h2⟩, -⟩ := h
  refine ⟨by simpa using h1, fun st => ?_⟩
  have := List.all_eq_true.1 h2 (s.scm.signOn.get st) ((Eight.mem_toList _ _).2 ⟨st, rfl⟩)
  simpa [tellerAt] using this

/-- A settlement that begins in a closed state over a dated day at rest. -/
theorem dayOk_beginJournalPhase {s : State} (hc : dayClosed s.day.state = true) (hr : atRest s) (hd : s.day.date ≠ none) :
    dayOk (beginJournalPhase s) := by
  unfold beginJournalPhase
  obtain ⟨d1, d2, d3⟩ := sameDay_journalPhaseEnd (onDay (fun d => { d with settlement := some (newSettlement .journal) }) s)
  have dated : s.day.state ≠ .noDate := by intro k; rw [k] at hc; cases hc
  refine dayOk_iff.2 ⟨?_, fun _ => atRest_congr hr (by simp) (by simp), ?_⟩
  · rw [d1, d2]; simpa using hc
  · rw [d1, d3]; simpa [dated] using hd

theorem dayOk_judgeSettle {s : State} (h : dayOk s) : dayOk (judgeSettle s) := by
  unfold judgeSettle
  split
  · next hj =>
    obtain ⟨cut, settle⟩ := hj
    obtain ⟨-, -, dated⟩ := h
    refine dayOk_beginJournalPhase ?_ (atRest_congr (atRest_settleCondition settle) (by simp) (by simp)) ?_
    · rw [changeDay_day]; rfl
    · rw [changeDay_day]
      intro k
      have := dated.1 k
      rw [cut] at this
      cases this
  · exact h

theorem dayOk_settlementAccepted {b : Batch} {s : State} (h : dayOk s) : dayOk (settlementAccepted b s) := by
  unfold settlementAccepted
  split
  · refine dayOk_same h ?_ fun _ k => atRest_congr k (by simp) (by simp)
    exact sameDay_trans (sameDay_trans (sameDay_of (by simp)) (sameDay_onSettlement _ _)) (sameDay_phaseAfterAcceptance _)
  · have next : ∀ f : Settlement → Settlement, dayOk (onSettlement f s) := fun f =>
      dayOk_same h (sameDay_onSettlement f s) fun _ k => atRest_congr k (by simp) (by simp)
    dsimp only
    split
    · next c hc =>
      split
      · refine dayOk_closed (dayOk_same (next _) (sameDay_onSettlement _ _) fun _ k => atRest_congr k (by simp) (by simp)) ?_ rfl
        obtain ⟨-, same, -⟩ := sameDay_onSettlement (fun c => { c with phase := .trailing, parts := [] })
          (onSettlement (fun c => { clearCurrent c with parts := c.parts.tail }) s)
        rw [same, hc]; rfl
      · exact next _
    · exact next _

theorem dayOk_settlementFails {s : State} (h : dayOk s) : dayOk (settlementFails s) := by
  have next : ∀ f : Settlement → Settlement, dayOk (onSettlement f s) := fun f =>
    dayOk_same h (sameDay_onSettlement f s) fun _ k => atRest_congr k (by simp) (by simp)
  unfold settlementFails
  split
  · exact h
  · next c hc =>
    split
    · exact next _
    · dsimp only
      split
      · refine dayOk_congr (dayOk_closed (d := .settleFailed) (next fun c =>
          { c with outstanding := none, attempts := c.attempts + 1 }) ?_ rfl) (by simp [failDay]) (by simp [failDay])
          (by simp [failDay])
        simp [onSettlement, hc]
      · exact next _

theorem dayOk_takeBatchAck {a : Option Ack} {s : State} (h : dayOk s) : dayOk (takeBatchAck a s) := by
  have unmatched : dayOk (unmatchedBatchAck s) := dayOk_congr h (by simp) (by simp) (by simp)
  unfold takeBatchAck
  split
  · exact unmatched
  split
  · exact unmatched
  split
  · unfold answerTrickle
    split
    · refine dayOk_same h ?_ fun _ k => atRest_congr k (by simp) (by simp)
      exact sameDay_trans (sameDay_of (by simp)) (sameDay_phaseAfterAcceptance _)
    · exact dayOk_congr h rfl rfl rfl
  · split
    · exact dayOk_settlementAccepted h
    · exact dayOk_settlementFails h
  · exact unmatched

theorem dayOk_takeReply {dest : Station} {r : Option Reply} {s : State} (h : dayOk s) : dayOk (takeReply dest r s) :=
  dayOk_moves h (sameDay_of (by simp)) (takeReply_moves .refl)

theorem dayOk_takeAdviceAck {a : Option Ack} {s : State} (h : dayOk s) : dayOk (takeAdviceAck a s) :=
  dayOk_congr h (by simp) (by simp) (by simp)

/-- The messages of the link, whole or gathered, keep a property that their owners keep. -/
structure LinkParts (P : State → Prop) : Prop where
  reply : ∀ dest r s, P s → P (judgeSettle (takeReply dest r s))
  adviceAck : ∀ a s, P s → P (judgeSettle (takeAdviceAck a s))
  batchAck : ∀ a s, P s → P (takeBatchAck a s)
  place : ∀ id r s, P s → P (placeRequest id r s)
  check : ∀ n s, P s → P (takeLinkCheck n s)
  form : ∀ s, P s → P (countFrameForm s)
  part : ∀ r s, P s → P (setReassembly r s)

theorem LinkParts.dispatch {P : State → Prop} (hp : LinkParts P) {k : InboundKind} {dest : Nat} {payload : Bytes} {s : State}
    (h : P s) : P (dispatch k dest payload s) := by
  cases k with
  | reply =>
    unfold Machine.dispatch
    dsimp only
    split
    · exact hp.reply _ _ _ h
    · exact h
  | mgmtReq =>
    unfold Machine.dispatch
    dsimp only
    split
    · exact hp.place _ _ _ h
    · exact hp.form _ h
  | adviceAck => exact hp.adviceAck _ _ h
  | batchAck => exact hp.batchAck _ _ h
  | linkCheck => exact hp.check _ _ h

theorem LinkParts.gather {P : State → Prop} (hp : LinkParts P) {k : InboundKind} {dest segment : Nat} {last : Bool}
    {payload : Bytes} {s : State} (h : P s) : P (gather k dest segment last payload s) := by
  have first : ∀ u, P u → P (takeFirstSegment k dest segment last payload u) := by
    intro u hu
    unfold takeFirstSegment
    split
    · split
      · exact hp.dispatch hu
      · exact hp.part _ _ hu
    · exact hp.form _ hu
  have discarded : P (discardPart s) := by
    unfold discardPart
    split
    · exact hp.form _ (hp.part _ _ h)
    · exact h
  unfold Machine.gather
  split
  · exact first s h
  · split
    · unfold takeNextSegment
      split
      · exact hp.dispatch (hp.part _ _ h)
      · split
        · exact hp.form _ (hp.part _ _ h)
        · exact hp.part _ _ h
    · exact first _ discarded

theorem dayOk_links : LinkParts dayOk where
  reply _ _ _ h := dayOk_judgeSettle (dayOk_takeReply h)
  adviceAck _ _ h := dayOk_judgeSettle (dayOk_takeAdviceAck h)
  batchAck _ _ h := dayOk_takeBatchAck h
  place _ _ _ h := dayOk_congr h (by simp) (by simp) (by simp)
  check _ _ h := dayOk_congr h (by simp) (by simp) (by simp)
  form _ h := dayOk_congr h (by simp) (by simp) (by simp)
  part _ _ h := dayOk_congr h (by simp) (by simp) (by simp)


/-! ### The invariant under the commands -/

/-- A closed day refuses every request whose code it admits so far (R8). -/
theorem dayRefusal_closed {d : DayState} {cls : DayClass} (h : dayClosed d = true) : dayRefusal d cls = some .dayClosed := by
  cases d with
  | noDate | opened | cutoff => cases h
  | settling | settled | settleFailed => cases cls <;> rfl

/-- A key request in a closed day is refused: its screen and its number are all it changes. -/
theorem takeKeyRequest_closed {st : Station} {r : KeyRequest} {s : State} (h : dayClosed s.day.state = true) :
    quiet s (takeKeyRequest st r s) := by
  unfold takeKeyRequest admitRequest
  split
  · simp [quiet]
  split
  · simp [quiet]
  split
  · simp [quiet]
  have refused : ∀ cls, dayRefusal (giveNumber st s).day.state cls = some .dayClosed := fun cls => by
    simpa using dayRefusal_closed h
  rw [refused]
  simp [quiet]

theorem dayOk_takeKeyRequest {st : Station} {r : KeyRequest} {s : State} (h : dayOk s) : dayOk (takeKeyRequest st r s) := by
  by_cases hc : dayClosed s.day.state = true
  · obtain ⟨-, hd, ho, -, hs⟩ := takeKeyRequest_closed (st := st) (r := r) hc
    exact dayOk_congr h hd ho hs
  · exact dayOk_same h (sameDay_takeKeyRequest st r s) fun k => absurd k hc

theorem dayOk_delivered {st : Station} {d : Drop} {f : DropFrame} {s t : State} (hd : delivered st d f s = some t)
    (h : dayOk s) : dayOk t := by
  obtain ⟨-, h1, h2, -, h3⟩ := quiet_delivered hd
  exact dayOk_congr h h1 h2 h3

/-- What the owner of a request keeps, the taking of the request keeps. -/
theorem withRequest_keeps {P : State → Prop} {id : Nat} {r : MgmtRequest} {act : State → State} {s : State} (h : P s)
    (hp : ∀ places, P s → P (onMrs (fun m => { m with places := places }) s)) (ho : P s → P (countOverrun s))
    (ha : ∀ u, P u → P (act u)) : P (withRequest id r act s) := by
  unfold withRequest
  split
  · exact h
  · split
    · split
      · exact ha _ (hp _ h)
      · exact h
    · split
      · exact ha _ (hp _ h)
      · exact ho h

theorem dayOk_withRequest {id : Nat} {r : MgmtRequest} {act : State → State} {s : State} (h : dayOk s)
    (ha : ∀ u, dayOk u → dayOk (act u)) : dayOk (withRequest id r act s) :=
  withRequest_keeps h (fun _ h => h) (fun h => dayOk_congr h (by simp) (by simp) (by simp)) ha

theorem dayOk_takeLineSetup {id : Nat} {r : LineSetupRequest} {s : State} (h : dayOk s) : dayOk (takeLineSetup id r s) :=
  dayOk_moves h (sameDay_of (by simp))
    (takeLineSetup_moves (.inl trivial) (fun _ => trivial) (fun _ => trivial) (fun _ => trivial) .refl)

theorem dayOk_takeDayCutoff {id : Nat} {s : State} (h : dayOk s) : dayOk (takeDayCutoff id s) := by
  unfold takeDayCutoff
  split
  · next ho =>
    refine dayOk_congr (dayOk_judgeSettle (dayOk_changeDay h ?_ ?_ (.inr rfl))) (by simp) (by simp) (by simp)
    · rw [ho]; rfl
    · rw [ho]; decide
  · exact dayOk_congr h (by simp) (by simp) (by simp)

theorem dayOk_takeDayForce {id : Nat} {s : State} (h : dayOk s) : dayOk (takeDayForce id s) := by
  unfold takeDayForce
  split
  · exact dayOk_congr h (by simp) (by simp) (by simp)
  split
  · exact dayOk_congr h (by simp) (by simp) (by simp)
  have forced : dayOk (markUnbalanced (forStations forceOff s)) := by
    refine dayOk_moves h ?_ (onDay_moves (forStations_moves (fun _ _ => forceOff_moves) .refl))
    exact sameDay_trans (sameDay_of (by simp)) (sameDay_markUnbalanced _)
  exact dayOk_congr (dayOk_judgeSettle forced) (by simp) (by simp) (by simp)

theorem dayOk_takeSettleRetry {id : Nat} {s : State} (h : dayOk s) : dayOk (takeSettleRetry id s) := by
  unfold takeSettleRetry
  split
  · exact dayOk_congr h (by simp) (by simp) (by simp)
  · next hf =>
    have failed : s.day.state = .settleFailed := not_not.1 hf
    have zeroed : dayOk (onSettlement (fun c => { c with attempts := 0 }) s) :=
      dayOk_same h (sameDay_onSettlement _ s) fun _ k => atRest_congr k (by simp) (by simp)
    refine dayOk_congr (dayOk_closed (d := .settling) zeroed ?_ rfl) (by simp) (by simp) (by simp)
    obtain ⟨h1, -, -⟩ := h
    simpa [onSettlement, failed, dayClosed] using h1

theorem dayOk_takeDateRoll {id : Nat} {d : Date} {s : State} (h : dayOk s) : dayOk (takeDateRoll id d s) := by
  unfold takeDateRoll
  split
  · exact dayOk_congr h (by simp) (by simp) (by simp)
  · refine dayOk_iff.2 ⟨?_, ?_, ?_⟩ <;> simp [rollDay, dayClosed]

theorem dayOk_ownerSent {c : OutClass} {m : OutMsg} {s : State} (h : dayOk s) : dayOk (ownerSent c m s) := by
  refine dayOk_moves h ?_ (ownerSent_moves trivial .refl)
  unfold ownerSent
  split
  case h_6 => exact sameDay_settlementSent _ s
  all_goals exact sameDay_of (by simp)

theorem dayOk_loseLink {s : State} (h : dayOk s) : dayOk (loseLink s) := by
  refine dayOk_moves h ?_ (loseLink_moves (.inl trivial) .refl)
  have day : (loseLink s).day = (onSettlement (fun c => { c with outstanding := none }) s).day := by
    simp [loseLink, settlementLinkLost, onSettlement]
  exact sameDay_trans (sameDay_onSettlement _ s) (sameDay_of day)

theorem dayOk_timeOut {e : OttEntry} {s : State} (he : e ∈ s.ttr.ott) (h : dayOk s) : dayOk (timeOut e s) :=
  dayOk_moves h (sameDay_of (by simp)) (timeOut_moves he .refl)

/-- A warm start of a closed day finds it at rest, and sets the settlement context up again (R147). -/
theorem dayOk_restartDay {s : State} (hn : s.day.settlement = none) (hr : dayClosed s.day.state = true → atRest s)
    (hd : s.day.date = none ↔ s.day.state = .noDate) : dayOk (restartDay s) := by
  have plain : dayClosed s.day.state = false → dayOk s := fun k => dayOk_iff.2 ⟨by simp [hn, k], hr, hd⟩
  unfold restartDay
  split
  · next h => exact plain (by rw [h]; rfl)
  · next h => exact plain (by rw [h]; rfl)
  · next h => exact dayOk_judgeSettle (plain (by rw [h]; rfl))
  · next h =>
    have closed : dayClosed s.day.state = true := by rw [h]; rfl
    exact dayOk_beginJournalPhase closed (hr closed) (fun k => by have := hd.1 k; rw [h] at this; cases this)
  · next h =>
    have closed : dayClosed s.day.state = true := by rw [h]; rfl
    exact dayOk_beginJournalPhase closed (hr closed) (fun k => by have := hd.1 k; rw [h] at this; cases this)
  · next h =>
    have closed : dayClosed s.day.state = true := by rw [h]; rfl
    exact dayOk_iff.2 ⟨by simp [closed], fun _ => atRest_congr (hr closed) rfl rfl, hd⟩

theorem dayOk_warmStart {s : State} (h : dayOk s) : dayOk (warmStart s) := by
  obtain ⟨-, rest, dated⟩ := dayOk_iff.1 h
  have before : ∀ u, u = restartPositions (restartAdvices (returnReserved (abandoned s))) →
      u.day = { s.day with settlement := none } ∧ (atRest s → atRest u) := by
    rintro u rfl
    refine ⟨by simp [abandoned, volatileReset, returnReserved], fun k => atRest_congr (s := abandoned s) ?_ ?_ ?_⟩
    · exact (abandoned_moves (K := noEntrant) (.inl trivial)).keep atRest_move (atRest_congr k rfl rfl)
    · simp [returnReserved]
    · simp [returnReserved]
  obtain ⟨day, stays⟩ := before _ rfl
  have restarted := dayOk_restartDay (s := restartPositions (restartAdvices (returnReserved (abandoned s))))
    (by rw [day]) (by rw [day]; exact fun k => stays (rest k)) (by rw [day]; exact dated)
  unfold warmStart
  exact dayOk_congr restarted (by simp [abandoned]) (by simp [abandoned]) (by simp [abandoned])

theorem dayOk_coldStart (s : State) : dayOk (coldStart s) := by
  obtain ⟨-, -, -, -, -, -, day, -⟩ := resetMeetsTheInvariants
  have base : dayOk (coldBase s) := day
  exact dayOk_congr base (by simp [coldStart, coldBase]) (by simp [coldStart, coldBase]) (by simp [coldStart, coldBase])

theorem exec_dayOk {c : Instr} {s t : State} (h : exec c s = .next t) (hs : dayOk s) : dayOk t := by
  by_cases hc : moving c = false
  · obtain ⟨-, hd, ho, -, hn⟩ := exec_quiet hc h
    exact dayOk_congr hs hd ho hn
  cases c with
  | keyRequest st r =>
    simp only [exec, execKeyRequest] at h
    split at h <;> cases h
    · next u hu => exact dayOk_judgeSettle (dayOk_takeKeyRequest (dayOk_delivered hu hs))
    · exact hs
  | inboundFrame bytes =>
    simp only [exec, execInboundFrame] at h
    split at h <;> cases h
    · exact dayOk_congr hs (by simp) (by simp) (by simp)
    · exact dayOk_congr hs (by simp) (by simp) (by simp)
    · exact dayOk_links.gather (dayOk_congr hs (by simp) (by simp) (by simp))
  | reply dest r => cases h; exact dayOk_links.reply _ _ _ (dayOk_congr hs (by simp) (by simp) (by simp))
  | adviceAck a => cases h; exact dayOk_links.adviceAck _ _ (dayOk_congr hs (by simp) (by simp) (by simp))
  | batchAck a => cases h; exact dayOk_links.batchAck _ _ (dayOk_congr hs (by simp) (by simp) (by simp))
  | silenceTimerExpiry =>
    simp only [exec, execSilenceTimerExpiry] at h
    split at h <;> cases h
    · exact hs
    · exact dayOk_judgeSettle (dayOk_loseLink hs)
  | transmit =>
    simp only [exec, execTransmit] at h
    split at h
    · cases h; exact hs
    · split at h <;> cases h
      · exact dayOk_congr (dayOk_ownerSent hs) rfl rfl rfl
      · exact hs
  | deadlineExpiry ref =>
    simp only [exec, execDeadlineExpiry] at h
    split at h
    · next e he =>
      split at h <;> cases h
      · exact dayOk_judgeSettle (dayOk_timeOut (List.mem_of_find?_eq_some he) hs)
      · exact hs
    · cases h; exact hs
  | settlementBatchTimeout =>
    simp only [exec, execSettlementBatchTimeout] at h
    split at h <;> cases h
    · exact dayOk_settlementFails hs
    · exact hs
  | trailingPauseEnd =>
    cases h
    exact dayOk_same hs (sameDay_onSettlement _ s) fun _ k => atRest_congr k (by simp) (by simp)
  | tableLoad id f => cases h; exact dayOk_withRequest hs fun u hu => dayOk_congr hu (by simp) (by simp) (by simp)
  | lineSetup id r => cases h; exact dayOk_withRequest hs fun u hu => dayOk_judgeSettle (dayOk_takeLineSetup hu)
  | dayCutoff id => cases h; exact dayOk_withRequest hs fun u hu => dayOk_takeDayCutoff hu
  | dayForce id => cases h; exact dayOk_withRequest hs fun u hu => dayOk_takeDayForce hu
  | settleRetry id => cases h; exact dayOk_withRequest hs fun u hu => dayOk_takeSettleRetry hu
  | dateRoll id d => cases h; exact dayOk_withRequest hs fun u hu => dayOk_takeDateRoll hu
  | start =>
    simp only [exec, execStart] at h
    split at h
    · exact Host.Outcome.next.inj h ▸ dayOk_warmStart hs
    · exact Host.Outcome.next.inj h ▸ dayOk_coldStart s
  | _ => exact absurd rfl hc

/-- Settles O11: the day is entered into a closed state only as the settle condition holds or from another closed state, and a
closed day admits no transaction and no teller. -/
theorem dayInvariantKept : Obligations.DayInvariantKept :=
  everyStepKeeps_of (fun _ _ h => h) (fun _ h => h) fun _ _ _ => exec_dayOk

end Sys2Proof.Machine
end

section
/-! SUPPORT. The cash positions with their totals, bounds and reservations, under every command; and the closed day, which moves
no cash. -/

namespace Sys2Proof.Machine
open Sys2Proof

/-! ## Totals (R30) -/

theorem cashOk_congr {s t : State} (h : cashOk s) (hc : t.csh = s.csh) (hd : t.tbl.dnt = s.tbl.dnt) : cashOk t := by
  intro p
  have := h p
  unfold positionOf drawerOf at *
  rwa [hc, hd]

theorem positionOf_activate (x : DntHeader) (rs : List DntRec) (n : Nat) (p : Option Station) (s : State) :
    positionOf p (activate (.dnt x rs) n s) =
      { positionOf p s with counts := recount rs s.tbl.dnt (positionOf p s).counts } := by
  cases p <;> simp [activate, positionOf, drawerOf, onPositions]

theorem cashOk_activate {x : DntHeader} {rs : List DntRec} {n : Nat} {s : State} (h : cashOk s) (hu : dntInUse rs s = none) :
    cashOk (activate (.dnt x rs) n s) := by
  intro p
  rw [positionOf_activate]
  exact positionOk_recount hu h p

theorem cashOk_move (K : Wide → Prop) (s t : State) (m : Move K s t) (h : cashOk s) : cashOk t := by
  cases m
  case csh f hf => exact hf h
  case tbl f hd => exact cashOk_congr h rfl hd
  case dnt x rs n hu => exact cashOk_activate h hu
  all_goals exact cashOk_congr h (by simp) (by simp)

theorem cashOk_coldBase (s : State) : cashOk (coldBase s) := by
  obtain ⟨-, -, -, -, -, cash, -⟩ := resetMeetsTheInvariants
  exact cash

theorem cashOk_kept : everyStepKeeps cashOk :=
  everyStepKeeps_of_moves cashOk_move (fun _ _ h => h) (fun _ h => h) cashOk_coldBase (fun _ h => h) (fun _ h => h)

/-! ## Counts of one denomination -/

theorem countsAt_succ (p : Position) (i : Nat) : countsAt p (i + 1) = (p.counts[i]?).getD noCounts := rfl

theorem applyPairs_getElem? (f : Counts → Nat → Counts) (b : Breakdown) (k i : Nat) (cs : List Counts) :
    (applyPairs f b k cs)[i]? = (cs[i]?).map fun c => f c (pairCount b (k + i)) := by
  induction cs generalizing k i with
  | nil => simp [applyPairs]
  | cons c rest ih =>
    cases i with
    | zero => simp [applyPairs]
    | succ i =>
      have : k + 1 + i = k + (i + 1) := by omega
      simp [applyPairs, ih, this]

/-- A denomination of the table changes by the breakdown's count for it. -/
theorem countsAt_movePairs {f : Counts → Nat → Counts} {b : Breakdown} {p : Position} {i : Nat} (h1 : 1 ≤ i)
    (h2 : i ≤ p.counts.length) : countsAt (movePairs f b p) i = f (countsAt p i) (pairCount b i) := by
  obtain ⟨j, rfl⟩ : ∃ j, i = j + 1 := ⟨i - 1, by omega⟩
  have here : p.counts[j]? = some (p.counts[j]'(by omega)) := List.getElem?_eq_getElem (by omega)
  have same : 1 + j = j + 1 := by omega
  rw [countsAt_succ, countsAt_succ, movePairs, applyPairs_getElem?, here, same]
  rfl

/-- Outside the table a position has nothing. -/
theorem countsAt_outside {p : Position} {i : Nat} (h : i = 0 ∨ p.counts.length < i) : countsAt p i = noCounts := by
  rcases h with rfl | h
  · rfl
  · obtain ⟨j, rfl⟩ : ∃ j, i = j + 1 := ⟨i - 1, by omega⟩
    rw [countsAt_succ, List.getElem?_eq_none (by omega)]
    rfl

/-- A breakdown of denominations of a position: it names no other. -/
def withinTable (b : Breakdown) (p : Position) : Prop := ∀ i, (i = 0 ∨ p.counts.length < i) → pairCount b i = 0

/-- A breakdown within the table changes each denomination alike. -/
theorem countsAt_moved {f : Counts → Nat → Counts} {b : Breakdown} {p : Position} (hb : withinTable b p)
    (hf : f noCounts 0 = noCounts) (i : Nat) : countsAt (movePairs f b p) i = f (countsAt p i) (pairCount b i) := by
  by_cases hi : i = 0 ∨ p.counts.length < i
  · rw [countsAt_outside hi, hb i hi, hf]
    exact countsAt_outside (by simpa using hi)
  · exact countsAt_movePairs (by omega) (by omega)

theorem countsAt_congr {p q : Position} (h : q.counts = p.counts) (i : Nat) : countsAt q i = countsAt p i := by
  rw [countsAt, countsAt, h]

theorem pairCount_le {b : Breakdown} {i n : Nat} (h : ∀ x ∈ b, x.1 = i → x.2 ≤ n) : pairCount b i ≤ n := by
  unfold pairCount
  cases hf : b.find? fun p => p.1 = i with
  | none => simp
  | some x => simpa using h x (List.mem_of_find?_eq_some hf) (by simpa using List.find?_some hf)

/-- A breakdown of what is available at a position names only its denominations. -/
theorem pairCount_available {b : Breakdown} {p : Position}
    (h : ∀ x ∈ b, x.2 ≤ (countsAt p x.1).committed - (countsAt p x.1).reservedOut) (i : Nat) :
    pairCount b i ≤ (countsAt p i).committed - (countsAt p i).reservedOut :=
  pairCount_le fun x hx k => k ▸ h x hx

theorem withinTable_available {b : Breakdown} {p : Position}
    (h : ∀ x ∈ b, x.2 ≤ (countsAt p x.1).committed - (countsAt p x.1).reservedOut) : withinTable b p := by
  intro i hi
  have := pairCount_available h i
  rw [countsAt_outside hi] at this
  exact Nat.le_zero.1 this

theorem mem_nonZeroPairs {k : Nat} {xs : List Nat} {x : Nat × Nat} (h : x ∈ nonZeroPairs k xs) :
    k ≤ x.1 ∧ x.1 < k + xs.length := by
  induction xs generalizing k with
  | nil => cases h
  | cons c rest ih =>
    unfold nonZeroPairs at h
    have tail : x ∈ nonZeroPairs (k + 1) rest → k ≤ x.1 ∧ x.1 < k + (c :: rest).length := fun hx => by
      obtain ⟨h1, h2⟩ := ih hx
      exact ⟨by omega, by simp only [List.length_cons]; omega⟩
    split at h
    · exact tail h
    · rcases List.mem_cons.1 h with rfl | hx
      · exact ⟨le_rfl, by simp⟩
      · exact tail hx

theorem withinTable_keyed {cs : List (Option Nat)} {p : Position} (h : cs.length = p.counts.length) :
    withinTable (keyedPairs cs) p := by
  intro i hi
  refine Nat.le_zero.1 (pairCount_le fun x hx k => ?_)
  obtain ⟨h1, h2⟩ := mem_nonZeroPairs hx
  rw [List.length_map] at h2
  omega

theorem readBreakdown_length {n : Nat} {fields : List KeyField} {cs : List (Option Nat)}
    (h : readBreakdown n fields = .keyed cs) : cs.length = n := by
  unfold readBreakdown at h
  dsimp only at h
  split at h
  · cases h
  · split at h
    · cases h; simp
    · cases h

/-- Every pair of a greedy breakdown is available. -/
theorem greedyFrom_available {i : Nat} {ds : List DntRec} {cs : List Counts} {n : Nat} :
    ∀ x ∈ (greedyFrom i ds cs n).1, i ≤ x.1 ∧
      x.2 ≤ ((cs[x.1 - i]?).getD noCounts).committed - ((cs[x.1 - i]?).getD noCounts).reservedOut := by
  induction ds generalizing i cs n with
  | nil => intro x hx; cases hx
  | cons d ds ih =>
    intro x hx
    unfold greedyFrom at hx
    dsimp only at hx
    have later : x ∈ (greedyFrom (i + 1) ds cs.tail (n - min ((cs.head?.getD ⟨0, 0, 0⟩).committed -
        (cs.head?.getD ⟨0, 0, 0⟩).reservedOut - d.floor) (n / d.face) * d.face)).1 → i ≤ x.1 ∧
        x.2 ≤ ((cs[x.1 - i]?).getD noCounts).committed - ((cs[x.1 - i]?).getD noCounts).reservedOut := fun k => by
      obtain ⟨h1, h2⟩ := ih x k
      refine ⟨by omega, ?_⟩
      have : x.1 - i = (x.1 - (i + 1)) + 1 := by omega
      rwa [this, ← List.getElem?_tail]
    split at hx
    · exact later hx
    · rcases List.mem_cons.1 hx with rfl | hx
      · refine ⟨le_rfl, ?_⟩
        rw [Nat.sub_self, ← List.head?_eq_getElem?]
        exact (Nat.min_le_left _ _).trans (Nat.sub_le _ _)
      · exact later hx

theorem greedyBreakdown_available {dnt : List DntRec} {p : Position} {n : Nat} {b : Breakdown}
    (h : greedyBreakdown dnt p n = some b) :
    ∀ x ∈ b, x.2 ≤ (countsAt p x.1).committed - (countsAt p x.1).reservedOut := by
  unfold greedyBreakdown at h
  have all := greedyFrom_available (i := 1) (ds := dnt) (cs := p.counts) (n := n)
  split at h
  · next b' hb =>
    cases h
    rw [hb] at all
    intro x hx
    obtain ⟨h1, h2⟩ := all x hx
    obtain ⟨j, hj⟩ : ∃ j, x.1 = j + 1 := ⟨x.1 - 1, by omega⟩
    rw [hj] at h2 ⊢
    exact h2
  · cases h


/-! ## Reservations and bounds (R30, R42, R46) -/

/-- The bounds of one denomination's counts. -/
def countsFit (c : Counts) : Prop := c.reservedOut ≤ c.committed ∧ c.committed + c.pendingIn ≤ 65535

def positionFits (p : Position) : Prop := p.txCount ≤ 65535 ∧ ∀ i, countsFit (countsAt p i)

/-- What the leg of an entry reserves of a denomination at a station, in one direction. -/
def legShare (dir : CashDirection) (st : Station) (i : Nat) (e : OttEntry) : Nat :=
  if e.ref.station = st then
    match e.leg with
    | some g => if g.dir = dir then pairCount g.breakdown i else 0
    | none => 0
  else 0

/-- What the legs of some entries reserve. -/
def legsOf (o : List OttEntry) (dir : CashDirection) (st : Station) (i : Nat) : Nat := (o.map (legShare dir st i)).sum

/-- The reservations of a drawer are those of the legs of some entries. -/
def legsHeld (o : List OttEntry) (st : Station) (p : Position) : Prop :=
  ∀ i, (countsAt p i).reservedOut = legsOf o .cashOut st i ∧ (countsAt p i).pendingIn = legsOf o .cashIn st i

def drawerFits (o : List OttEntry) (st : Station) (p : Position) : Prop := positionFits p ∧ legsHeld o st p

def reserveFits (p : Position) : Prop :=
  positionFits p ∧ p.excess = false ∧ ∀ i, (countsAt p i).reservedOut = 0 ∧ (countsAt p i).pendingIn = 0

/-- The positions of the CSH fit some open transactions. -/
def cashFits (o : List OttEntry) (c : Csh) : Prop := (∀ st, drawerFits o st (c.drawers.get st)) ∧ reserveFits c.reserve

theorem forall_counts {Q : Counts → Prop} (hz : Q noCounts) (p : Position) :
    (∀ c ∈ p.counts, Q c) ↔ ∀ i, Q (countsAt p i) := by
  constructor
  · intro h i
    cases i with
    | zero => exact hz
    | succ i =>
      rw [countsAt_succ]
      cases hc : p.counts[i]? with
      | none => exact hz
      | some c => exact h c (List.mem_of_getElem? hc)
  · intro h c hc
    obtain ⟨i, hi, rfl⟩ := List.getElem_of_mem hc
    have := h (i + 1)
    rwa [countsAt_succ, List.getElem?_eq_getElem hi] at this

theorem countsFit_noCounts : countsFit noCounts := ⟨le_rfl, by decide⟩

theorem reservationsOk_iff {s : State} : reservationsOk s ↔ transactionsOk s ∧ cashOk s ∧ cashFits s.ttr.ott s.csh := by
  have zero : (fun c : Counts => c.reservedOut = 0 ∧ c.pendingIn = 0) noCounts := ⟨rfl, rfl⟩
  constructor
  · rintro ⟨ht, hc, hb, ⟨he, hr⟩, hl⟩
    have fits : ∀ p, positionFits (positionOf p s) := fun p =>
      ⟨(hb p).1, (forall_counts countsFit_noCounts _).1 (hb p).2⟩
    exact ⟨ht, hc, fun st => ⟨fits (some st), hl st⟩, fits none, he, (forall_counts zero _).1 hr⟩
  · rintro ⟨ht, hc, hd, hr, he, hz⟩
    refine ⟨ht, hc, fun p => ?_, ⟨he, (forall_counts zero _).2 hz⟩, fun st => (hd st).2⟩
    have fits : positionFits (positionOf p s) := by
      cases p with
      | none => exact hr
      | some st => exact (hd st).1
    exact ⟨fits.1, (forall_counts countsFit_noCounts _).2 fits.2⟩

/-! ### One position changes -/

theorem cashFits_drawer {o o' : List OttEntry} {c : Csh} {st : Station} {x : Position} (h : cashFits o c)
    (hx : drawerFits o' st x) (ho : ∀ a, a ≠ st → ∀ dir i, legsOf o' dir a i = legsOf o dir a i) :
    cashFits o' { c with drawers := c.drawers.set st x } := by
  obtain ⟨hd, hr⟩ := h
  refine ⟨fun a => ?_, hr⟩
  by_cases ha : a = st
  · subst ha; simpa using hx
  · have old := hd a
    simp only [Eight.get_set, if_neg ha]
    refine ⟨old.1, fun i => ?_⟩
    rw [ho a ha, ho a ha]
    exact old.2 i

theorem cashFits_reserve {o : List OttEntry} {c : Csh} {x : Position} (h : cashFits o c) (hx : reserveFits x) :
    cashFits o { c with reserve := x } := ⟨h.1, hx⟩

theorem cashFits_legs {o o' : List OttEntry} {c : Csh} (h : cashFits o c) (ho : ∀ a dir i, legsOf o' dir a i = legsOf o dir a i) :
    cashFits o' c := by
  refine ⟨fun a => ⟨(h.1 a).1, fun i => ?_⟩, h.2⟩
  rw [ho, ho]
  exact (h.1 a).2 i

theorem positionFits_congr {p q : Position} (h : positionFits p) (hc : q.counts = p.counts) (ht : q.txCount = p.txCount) :
    positionFits q := ⟨ht ▸ h.1, fun i => countsAt_congr hc i ▸ h.2 i⟩

theorem drawerFits_congr {o : List OttEntry} {st : Station} {p q : Position} (h : drawerFits o st p) (hc : q.counts = p.counts)
    (ht : q.txCount = p.txCount) : drawerFits o st q :=
  ⟨positionFits_congr h.1 hc ht, fun i => countsAt_congr hc i ▸ h.2 i⟩

/-- EXCESS_CASH is no part of the bounds of a drawer. -/
theorem cashFits_evaluateExcess {o : List OttEntry} {st : Station} {n : Nat} {s : State} (h : cashFits o s.csh) :
    cashFits o (evaluateExcess st n s).csh := by
  have marked : ∀ b, cashFits o { s.csh with drawers := s.csh.drawers.set st { drawerOf st s with excess := b } } := fun b =>
    cashFits_drawer h (drawerFits_congr (h.1 st) rfl rfl) fun _ _ _ _ => rfl
  unfold evaluateExcess
  split
  · exact h
  · dsimp only
    split
    · split
      · exact h
      · simpa [setPosition] using marked true
    · split
      · simpa [setPosition] using marked false
      · exact h

/-! ### What the entries reserve -/

theorem legsOf_append (o : List OttEntry) (e : OttEntry) (dir : CashDirection) (st : Station) (i : Nat) :
    legsOf (o ++ [e]) dir st i = legsOf o dir st i + legShare dir st i e := by simp [legsOf]

/-- An entry that leaves takes its share. -/
theorem legsOf_leave {o : List OttEntry} {e : OttEntry} (hn : (o.map OttEntry.ref).Nodup) (he : e ∈ o) (dir : CashDirection)
    (st : Station) (i : Nat) :
    legsOf o dir st i = legsOf (o.filter fun x => x.ref ≠ e.ref) dir st i + legShare dir st i e := by
  induction o with
  | nil => cases he
  | cons x rest ih =>
    obtain ⟨hx, hrest⟩ := List.nodup_cons.1 hn
    rcases List.mem_cons.1 he with rfl | he
    · have others : rest.filter (fun y => y.ref ≠ e.ref) = rest :=
        List.filter_eq_self.2 fun y hy => by simpa using fun k : y.ref = e.ref => hx (k ▸ List.mem_map_of_mem hy)
      simp only [List.filter_cons, ne_eq, not_true_eq_false, decide_false, Bool.false_eq_true, if_false] at others ⊢
      rw [others]
      simp only [legsOf, List.map_cons, List.sum_cons]
      omega
    · have hne : x.ref ≠ e.ref := fun k => hx (k ▸ List.mem_map_of_mem he)
      have next := ih hrest he
      simp only [List.filter_cons, hne, ne_eq, not_false_eq_true, decide_true, if_true] at next ⊢
      simp only [legsOf, List.map_cons, List.sum_cons] at next ⊢
      omega

theorem legShare_other {e : OttEntry} {a : Station} (h : a ≠ e.ref.station) (dir : CashDirection) (i : Nat) :
    legShare dir a i e = 0 := if_neg fun k => h k.symm

theorem legShare_none {e : OttEntry} (h : e.leg = none) (dir : CashDirection) (a : Station) (i : Nat) : legShare dir a i e = 0 := by
  unfold legShare
  rw [h]
  simp

theorem legShare_some {e : OttEntry} {g : Leg} (h : e.leg = some g) (dir : CashDirection) (i : Nat) :
    legShare dir e.ref.station i e = if g.dir = dir then pairCount g.breakdown i else 0 := by
  unfold legShare
  rw [if_pos rfl, h]

/-! ### Legs at a drawer (R42 to R46) -/

/-- A leg can be reserved or posted at a position: what it takes is available, what it brings has room. -/
def legFits (g : Leg) (p : Position) : Prop :=
  (g.dir = .cashOut → ∀ x ∈ g.breakdown, x.2 ≤ (countsAt p x.1).committed - (countsAt p x.1).reservedOut) ∧
    (g.dir = .cashIn → withinTable g.breakdown p ∧
      ∀ x ∈ g.breakdown, (countsAt p x.1).committed + (countsAt p x.1).pendingIn + x.2 ≤ 65535)

/-- Room for each pair is room for the count of each denomination. -/
theorem pairCount_room {b : Breakdown} {p : Position} {i : Nat} (hp : countsFit (countsAt p i))
    (h : ∀ x ∈ b, (countsAt p x.1).committed + (countsAt p x.1).pendingIn + x.2 ≤ 65535) :
    (countsAt p i).committed + (countsAt p i).pendingIn + pairCount b i ≤ 65535 := by
  have le : pairCount b i ≤ 65535 - ((countsAt p i).committed + (countsAt p i).pendingIn) :=
    pairCount_le fun x hx k => by
      have := h x hx
      rw [k] at this
      omega
  obtain ⟨-, h2⟩ := hp
  omega

theorem drawerFits_reserved {o : List OttEntry} {e : OttEntry} {g : Leg} {p : Position} (h : drawerFits o e.ref.station p)
    (hg : e.leg = some g) (hf : legFits g p) : drawerFits (o ++ [e]) e.ref.station (reservedPosition g p) := by
  obtain ⟨⟨count, fits⟩, held⟩ := h
  obtain ⟨out, inn⟩ := hf
  have shares : ∀ dir i, legsOf (o ++ [e]) dir e.ref.station i =
      legsOf o dir e.ref.station i + if g.dir = dir then pairCount g.breakdown i else 0 := fun dir i => by
    rw [legsOf_append, legShare_some hg]
  unfold reservedPosition
  cases hd : g.dir with
  | noCash => exact ⟨⟨count, fits⟩, fun i => by simpa [shares, hd] using held i⟩
  | cashOut =>
    have moved := countsAt_moved (f := fun c n => { c with reservedOut := c.reservedOut + n })
      (withinTable_available (out hd)) rfl
    refine ⟨⟨count, fun i => ?_⟩, fun i => ?_⟩
    · have := pairCount_available (out hd) i
      obtain ⟨h1, h2⟩ := fits i
      rw [moved]
      exact ⟨by show (countsAt p i).reservedOut + _ ≤ (countsAt p i).committed; omega, h2⟩
    · obtain ⟨h1, h2⟩ := held i
      rw [moved, shares, shares, hd]
      exact ⟨by simp [h1], by simpa using h2⟩
  | cashIn =>
    obtain ⟨within, room⟩ := inn hd
    have moved := countsAt_moved (f := fun c n => { c with pendingIn := c.pendingIn + n }) within rfl
    refine ⟨⟨count, fun i => ?_⟩, fun i => ?_⟩
    · have := pairCount_room (fits i) room
      obtain ⟨h1, h2⟩ := fits i
      rw [moved]
      exact ⟨h1, by show (countsAt p i).committed + ((countsAt p i).pendingIn + _) ≤ _; omega⟩
    · obtain ⟨h1, h2⟩ := held i
      rw [moved, shares, shares, hd]
      exact ⟨by simpa using h1, by simp [h2]⟩

section
variable {o : List OttEntry} {e : OttEntry} {g : Leg} {p : Position}

/-- The leg of an open transaction lies within the table, for what it reserves stands there. -/
theorem withinTable_held (hn : (o.map OttEntry.ref).Nodup) (he : e ∈ o) (hg : e.leg = some g)
    (h : drawerFits o e.ref.station p) (hd : g.dir = .cashOut ∨ g.dir = .cashIn) : withinTable g.breakdown p := by
  intro i hi
  obtain ⟨h1, h2⟩ := h.2 i
  rw [countsAt_outside hi, legsOf_leave hn he, legShare_some hg] at h1 h2
  rcases hd with hd | hd
  · rw [hd, if_pos rfl] at h1
    have : (0 : Nat) = _ := h1
    omega
  · rw [hd, if_pos rfl] at h2
    have : (0 : Nat) = _ := h2
    omega

theorem drawerFits_released (hn : (o.map OttEntry.ref).Nodup) (he : e ∈ o) (hg : e.leg = some g)
    (h : drawerFits o e.ref.station p) :
    drawerFits (o.filter fun x => x.ref ≠ e.ref) e.ref.station (releasedPosition g p) := by
  have within := withinTable_held hn he hg h
  have shares : ∀ dir i, legsOf o dir e.ref.station i = legsOf (o.filter fun x => x.ref ≠ e.ref) dir e.ref.station i +
      if g.dir = dir then pairCount g.breakdown i else 0 := fun dir i => by rw [legsOf_leave hn he, legShare_some hg]
  obtain ⟨⟨count, fits⟩, held⟩ := h
  unfold releasedPosition
  cases hd : g.dir with
  | noCash => exact ⟨⟨count, fits⟩, fun i => by simpa [shares, hd] using held i⟩
  | cashOut =>
    have moved := countsAt_moved (f := fun c n => { c with reservedOut := c.reservedOut - n }) (within (.inl hd)) rfl
    refine ⟨⟨count, fun i => ?_⟩, fun i => ?_⟩
    · rw [moved]
      exact ⟨(Nat.sub_le _ _).trans (fits i).1, (fits i).2⟩
    · obtain ⟨h1, h2⟩ := held i
      rw [shares, hd] at h1 h2
      rw [moved]
      exact ⟨by simp [h1], by simpa using h2⟩
  | cashIn =>
    have moved := countsAt_moved (f := fun c n => { c with pendingIn := c.pendingIn - n }) (within (.inr hd)) rfl
    refine ⟨⟨count, fun i => ?_⟩, fun i => ?_⟩
    · rw [moved]
      obtain ⟨h1, h2⟩ := fits i
      exact ⟨h1, by show (countsAt p i).committed + ((countsAt p i).pendingIn - _) ≤ _; omega⟩
    · obtain ⟨h1, h2⟩ := held i
      rw [shares, hd] at h1 h2
      rw [moved]
      exact ⟨by simpa using h1, by simp [h2]⟩

theorem postedFigures_txCount (g : Leg) (p : Position) (h : p.txCount ≤ 65535) : (postedFigures g p).txCount ≤ 65535 := by
  have act : ∀ q : Position, (activated q).txCount = q.txCount := fun q => by
    unfold activated
    split <;> rfl
  unfold postedFigures
  cases g.dir with
  | cashIn => rw [act]; exact satCount_le
  | cashOut => rw [act]; exact satCount_le
  | noCash => rw [act]; exact h

/-- The figures of a posting leave the bounds to its counts. -/
theorem drawerFits_figures {st : Station} {faces : List Nat} {q : Position} (h : drawerFits o st q) :
    drawerFits o st (postedFigures g (retotal faces q)) := by
  obtain ⟨same, -⟩ := postedFigures_counts g (retotal faces q)
  have counts : ∀ i, countsAt (postedFigures g (retotal faces q)) i = countsAt q i := fun i => countsAt_congr same i
  refine ⟨⟨postedFigures_txCount _ _ h.1.1, fun i => ?_⟩, fun i => ?_⟩
  · rw [counts]; exact h.1.2 i
  · rw [counts]; exact h.2 i

theorem drawerFits_posted (hn : (o.map OttEntry.ref).Nodup) (he : e ∈ o) (hg : e.leg = some g)
    (h : drawerFits o e.ref.station p) :
    drawerFits (o.filter fun x => x.ref ≠ e.ref) e.ref.station (postedCounts g p) := by
  have within := withinTable_held hn he hg h
  have shares : ∀ dir i, legsOf o dir e.ref.station i = legsOf (o.filter fun x => x.ref ≠ e.ref) dir e.ref.station i +
      if g.dir = dir then pairCount g.breakdown i else 0 := fun dir i => by rw [legsOf_leave hn he, legShare_some hg]
  obtain ⟨⟨count, fits⟩, held⟩ := h
  unfold postedCounts
  cases hd : g.dir with
  | noCash => exact ⟨⟨count, fits⟩, fun i => by simpa [shares, hd] using held i⟩
  | cashOut =>
    have moved := countsAt_moved (f := fun c n => { c with committed := c.committed - n, reservedOut := c.reservedOut - n })
      (within (.inl hd)) rfl
    refine ⟨⟨count, fun i => ?_⟩, fun i => ?_⟩
    · rw [moved]
      obtain ⟨h1, h2⟩ := fits i
      exact ⟨by show (countsAt p i).reservedOut - _ ≤ (countsAt p i).committed - _; omega,
        by show (countsAt p i).committed - _ + (countsAt p i).pendingIn ≤ _; omega⟩
    · obtain ⟨h1, h2⟩ := held i
      rw [shares, hd] at h1 h2
      rw [moved]
      exact ⟨by simp [h1], by simpa using h2⟩
  | cashIn =>
    have moved := countsAt_moved (f := fun c n => { c with committed := c.committed + n, pendingIn := c.pendingIn - n })
      (within (.inr hd)) rfl
    refine ⟨⟨count, fun i => ?_⟩, fun i => ?_⟩
    · rw [moved]
      obtain ⟨h1, h2⟩ := fits i
      obtain ⟨-, k2⟩ := held i
      rw [shares, hd, if_pos rfl] at k2
      exact ⟨by show (countsAt p i).reservedOut ≤ (countsAt p i).committed + _; omega,
        by show (countsAt p i).committed + _ + ((countsAt p i).pendingIn - _) ≤ _; omega⟩
    · obtain ⟨h1, h2⟩ := held i
      rw [shares, hd] at h1 h2
      rw [moved]
      exact ⟨by simpa using h1, by simp [h2]⟩

theorem drawerFits_standin {st : Station} (h : drawerFits o st p) (hf : legFits g p) :
    drawerFits o st (standinCounts g p) := by
  obtain ⟨⟨count, fits⟩, held⟩ := h
  obtain ⟨out, inn⟩ := hf
  unfold standinCounts
  cases hd : g.dir with
  | noCash => exact ⟨⟨count, fits⟩, held⟩
  | cashOut =>
    have moved := countsAt_moved (f := fun c n => { c with committed := c.committed - n })
      (withinTable_available (out hd)) rfl
    refine ⟨⟨count, fun i => ?_⟩, fun i => by rw [moved]; exact held i⟩
    have := pairCount_available (out hd) i
    obtain ⟨h1, h2⟩ := fits i
    rw [moved]
    exact ⟨by show (countsAt p i).reservedOut ≤ (countsAt p i).committed - _; omega,
      by show (countsAt p i).committed - _ + (countsAt p i).pendingIn ≤ _; omega⟩
  | cashIn =>
    obtain ⟨within, room⟩ := inn hd
    have moved := countsAt_moved (f := fun c n => { c with committed := c.committed + n }) within rfl
    refine ⟨⟨count, fun i => ?_⟩, fun i => by rw [moved]; exact held i⟩
    have := pairCount_room (fits i) room
    obtain ⟨h1, h2⟩ := fits i
    rw [moved]
    exact ⟨by show (countsAt p i).reservedOut ≤ (countsAt p i).committed + _; omega,
      by show (countsAt p i).committed + _ + (countsAt p i).pendingIn ≤ _; omega⟩

end


end Sys2Proof.Machine
end

section
/-! SUPPORT. The bounds and reservations of the cash positions under every command. -/

namespace Sys2Proof.Machine
open Sys2Proof

/-- The positions fit the open transactions. -/
def cashHeld (s : State) : Prop := cashFits s.ttr.ott s.csh

theorem cashHeld_congr {s t : State} (h : cashHeld s) (hc : t.csh = s.csh) (ho : t.ttr.ott = s.ttr.ott) : cashHeld t := by
  unfold cashHeld
  rw [hc, ho]
  exact h

/-! ## Legs -/

section
variable {s : State}

theorem cashFits_reserveLeg {e : OttEntry} (h : cashHeld s) (hf : ∀ g, e.leg = some g → legFits g (drawerOf e.ref.station s)) :
    cashFits (s.ttr.ott ++ [e]) (reserveLeg e.ref.station e.leg s).csh := by
  have others : ∀ a, a ≠ e.ref.station → ∀ dir i, legsOf (s.ttr.ott ++ [e]) dir a i = legsOf s.ttr.ott dir a i :=
    fun a ha dir i => by rw [legsOf_append, legShare_other ha, Nat.add_zero]
  unfold reserveLeg
  cases hg : e.leg with
  | none => exact cashFits_legs h fun a dir i => by rw [legsOf_append, legShare_none hg, Nat.add_zero]
  | some g => exact cashFits_drawer h (drawerFits_reserved (h.1 _) hg (hf g hg)) others

section
variable {e : OttEntry} (ht : transactionsOk s) (he : e ∈ s.ttr.ott)
include ht he

theorem legsOf_others {a : Station} (ha : a ≠ e.ref.station) (dir : CashDirection) (i : Nat) :
    legsOf (s.ttr.ott.filter fun x => x.ref ≠ e.ref) dir a i = legsOf s.ttr.ott dir a i := by
  rw [legsOf_leave (ott_nodup ht) he, legShare_other ha, Nat.add_zero]

theorem cashFits_legless (h : cashHeld s) (hg : e.leg = none) :
    cashFits (s.ttr.ott.filter fun x => x.ref ≠ e.ref) s.csh :=
  cashFits_legs h fun a dir i => by rw [legsOf_leave (ott_nodup ht) he dir a i, legShare_none hg, Nat.add_zero]

theorem cashFits_releaseLeg (h : cashHeld s) :
    cashFits (s.ttr.ott.filter fun x => x.ref ≠ e.ref) (releaseLeg e.ref.station e.leg s).csh := by
  unfold releaseLeg
  cases hg : e.leg with
  | none => exact cashFits_legless ht he h hg
  | some g =>
    exact cashFits_drawer h (drawerFits_released (ott_nodup ht) he hg (h.1 _)) fun a ha => legsOf_others ht he ha

theorem cashFits_postApproved (h : cashHeld s) :
    cashFits (s.ttr.ott.filter fun x => x.ref ≠ e.ref) (postApproved e s).csh := by
  unfold postApproved
  cases hg : e.leg with
  | none => exact cashFits_legless ht he h hg
  | some g =>
    have posted : cashFits (s.ttr.ott.filter fun x => x.ref ≠ e.ref) (postLeg e.ref.station e.teller g s).csh := by
      unfold postLeg postAt
      refine cashFits_evaluateExcess ?_
      simp only [raiseIf_keeps]
      exact cashFits_drawer h (drawerFits_figures (drawerFits_posted (ott_nodup ht) he hg (h.1 _)))
        fun a ha => legsOf_others ht he ha
    dsimp only
    split
    · exact posted
    · simpa using posted

end

theorem cashFits_postStandin {o : List OttEntry} {st : Station} {n : Nat} {g : Leg} (h : cashFits o s.csh)
    (hf : legFits g (drawerOf st s)) : cashFits o (postStandin st n g s).csh := by
  unfold postStandin postAt
  refine cashFits_evaluateExcess ?_
  simp only [raiseIf_keeps]
  exact cashFits_drawer h (drawerFits_figures (drawerFits_standin (h.1 _) hf)) fun _ _ _ _ => rfl

/-! ## What the checks find (R39 to R41, R48, R50) -/

theorem all_of_someFails {ok : Nat × Nat → Bool} {b : Breakdown} (h : ¬ someFails ok b = true) : ∀ x ∈ b, ok x = true := by
  intro x hx
  by_contra hn
  exact h (List.any_eq_true.2 ⟨x, hx, by simpa using hn⟩)

theorem available_of {p : Position} {b : Breakdown} (h : ¬ someFails (pairAvailable p) b = true) :
    ∀ x ∈ b, x.2 ≤ (countsAt p x.1).committed - (countsAt p x.1).reservedOut :=
  fun x hx => of_decide_eq_true (all_of_someFails h x hx)

theorem room_of {p : Position} {b : Breakdown} (h : ¬ someFails (pairFits p) b = true) :
    ∀ x ∈ b, (countsAt p x.1).committed + (countsAt p x.1).pendingIn + x.2 ≤ 65535 :=
  fun x hx => of_decide_eq_true (all_of_someFails h x hx)

theorem checkIn_ok {st : Station} {n r : Nat} {b c : Breakdown} (h : checkIn st n r b s = .ok c) :
    c = b ∧ ¬ someFails (pairFits (drawerOf st s)) b = true := by
  unfold checkIn at h
  dsimp only at h
  split at h
  · cases h
  · split at h
    · cases h
    · next hn =>
      split at h
      · cases h
      · cases h; exact ⟨rfl, hn⟩

theorem checkOutKeyed_ok {st : Station} {r : Nat} {b c : Breakdown} (h : checkOutKeyed st r b s = .ok c) :
    c = b ∧ ¬ someFails (pairAvailable (drawerOf st s)) b = true := by
  unfold checkOutKeyed at h
  split at h
  · cases h
  · split at h
    · cases h
    · next hn => cases h; exact ⟨rfl, hn⟩

/-- A breakdown that the checks of a leg pass fits the drawer. -/
theorem legBreakdown_fits {st : Station} {n r a : Nat} {dir : CashDirection} {fields : List KeyField} {b : Breakdown}
    (hc : cashOk s) (h : legBreakdown st n dir r (readBreakdown s.tbl.dnt.length fields) s = .ok b) :
    legFits { dir := dir, exact := a, rounded := r, breakdown := b } (drawerOf st s) := by
  have len : (drawerOf st s).counts.length = s.tbl.dnt.length := (hc (some st)).1
  unfold legBreakdown at h
  split at h
  · exact ⟨fun k => (by cases k), fun k => (by cases k)⟩
  · cases h
  · split at h
    · cases h
      exact ⟨fun k => (by cases k), fun _ => ⟨fun i hi => rfl, fun x hx => by cases hx⟩⟩
    · cases h
  · next cs hk =>
    obtain ⟨rfl, room⟩ := checkIn_ok h
    exact ⟨fun k => (by cases k), fun _ => ⟨withinTable_keyed ((readBreakdown_length hk).trans len.symm), room_of room⟩⟩
  · cases h
  · obtain ⟨rfl, available⟩ := checkOutKeyed_ok h
    exact ⟨fun _ => available_of available, fun k => by cases k⟩
  · split at h
    · next hb =>
      cases h
      exact ⟨fun _ => greedyBreakdown_available hb, fun k => by cases k⟩
    · cases h

theorem cashChecks_fits {st : Station} {n a : Nat} {dir : CashDirection} {fields : List KeyField} {g : Leg} (hc : cashOk s)
    (h : cashChecks st n dir a fields s = .ok g) : legFits g (drawerOf st s) := by
  unfold cashChecks at h
  split at h
  · cases h
  · split at h
    · cases h
    · dsimp only at h
      split at h
      · cases h
      · next hb => cases h; exact legBreakdown_fits hc hb

theorem legOf_fits {q : Admitted} {g : Leg} (hc : cashOk s) (h : legOf q s = .ok (some g)) : legFits g (drawerOf q.st s) := by
  unfold legOf at h
  split at h
  · cases h
  · cases h
  · split at h
    · cases h
    · next hb => cases h; exact cashChecks_fits hc hb

/-! ## Transfers and balancings -/

/-- A change of committed counts that stays within the bounds leaves the reservations. -/
theorem transferSide_counts {f : Counts → Nat → Counts} {faces : List Nat} {b : Breakdown} {p : Position}
    (hw : withinTable b p) (hz : f noCounts 0 = noCounts) (i : Nat) :
    countsAt (transferSide f faces b p) i = f (countsAt p i) (pairCount b i) := by
  obtain ⟨same, -⟩ := activated_counts
    { retotal faces (movePairs f b p) with txCount := satCount Config.topCounter (retotal faces (movePairs f b p)).txCount }
  exact (countsAt_congr (p := movePairs f b p) same i).trans (countsAt_moved hw hz i)

theorem activated_rest (p : Position) : (activated p).txCount = p.txCount ∧ (activated p).excess = p.excess := by
  unfold activated
  split <;> exact ⟨rfl, rfl⟩

theorem transferSide_rest (f : Counts → Nat → Counts) (faces : List Nat) (b : Breakdown) (p : Position) :
    (transferSide f faces b p).txCount ≤ 65535 ∧ (transferSide f faces b p).excess = p.excess := by
  obtain ⟨count, excess⟩ := activated_rest
    { retotal faces (movePairs f b p) with txCount := satCount Config.topCounter (retotal faces (movePairs f b p)).txCount }
  exact ⟨count.le.trans satCount_le, excess⟩

/-- A side of a transfer, given or taken. -/
def transferFits (f : Counts → Nat → Counts) (b : Breakdown) (p : Position) : Prop :=
  withinTable b p ∧ f noCounts 0 = noCounts ∧
    (∀ c n, (f c n).reservedOut = c.reservedOut ∧ (f c n).pendingIn = c.pendingIn) ∧
    ((∀ i, countsFit (countsAt p i)) → ∀ i, countsFit (f (countsAt p i) (pairCount b i)))

theorem transferFits_source {b : Breakdown} {p : Position}
    (h : ∀ x ∈ b, x.2 ≤ (countsAt p x.1).committed - (countsAt p x.1).reservedOut) :
    transferFits (fun c n => { c with committed := c.committed - n }) b p := by
  refine ⟨withinTable_available h, rfl, fun _ _ => ⟨rfl, rfl⟩, fun fits i => ?_⟩
  have := pairCount_available h i
  obtain ⟨h1, h2⟩ := fits i
  exact ⟨by show (countsAt p i).reservedOut ≤ (countsAt p i).committed - _; omega,
    by show (countsAt p i).committed - _ + (countsAt p i).pendingIn ≤ _; omega⟩

theorem transferFits_target {b : Breakdown} {p : Position} (hw : withinTable b p)
    (h : ∀ x ∈ b, (countsAt p x.1).committed + (countsAt p x.1).pendingIn + x.2 ≤ 65535) :
    transferFits (fun c n => { c with committed := c.committed + n }) b p := by
  refine ⟨hw, rfl, fun _ _ => ⟨rfl, rfl⟩, fun fits i => ?_⟩
  have := pairCount_room (fits i) h
  obtain ⟨h1, h2⟩ := fits i
  exact ⟨by show (countsAt p i).reservedOut ≤ (countsAt p i).committed + _; omega,
    by show (countsAt p i).committed + _ + (countsAt p i).pendingIn ≤ _; omega⟩

theorem drawerFits_transferSide {o : List OttEntry} {st : Station} {f : Counts → Nat → Counts} {faces : List Nat} {b : Breakdown}
    {p : Position} (h : drawerFits o st p) (hf : transferFits f b p) : drawerFits o st (transferSide f faces b p) := by
  obtain ⟨within, zero, keeps, fits⟩ := hf
  refine ⟨⟨(transferSide_rest f faces b p).1, fun i => ?_⟩, fun i => ?_⟩
  · rw [transferSide_counts within zero]; exact fits h.1.2 i
  · rw [transferSide_counts within zero, (keeps _ _).1, (keeps _ _).2]; exact h.2 i

theorem reserveFits_transferSide {f : Counts → Nat → Counts} {faces : List Nat} {b : Breakdown} {p : Position}
    (h : reserveFits p) (hf : transferFits f b p) : reserveFits (transferSide f faces b p) := by
  obtain ⟨within, zero, keeps, fits⟩ := hf
  obtain ⟨bounds, excess, none⟩ := h
  obtain ⟨count, same⟩ := transferSide_rest f faces b p
  refine ⟨⟨count, fun i => ?_⟩, same.trans excess, fun i => ?_⟩
  · rw [transferSide_counts within zero]; exact fits bounds.2 i
  · rw [transferSide_counts within zero, (keeps _ _).1, (keeps _ _).2]; exact none i

theorem checkTransfer_ok {toReserve : Bool} {st : Station} {n : Nat} {fields : List KeyField} {b : Breakdown} (hc : cashOk s)
    (h : checkTransfer toReserve st n fields s = .ok b) :
    transferFits (fun c n => { c with committed := c.committed - n }) b (positionOf (transferSource toReserve st) s) ∧
      transferFits (fun c n => { c with committed := c.committed + n }) b (positionOf (transferTarget toReserve st) s) := by
  unfold checkTransfer at h
  split at h
  · cases h
  · cases h
  · next cs hk =>
    dsimp only at h
    split at h
    · cases h
    split at h
    · cases h
    split at h
    · cases h
    next available =>
    split at h
    · cases h
    next room =>
    split at h
    · cases h
    split at h
    · cases h
    cases h
    refine ⟨transferFits_source (available_of available), transferFits_target ?_ (room_of room)⟩
    exact withinTable_keyed ((readBreakdown_length hk).trans (hc _).1.symm)

theorem cashFits_carryTransfer {o : List OttEntry} {toReserve : Bool} {st : Station} {n : Nat} {b : Breakdown}
    (h : cashFits o s.csh)
    (hs : transferFits (fun c n => { c with committed := c.committed - n }) b (positionOf (transferSource toReserve st) s))
    (ht : transferFits (fun c n => { c with committed := c.committed + n }) b (positionOf (transferTarget toReserve st) s)) :
    cashFits o (carryTransfer toReserve st n b s).csh := by
  unfold carryTransfer
  simp only [requestPulse_keeps]
  refine cashFits_evaluateExcess ?_
  simp only [raiseIf_keeps]
  cases toReserve with
  | true =>
    have taken := cashFits_drawer h (drawerFits_transferSide (faces := facesOf s) (h.1 st) hs) fun _ _ _ _ => rfl
    exact cashFits_reserve taken (reserveFits_transferSide h.2 ht)
  | false =>
    have taken := cashFits_reserve h (reserveFits_transferSide (faces := facesOf s) h.2 hs)
    exact cashFits_drawer taken (drawerFits_transferSide (h.1 st) ht) fun _ _ _ _ => rfl

theorem declareCounts_getElem? (ds : List Nat) (cs : List Counts) (i : Nat) :
    (declareCounts ds cs)[i]? = (cs[i]?).map fun c => { c with committed := (ds[i]?).getD c.committed } := by
  induction ds generalizing cs i with
  | nil => simp [declareCounts]
  | cons d ds ih =>
    cases cs with
    | nil => simp [declareCounts]
    | cons c cs =>
      cases i with
      | zero => simp [declareCounts]
      | succ i => simp [declareCounts, ih]

/-- Declared counts within their bound fit where nothing is reserved. -/
theorem countsAt_balanced {faces declared : List Nat} {p : Position} (i : Nat) :
    ∃ n, countsAt (balancedPosition faces declared p) i = { countsAt p i with committed := n } ∧
      (n ∈ declared ∨ n = (countsAt p i).committed) := by
  cases i with
  | zero => exact ⟨0, rfl, .inr rfl⟩
  | succ i =>
    have counts : countsAt (balancedPosition faces declared p) (i + 1) =
        ((declareCounts declared p.counts)[i]?).getD noCounts := rfl
    rw [counts, declareCounts_getElem?, countsAt_succ]
    cases hc : p.counts[i]? with
    | none => exact ⟨0, rfl, .inr rfl⟩
    | some c =>
      refine ⟨(declared[i]?).getD c.committed, rfl, ?_⟩
      cases hd : declared[i]? with
      | none => exact .inr rfl
      | some d => exact .inl (List.mem_of_getElem? hd)

theorem positionFits_balanced {faces declared : List Nat} {p : Position} (h : positionFits p)
    (hd : ∀ d ∈ declared, d ≤ 65535) (hz : ∀ i, (countsAt p i).reservedOut = 0 ∧ (countsAt p i).pendingIn = 0) :
    positionFits (balancedPosition faces declared p) := by
  refine ⟨h.1, fun i => ?_⟩
  obtain ⟨n, same, hn⟩ := countsAt_balanced (faces := faces) (declared := declared) (p := p) i
  obtain ⟨z1, z2⟩ := hz i
  obtain ⟨-, h2⟩ := h.2 i
  rw [same]
  refine ⟨by show (countsAt p i).reservedOut ≤ n; omega, ?_⟩
  show n + (countsAt p i).pendingIn ≤ 65535
  rcases hn with hn | rfl
  · have := hd n hn
    omega
  · exact h2

theorem fieldText_mem {fields : List KeyField} {tag : Nat} {t : Text} (h : fieldText fields tag = some t) :
    ∃ f ∈ fields, f.text = t := by
  unfold fieldText at h
  obtain ⟨f, hf, rfl⟩ := Option.map_eq_some_iff.1 h
  exact ⟨f, List.mem_of_find?_eq_some hf, rfl⟩

/-- A balancing of a position waits for what is in flight there. -/
def flyingAt (target : Option Station) (s : State) : Bool :=
  match target with
  | some st => stationInFlight st s
  | none => anyReservation s

/-- The counts a balancing declares. -/
def declaredCounts (fields : List KeyField) (s : State) : List Nat :=
  (List.range s.tbl.dnt.length).map fun i => ((fieldText (breakdownEntries fields) (48 + i)).bind readDecimal).getD 0

theorem checkBalance_eq (target : Option Station) (fields : List KeyField) (s : State) :
    checkBalance target fields s =
      if (List.range s.tbl.dnt.length).any fun i => (fieldText (breakdownEntries fields) (48 + i)).isNone then
        .error .breakdownRequired
      else if !(breakdownEntries fields).all (breakdownEntryOk s.tbl.dnt.length) then .error .breakdownMismatch
      else if flyingAt target s then .error .inFlight
      else if Config.topTotal < countsValue (facesOf s) (declaredCounts fields s) then .error .countLimit
      else .ok (declaredCounts fields s) := by
  cases target <;> rfl

theorem checkBalance_ok {target : Option Station} {fields : List KeyField} {declared : List Nat}
    (h : checkBalance target fields s = .ok declared) :
    (∀ d ∈ declared, d ≤ 65535) ∧ ∀ st, target = some st → stationInFlight st s = false := by
  rw [checkBalance_eq] at h
  split at h
  · cases h
  split at h
  · cases h
  next ok =>
  split at h
  · cases h
  next flying =>
  split at h
  · cases h
  cases h
  refine ⟨fun d hd => ?_, fun st ht => by subst ht; simpa [flyingAt] using flying⟩
  obtain ⟨i, -, rfl⟩ := List.mem_map.1 hd
  cases hv : (fieldText (breakdownEntries fields) (48 + i)).bind readDecimal with
  | none => exact Nat.zero_le _
  | some v =>
    obtain ⟨t, ht, hr⟩ := Option.bind_eq_some_iff.1 hv
    obtain ⟨f, hf, rfl⟩ := fieldText_mem ht
    have all : (breakdownEntries fields).all (breakdownEntryOk s.tbl.dnt.length) = true := by simpa using ok
    have := List.all_eq_true.1 all f hf
    simp only [breakdownEntryOk, hr, Bool.and_eq_true, decide_eq_true_eq] at this
    exact this.2

theorem legsOf_notFlying {st : Station} (h : stationInFlight st s = false) (dir : CashDirection) (i : Nat) :
    legsOf s.ttr.ott dir st i = 0 := by
  refine List.sum_eq_zero fun n hn => ?_
  obtain ⟨e, he, rfl⟩ := List.mem_map.1 hn
  have : ¬ e.ref.station = st := by simpa using List.any_eq_false.1 h e he
  exact if_neg this

theorem cashHeld_carryBalance {target : Option Station} {n : Nat} {declared : List Nat} (h : cashHeld s)
    (hd : ∀ d ∈ declared, d ≤ 65535) (hf : ∀ st, target = some st → stationInFlight st s = false) :
    cashFits s.ttr.ott (carryBalance target n declared s).csh := by
  have marks : ∀ p u, (unmark p u).csh = u.csh := fun p u => by cases p <;> rfl
  cases target with
  | none =>
    unfold carryBalance
    simp only [marks, raiseIf_keeps]
    obtain ⟨bounds, excess, none⟩ := h.2
    refine cashFits_reserve h ⟨positionFits_balanced bounds hd none, excess, fun i => ?_⟩
    obtain ⟨k, same, -⟩ := countsAt_balanced (faces := facesOf s) (declared := declared) (p := s.csh.reserve) i
    exact same ▸ none i
  | some st =>
    have zero : ∀ i, (countsAt (drawerOf st s) i).reservedOut = 0 ∧ (countsAt (drawerOf st s) i).pendingIn = 0 := fun i => by
      obtain ⟨h1, h2⟩ := (h.1 st).2 i
      rw [legsOf_notFlying (hf st rfl)] at h1 h2
      exact ⟨h1, h2⟩
    unfold carryBalance
    simp only [requestPulse_keeps]
    refine cashFits_evaluateExcess ?_
    simp only [marks, raiseIf_keeps]
    refine cashFits_drawer h ⟨positionFits_balanced (h.1 st).1 hd zero, fun i => ?_⟩ fun _ _ _ _ => rfl
    obtain ⟨k, same, -⟩ := countsAt_balanced (faces := facesOf s) (declared := declared) (p := drawerOf st s) i
    exact same ▸ (h.1 st).2 i

/-! ## A denomination table, a start and a date roll -/

theorem cashFits_activate {x : DntHeader} {rs : List DntRec} {n : Nat} {o : List OttEntry} (h : cashFits o s.csh) (hc : cashOk s)
    (hu : dntInUse rs s = none) : cashFits o (activate (.dnt x rs) n s).csh := by
  have kept : ∀ p i, countsAt (positionOf p (activate (.dnt x rs) n s)) i = countsAt (positionOf p s) i := by
    intro p i
    rw [positionOf_activate]
    cases i with
    | zero => rfl
    | succ i => exact recount_getD (facesKept_of_unused hu hc p) (hc p).1 i
  refine ⟨fun st => ?_, ⟨h.2.1.1, fun i => kept none i ▸ h.2.1.2 i⟩, h.2.2.1, fun i => kept none i ▸ h.2.2.2 i⟩
  refine ⟨⟨?_, fun i => kept (some st) i ▸ (h.1 st).1.2 i⟩, fun i => kept (some st) i ▸ (h.1 st).2 i⟩
  have := positionOf_activate x rs n (some st) s
  show (positionOf (some st) (activate (.dnt x rs) n s)).txCount ≤ 65535
  rw [this]
  exact (h.1 st).1.1

theorem cashFits_opened {o : List OttEntry} {c : Csh} (h : cashFits o c) : cashFits o (onPositions openedPosition c) := by
  refine ⟨fun st => ?_, ⟨Nat.zero_le _, h.2.1.2⟩, h.2.2⟩
  have same : (onPositions openedPosition c).drawers.get st = openedPosition (c.drawers.get st) := by simp [onPositions]
  rw [same]
  exact ⟨⟨Nat.zero_le _, (h.1 st).1.2⟩, (h.1 st).2⟩

theorem countsAt_checked (faces : List Nat) (p : Position) (i : Nat) :
    countsAt (checkedPosition faces p) i = { countsAt p i with reservedOut := 0, pendingIn := 0 } := by
  have counts : (checkedPosition faces p).counts = p.counts.map fun c => { c with reservedOut := 0, pendingIn := 0 } := by
    unfold checkedPosition
    split <;> rfl
  cases i with
  | zero => rfl
  | succ i =>
    rw [countsAt_succ, countsAt_succ, counts, List.getElem?_map]
    cases p.counts[i]? <;> rfl

theorem positionFits_checked {faces : List Nat} {p : Position} (h : positionFits p) : positionFits (checkedPosition faces p) := by
  refine ⟨?_, fun i => ?_⟩
  · unfold checkedPosition
    split <;> exact h.1
  · rw [countsAt_checked]
    obtain ⟨-, h2⟩ := h.2 i
    exact ⟨Nat.zero_le _, by show (countsAt p i).committed + 0 ≤ 65535; omega⟩

/-- After the start-up check nothing is reserved. -/
theorem cashFits_checked {o : List OttEntry} {faces : List Nat} {c : Csh} (h : cashFits o c) :
    cashFits [] (onPositions (checkedPosition faces) c) := by
  have cleared : ∀ p : Position, ∀ i, (countsAt (checkedPosition faces p) i).reservedOut = 0 ∧
      (countsAt (checkedPosition faces p) i).pendingIn = 0 := fun p i => by rw [countsAt_checked]; exact ⟨rfl, rfl⟩
  refine ⟨fun st => ?_, positionFits_checked h.2.1, ?_, cleared _⟩
  · have same : (onPositions (checkedPosition faces) c).drawers.get st = checkedPosition faces (c.drawers.get st) := by
      simp [onPositions]
    rw [same]
    exact ⟨positionFits_checked (h.1 st).1, cleared _⟩
  · show (checkedPosition faces c.reserve).excess = false
    unfold checkedPosition
    split <;> exact h.2.2.1

end

end Sys2Proof.Machine
end

section
/-! SUPPORT. The reservations of the cash positions under every command, and the closed day, which moves no cash. -/

namespace Sys2Proof.Machine
open Sys2Proof

/-! ## The ends of transactions -/

/-- The positions fit the open transactions, which are well kept. -/
def txCash (s : State) : Prop := transactionsOk s ∧ cashHeld s

theorem txCash_congr {s t : State} (h : txCash s) (hc : t.csh = s.csh) (ht : t.ttr = s.ttr) : txCash t :=
  ⟨transactionsOk_congr h.1 (by rw [ht]) (by rw [ht]), cashHeld_congr h.2 hc (by rw [ht])⟩

section
variable {s t : State} {e : OttEntry}

/-- An entry that ends unposted releases its leg. -/
theorem txCash_released (h : txCash s) (he : e ∈ s.ttr.ott) (hc : t.csh = (releaseLeg e.ref.station e.leg s).csh)
    (ho : t.ttr.ott = s.ttr.ott.filter fun x => x.ref ≠ e.ref) (hl : t.ttr.late = s.ttr.late) : txCash t := by
  refine ⟨transactionsOk_leave h.1 ho hl, ?_⟩
  unfold cashHeld
  rw [hc, ho]
  exact cashFits_releaseLeg h.1 he h.2

theorem releaseLeg_csh {st : Station} {leg : Option Leg} {u v : State} (h : v.csh = u.csh) :
    (releaseLeg st leg v).csh = (releaseLeg st leg u).csh := by
  unfold releaseLeg
  cases leg with
  | none => exact h
  | some g => simp [setPosition, drawerOf, h]

theorem cashHeld_approve {r : Reply} (h : txCash s) (he : e ∈ s.ttr.ott) : cashHeld (approve e r s) := by
  have left : (approve e r s).ttr.ott = s.ttr.ott.filter fun x => x.ref ≠ e.ref := by
    simp [approve, endEntry, removeOtt]
  unfold cashHeld
  rw [left]
  simpa [approve] using cashFits_postApproved h.1 he h.2

theorem cashHeld_decline {r : Reply} (h : txCash s) (he : e ∈ s.ttr.ott) : cashHeld (decline e r s) :=
  (txCash_released h he (by simp [decline]) (by simp [decline, endEntry, removeOtt]) (by simp)).2

theorem cashHeld_timeOut (h : txCash s) (he : e ∈ s.ttr.ott) : cashHeld (timeOut e s) := by
  have left : (timeOut e s).ttr.ott = s.ttr.ott.filter fun x => x.ref ≠ e.ref := by simp [timeOut, removeOtt]
  unfold cashHeld
  rw [left]
  simpa [timeOut] using cashFits_releaseLeg h.1 he h.2

theorem txCash_endLinkDown (h : txCash s) (he : e ∈ s.ttr.ott) : txCash (endLinkDown e s) := by
  refine txCash_released h he ?_ ?_ ?_
  · simpa [endLinkDown] using releaseLeg_csh (by simp)
  · simp [endLinkDown, endEntry, removeOtt]
  · simp

theorem txCash_abandon {cause : ReversalCause} (h : txCash s) (he : e ∈ s.ttr.ott) : txCash (abandon cause e s) := by
  refine txCash_released h he ?_ ?_ ?_
  · simpa [abandon] using releaseLeg_csh (by simp)
  · exact abandon_ott cause e s
  · simp

/-- What the end of each entry keeps, the ends of some of them keep. -/
theorem leaving_keep {P : State → Prop} {f : State → OttEntry → State} (hf : ∀ u e, e ∈ u.ttr.ott → P u → P (f u e))
    (ho : ∀ u e, (f u e).ttr.ott = u.ttr.ott.filter fun x => x.ref ≠ e.ref) (es : List OttEntry)
    (hn : (es.map OttEntry.ref).Nodup) (he : ∀ e ∈ es, e ∈ s.ttr.ott) (h : P s) : P (es.foldl f s) := by
  induction es generalizing s with
  | nil => exact h
  | cons e rest ih =>
    obtain ⟨hne, hrest⟩ := List.nodup_cons.1 hn
    refine ih hrest (fun x hx => ?_) (hf s e (he e (by simp)) h)
    rw [ho]
    refine List.mem_filter.2 ⟨he x (by simp [hx]), ?_⟩
    simpa using fun k : x.ref = e.ref => hne (k ▸ List.mem_map_of_mem hx)

theorem filtered_ott {p : OttEntry → Bool} (h : transactionsOk s) :
    ((s.ttr.ott.filter p).map OttEntry.ref).Nodup ∧ ∀ e ∈ s.ttr.ott.filter p, e ∈ s.ttr.ott :=
  ⟨((List.filter_sublist).map OttEntry.ref).nodup (ott_nodup h), fun _ he => List.mem_of_mem_filter he⟩

theorem txCash_endQueued (h : txCash s) : txCash (endQueued s) := by
  obtain ⟨hn, he⟩ := filtered_ott (p := fun e => e.state = .queued) h.1
  exact leaving_keep (fun _ _ hm k => txCash_endLinkDown k hm) (fun u e => by simp [endLinkDown, endEntry, removeOtt]) _ hn he h

theorem txCash_abandonAll {cause : ReversalCause} {p : OttEntry → Bool} (h : txCash s) : txCash (abandonAll cause p s) := by
  obtain ⟨hn, he⟩ := filtered_ott (p := p) h.1
  exact leaving_keep (fun _ _ hm k => txCash_abandon k hm) (fun u e => abandon_ott cause e u) _ hn he h

theorem cashHeld_takeReply {dest : Station} {r : Option Reply} (h : txCash s) : cashHeld (takeReply dest r s) := by
  have unmatched : cashHeld (countUnmatchedReply s) := cashHeld_congr h.2 (by simp) (by simp)
  unfold takeReply
  split
  · exact unmatched
  · split
    · split
      · exact unmatched
      · split
        · next e he =>
          have held : e ∈ s.ttr.ott := List.mem_of_find?_eq_some he
          split
          · exact unmatched
          · split
            · exact cashHeld_approve h held
            · exact cashHeld_decline h held
        · split
          · exact cashHeld_congr h.2 (by simp) (by simp)
          · exact unmatched
    · exact unmatched

end

/-! ## Intake -/

section
variable {s : State}

theorem cashHeld_acceptRequest {q : Admitted} {leg : Option Leg} (h : cashHeld s) (hq : q.ref.station = q.st)
    (hf : ∀ g, leg = some g → legFits g (drawerOf q.st s)) : cashHeld (acceptRequest q leg s) := by
  have here : (acceptedEntry q leg).ref.station = q.st := hq
  have entered := cashFits_reserveLeg (e := acceptedEntry q leg) h (by rw [here]; exact hf)
  rw [here] at entered
  have csh : (acceptRequest q leg s).csh = (reserveLeg q.st (acceptedEntry q leg).leg s).csh := by
    have same : ∀ u, u.csh = s.csh → (reserveLeg q.st leg u).csh = (reserveLeg q.st leg s).csh := fun u hu => by
      unfold reserveLeg
      cases leg with
      | none => exact hu
      | some g => simp [setPosition, drawerOf, hu]
    simpa [acceptRequest, acceptedEntry] using same _ (by simp)
  have ott : (acceptRequest q leg s).ttr.ott = s.ttr.ott ++ [acceptedEntry q leg] := by simp [acceptRequest]
  unfold cashHeld
  rw [csh, ott]
  exact entered

theorem cashHeld_approveStandin {q : Admitted} {leg : Option Leg} (h : cashHeld s)
    (hf : ∀ g, leg = some g → legFits g (drawerOf q.st s)) : cashHeld (approveStandin q leg s) := by
  have posted : cashHeld (postStandinLeg q.st q.teller leg s) := by
    unfold postStandinLeg
    cases leg with
    | none => exact h
    | some g =>
      have fits := cashFits_postStandin (n := q.teller) h (hf g rfl)
      simpa [cashHeld] using fits
  exact cashHeld_congr posted (by simp [approveStandin]) (by simp [approveStandin])

theorem cashHeld_handLocal {q : LocalRequest} (hc : cashOk s) (h : cashHeld s) : cashHeld (handLocal q s) := by
  have stays : ∀ u, u.csh = s.csh → u.ttr.ott = s.ttr.ott → cashHeld u := fun u => cashHeld_congr h
  unfold handLocal
  split
  · unfold localSignOn
    split
    · exact stays _ (by simp) (by simp)
    · next t _ =>
      have signed : cashHeld (evaluateExcess q.st t (tellerDayOn t q.st (setSignOn q.st (some t) s))) := by
        simpa [cashHeld] using cashFits_evaluateExcess (o := s.ttr.ott) (st := q.st) (n := t)
          (s := tellerDayOn t q.st (setSignOn q.st (some t) s)) (by simpa [cashHeld] using h)
      exact cashHeld_congr signed (by simp) (by simp)
  · exact stays _ (by simp) (by simp)
  · unfold localTransfer
    split
    · exact stays _ (by simp) (by simp)
    · next t _ _ _ b hb =>
      obtain ⟨src, dst⟩ := checkTransfer_ok hc hb
      have carried : cashHeld (carryTransfer true q.st t b s) := by
        simpa [cashHeld] using cashFits_carryTransfer (n := t) h src dst
      exact cashHeld_congr carried (by simp) (by simp)
  · unfold localTransfer
    split
    · exact stays _ (by simp) (by simp)
    · next t _ _ _ b hb =>
      obtain ⟨src, dst⟩ := checkTransfer_ok hc hb
      have carried : cashHeld (carryTransfer false q.st t b s) := by
        simpa [cashHeld] using cashFits_carryTransfer (n := t) h src dst
      exact cashHeld_congr carried (by simp) (by simp)
  · unfold localBalance
    dsimp only
    split
    · exact stays _ (by simp) (by simp)
    · next t _ _ _ declared hd =>
      obtain ⟨bound, flying⟩ := checkBalance_ok hd
      have carried : cashHeld (carryBalance (balanceTarget q.tct q.st) t declared s) := by
        simpa [cashHeld] using cashHeld_carryBalance (n := t) h bound flying
      exact cashHeld_congr carried (by simp) (by simp)
  · exact stays _ (by simp) (by simp)
  · exact h

theorem cashHeld_routeRequest {st : Station} {n : Nat} {rec : TctRec} {r : KeyRequest} {fields : List KeyField} {found : Found}
    {ref : Ref} (hr : ref.station = st) (hc : cashOk s) (h : cashHeld s) :
    cashHeld (routeRequest st n rec r fields found ref s) := by
  have refused : ∀ why, cashHeld (refuse st r why s) := fun why => cashHeld_congr h (by simp) (by simp)
  unfold routeRequest
  split
  · exact refused _
  split
  · exact refused _
  split
  · exact refused _
  dsimp only
  split
  · split
    · unfold standinPath
      split
      · exact refused _
      · split
        · exact refused _
        · next leg hl => exact cashHeld_approveStandin h fun g hg => legOf_fits hc (hg ▸ hl)
    · exact refused _
  · unfold onlinePath
    split
    · exact refused _
    · split
      · exact refused _
      · next leg hl => exact cashHeld_acceptRequest h hr fun g hg => legOf_fits hc (hg ▸ hl)

theorem cashHeld_takeKeyRequest {st : Station} {r : KeyRequest} (hc : cashOk s) (h : cashHeld s) :
    cashHeld (takeKeyRequest st r s) := by
  have refused : ∀ u why, cashHeld u → cashHeld (refuse st r why u) := fun u why k => cashHeld_congr k (by simp) (by simp)
  have numbered : cashHeld (giveNumber st s) := cashHeld_congr h (by simp) (by simp)
  have counted : cashOk (giveNumber st s) := cashOk_congr hc (by simp) (by simp)
  unfold takeKeyRequest admitRequest
  split
  · exact refused _ _ h
  split
  · exact refused _ _ h
  split
  · exact refused _ _ h
  split
  · exact refused _ _ numbered
  split
  · exact refused _ _ numbered
  split
  · unfold routeLocal
    split
    · exact refused _ _ numbered
    · exact cashHeld_handLocal counted numbered
  · exact numbered
  · exact cashHeld_routeRequest rfl counted numbered
  · exact cashHeld_routeRequest rfl counted numbered
  · exact numbered

/-! ## The other commands -/

theorem txCash_setTellerOff {st : Station} (h : txCash s) : txCash (setTellerOff st s) := by
  have signedOff : txCash (clearContext st (signOffAt st s)) := txCash_congr h (by simp) (by simp)
  have left : txCash (abandonAll .abandonedOnLineOff (fun e => e.ref.station = st) (clearContext st (signOffAt st s))) :=
    txCash_abandonAll signedOff
  exact txCash_congr left (by simp [setTellerOff]) (by simp [setTellerOff])

theorem cashHeld_takeLineSetup {id : Nat} {r : LineSetupRequest} (h : txCash s) : cashHeld (takeLineSetup id r s) := by
  have off : ∀ st, cashHeld (setOff st s) := fun st => by
    unfold setOff
    split
    · exact (txCash_setTellerOff h).2
    · exact cashHeld_congr h.2 (by simp) (by simp)
    · exact h.2
  unfold takeLineSetup
  split
  · split
    · exact cashHeld_congr h.2 (by simp) (by simp)
    · next st x _ _ _ _ =>
      have carried : cashHeld (carrySetup st x s) := by
        unfold carrySetup
        split
        · exact cashHeld_congr h.2 (by simp) (by simp)
        · exact cashHeld_congr h.2 (by simp) (by simp)
        · exact cashHeld_congr (off st) (by simp) (by simp)
        · exact cashHeld_congr h.2 (by simp) (by simp)
      exact cashHeld_congr carried (by simp) (by simp)
  · exact cashHeld_congr h.2 (by simp) (by simp)

theorem cashHeld_loseLink (h : txCash s) : cashHeld (loseLink s) := by
  have lost : txCash (raise .linkLost (onBlc (fun b => { b with
      link := .lost, silence := none, reassembly := none, linkAnswer := none }) s)) := txCash_congr h (by simp) (by simp)
  exact cashHeld_congr (txCash_endQueued lost).2 (by simp [loseLink]) (by simp [loseLink])

theorem cashHeld_commitTable {c : CheckedTable} {n : Nat} (hu : unusedTable c s) (hc : cashOk s) (h : cashHeld s) :
    cashHeld (commitTable c n s) := by
  have active : cashHeld (activate c n s) := by
    cases c with
    | dnt x rs => exact cashFits_activate h hc (hu x rs rfl)
    | tct | sft | tlt | plt => exact h
  have same : (commitTable c n s).csh = (activate c n s).csh ∧ (commitTable c n s).ttr.ott = (activate c n s).ttr.ott := by
    unfold commitTable
    dsimp only
    split <;> simp
  exact cashHeld_congr active same.1 same.2

theorem cashHeld_fillShadow {id : Nat} {f : Fragment} {b : FragmentBody} (hc : cashOk s) (h : cashHeld s) :
    cashHeld (fillShadow id f b s) := by
  unfold fillShadow
  split
  · exact cashHeld_congr h (by simp) (by simp)
  · split
    · split
      · exact cashHeld_congr h (by simp) (by simp)
      · next c hk =>
        have committed : cashHeld (commitTable c f.loadId s) := cashHeld_commitTable (unused_of_commitCheck hk) hc h
        exact cashHeld_congr committed (by simp) (by simp)
    · exact cashHeld_congr h (by simp) (by simp)

theorem cashHeld_takeFragment {id : Nat} {f : Fragment} (hc : cashOk s) (h : cashHeld s) : cashHeld (takeFragment id f s) := by
  unfold takeFragment
  split
  · exact cashHeld_congr h (by simp) (by simp)
  split
  · split
    · exact cashHeld_fillShadow hc h
    · exact cashHeld_congr h (by simp) (by simp)
  split
  · exact cashHeld_congr h (by simp) (by simp)
  split
  · exact cashHeld_fillShadow hc h
  split
  · exact cashHeld_congr h (by simp) (by simp)
  · exact cashHeld_fillShadow hc h

theorem cashHeld_takeDateRoll {id : Nat} {d : Date} (h : cashHeld s) : cashHeld (takeDateRoll id d s) := by
  unfold takeDateRoll
  split
  · exact cashHeld_congr h (by simp) (by simp)
  · have opened : cashHeld (onCsh (onPositions openedPosition) s) := cashFits_opened h
    exact cashHeld_congr opened (by simp [rollDay]) (by simp [rollDay])

theorem reservationsOk_warmStart (h : reservationsOk s) : reservationsOk (warmStart s) := by
  obtain ⟨ht, hc, hf⟩ := reservationsOk_iff.1 h
  have cut : txCash (volatileReset s) := ⟨transactionsOk_volatileReset ht, hf⟩
  have left : txCash (abandoned s) := txCash_abandonAll cut
  have cash : cashOk (warmStart s) := by
    have gone : cashOk (returnReserved (abandoned s)) :=
      (abandoned_moves (K := soundStart) (.inr ht)).keep (cashOk_move _) hc
    exact (warmStart_moves (K := soundStart) (fun _ => trivial) (fun _ => trivial)).keep (cashOk_move _) gone
  have ott : (warmStart s).ttr.ott = [] := by
    have same : (warmStart s).ttr.ott = (abandoned s).ttr.ott := by simp [warmStart, returnReserved, abandoned]
    exact same.trans (abandoned_ott s)
  have late : (warmStart s).ttr.late = [] := by
    have same : (warmStart s).ttr.late = (abandoned s).ttr.late := by simp [warmStart, returnReserved, abandoned]
    exact same.trans (abandoned_late s)
  have csh : ∃ faces, (warmStart s).csh = onPositions (checkedPosition faces) (abandoned s).csh :=
    ⟨_, by simp [warmStart, restartPositions, returnReserved, abandoned]; rfl⟩
  obtain ⟨faces, csh⟩ := csh
  refine reservationsOk_iff.2 ⟨⟨?_, ?_, ?_⟩, cash, ?_⟩
  · simp [heldRefs, ott, late]
  · simp [ott]
  · simp [late]
  · rw [ott, csh]
    exact cashFits_checked left.2

theorem reservationsOk_coldStart (s : State) : reservationsOk (coldStart s) := by
  obtain ⟨-, -, -, -, -, -, -, -, -, base, -⟩ := resetMeetsTheInvariants
  have base : reservationsOk (coldBase s) := base
  obtain ⟨ht, hc, hf⟩ := reservationsOk_iff.1 base
  have run : Moves soundStart (coldBase s) (coldStart s) := coldStart_moves
  refine reservationsOk_iff.2 ⟨run.keep (transactionsOk_move id) ht, run.keep (cashOk_move _) hc, ?_⟩
  have same : (coldStart s).csh = (coldBase s).csh ∧ (coldStart s).ttr = (coldBase s).ttr := by simp [coldStart, coldBase]
  rw [same.1, same.2]
  exact hf

/-! ## Every command -/

theorem txCash_links : LinkParts txCash where
  reply dest r s h :=
    have replied : txCash (takeReply dest r s) :=
      ⟨(takeReply_moves (K := soundStart) .refl).keep (transactionsOk_move id) h.1, cashHeld_takeReply h⟩
    txCash_congr replied (by simp) (by simp)
  adviceAck _ _ h := txCash_congr h (by simp) (by simp)
  batchAck _ _ h := txCash_congr h (by simp) (by simp)
  place _ _ _ h := txCash_congr h (by simp) (by simp)
  check _ _ h := txCash_congr h (by simp) (by simp)
  form _ h := txCash_congr h (by simp) (by simp)
  part _ _ h := txCash_congr h (by simp) (by simp)

theorem requestSent_legs (m : RequestMsg) (s : State) (dir : CashDirection) (st : Station) (i : Nat) :
    legsOf (requestSent m s).ttr.ott dir st i = legsOf s.ttr.ott dir st i := by
  have same : legShare dir st i ∘ (fun e : OttEntry =>
      if e.ref = m.ref then { e with state := .awaiting (secondsAhead e.replyTimeout s) } else e) = legShare dir st i := by
    funext e
    simp only [Function.comp_apply]
    split <;> rfl
  simp [requestSent, legsOf, same, secondsAhead] at same ⊢

theorem exec_cashHeld {c : Instr} {t : State} (hc : c ≠ .start) (h : exec c s = .next t) (hs : txCash s) (hk : cashOk s) :
    cashHeld t := by
  by_cases hm : moving c = false
  · obtain ⟨hcsh, -, ho, -, -⟩ := exec_quiet hm h
    exact cashHeld_congr hs.2 hcsh ho
  cases c with
  | keyRequest st r =>
    simp only [exec, execKeyRequest] at h
    split at h <;> cases h
    · next u hu =>
      obtain ⟨h1, -, h2, h3, -⟩ := quiet_delivered hu
      have taken := cashHeld_takeKeyRequest (st := st) (r := r) (cashOk_congr hk h1 h3) (cashHeld_congr hs.2 h1 h2)
      exact cashHeld_congr taken (by simp) (by simp)
    · exact hs.2
  | inboundFrame bytes =>
    simp only [exec, execInboundFrame] at h
    split at h <;> cases h
    · exact cashHeld_congr hs.2 (by simp) (by simp)
    · exact cashHeld_congr hs.2 (by simp) (by simp)
    · exact (txCash_links.gather (txCash_congr hs (by simp) (by simp))).2
  | reply dest r => cases h; exact (txCash_links.reply _ _ _ (txCash_congr hs (by simp) (by simp))).2
  | adviceAck a => cases h; exact cashHeld_congr hs.2 (by simp) (by simp)
  | batchAck a => cases h; exact cashHeld_congr hs.2 (by simp) (by simp)
  | silenceTimerExpiry =>
    simp only [exec, execSilenceTimerExpiry] at h
    split at h <;> cases h
    · exact hs.2
    · exact cashHeld_congr (cashHeld_loseLink hs) (by simp) (by simp)
  | transmit =>
    simp only [exec, execTransmit] at h
    split at h
    · cases h; exact hs.2
    · split at h <;> cases h
      · next c m _ =>
        have owner : cashHeld (ownerSent c m s) := by
          unfold ownerSent
          split
          case h_5 =>
            exact cashFits_legs (o := s.ttr.ott) (by simpa [cashHeld] using hs.2) fun a dir i => requestSent_legs _ s dir a i
          all_goals exact cashHeld_congr hs.2 (by simp) (by simp)
        exact owner
      · exact hs.2
  | deadlineExpiry ref =>
    simp only [exec, execDeadlineExpiry] at h
    split at h
    · next e he =>
      split at h <;> cases h
      · exact cashHeld_congr (cashHeld_timeOut hs (List.mem_of_find?_eq_some he)) (by simp) (by simp)
      · exact hs.2
    · cases h; exact hs.2
  | settlementBatchTimeout =>
    simp only [exec, execSettlementBatchTimeout] at h
    split at h <;> cases h
    · exact cashHeld_congr hs.2 (by simp) (by simp)
    · exact hs.2
  | trailingPauseEnd => cases h; exact cashHeld_congr hs.2 (by simp) (by simp)
  | tableLoad id f =>
    cases h
    exact (withRequest_keeps (P := fun u => cashOk u ∧ cashHeld u) ⟨hk, hs.2⟩ (fun _ h => h)
      (fun h => ⟨cashOk_congr h.1 (by simp) (by simp), cashHeld_congr h.2 (by simp) (by simp)⟩)
      (fun u hu => ⟨(takeFragment_moves (K := soundStart) .refl).keep (cashOk_move _) hu.1,
        cashHeld_takeFragment hu.1 hu.2⟩)).2
  | lineSetup id r =>
    cases h
    refine (withRequest_keeps (P := txCash) hs (fun _ h => h) (fun h => txCash_congr h (by simp) (by simp)) fun u hu => ?_).2
    have kinds : Moves (fun w => ¬ w = .loose) u (takeLineSetup id r u) :=
      takeLineSetup_moves (.inr hu.1) (by simp) (by simp) (by simp) .refl
    have set : txCash (takeLineSetup id r u) :=
      ⟨kinds.keep (transactionsOk_move (by simp)) hu.1, cashHeld_takeLineSetup hu⟩
    exact txCash_congr set (by simp) (by simp)
  | dayCutoff id =>
    cases h
    exact withRequest_keeps hs.2 (fun _ h => h) (fun h => cashHeld_congr h (by simp) (by simp))
      fun u hu => cashHeld_congr hu (by simp) (by simp)
  | dayForce id =>
    cases h
    exact withRequest_keeps hs.2 (fun _ h => h) (fun h => cashHeld_congr h (by simp) (by simp))
      fun u hu => cashHeld_congr hu (by simp) (by simp)
  | settleRetry id =>
    cases h
    exact withRequest_keeps hs.2 (fun _ h => h) (fun h => cashHeld_congr h (by simp) (by simp))
      fun u hu => cashHeld_congr hu (by simp) (by simp)
  | dateRoll id d =>
    cases h
    exact withRequest_keeps hs.2 (fun _ h => h) (fun h => cashHeld_congr h (by simp) (by simp))
      fun u hu => cashHeld_takeDateRoll hu
  | start => exact absurd rfl hc
  | _ => exact absurd rfl hm

end

theorem reservationsOk_kept : everyStepKeeps reservationsOk := by
  refine everyStepKeeps_of (fun _ _ h => h) (fun _ h => h) fun c s t h hs => ?_
  by_cases hc : c = .start
  · subst hc
    simp only [exec, execStart] at h
    split at h
    · exact Host.Outcome.next.inj h ▸ reservationsOk_warmStart hs
    · exact Host.Outcome.next.inj h ▸ reservationsOk_coldStart s
  · obtain ⟨ht, hk, hf⟩ := reservationsOk_iff.1 hs
    have run := exec_moves hc h
    exact reservationsOk_iff.2 ⟨run.keep (transactionsOk_move (not_loose ht)) ht, run.keep (cashOk_move _) hk,
      exec_cashHeld hc h ⟨ht, hf⟩ hk⟩

/-- Settles O10: every change of committed counts recomputes its total, and each reservation is taken back, or posted, with the
entry whose leg holds it. -/
theorem cashInvariantKept : Obligations.CashInvariantKept := ⟨cashOk_kept, reservationsOk_kept⟩

end Sys2Proof.Machine
end

section
/-! SUPPORT. The closed day: it admits no transaction and holds none, so no command moves its cash. -/

namespace Sys2Proof.Machine
open Sys2Proof

/-! ## The money of the positions -/

/-- The stored totals and the committed counts of all positions stand. -/
def moneyStands (s t : State) : Prop :=
  ∀ p, (positionOf p t).total = (positionOf p s).total ∧ committedCounts (positionOf p t) = committedCounts (positionOf p s)

theorem moneyStands_of {s t : State} (h : t.csh = s.csh) : moneyStands s t := fun p => by
  unfold positionOf drawerOf
  rw [h]
  exact ⟨rfl, rfl⟩

theorem moneyStands_onPositions {f : Position → Position} (hf : ∀ p, (f p).total = p.total ∧ committedCounts (f p) = committedCounts p)
    {s t : State} (h : t.csh = onPositions f s.csh) : moneyStands s t := fun p => by
  unfold positionOf drawerOf
  rw [h]
  cases p with
  | none => exact hf _
  | some st => simpa [onPositions] using hf (s.csh.drawers.get st)

/-- A recount of a table's own counts changes none. -/
theorem recount_self (dnt : List DntRec) (cs : List Counts) (h : cs.length = dnt.length) : recount dnt dnt cs = cs := by
  induction dnt generalizing cs with
  | nil => rw [List.length_eq_zero_iff.1 h]; rfl
  | cons d ds ih =>
    cases cs with
    | nil => simp at h
    | cons c cs => simp [recount, ih cs (by simpa using h)]

/-- A command leaves the money, unless it has changed the denominations; then it leaves the totals. -/
def moneyKept (s t : State) : Prop :=
  ∀ p, (positionOf p t).total = (positionOf p s).total ∧
    (t.tbl.dnt = s.tbl.dnt → committedCounts (positionOf p t) = committedCounts (positionOf p s))

theorem moneyKept_of {s t : State} (h : moneyStands s t) : moneyKept s t := fun p => ⟨(h p).1, fun _ => (h p).2⟩

theorem moneyKept_activate {c : CheckedTable} {n : Nat} {s : State} (hs : cashOk s) : moneyKept s (activate c n s) := by
  cases c with
  | dnt x rs =>
    intro p
    rw [positionOf_activate]
    refine ⟨rfl, fun k => ?_⟩
    have same : rs = s.tbl.dnt := k
    rw [same, recount_self _ _ (hs p).1]
  | tct | sft | tlt | plt => exact moneyKept_of (moneyStands_of rfl)

theorem moneyKept_congr {s t u : State} (h : moneyKept s t) (hc : u.csh = t.csh) (hd : u.tbl.dnt = t.tbl.dnt) :
    moneyKept s u := by
  intro p
  have := h p
  unfold positionOf drawerOf at *
  rwa [hc, hd]

theorem dnt_commitTable (c : CheckedTable) (n : Nat) (s : State) : (commitTable c n s).tbl.dnt = (activate c n s).tbl.dnt := by
  unfold commitTable
  dsimp only
  split <;> simp [endLoad]

theorem csh_commitTable (c : CheckedTable) (n : Nat) (s : State) : (commitTable c n s).csh = (activate c n s).csh := by
  unfold commitTable
  dsimp only
  split <;> simp

theorem moneyKept_fillShadow {id : Nat} {f : Fragment} {b : FragmentBody} {s : State} (hs : cashOk s) :
    moneyKept s (fillShadow id f b s) := by
  unfold fillShadow
  split
  · exact moneyKept_of (moneyStands_of (by simp))
  split
  · split
    · exact moneyKept_of (moneyStands_of (by simp))
    · next c _ =>
      exact moneyKept_congr (moneyKept_activate (c := c) (n := f.loadId) hs) (by simp [csh_commitTable])
        (by simp [dnt_commitTable])
  · exact moneyKept_of (moneyStands_of (by simp))

theorem moneyKept_takeFragment {id : Nat} {f : Fragment} {s : State} (hs : cashOk s) : moneyKept s (takeFragment id f s) := by
  unfold takeFragment
  split
  · exact moneyKept_of (moneyStands_of (by simp))
  split
  · split
    · exact moneyKept_fillShadow hs
    · exact moneyKept_of (moneyStands_of (by simp))
  split
  · exact moneyKept_of (moneyStands_of (by simp))
  split
  · exact moneyKept_fillShadow hs
  split
  · exact moneyKept_of (moneyStands_of (by simp))
  · exact moneyKept_fillShadow hs

/-! ## Nothing ends where nothing is open -/

section
variable {s : State} (h : s.ttr.ott = [])
include h

theorem endQueued_none : endQueued s = s := by simp [endQueued, h]

theorem abandonAll_none (cause : ReversalCause) (p : OttEntry → Bool) : abandonAll cause p s = s := by simp [abandonAll, h]

theorem takeReply_none (dest : Station) (r : Option Reply) : (takeReply dest r s).csh = s.csh := by
  have none : ∀ ref, ottEntry ref s = none := fun ref => by simp [ottEntry, h]
  unfold takeReply
  split
  · simp
  · split
    · split
      · simp
      · rw [none]
        dsimp only
        split <;> simp
    · simp

theorem carrySetup_none (st : Station) (x : LineSetup) : (carrySetup st x s).csh = s.csh := by
  have off : (setOff st s).csh = s.csh := by
    unfold setOff setTellerOff
    split
    · dsimp only
      rw [abandonAll_none (by simpa using h)]
      simp
    · simp
    · rfl
  unfold carrySetup
  split
  · simp
  · simp
  · simpa using off
  · simp

theorem takeLineSetup_none (id : Nat) (r : LineSetupRequest) : (takeLineSetup id r s).csh = s.csh := by
  unfold takeLineSetup
  split
  · split
    · simp
    · simpa using carrySetup_none h _ _
  · simp

end

theorem reply_ott (dest : Station) (r : Option Reply) (s : State) (h : s.ttr.ott = []) : (takeReply dest r s).ttr.ott = [] := by
  have rest : atRest s → atRest (takeReply dest r s) := (takeReply_moves (K := noEntrant) .refl).keep atRest_move
  have still : ∀ x ∈ (takeReply dest r s).ttr.ott, x ∈ s.ttr.ott := by
    have none : ∀ ref, ottEntry ref s = none := fun ref => by simp [ottEntry, h]
    intro x hx
    unfold takeReply at hx
    split at hx
    · simpa using hx
    · split at hx
      · split at hx
        · simpa using hx
        · rw [none] at hx
          dsimp only at hx
          split at hx <;> simpa using hx
      · simpa using hx
  exact List.eq_nil_iff_forall_not_mem.2 fun x hx => by
    have := still x hx
    rw [h] at this
    cases this

/-- The cash stands and no transaction is open. -/
def idleCash (s t : State) : Prop := t.csh = s.csh ∧ t.ttr.ott = []

theorem idleCash_congr {s t u : State} (h : idleCash s t) (hc : u.csh = t.csh) (ho : u.ttr.ott = t.ttr.ott) : idleCash s u :=
  ⟨hc.trans h.1, ho.trans h.2⟩

theorem idleCash_links (s : State) : LinkParts (idleCash s) where
  reply dest r u h := by
    have replied : idleCash s (takeReply dest r u) := ⟨(takeReply_none h.2 dest r).trans h.1, reply_ott dest r u h.2⟩
    exact idleCash_congr replied (by simp) (by simp)
  adviceAck _ _ h := idleCash_congr h (by simp) (by simp)
  batchAck _ _ h := idleCash_congr h (by simp) (by simp)
  place _ _ _ h := idleCash_congr h (by simp) (by simp)
  check _ _ h := idleCash_congr h (by simp) (by simp)
  form _ h := idleCash_congr h (by simp) (by simp)
  part _ _ h := idleCash_congr h (by simp) (by simp)

/-! ## Every command -/

/-- What holds of an overrun, of the state as it was and of what the owner leaves, holds after the taking of a request. -/
theorem withRequest_result {P : State → Prop} {id : Nat} {r : MgmtRequest} {act : State → State} {s : State} (h : P s)
    (ho : P (countOverrun s)) (ha : ∀ places, P (act (onMrs (fun m => { m with places := places }) s))) :
    P (withRequest id r act s) := by
  unfold withRequest
  split
  · exact h
  · split
    · split
      · exact ha _
      · exact h
    · split
      · exact ha _
      · exact ho

theorem openedPosition_money (p : Position) :
    (openedPosition p).total = p.total ∧ committedCounts (openedPosition p) = committedCounts p := ⟨rfl, rfl⟩

theorem checkedPosition_money (faces : List Nat) (p : Position) :
    (checkedPosition faces p).total = p.total ∧ committedCounts (checkedPosition faces p) = committedCounts p := by
  unfold checkedPosition
  split <;> exact ⟨rfl, clearReservations_committed p⟩

theorem moneyStands_warmStart {s : State} (h : s.ttr.ott = []) : moneyStands s (warmStart s) := by
  have none : abandonAll .abandonedOnRestart (fun _ => true) (volatileReset s) = volatileReset s :=
    abandonAll_none (s := volatileReset s) h _ _
  have csh : ∃ faces, (warmStart s).csh = onPositions (checkedPosition faces) s.csh := by
    refine ⟨facesOf s, ?_⟩
    unfold warmStart
    rw [none]
    simp [restartPositions, returnReserved, volatileReset, facesOf]
  obtain ⟨faces, csh⟩ := csh
  exact moneyStands_onPositions (checkedPosition_money faces) csh

theorem exec_closed {c : Instr} {s t : State} (h : exec c s = .next t) (hs : dayOk s) (hk : cashOk s)
    (hc : dayClosed s.day.state = true) (hm : s.rts.marker = true) : moneyKept s t := by
  obtain ⟨-, rest, -⟩ := hs
  obtain ⟨empty, -⟩ := rest hc
  have same : ∀ u, u.csh = s.csh → moneyKept s u := fun u hu => moneyKept_of (moneyStands_of hu)
  by_cases hq : moving c = false
  · exact same t (exec_quiet hq h).1
  cases c with
  | keyRequest st r =>
    simp only [exec, execKeyRequest] at h
    split at h <;> cases h
    · next u hu =>
      obtain ⟨h1, h2, -⟩ := quiet_delivered hu
      obtain ⟨k1, -⟩ := takeKeyRequest_closed (st := st) (r := r) (s := u) (by rw [h2]; exact hc)
      exact same _ (by simpa using k1.trans h1)
    · exact same _ rfl
  | inboundFrame bytes =>
    simp only [exec, execInboundFrame] at h
    split at h <;> cases h
    · exact same _ (by simp)
    · exact same _ (by simp)
    · exact same _ ((idleCash_links s).gather ⟨by simp, by simpa using empty⟩).1
  | reply dest r => cases h; exact same _ ((idleCash_links s).reply _ _ _ ⟨by simp, by simpa using empty⟩).1
  | adviceAck a => cases h; exact same _ (by simp)
  | batchAck a => cases h; exact same _ (by simp)
  | silenceTimerExpiry =>
    simp only [exec, execSilenceTimerExpiry] at h
    split at h <;> cases h
    · exact same _ rfl
    · have still : (loseLink s).csh = s.csh := by
        unfold loseLink
        dsimp only
        rw [endQueued_none (by simpa using empty)]
        simp
      exact same _ (by simpa using still)
  | transmit =>
    simp only [exec, execTransmit] at h
    split at h
    · cases h; exact same _ rfl
    · split at h <;> cases h <;> exact same _ (by simp)
  | deadlineExpiry ref =>
    have none : ottEntry ref s = none := by simp [ottEntry, empty]
    simp only [exec, execDeadlineExpiry, none] at h
    cases h
    exact same _ rfl
  | settlementBatchTimeout =>
    simp only [exec, execSettlementBatchTimeout] at h
    split at h <;> cases h <;> exact same _ (by simp)
  | trailingPauseEnd => cases h; exact same _ (by simp)
  | tableLoad id f =>
    cases h
    exact withRequest_result (P := moneyKept s) (same s rfl) (same _ (by simp)) fun places =>
      moneyKept_takeFragment (s := onMrs (fun m => { m with places := places }) s) hk
  | lineSetup id r =>
    cases h
    refine withRequest_result (P := moneyKept s) (same s rfl) (same _ (by simp)) fun places => same _ ?_
    simpa using takeLineSetup_none (s := onMrs (fun m => { m with places := places }) s) empty id r
  | dayCutoff id => cases h; exact withRequest_result (P := moneyKept s) (same s rfl) (same _ (by simp)) fun _ => same _ (by simp)
  | dayForce id => cases h; exact withRequest_result (P := moneyKept s) (same s rfl) (same _ (by simp)) fun _ => same _ (by simp)
  | settleRetry id => cases h; exact withRequest_result (P := moneyKept s) (same s rfl) (same _ (by simp)) fun _ => same _ (by simp)
  | dateRoll id d =>
    cases h
    refine withRequest_result (P := moneyKept s) (same s rfl) (same _ (by simp)) fun places => ?_
    unfold takeDateRoll
    split
    · exact same _ (by simp)
    · exact moneyKept_of (moneyStands_onPositions openedPosition_money (by simp [rollDay]))
  | start =>
    simp only [exec, execStart, hm, if_true] at h
    exact Host.Outcome.next.inj h ▸ moneyKept_of (moneyStands_warmStart empty)
  | _ => exact absurd rfl hq

/-- Settles O14: a closed day holds no open transaction and refuses every key request, and its other commands leave the money,
but a commit of denominations, which keeps what is held. -/
theorem closedDayMovesNoCash : Obligations.ClosedDayMovesNoCash := by
  intro s t hd hc closed marker h
  unfold step at h
  split at h
  · cases h; exact moneyKept_of (moneyStands_of rfl)
  · next c rest _ => exact exec_closed (s := { s with pending := rest }) h hd hc closed marker

end Sys2Proof.Machine
end

section
/-! SUPPORT. The management request buffer, the replies that wait and the STOPs that wait for their frame, under every
command. -/

namespace Sys2Proof.Machine
open Sys2Proof

/-! ## Line tests (R178) -/

/-- A STOP waits for the frame of a test. -/
def stopIn (t : Option TestRecord) : Bool :=
  match t with
  | some t => t.stopping.isSome
  | none => false

theorem waitingStops_eq (s : State) :
    waitingStops s = (Station.all.map fun st => if stopIn (lineOf st s).test then 1 else 0).sum := by
  have perLine : ∀ xs : List Line, (xs.countP fun l => match l.test with
      | some t => t.stopping.isSome
      | none => false) = (xs.map fun l => if stopIn l.test then 1 else 0).sum := by
    intro xs
    induction xs with
    | nil => rfl
    | cons l rest ih =>
      rw [List.countP_cons, ih, List.map_cons, List.sum_cons, Nat.add_comm]
      cases l.test <;> rfl
  exact perLine s.slc.lines.toList

/-- The tests of all lines stand. -/
def testsStand (s t : State) : Prop := ∀ st, (lineOf st t).test = (lineOf st s).test

theorem testsStand_move {K : Wide → Prop} (hk : ¬ K .tests) (s t : State) (m : Move K s t) : testsStand s t := by
  intro a
  cases m
  case slc f h ht => exact (ht.resolve_left hk) a
  case roles st f h ht =>
    by_cases ha : a = st
    · subst ha; simpa using ht
    · simp [ha]
  case frame st d f h =>
    by_cases ha : a = st
    · subst ha; simp
    · simp [ha]
  all_goals exact congrArg Line.test (lineOf_congr a (by simp))

theorem testsStand_moves {K : Wide → Prop} (hk : ¬ K .tests) {s t : State} (m : Moves K s t) : testsStand s t :=
  m.relate (fun _ _ => rfl) (fun _ _ _ h k a => (k a).trans (h a)) (testsStand_move hk)

theorem waitingStops_stand {s t : State} (h : testsStand s t) : waitingStops t = waitingStops s := by
  rw [waitingStops_eq, waitingStops_eq]
  simp only [h _]

/-- The test of one line changes. -/
theorem waitingStops_onLine {s : State} {st : Station} {f : Line → Line} :
    waitingStops (onLine st f s) + (if stopIn (lineOf st s).test then 1 else 0) =
      waitingStops s + if stopIn (f (lineOf st s)).test then 1 else 0 := by
  have others : ∀ a, a ≠ st → lineOf a (onLine st f s) = lineOf a s := fun a ha => by simp [ha]
  have here : lineOf st (onLine st f s) = f (lineOf st s) := by simp
  have one : ∀ xs : List Station, xs.Nodup → st ∈ xs →
      (xs.map fun a => if stopIn (lineOf a (onLine st f s)).test then 1 else 0).sum + (if stopIn (lineOf st s).test then 1 else 0) =
        (xs.map fun a => if stopIn (lineOf a s).test then 1 else 0).sum + if stopIn (f (lineOf st s)).test then 1 else 0 := by
    intro xs hn hm
    induction xs with
    | nil => cases hm
    | cons x rest ih =>
      obtain ⟨hx, hrest⟩ := List.nodup_cons.1 hn
      simp only [List.map_cons, List.sum_cons]
      by_cases hxs : x = st
      · subst hxs
        have same : (rest.map fun a => if stopIn (lineOf a (onLine x f s)).test then 1 else 0) =
            rest.map fun a => if stopIn (lineOf a s).test then 1 else 0 :=
          List.map_congr_left fun a ha => by rw [others a fun k => hx (k ▸ ha)]
        rw [same, here]
        omega
      · have := ih hrest ((List.mem_cons.1 hm).resolve_left fun k => hxs k.symm)
        rw [others x hxs]
        omega
  rw [waitingStops_eq, waitingStops_eq]
  exact one _ (by decide) (Station.mem_all st)

/-! ## The buffer (R191) -/

/-- The places taken stand in front. -/
def takenFirst (ps : List MgmtPlace) : Prop := (ps.dropWhile MgmtPlace.taken).all (fun p => !p.taken) = true

/-- A STOP waits only while a loop runs. -/
def stopsLoop (s : State) : Prop := ∀ st t, (lineOf st s).test = some t → t.stopping.isSome = true → ∃ n, t.mode = .loop n

theorem requestsOk_iff {s : State} : requestsOk s ↔
    s.mrs.places.length ≤ Config.mgmtPlaces ∧ takenFirst s.mrs.places ∧
      s.mrs.places.countP MgmtPlace.taken = s.blc.replies.length + waitingStops s ∧ waitingStops s ≤ 1 ∧ stopsLoop s := Iff.rfl

theorem stopsLoop_stand {s t : State} (h : stopsLoop s) (ht : testsStand s t) : stopsLoop t := fun st x hx => h st x (ht st ▸ hx)

theorem requestsOk_congr {s t : State} (h : requestsOk s) (hp : t.mrs.places = s.mrs.places) (hr : t.blc.replies = s.blc.replies)
    (ht : testsStand s t) : requestsOk t := by
  obtain ⟨h1, h2, h3, h4, h5⟩ := requestsOk_iff.1 h
  refine requestsOk_iff.2 ?_
  rw [hp, hr, waitingStops_stand ht]
  exact ⟨h1, h2, h3, h4, stopsLoop_stand h5 ht⟩

theorem takenFirst_append_waiting {ps : List MgmtPlace} {p : MgmtPlace} (h : takenFirst ps) (hp : p.taken = false) :
    takenFirst (ps ++ [p]) := by
  induction ps with
  | nil => simp [takenFirst, hp]
  | cons q rest ih =>
    unfold takenFirst at *
    cases hq : q.taken with
    | true =>
      simp only [List.cons_append, List.dropWhile_cons, hq, if_true] at h ⊢
      exact ih h
    | false =>
      simp only [List.cons_append, List.dropWhile_cons, hq, Bool.false_eq_true, if_false] at h ⊢
      simp only [List.all_append, List.all_cons, List.all_nil, hp, Bool.not_false, Bool.and_true]
      simpa [hq] using h

theorem takenFirst_of_all {ps : List MgmtPlace} (h : ∀ p ∈ ps, p.taken = true) : takenFirst ps := by
  have : ps.dropWhile MgmtPlace.taken = [] := List.dropWhile_eq_nil_iff.2 h
  simp [takenFirst, this]

/-- The first place that waits is taken: the places taken stay in front, and are one more. -/
theorem takeFirst_spec {ps : List MgmtPlace} (h : takenFirst ps) (hw : ∃ p ∈ ps, p.taken = false) :
    (takeFirst ps).length = ps.length ∧ takenFirst (takeFirst ps) ∧
      (takeFirst ps).countP MgmtPlace.taken = ps.countP MgmtPlace.taken + 1 := by
  induction ps with
  | nil => obtain ⟨p, hp, -⟩ := hw; cases hp
  | cons q rest ih =>
    unfold takenFirst at *
    cases hq : q.taken with
    | true =>
      have waits : ∃ p ∈ rest, p.taken = false := by
        obtain ⟨p, hp, hf⟩ := hw
        rcases List.mem_cons.1 hp with rfl | hp
        · rw [hq] at hf; cases hf
        · exact ⟨p, hp, hf⟩
      simp only [List.dropWhile_cons, hq, if_true] at h
      obtain ⟨h1, h2, h3⟩ := ih h waits
      have step : takeFirst (q :: rest) = q :: takeFirst rest := by simp [takeFirst, hq]
      rw [step]
      refine ⟨by simp [h1], by simpa [List.dropWhile_cons, hq] using h2, ?_⟩
      simp only [List.countP_cons, hq, if_true, h3]
    | false =>
      simp only [List.dropWhile_cons, hq, Bool.false_eq_true, if_false, List.all_cons, Bool.not_false, Bool.true_and] at h
      have step : takeFirst (q :: rest) = { q with taken := true } :: rest := by simp [takeFirst, hq]
      have none : ∀ p ∈ rest, p.taken = false := fun p hp => by simpa using List.all_eq_true.1 h p hp
      rw [step]
      refine ⟨rfl, ?_, ?_⟩
      · simp only [List.dropWhile_cons, if_true]
        exact List.all_eq_true.2 fun p hp => by
          have := none p ((List.dropWhile_sublist _).subset hp)
          simp [this]
      · simp [hq]

/-- Between a request's taking and its answer, one place more is taken than replies and STOPs wait. -/
structure asked (s u : State) : Prop where
  room : u.mrs.places.length ≤ Config.mgmtPlaces
  first : takenFirst u.mrs.places
  more : u.mrs.places.countP MgmtPlace.taken = u.blc.replies.length + 1
  still : waitingStops u = 0

theorem asked_places {s : State} {ps : List MgmtPlace} (h : requestsOk s) (hw : stopWaits s = false)
    (hl : ps.length ≤ Config.mgmtPlaces) (hf : takenFirst ps)
    (hc : ps.countP MgmtPlace.taken = s.mrs.places.countP MgmtPlace.taken + 1) :
    asked s (onMrs (fun m => { m with places := ps }) s) := by
  obtain ⟨-, -, count, -, -⟩ := requestsOk_iff.1 h
  have none := (stopWaits_eq s).1 hw
  rw [none] at count
  exact ⟨hl, hf, by show ps.countP _ = s.blc.replies.length + 1; omega, none⟩

/-- The owner of a request answers it, or a STOP waits for its frame. -/
def answers1 (u t : State) : Prop :=
  t.mrs.places = u.mrs.places ∧ t.blc.replies.length + waitingStops t = u.blc.replies.length + 1 ∧ waitingStops t ≤ 1 ∧
    stopsLoop t

theorem requestsOk_answered {s u t : State} (h : asked s u) (ha : answers1 u t) : requestsOk t := by
  obtain ⟨places, count, one, loops⟩ := ha
  refine requestsOk_iff.2 ⟨places ▸ h.room, places ▸ h.first, ?_, one, loops⟩
  rw [places, h.more, count]

theorem requestsOk_withRequest {id : Nat} {r : MgmtRequest} {act : State → State} {s : State} (h : requestsOk s)
    (ha : ∀ u, u.slc = s.slc → withRequest id r act s = act u → waitingStops u = 0 → answers1 u (act u)) :
    requestsOk (withRequest id r act s) := by
  obtain ⟨room, first, -, -, -⟩ := requestsOk_iff.1 h
  cases hw : stopWaits s with
  | true =>
    have same : withRequest id r act s = s := by simp [withRequest, hw]
    rw [same]
    exact h
  | false =>
    have answered : ∀ ps, ps.length ≤ Config.mgmtPlaces → takenFirst ps →
        ps.countP MgmtPlace.taken = s.mrs.places.countP MgmtPlace.taken + 1 →
        withRequest id r act s = act (onMrs (fun m => { m with places := ps }) s) → requestsOk (withRequest id r act s) := by
      intro ps hl hf hc same
      have taken := asked_places h hw hl hf hc
      have owner := ha (onMrs (fun m => { m with places := ps }) s) rfl same taken.still
      rw [same]
      exact requestsOk_answered taken owner
    cases hf : firstWaiting s with
    | some p =>
      by_cases hp : p.id = id ∧ p.request = r
      · have waits : ∃ p ∈ s.mrs.places, p.taken = false :=
          ⟨p, List.mem_of_find?_eq_some hf, by simpa using List.find?_some hf⟩
        obtain ⟨h1, h2, h3⟩ := takeFirst_spec first waits
        exact answered _ (h1.le.trans room) h2 h3 (by simp [withRequest, hw, hf, hp]; rfl)
      · have same : withRequest id r act s = s := by simp only [withRequest, hw, hf, if_neg hp]; rfl
        rw [same]
        exact h
    | none =>
      by_cases hl : s.mrs.places.length < Config.mgmtPlaces
      · have all : ∀ p ∈ s.mrs.places, p.taken = true := fun p hp => by simpa using List.find?_eq_none.1 hf p hp
        refine answered (s.mrs.places ++ [{ id := id, request := r, taken := true }]) (by simpa using hl)
          (takenFirst_of_all fun p hp => ?_) (by simp) (by simp [withRequest, hw, hf, hl, addPlace]; rfl)
        rcases List.mem_append.1 hp with hp | hp
        · exact all p hp
        · rw [List.mem_singleton.1 hp]
      · have same : withRequest id r act s = countOverrun s := by simp [withRequest, hw, hf, hl]
        rw [same]
        exact requestsOk_congr h (by simp) (by simp) fun a => congrArg Line.test (lineOf_congr a (by simp))

/-- An owner that answers and leaves the tests. -/
theorem answers1_of {u t : State} (h : waitingStops u = 0) (tests : testsStand u t)
    (hp : t.mrs.places = u.mrs.places) (hr : t.blc.replies.length = u.blc.replies.length + 1) : answers1 u t := by
  have none : waitingStops t = 0 := (waitingStops_stand tests).trans h
  refine ⟨hp, by omega, by omega, fun st x hx hs => ?_⟩
  have one : ∀ st, stopIn (lineOf st t).test = false := fun st => by
    rw [waitingStops_eq] at none
    have := List.sum_eq_zero_iff_forall_eq_nat.1 none _ (List.mem_map_of_mem (Station.mem_all st))
    simpa using this
  have := one st
  rw [hx] at this
  exact absurd hs (by simpa [stopIn] using this)

/-- A request whose owner answers it once and leaves the buffer and the tests. -/
theorem requestsOk_asked {id : Nat} {r : MgmtRequest} {act : State → State} {s : State} (h : requestsOk s)
    (tests : testsStand s (withRequest id r act s))
    (ha : ∀ u, (act u).mrs.places = u.mrs.places ∧ (act u).blc.replies.length = u.blc.replies.length + 1) :
    requestsOk (withRequest id r act s) :=
  requestsOk_withRequest h fun u hu same none =>
    answers1_of none (fun st => by rw [← same, tests st, lineOf_congr st hu]) (ha u).1 (ha u).2

/-! ## The owners' answers -/

@[simp] theorem replies_answer {id : Nat} {status : MgmtStatus} {content : ReplyContent} {s : State} :
    (answer id status content s).blc.replies = s.blc.replies ++ [{ id := id, status := status, content := content }] := rfl

@[simp] theorem replies_refuseRequest {id : Nat} {why : MgmtStatus} {s : State} :
    (refuseRequest id why s).blc.replies = s.blc.replies ++ [{ id := id, status := why, content := .nothing }] := rfl

/-- An owner places one reply. -/
def repliesOnce (s t : State) : Prop := t.blc.replies.length = s.blc.replies.length + 1

theorem repliesOnce_answer {id : Nat} {status : MgmtStatus} {content : ReplyContent} {s t : State}
    (h : t.blc.replies = s.blc.replies) : repliesOnce s (answer id status content t) := by
  simp [repliesOnce, h]

theorem repliesOnce_refuse {id : Nat} {why : MgmtStatus} {s t : State} (h : t.blc.replies = s.blc.replies) :
    repliesOnce s (refuseRequest id why t) := repliesOnce_answer h

theorem repliesOnce_fillShadow {id : Nat} {f : Fragment} {b : FragmentBody} {s : State} :
    repliesOnce s (fillShadow id f b s) := by
  unfold fillShadow
  split
  · exact repliesOnce_refuse (by simp)
  · split
    · split
      · exact repliesOnce_refuse (by simp)
      · exact repliesOnce_answer (by simp)
    · exact repliesOnce_answer (by simp)

theorem repliesOnce_takeFragment {id : Nat} {f : Fragment} {s : State} : repliesOnce s (takeFragment id f s) := by
  unfold takeFragment
  split
  · exact repliesOnce_refuse rfl
  · split
    · split
      · exact repliesOnce_fillShadow
      · exact repliesOnce_refuse rfl
    · split
      · exact repliesOnce_refuse rfl
      · split
        · exact repliesOnce_fillShadow
        · split
          · exact repliesOnce_refuse (by simp)
          · exact repliesOnce_fillShadow

theorem repliesOnce_takeTableAbort {id : Nat} {s : State} : repliesOnce s (takeTableAbort id s) := by
  unfold takeTableAbort
  split
  · exact repliesOnce_answer (by simp)
  · exact repliesOnce_refuse rfl

theorem repliesOnce_takeTableRead {id table first : Nat} {s : State} : repliesOnce s (takeTableRead id table first s) := by
  unfold takeTableRead
  split
  · exact repliesOnce_refuse rfl
  · split
    · exact repliesOnce_refuse rfl
    · exact repliesOnce_answer rfl

theorem repliesOnce_takeSettingsWrite {id : Nat} {items : List (SettingName × Nat)} {s : State} :
    repliesOnce s (takeSettingsWrite id items s) := by
  unfold takeSettingsWrite
  split
  · exact repliesOnce_refuse rfl
  · dsimp only
    split <;> exact repliesOnce_answer rfl

theorem repliesOnce_takeLineSetup {id : Nat} {r : LineSetupRequest} {s : State} : repliesOnce s (takeLineSetup id r s) := by
  unfold takeLineSetup
  split
  · split
    · exact repliesOnce_refuse rfl
    · exact repliesOnce_answer (by simp)
  · exact repliesOnce_refuse rfl

theorem repliesOnce_takeLineControl {id station op : Nat} {mask : Four Bool} {s : State} :
    repliesOnce s (takeLineControl id station op mask s) := by
  unfold takeLineControl
  split
  · exact repliesOnce_answer (by simp)
  · exact repliesOnce_refuse rfl

theorem repliesOnce_takeLineReset {id line : Nat} {s : State} : repliesOnce s (takeLineReset id line s) := by
  unfold takeLineReset
  split
  · exact repliesOnce_refuse rfl
  · exact repliesOnce_answer (by simp)

theorem repliesOnce_takeStatusRead {id : Nat} {lines : List Nat} {s : State} : repliesOnce s (takeStatusRead id lines s) := by
  unfold takeStatusRead
  split
  · exact repliesOnce_answer (by simp)
  · exact repliesOnce_refuse rfl

theorem repliesOnce_takeClockSet {id secs : Nat} {s : State} : repliesOnce s (takeClockSet id secs s) := by
  unfold takeClockSet
  split
  · exact repliesOnce_answer rfl
  · exact repliesOnce_refuse rfl

theorem repliesOnce_takeDayCutoff {id : Nat} {s : State} : repliesOnce s (takeDayCutoff id s) := by
  unfold takeDayCutoff
  split
  · exact repliesOnce_answer (by simp)
  · exact repliesOnce_refuse rfl

theorem repliesOnce_takeDayForce {id : Nat} {s : State} : repliesOnce s (takeDayForce id s) := by
  unfold takeDayForce
  split
  · exact repliesOnce_refuse rfl
  · split
    · exact repliesOnce_refuse rfl
    · exact repliesOnce_answer (by simp)

theorem repliesOnce_takeSettleRetry {id : Nat} {s : State} : repliesOnce s (takeSettleRetry id s) := by
  unfold takeSettleRetry
  split
  · exact repliesOnce_refuse rfl
  · exact repliesOnce_answer (by simp)

theorem repliesOnce_takeDateRoll {id : Nat} {d : Date} {s : State} : repliesOnce s (takeDateRoll id d s) := by
  unfold takeDateRoll
  split
  · exact repliesOnce_refuse rfl
  · exact repliesOnce_answer (by simp)

theorem repliesOnce_takeBroadcast {id : Nat} {text : Text} {expiry : Nat} {s : State} :
    repliesOnce s (takeBroadcast id text expiry s) := by
  unfold takeBroadcast
  split
  · exact repliesOnce_answer (by simp)
  · split
    · exact repliesOnce_answer (by simp)
    · exact repliesOnce_refuse rfl

/-! ## A LINE-TEST, its frames and its STOP (R178) -/

/-- No STOP waits: none waits at a line either. -/
theorem stopIn_none {s : State} (h : waitingStops s = 0) (st : Station) : stopIn (lineOf st s).test = false := by
  rw [waitingStops_eq] at h
  have := List.sum_eq_zero_iff_forall_eq_nat.1 h _ (List.mem_map_of_mem (Station.mem_all st))
  simpa using this

theorem stopping_none {s : State} (h : waitingStops s = 0) {st : Station} {t : TestRecord} (ht : (lineOf st s).test = some t) :
    t.stopping = none := by
  have := stopIn_none h st
  rw [ht] at this
  simpa [stopIn] using this

/-- The test of one line changes to one in which no STOP waits, and no STOP waited. -/
theorem answers1_onLine {st : Station} {f : Line → Line} {u t : State} (h : waitingStops u = 0)
    (hf : stopIn (f (lineOf st u)).test = false) (hs : t.slc = (onLine st f u).slc) (hp : t.mrs.places = u.mrs.places)
    (hr : repliesOnce u t) : answers1 u t := by
  have same : testsStand (onLine st f u) t := fun a => congrArg Line.test (lineOf_congr a hs)
  have none : waitingStops t = 0 := by
    have := waitingStops_onLine (s := u) (st := st) (f := f)
    rw [waitingStops_stand same]
    simp only [hf, Bool.false_eq_true, if_false] at this
    omega
  refine ⟨hp, by unfold repliesOnce at hr; omega, by omega, fun a x hx hw => ?_⟩
  rw [stopping_none none hx] at hw
  cases hw

theorem answers1_takeStop {id : Nat} {st : Station} {u : State} (h : waitingStops u = 0) : answers1 u (takeStop id st u) := by
  unfold takeStop
  dsimp only
  split
  · exact answers1_of h (fun _ => rfl) rfl (repliesOnce_answer rfl)
  · next x hx =>
    have free := stopping_none h hx
    split
    · next n hm =>
      have count := waitingStops_onLine (s := u) (st := st) (f := fun l => { l with test := some { x with stopping := some id } })
      have before : stopIn (lineOf st u).test = false := stopIn_none h st
      have after : stopIn (some { x with stopping := some id }) = true := rfl
      simp only [before, after, Bool.false_eq_true, if_false, if_true] at count
      refine ⟨by simp, by simp; omega, by omega, fun a y hy hw => ?_⟩
      by_cases ha : a = st
      · subst ha
        simp only [lineOf_onLine, if_true] at hy
        cases hy
        exact ⟨n, hm⟩
      · simp only [lineOf_onLine, if_neg ha] at hy
        rw [stopping_none h hy] at hw
        cases hw
    · exact answers1_onLine (st := st) h (f := fun l => { l with test := some { x with mode := .idle } }) (by simp [stopIn, free]) (by simp)
        (by simp) (repliesOnce_answer (by simp))
    · exact answers1_of h (fun _ => rfl) rfl (repliesOnce_answer rfl)

theorem answers1_takeLineTest {id line mode count : Nat} {u : State} (h : waitingStops u = 0) :
    answers1 u (takeLineTest id line mode count u) := by
  have refused : ∀ why, answers1 u (refuseRequest id why u) := fun why =>
    answers1_of h (fun _ => rfl) rfl (repliesOnce_refuse rfl)
  unfold takeLineTest
  split
  · exact refused _
  · next st _ =>
    dsimp only
    split
    · exact refused _
    split
    · exact refused _
    split
    · exact answers1_takeStop h
    split
    · exact refused _
    split
    · refine answers1_onLine (st := st) h (f := fun l => { l with test := some { testRecord l with mode := .echo } }) ?_ (by simp)
        (by simp) (repliesOnce_answer (by simp))
      show (testRecord (lineOf st u)).stopping.isSome = false
      unfold testRecord
      cases hx : (lineOf st u).test with
      | none => rfl
      | some x => simp [stopping_none h hx]
    · exact answers1_onLine (st := st) h (f := fun l => { l with
        test := some { mode := .loop count, sent := 1, matched := 0, mismatched := 0, stopping := none } }) rfl (by simp) (by simp)
        (repliesOnce_answer (by simp))

theorem answers1_takeLineReset {id line : Nat} {u : State} (h : waitingStops u = 0) : answers1 u (takeLineReset id line u) := by
  have once := repliesOnce_takeLineReset (id := id) (line := line) (s := u)
  unfold takeLineReset at *
  split
  · exact answers1_of h (fun _ => rfl) rfl (repliesOnce_refuse rfl)
  · next st hst =>
    simp only [hst] at once
    exact answers1_onLine (st := st) (f := resetLine) h rfl (by simp) (by simp) once

/-- The frame of a loop is judged: a STOP that waited for it is answered. -/
theorem requestsOk_judgeLoopFrame {st : Station} {equal : Bool} {s : State} (h : requestsOk s) :
    requestsOk (judgeLoopFrame st equal s) := by
  unfold judgeLoopFrame
  split
  · exact h
  next x hx =>
  split
  case h_2 => exact h
  case h_3 => exact h
  next n hm =>
  obtain ⟨room, first, count, one, loops⟩ := requestsOk_iff.1 h
  have stops := waitingStops_onLine (s := s) (st := st) (f := fun l => { l with test := some (judgedRecord n equal x) })
  have after : stopIn (some (judgedRecord n equal x)) = false := by
    unfold stopIn judgedRecord
    dsimp only
    split
    · rfl
    · next hs => simp only [Bool.or_eq_true, not_or] at hs; simpa using hs.1
  have others : stopsLoop (onLine st (fun l => { l with test := some (judgedRecord n equal x) }) s) := fun a y hy hw => by
    by_cases ha : a = st
    · subst ha
      simp only [lineOf_onLine, if_true] at hy
      cases hy
      rw [show (judgedRecord n equal x).stopping.isSome = false from after] at hw
      cases hw
    · simp only [lineOf_onLine, if_neg ha] at hy
      exact loops a y hy hw
  rw [hx] at stops
  simp only [after, Bool.false_eq_true, if_false] at stops
  dsimp only
  split
  · next id hi =>
    have before : stopIn (some x) = true := by simp [stopIn, hi]
    simp only [before, if_true] at stops
    have same : testsStand (onLine st (fun l => { l with test := some (judgedRecord n equal x) }) s)
        (answer id .done (testCounts (some (judgedRecord n equal x)))
          (onLine st (fun l => { l with test := some (judgedRecord n equal x) }) s)) := fun _ => rfl
    refine requestsOk_iff.2 ⟨room, first, ?_, ?_, others⟩
    · rw [waitingStops_stand same]
      simp only [replies_answer, List.length_append, List.length_singleton]
      show s.mrs.places.countP _ = s.blc.replies.length + 1 + _
      omega
    · rw [waitingStops_stand same]
      omega
  · next hi =>
    have before : stopIn (some x) = false := by simp [stopIn, hi]
    simp only [before, Bool.false_eq_true, if_false] at stops
    refine requestsOk_iff.2 ⟨room, first, ?_, ?_, others⟩
    · show s.mrs.places.countP _ = s.blc.replies.length + _
      omega
    · omega

/-! ## Arrivals and transmissions (R191) -/

theorem requestsOk_slc {s t : State} (h : requestsOk s) (hp : t.mrs.places = s.mrs.places) (hr : t.blc.replies = s.blc.replies)
    (hs : t.slc = s.slc) : requestsOk t := requestsOk_congr h hp hr fun a => congrArg Line.test (lineOf_congr a hs)

theorem requestsOk_placeRequest {id : Nat} {r : MgmtRequest} {s : State} (h : requestsOk s) : requestsOk (placeRequest id r s) := by
  unfold placeRequest
  split
  · next hl =>
    obtain ⟨-, first, count, one, loops⟩ := requestsOk_iff.1 h
    refine requestsOk_iff.2 ⟨?_, takenFirst_append_waiting first rfl, ?_, one, loops⟩
    · show (s.mrs.places ++ [_]).length ≤ _
      simpa using hl
    · show (s.mrs.places ++ [_]).countP _ = _
      simp only [List.countP_append, List.countP_singleton, Bool.false_eq_true, if_false, Nat.add_zero]
      exact count
  · exact requestsOk_slc h (by simp) (by simp) (by simp)

theorem requestsOk_replySent {s : State} (h : requestsOk s) (hr : s.blc.replies ≠ []) : requestsOk (replySent s) := by
  obtain ⟨room, first, count, one, loops⟩ := requestsOk_iff.1 h
  cases hrs : s.blc.replies with
  | nil => exact absurd hrs hr
  | cons r replies =>
    cases hps : s.mrs.places with
    | nil => rw [hps, hrs] at count; simp at count; omega
    | cons p places =>
      rw [hps] at room first count
      rw [hrs] at count
      cases hp : p.taken with
      | false =>
        have none : ∀ q ∈ p :: places, q.taken = false := fun q hq => by
          unfold takenFirst at first
          rw [List.dropWhile_cons_of_neg (by simp [hp])] at first
          simpa using List.all_eq_true.1 first q hq
        rw [List.countP_eq_zero.2 fun q hq => by simp [none q hq]] at count
        simp only [List.length_cons] at count
        omega
      | true =>
        refine requestsOk_iff.2 ⟨?_, ?_, ?_, one, loops⟩
        · show s.mrs.places.tail.length ≤ _
          rw [hps]
          simp only [List.length_cons, List.tail_cons] at room ⊢
          omega
        · show takenFirst s.mrs.places.tail
          rw [hps]
          unfold takenFirst at first
          rwa [List.dropWhile_cons_of_pos hp] at first
        · show s.mrs.places.tail.countP _ = s.blc.replies.tail.length + waitingStops s
          rw [hps, hrs]
          simp only [List.countP_cons, hp, if_true, List.length_cons, List.tail_cons] at count ⊢
          omega

theorem requestsOk_ownerSent {c : OutClass} {m : OutMsg} {s : State} (h : requestsOk s) (hm : arbiterChoice s = some (c, m)) :
    requestsOk (ownerSent c m s) := by
  have sent : ∀ t : State, t.mrs.places = s.mrs.places → t.blc.replies = s.blc.replies → t.slc = s.slc → requestsOk t :=
    fun t hp hr hs => requestsOk_slc h hp hr hs
  unfold ownerSent
  split
  case h_4 =>
    obtain ⟨k, -, hk⟩ := List.exists_of_findSome?_eq_some hm
    obtain ⟨x, hx, hk⟩ := Option.map_eq_some_iff.1 hk
    cases hk
    refine requestsOk_replySent h fun none => ?_
    simp [readyMessage, none] at hx
  all_goals exact sent _ (by simp) (by simp) (by simp)

end Sys2Proof.Machine
end

section
/-! SUPPORT. The invariant of the request buffer under every command and every start (R178, R191). -/

namespace Sys2Proof.Machine
open Sys2Proof

/-- The buffer's places and the replies that wait, for a number of waiting STOPs. -/
def bufferOk (k : Nat) (s : State) : Prop :=
  s.mrs.places.length ≤ Config.mgmtPlaces ∧ takenFirst s.mrs.places ∧
    s.mrs.places.countP MgmtPlace.taken = s.blc.replies.length + k

theorem bufferOk_congr {k : Nat} {s t : State} (h : bufferOk k s) (hp : t.mrs.places = s.mrs.places)
    (hr : t.blc.replies = s.blc.replies) : bufferOk k t := by
  unfold bufferOk at *
  rwa [hp, hr]

theorem bufferOk_of {s : State} (h : requestsOk s) : bufferOk (waitingStops s) s := by
  obtain ⟨room, first, count, -, -⟩ := requestsOk_iff.1 h
  exact ⟨room, first, count⟩

theorem requestsOk_stand {s t : State} (h : requestsOk s) (ht : testsStand s t) (hb : bufferOk (waitingStops s) t) :
    requestsOk t := by
  obtain ⟨-, -, -, one, loops⟩ := requestsOk_iff.1 h
  obtain ⟨room, first, count⟩ := hb
  rw [← waitingStops_stand ht] at count one
  exact requestsOk_iff.2 ⟨room, first, count, one, stopsLoop_stand loops ht⟩

theorem bufferOk_placeRequest {k id : Nat} {r : MgmtRequest} {s : State} (h : bufferOk k s) :
    bufferOk k (placeRequest id r s) := by
  obtain ⟨room, first, count⟩ := h
  unfold placeRequest
  split
  · next hl =>
    refine ⟨?_, takenFirst_append_waiting first rfl, ?_⟩
    · show (s.mrs.places ++ [_]).length ≤ _
      simpa using hl
    · show (s.mrs.places ++ [_]).countP _ = _
      simp only [List.countP_append, List.countP_singleton, Bool.false_eq_true, if_false, Nat.add_zero]
      exact count
  · exact bufferOk_congr ⟨room, first, count⟩ (by simp) (by simp)

theorem bufferOk_links {k : Nat} : LinkParts (bufferOk k) where
  reply _ _ _ h := bufferOk_congr h (by simp) (by simp)
  adviceAck _ _ h := bufferOk_congr h (by simp) (by simp)
  batchAck _ _ h := bufferOk_congr h (by simp) (by simp)
  place _ _ _ h := bufferOk_placeRequest h
  check _ _ h := bufferOk_congr h (by simp) (by simp)
  form _ h := bufferOk_congr h (by simp) (by simp)
  part _ _ h := bufferOk_congr h (by simp) (by simp)

/-- The places and the replies stand. -/
def bufferStands (s t : State) : Prop := t.mrs.places = s.mrs.places ∧ t.blc.replies = s.blc.replies

theorem bufferStands_refl (s : State) : bufferStands s s := ⟨rfl, rfl⟩

theorem bufferStands_deliver {st : Station} {d : Drop} {f : DropFrame} {act : State → State} {s t : State}
    (h : (match delivered st d f s with
      | some u => (.next (act u) : Host.Outcome State Fault Refusal)
      | none => .next s) = .next t) (ha : ∀ u, bufferStands u (act u)) : bufferStands s t := by
  split at h <;> cases h
  · next u hu =>
    obtain ⟨hp, hr⟩ := ha u
    obtain ⟨-, ⟨-, rfl⟩ | ⟨rest, -, rfl⟩⟩ := delivered_cases hu
    · exact ⟨hp, hr⟩
    · exact ⟨hp.trans (by simp), hr.trans (by simp)⟩
  · exact bufferStands_refl s

theorem bufferStands_failExchange {st : Station} {count : State → State} {s : State} (h : ∀ u, bufferStands u (count u)) :
    bufferStands s (failExchange st count s) := by
  unfold failExchange
  split
  · exact bufferStands_refl s
  · obtain ⟨hp, hr⟩ := h (endExchange st s)
    simp [bufferStands, hp, hr]

/-- The commands that are no request of head office and bring or take none, concern no test and are no start. -/
def besideBuffer : Instr → Bool
  | .loopFrameReturn .. | .loopFrameTimeout _ | .inboundFrame _ | .mgmtReq .. | .transmit | .tableLoad .. | .tableAbort _
  | .tableRead .. | .settingsWrite .. | .settingsRead _ | .lineSetup .. | .lineControl .. | .lineTest .. | .lineReset ..
  | .statusRead .. | .totalsRead _ | .clockSet .. | .dayCutoff _ | .dayForce _ | .settleRetry _ | .dateRoll ..
  | .broadcastText .. | .start | .badRequest .. => false
  | _ => true

theorem exec_bufferStands {c : Instr} {s t : State} (hc : besideBuffer c = true) (h : exec c s = .next t) : bufferStands s t := by
  cases c with
  | loopFrameReturn | loopFrameTimeout | inboundFrame | mgmtReq | transmit | tableLoad | tableAbort | tableRead | settingsWrite
  | settingsRead | lineSetup | lineControl | lineTest | lineReset | statusRead | totalsRead | clockSet | dayCutoff | dayForce
  | settleRetry | dateRoll | broadcastText | start | badRequest => cases hc
  | keyRequest st r => exact bufferStands_deliver h fun u => by simp [bufferStands]
  | formCall st code => exact bufferStands_deliver h fun u => by simp [bufferStands]
  | stripeRead st b => exact bufferStands_deliver h fun u => by simp [bufferStands]
  | bookRemoved st => exact bufferStands_deliver h fun u => by simp [bufferStands]
  | lineDone st => exact bufferStands_deliver h fun u => by simp [bufferStands]
  | writeDone st => exact bufferStands_deliver h fun u => by simp [bufferStands]
  | fault st => exact bufferStands_deliver h fun u => by simp [bufferStands]
  | dropFrame st f =>
    simp only [exec, execDropFrame] at h
    split at h <;> cases h
    · simp [bufferStands]
    · exact bufferStands_failExchange fun u => by simp [bufferStands]
    · simp [bufferStands]
  | nothing st =>
    simp only [exec, execNothing] at h
    split at h <;> cases h
    · simp [bufferStands]
    · exact bufferStands_failExchange fun u => by simp [bufferStands]
    · simp [bufferStands]
  | accept st =>
    simp only [exec, execAccept] at h
    split at h <;> cases h
    · simp [bufferStands]
    · exact bufferStands_failExchange fun u => by simp [bufferStands]
    · simp [bufferStands]
  | busy st =>
    simp only [exec, execBusy] at h
    split at h <;> cases h
    · simp [bufferStands]
    · exact bufferStands_failExchange fun u => by simp [bufferStands]
    · simp [bufferStands]
  | failedResponse st why => cases h; exact bufferStands_failExchange fun u => by cases why <;> simp [bufferStands]
  | pollResponseTimeout st => cases h; exact bufferStands_failExchange fun u => by simp [bufferStands]
  | repollDue st d => cases h; simp [bufferStands]
  | busyRetryExpiry st d => cases h; simp [bufferStands]
  | issueExchange st => simp only [exec, execIssueExchange] at h; split at h <;> cases h <;> simp [bufferStands]
  | attention st => simp only [exec, execAttention] at h; split at h <;> cases h <;> simp [bufferStands]
  | unsolicited st => simp only [exec, execUnsolicited] at h; split at h <;> cases h <;> simp [bufferStands]
  | echoCharacter st k =>
    simp only [exec, execEchoCharacter] at h
    split at h
    · split at h <;> cases h <;> simp [bufferStands]
    · cases h; exact bufferStands_refl s
  | drawerSenseChange st opened =>
    simp only [exec, execDrawerSenseChange] at h
    split at h <;> cases h
    · exact bufferStands_refl s
    · split <;> simp [bufferStands]
  | drawerOpenTimerExpiry st => simp only [exec, execDrawerOpenTimerExpiry] at h; split at h <;> cases h <;> simp [bufferStands]
  | alarmInRising st => simp only [exec, execAlarmInRising] at h; split at h <;> cases h <;> simp [bufferStands]
  | drawerPulseEnd st => cases h; simp [bufferStands]
  | reply dest r => cases h; simp [bufferStands]
  | adviceAck a => cases h; simp [bufferStands]
  | batchAck a => cases h; simp [bufferStands]
  | linkCheck number => cases h; simp [bufferStands]
  | silenceTimerExpiry => simp only [exec, execSilenceTimerExpiry] at h; split at h <;> cases h <;> simp [bufferStands]
  | transmitEnd => cases h; simp [bufferStands]
  | deadlineExpiry ref =>
    simp only [exec, execDeadlineExpiry] at h
    split at h
    · split at h <;> cases h <;> simp [bufferStands]
    · cases h; exact bufferStands_refl s
  | lateExpiry ref => simp only [exec, execLateExpiry] at h; split at h <;> cases h <;> simp [bufferStands]
  | adviceAckTimeout number => cases h; simp [bufferStands]
  | trickleBatchTimeout => cases h; simp [bufferStands]
  | rejectionPauseEnd => cases h; simp [bufferStands]
  | settlementBatchTimeout => simp only [exec, execSettlementBatchTimeout] at h; split at h <;> cases h <;> simp [bufferStands]
  | trailingPauseEnd => cases h; simp [bufferStands]
  | loadIdleExpiry => simp only [exec, execLoadIdleExpiry] at h; split at h <;> cases h <;> simp [bufferStands]
  | waitTimerExpiry st => cases h; simp [bufferStands]
  | completionTimerExpiry st => cases h; simp [bufferStands]
  | broadcastExpiry => simp only [exec, execBroadcastExpiry] at h; split at h <;> cases h <;> simp [bufferStands]

/-- No test changes under them. -/
theorem not_tests {c : Instr} {p : Prop} (h : besideBuffer c = true) : ¬ wideOf p c .tests := by
  cases c with
  | loopFrameReturn | loopFrameTimeout | lineTest | lineReset => cases h
  | _ => exact fun k => k

theorem exec_requestsOk {c : Instr} {s t : State} (hc : c ≠ .start) (h : exec c s = .next t) (hs : requestsOk s) :
    requestsOk t := by
  have moves := exec_moves hc h
  by_cases hb : besideBuffer c = true
  · obtain ⟨hp, hr⟩ := exec_bufferStands hb h
    exact requestsOk_congr hs hp hr (testsStand_moves (not_tests hb) moves)
  cases c with
  | start => exact absurd rfl hc
  | loopFrameReturn st how => cases h; exact requestsOk_judgeLoopFrame hs
  | loopFrameTimeout st => cases h; exact requestsOk_judgeLoopFrame hs
  | inboundFrame bytes =>
    have tests := testsStand_moves (fun k => k) moves
    simp only [exec, execInboundFrame] at h
    split at h <;> cases h
    · exact requestsOk_slc hs (by simp) (by simp) (by simp)
    · exact requestsOk_slc hs (by simp) (by simp) (by simp)
    · exact requestsOk_stand hs tests (bufferOk_links.gather (bufferOk_congr (bufferOk_of hs) (by simp) (by simp)))
  | mgmtReq id r => cases h; exact requestsOk_placeRequest (requestsOk_slc hs (by simp) (by simp) (by simp))
  | transmit =>
    simp only [exec, execTransmit] at h
    split at h
    · cases h; exact hs
    · split at h <;> cases h
      · next hm => exact requestsOk_slc (requestsOk_ownerSent hs hm) rfl rfl rfl
      · exact hs
  | tableLoad id f =>
    cases h; exact requestsOk_asked hs (testsStand_moves (fun k => k) moves) fun u => ⟨by simp, repliesOnce_takeFragment⟩
  | tableAbort id =>
    cases h; exact requestsOk_asked hs (testsStand_moves (fun k => k) moves) fun u => ⟨by simp, repliesOnce_takeTableAbort⟩
  | tableRead id table first =>
    cases h; exact requestsOk_asked hs (testsStand_moves (fun k => k) moves) fun u => ⟨by simp, repliesOnce_takeTableRead⟩
  | settingsWrite id items =>
    cases h; exact requestsOk_asked hs (testsStand_moves (fun k => k) moves) fun u => ⟨by simp, repliesOnce_takeSettingsWrite⟩
  | settingsRead id =>
    cases h; exact requestsOk_asked hs (testsStand_moves (fun k => k) moves) fun u => ⟨by simp, repliesOnce_answer rfl⟩
  | lineSetup id r =>
    cases h
    exact requestsOk_asked hs (testsStand_moves (fun k => k) moves) fun u =>
      ⟨by simp, by simpa [repliesOnce] using repliesOnce_takeLineSetup (id := id) (r := r) (s := u)⟩
  | lineControl id station op mask =>
    cases h; exact requestsOk_asked hs (testsStand_moves (fun k => k) moves) fun u => ⟨by simp, repliesOnce_takeLineControl⟩
  | lineTest id line mode count => cases h; exact requestsOk_withRequest hs fun u _ _ none => answers1_takeLineTest none
  | lineReset id line => cases h; exact requestsOk_withRequest hs fun u _ _ none => answers1_takeLineReset none
  | statusRead id lines =>
    cases h; exact requestsOk_asked hs (testsStand_moves (fun k => k) moves) fun u => ⟨by simp, repliesOnce_takeStatusRead⟩
  | totalsRead id =>
    cases h; exact requestsOk_asked hs (testsStand_moves (fun k => k) moves) fun u => ⟨by simp, repliesOnce_answer rfl⟩
  | clockSet id secs =>
    cases h; exact requestsOk_asked hs (testsStand_moves (fun k => k) moves) fun u => ⟨by simp, repliesOnce_takeClockSet⟩
  | dayCutoff id =>
    cases h; exact requestsOk_asked hs (testsStand_moves (fun k => k) moves) fun u => ⟨by simp, repliesOnce_takeDayCutoff⟩
  | dayForce id =>
    cases h; exact requestsOk_asked hs (testsStand_moves (fun k => k) moves) fun u => ⟨by simp, repliesOnce_takeDayForce⟩
  | settleRetry id =>
    cases h; exact requestsOk_asked hs (testsStand_moves (fun k => k) moves) fun u => ⟨by simp, repliesOnce_takeSettleRetry⟩
  | dateRoll id d =>
    cases h; exact requestsOk_asked hs (testsStand_moves (fun k => k) moves) fun u => ⟨by simp, repliesOnce_takeDateRoll⟩
  | broadcastText id text expiry =>
    cases h; exact requestsOk_asked hs (testsStand_moves (fun k => k) moves) fun u => ⟨by simp, repliesOnce_takeBroadcast⟩
  | badRequest id kind =>
    cases h; exact requestsOk_asked hs (testsStand_moves (fun k => k) moves) fun u => ⟨by simp, repliesOnce_refuse rfl⟩
  | _ => exact absurd rfl hb

/-! ## Starts (R200) -/

/-- No request is held, no reply waits and no test stands. -/
theorem requestsOk_none {s : State} (hp : s.mrs.places = []) (hr : s.blc.replies = []) (ht : ∀ st, (lineOf st s).test = none) :
    requestsOk s := by
  have none : waitingStops s = 0 := by
    rw [waitingStops_eq]
    simp [ht, stopIn]
  refine requestsOk_iff.2 ⟨by simp [hp], by simp [hp, takenFirst], by simp [hp, hr, none], by omega, fun st t h => ?_⟩
  rw [ht st] at h
  cases h

theorem requestsOk_coldStart (s : State) : requestsOk (coldStart s) := by
  have tests : testsStand (coldBase s) (coldStart s) :=
    testsStand_moves (K := fun _ => False) (fun k => k) coldStart_moves
  have mrs : (coldStart s).mrs = (coldBase s).mrs := forStations_keeps State.mrs _ (fun st s => by unfold startWatch; split <;> simp) _
  have blc : (coldStart s).blc = (coldBase s).blc := forStations_keeps State.blc _ (fun st s => by unfold startWatch; split <;> simp) _
  refine requestsOk_none (by rw [mrs]; rfl) (by rw [blc]; rfl) fun st => ?_
  rw [tests st]
  simp [coldBase, lineOf, Line.cold]

theorem requestsOk_warmStart (s : State) : requestsOk (warmStart s) := by
  have first : testsStand (volatileReset s) (abandoned s) :=
    testsStand_moves (K := fun w => w = .loose) (fun k => by cases k) (abandoned_moves (.inl rfl))
  have second : testsStand (returnReserved (abandoned s)) (warmStart s) :=
    testsStand_moves (K := startKinds) (fun k => k) (warmStart_moves (fun _ => trivial) (fun _ => trivial))
  have places : (warmStart s).mrs.places = (abandoned s).mrs.places := by
    simp [warmStart, abandoned, restartPositions, returnReserved]
  have replies : (warmStart s).blc.replies = (abandoned s).blc.replies := by
    simp [warmStart, abandoned, restartPositions, returnReserved]
  refine requestsOk_none ?_ ?_ fun st => ?_
  · rw [places]; simp [abandoned, volatileReset]
  · rw [replies]; simp [abandoned, volatileReset, State.reset]
  · rw [second st, show lineOf st (returnReserved (abandoned s)) = lineOf st (abandoned s) from rfl, first st]
    simp [volatileReset, lineOf, restartedLine, Line.cold]

theorem exec_start_requestsOk {s t : State} (h : exec .start s = .next t) : requestsOk t := by
  simp only [exec, execStart] at h
  split at h
  · exact Host.Outcome.next.inj h ▸ requestsOk_warmStart s
  · exact Host.Outcome.next.inj h ▸ requestsOk_coldStart s

/-- Settles O12: a request taken has its answer in the same step, but for a STOP that waits for its frame; a start empties the
buffer. -/
theorem requestInvariantKept : Obligations.RequestInvariantKept :=
  everyStepKeeps_of (fun s q h => h) (fun s h => h) fun c s t h hs => by
    by_cases hc : c = .start
    · subst hc; exact exec_start_requestsOk h
    · exact exec_requestsOk hc h hs

end Sys2Proof.Machine
end

section
/-! SUPPORT. Cash arithmetic: rounding, the greedy breakdown, and what reservation, posting and release do to a position. -/

namespace Sys2Proof.Machine
open Sys2Proof

/-! ## Rounding (R33) -/

theorem roundAmount_spec {c a : Nat} (h : 0 < c) :
    roundAmount c a % c = 0 ∧ 2 * roundAmount c a ≤ 2 * a + c ∧ 2 * a < 2 * roundAmount c a + c := by
  have below := Nat.mod_lt a h
  have whole : (a - a % c) % c = 0 := Nat.sub_mod_eq_zero_of_mod_eq (Nat.mod_mod a c).symm
  have le := Nat.mod_le a c
  unfold roundAmount
  dsimp only
  split
  · exact ⟨whole, by omega, by omega⟩
  · refine ⟨?_, by omega, by omega⟩
    rw [Nat.add_mod_right, whole]

/-! ## The greedy breakdown (R41) -/

/-- The greedy breakdown goes through the denominations with what remains: its takes above 0, and what is left at the end. -/
theorem greedyFrom_eq {ds : List DntRec} {k : Nat} {cs : List Counts} {rest take : Nat → Nat}
    (h : ∀ i d, ds[i]? = some d →
      take i = min (((cs[i]?).getD noCounts).committed - ((cs[i]?).getD noCounts).reservedOut - d.floor) (rest i / d.face) ∧
        rest (i + 1) = rest i - take i * d.face) :
    greedyFrom k ds cs (rest 0) =
      (((List.range ds.length).filter fun i => take i ≠ 0).map fun i => (k + i, take i), rest ds.length) := by
  induction ds generalizing k cs rest take with
  | nil => rfl
  | cons d ds ih =>
    obtain ⟨first, next⟩ := h 0 d rfl
    have later := ih (k := k + 1) (cs := cs.tail) (rest := fun i => rest (i + 1)) (take := fun i => take (i + 1))
      fun i x hx => by simpa using h (i + 1) x (by simpa using hx)
    rw [← List.head?_eq_getElem?] at first
    have shift : ((List.range ds.length).map Nat.succ).filter (fun i => take i ≠ 0) =
        ((List.range ds.length).filter fun i => take (i + 1) ≠ 0).map Nat.succ := by
      rw [List.filter_map]; rfl
    have taken : min ((cs.head?.getD ⟨0, 0, 0⟩).committed - (cs.head?.getD ⟨0, 0, 0⟩).reservedOut - d.floor)
        (rest 0 / d.face) = take 0 := first.symm
    unfold greedyFrom
    dsimp only
    rw [taken, ← next, show rest 1 = (fun i => rest (i + 1)) 0 from rfl, later]
    simp only [List.length_cons, List.range_succ_eq_map, List.filter_cons, shift]
    have same : ∀ xs : List Nat, (xs.map fun i => (k + 1 + i, take (i + 1))) =
        (xs.map Nat.succ).map fun i => (k + i, take i) := fun xs => by
      rw [List.map_map]
      exact List.map_congr_left fun i _ => by simp; omega
    rw [same]
    by_cases ht : take 0 = 0 <;> simp [ht]

theorem greedyBreakdown_eq {dnt : List DntRec} {p : Position} {rest take : Nat → Nat}
    (h : ∀ i d, dnt[i]? = some d →
      take i = min ((countsAt p (i + 1)).committed - (countsAt p (i + 1)).reservedOut - d.floor) (rest i / d.face) ∧
        rest (i + 1) = rest i - take i * d.face) :
    greedyBreakdown dnt p (rest 0) = if rest dnt.length = 0 then
      some (((List.range dnt.length).filter fun i => take i ≠ 0).map fun i => (i + 1, take i)) else none := by
  have all := greedyFrom_eq (k := 1) (cs := p.counts) h
  simp only [Nat.add_comm 1] at all
  unfold greedyBreakdown
  rw [all]
  cases rest dnt.length <;> rfl

/-- What remains before each denomination, as the greedy breakdown goes through them. -/
def greedyRest (dnt : List DntRec) (p : Position) (amount : Nat) : Nat → Nat
  | 0 => amount
  | i + 1 =>
    let d := (dnt[i]?).getD ⟨0, .note, 0⟩
    greedyRest dnt p amount i -
      min ((countsAt p (i + 1)).committed - (countsAt p (i + 1)).reservedOut - d.floor) (greedyRest dnt p amount i / d.face) *
        d.face

/-- What the greedy breakdown takes of each denomination. -/
def greedyTake (dnt : List DntRec) (p : Position) (amount i : Nat) : Nat :=
  let d := (dnt[i]?).getD ⟨0, .note, 0⟩
  min ((countsAt p (i + 1)).committed - (countsAt p (i + 1)).reservedOut - d.floor) (greedyRest dnt p amount i / d.face)

theorem greedyTake_spec {dnt : List DntRec} {p : Position} {amount i : Nat} {d : DntRec} (h : dnt[i]? = some d) :
    greedyTake dnt p amount i =
        min ((countsAt p (i + 1)).committed - (countsAt p (i + 1)).reservedOut - d.floor) (greedyRest dnt p amount i / d.face) ∧
      greedyRest dnt p amount (i + 1) = greedyRest dnt p amount i - greedyTake dnt p amount i * d.face := by
  simp [greedyTake, greedyRest, h]

/-- The takes of the first denominations and what then remains make up the amount. -/
theorem greedyRest_sum {dnt : List DntRec} {p : Position} {amount n : Nat} (h : n ≤ dnt.length) :
    (((List.range n).filter fun i => greedyTake dnt p amount i ≠ 0).map fun i =>
        greedyTake dnt p amount i * faceOf (dnt.map DntRec.face) (i + 1)).sum + greedyRest dnt p amount n = amount := by
  induction n with
  | zero => simp [greedyRest]
  | succ n ih =>
    have before := ih (by omega)
    obtain ⟨d, hd⟩ : ∃ d, dnt[n]? = some d := ⟨dnt[n], List.getElem?_eq_getElem (by omega)⟩
    obtain ⟨take, rest⟩ := greedyTake_spec (p := p) (amount := amount) hd
    have face : faceOf (dnt.map DntRec.face) (n + 1) = d.face := by simp [faceOf, hd]
    have room : greedyTake dnt p amount n * d.face ≤ greedyRest dnt p amount n := by
      rw [take]
      exact (Nat.mul_le_mul_right _ (Nat.min_le_right _ _)).trans (Nat.div_mul_le_self _ _)
    rw [List.range_succ, List.filter_append, List.map_append, List.sum_append, rest]
    by_cases ht : greedyTake dnt p amount n = 0
    · simp only [ht, List.filter_cons, List.filter_nil, ne_eq, not_true, decide_false, Bool.false_eq_true, if_false, List.map_nil,
        List.sum_nil, Nat.zero_mul, Nat.sub_zero, Nat.add_zero]
      exact before
    · simp only [ht, List.filter_cons, List.filter_nil, ne_eq, not_false_eq_true, decide_true, if_true, List.map_cons, List.map_nil,
        List.sum_cons, List.sum_nil, Nat.add_zero, face] at before ⊢
      omega

/-- A greedy breakdown pays its amount, each pair above 0 and within what is available over the floor. -/
theorem greedyBreakdown_pays {dnt : List DntRec} {p : Position} {amount : Nat} {b : Breakdown}
    (h : greedyBreakdown dnt p amount = some b) :
    breakdownValue (dnt.map DntRec.face) b = amount ∧
      ∀ x ∈ b, 1 ≤ x.1 ∧ 0 < x.2 ∧ ∃ d, dnt[x.1 - 1]? = some d ∧
        x.2 ≤ (countsAt p x.1).committed - (countsAt p x.1).reservedOut - d.floor := by
  have eq := greedyBreakdown_eq (dnt := dnt) (p := p) (rest := greedyRest dnt p amount) (take := greedyTake dnt p amount)
    fun i d hd => greedyTake_spec hd
  rw [show greedyRest dnt p amount 0 = amount from rfl, h] at eq
  split at eq
  case isFalse => cases eq
  next done =>
  cases eq
  refine ⟨?_, fun x hx => ?_⟩
  · have sum := greedyRest_sum (dnt := dnt) (p := p) (amount := amount) le_rfl
    rw [done, Nat.add_zero] at sum
    rw [breakdownValue, List.map_map]
    exact sum
  · obtain ⟨i, hi, rfl⟩ := List.mem_map.1 hx
    obtain ⟨range, above⟩ := List.mem_filter.1 hi
    have inside := List.mem_range.1 range
    have some : dnt[i]? = some dnt[i] := List.getElem?_eq_getElem inside
    refine ⟨by simp, Nat.pos_of_ne_zero (by simpa using above), dnt[i], by simp, ?_⟩
    show greedyTake dnt p amount i ≤ _
    rw [(greedyTake_spec some).1]
    exact Nat.min_le_left _ _

/-- Settles O29: the rounding by the remainder, the greedy breakdown by what remains before each denomination. -/
theorem roundingAndBreakdown : Obligations.RoundingAndBreakdown :=
  ⟨fun _ _ h => roundAmount_spec h,
    fun _ _ _ _ _ first h => by rw [← first]; exact greedyBreakdown_eq h,
    fun _ _ _ _ h => greedyBreakdown_pays h⟩

end Sys2Proof.Machine
end

section
/-! SUPPORT. What reservation, posting, release and the judgement of EXCESS_CASH do, figure by figure. -/

namespace Sys2Proof.Machine
open Sys2Proof

/-! ## Flags -/

theorem flagSet_raiseWith_eq (f g : EventFlag) (st : Option Station) (s : State) :
    flagSet g (raiseWith f st s).mrs.flags = (flagSet g s.mrs.flags || decide (g = f)) := by
  have set : (raiseWith f st s).mrs.flags = setFlag f s.mrs.flags := by
    unfold raiseWith
    dsimp only
    split <;> simp
  rw [set, flagSet_setFlag]

theorem flagSet_raise_eq (f g : EventFlag) (s : State) :
    flagSet g (raise f s).mrs.flags = (flagSet g s.mrs.flags || decide (g = f)) := flagSet_raiseWith_eq f g none s

theorem flagSet_raiseIf_eq (b : Bool) (f g : EventFlag) (s : State) :
    flagSet g (raiseIf b f s).mrs.flags = (flagSet g s.mrs.flags || (b && decide (g = f))) := by
  unfold raiseIf
  split
  · next hb => rw [flagSet_raise_eq, hb, Bool.true_and]
  · next hb => rw [Bool.eq_false_iff.2 hb, Bool.false_and, Bool.or_false]

/-- A flag outside the notify set places no notice. -/
theorem blc_raise {f : EventFlag} (h : notifies f = false) (s : State) : (raise f s).blc = s.blc := by
  simp [raise, raiseWith, h]

theorem blc_raiseIf {f : EventFlag} (h : notifies f = false) (b : Bool) (s : State) : (raiseIf b f s).blc = s.blc := by
  unfold raiseIf
  split
  · exact blc_raise h s
  · rfl

/-! ## EXCESS_CASH (R47) -/

/-- What EXCESS_CASH of a drawer is judged to be. -/
def excessJudged (l : TltRec) (p : Position) : Bool := decide (l.softLimit < p.total)

/-- The judgement leaves all as it was, or replaces the drawer's flag, raises the event flag with it and recomposes the
station's status line. -/
theorem evaluateExcess_eq {st : Station} {n : Nat} {l : TltRec} {s : State} (h : tellerRecord n s = some l) :
    evaluateExcess st n s =
      if excessJudged l (drawerOf st s) = (drawerOf st s).excess then s
      else refresh st (raiseIf (excessJudged l (drawerOf st s)) .excessCash
        (setPosition (some st) { drawerOf st s with excess := excessJudged l (drawerOf st s) } s)) := by
  have soft : softLimit n s = some l.softLimit := by rw [softLimit, h]; rfl
  unfold evaluateExcess
  rw [soft]
  unfold excessJudged
  dsimp only
  by_cases above : l.softLimit < (drawerOf st s).total <;> cases he : (drawerOf st s).excess <;> simp [above, raiseIf]

theorem evaluateExcess_none {st : Station} {n : Nat} {s : State} (h : tellerRecord n s = none) : evaluateExcess st n s = s := by
  simp [evaluateExcess, softLimit, h]

/-- The drawer that the judgement leaves. -/
theorem positionOf_evaluateExcess {st : Station} {n : Nat} {l : TltRec} {s : State} (h : tellerRecord n s = some l)
    (p : Option Station) : positionOf p (evaluateExcess st n s) =
      if p = some st then { drawerOf st s with excess := excessJudged l (drawerOf st s) } else positionOf p s := by
  rw [evaluateExcess_eq h]
  split
  · next same =>
    split
    · next hp => subst hp; rw [same]; rfl
    · rfl
  · have csh : (refresh st (raiseIf (excessJudged l (drawerOf st s)) .excessCash
        (setPosition (some st) { drawerOf st s with excess := excessJudged l (drawerOf st s) } s))).csh =
        (setPosition (some st) { drawerOf st s with excess := excessJudged l (drawerOf st s) } s).csh := by simp
    have same : ∀ {u v : State}, u.csh = v.csh → positionOf p u = positionOf p v := fun k => by
      unfold positionOf drawerOf; rw [k]
    rw [same csh, positionOf_setPosition]

theorem drawerOf_evaluateExcess {st : Station} {n : Nat} {l : TltRec} {s : State} (h : tellerRecord n s = some l) :
    drawerOf st (evaluateExcess st n s) = { drawerOf st s with excess := excessJudged l (drawerOf st s) } := by
  have := positionOf_evaluateExcess h (st := st) (some st)
  rwa [if_pos rfl] at this

/-- Whatever the TLT holds, the judgement changes no other position and nothing but the flag of the drawer. -/
theorem evaluateExcess_positions (st : Station) (n : Nat) (s : State) :
    sameButExcess (drawerOf st (evaluateExcess st n s)) (drawerOf st s) ∧
      ∀ p, p ≠ some st → positionOf p (evaluateExcess st n s) = positionOf p s := by
  cases h : tellerRecord n s with
  | none => rw [evaluateExcess_none h]; exact ⟨rfl, fun _ _ => rfl⟩
  | some l => exact ⟨by rw [drawerOf_evaluateExcess h]; rfl, fun p hp => by rw [positionOf_evaluateExcess h, if_neg hp]⟩

theorem flagSet_evaluateExcess {st : Station} {n : Nat} {l : TltRec} {s : State} (h : tellerRecord n s = some l)
    (f : EventFlag) : flagSet f (evaluateExcess st n s).mrs.flags =
      (flagSet f s.mrs.flags || (decide (f = .excessCash) && (excessJudged l (drawerOf st s) && !(drawerOf st s).excess))) := by
  rw [evaluateExcess_eq h]
  split
  · next same => rw [same]; simp
  · next differ =>
    have flags : (refresh st (raiseIf (excessJudged l (drawerOf st s)) .excessCash
        (setPosition (some st) { drawerOf st s with excess := excessJudged l (drawerOf st s) } s))).mrs.flags =
        (raiseIf (excessJudged l (drawerOf st s)) .excessCash
        (setPosition (some st) { drawerOf st s with excess := excessJudged l (drawerOf st s) } s)).mrs.flags := by simp
    rw [flags, flagSet_raiseIf_eq]
    cases hx : excessJudged l (drawerOf st s) <;> cases he : (drawerOf st s).excess <;> simp_all

theorem raisedOnly_evaluateExcess {fs : List EventFlag} (h : .excessCash ∈ fs) (st : Station) (n : Nat) (s : State) :
    raisedOnly fs s (evaluateExcess st n s) := by
  cases hl : tellerRecord n s with
  | none => rw [evaluateExcess_none hl]; exact raisedOnly_refl _ s
  | some l =>
    rw [evaluateExcess_eq hl]
    split
    · exact raisedOnly_refl _ s
    · have raised := raisedOnly_raiseIf h (excessJudged l (drawerOf st s))
        (setPosition (some st) { drawerOf st s with excess := excessJudged l (drawerOf st s) } s)
      exact raisedOnly_of_eq (raisedOnly_from raised (by simp) (by simp)) (by simp) (by simp)

@[simp] theorem blc_evaluateExcess (st : Station) (n : Nat) (s : State) : (evaluateExcess st n s).blc = s.blc := by
  cases hl : tellerRecord n s with
  | none => rw [evaluateExcess_none hl]
  | some l =>
    rw [evaluateExcess_eq hl]
    split
    · rfl
    · have raised := blc_raiseIf (f := .excessCash) rfl (excessJudged l (drawerOf st s))
        (setPosition (some st) { drawerOf st s with excess := excessJudged l (drawerOf st s) } s)
      simpa using raised

/-- The judgement recomposes the screen of its own station alone. -/
theorem otherScreens_evaluateExcess (st : Station) (n : Nat) (s : State) : otherScreens st s (evaluateExcess st n s) := by
  refine ⟨by simp, by simp, fun x hx => ?_⟩
  cases hl : tellerRecord n s with
  | none => rw [evaluateExcess_none hl]
  | some l =>
    rw [evaluateExcess_eq hl]
    split
    · rfl
    · rw [contextOf_refresh, if_neg hx]
      exact contextOf_congr x (by simp)

theorem excessFollows_evaluateExcess (st : Station) (n : Nat) (s : State) : excessFollows st n s (evaluateExcess st n s) := by
  intro l hl
  rw [drawerOf_evaluateExcess hl, flagSet_evaluateExcess hl]
  refine ⟨rfl, ?_⟩
  simp [excessJudged, and_comm]

/-- A drawer whose flag stands is judged as it would have been before. -/
theorem excessFollows_from {st : Station} {n : Nat} {s t u : State} (h : excessFollows st n t u) (hl : tellerRecord n t = tellerRecord n s)
    (he : (drawerOf st t).excess = (drawerOf st s).excess)
    (hf : flagSet .excessCash t.mrs.flags = flagSet .excessCash s.mrs.flags) : excessFollows st n s u := by
  intro l k
  have := h l (hl.trans k)
  rwa [he, hf] at this

/-! ## Posting (R44, R45) -/

theorem activated_eq (p : Position) : activated p = { p with state := if p.state = .suspect then .suspect else .active } := by
  unfold activated
  cases h : p.state with
  | notOpened | balanced => simp
  | active => simp only [reduceCtorEq, if_false]; rw [← h]
  | suspect => simp only [if_true]; rw [← h]

theorem satAdd_eq (a b : Int) : satAdd a b =
    if a = 999999999999 ∨ a = -999999999999 then a else max (-999999999999) (min 999999999999 (a + b)) := by
  have top : (Config.topTotal : Int) = 999999999999 := rfl
  unfold satAdd totalSaturated
  rw [top]
  simp only [Bool.or_eq_true, decide_eq_true_eq]
  split
  · rfl
  · split <;> (try split) <;> omega

theorem postedFigures_excess (g : Leg) (p : Position) : (postedFigures g p).excess = p.excess := by
  unfold postedFigures
  dsimp only
  rw [activated_eq]
  split <;> rfl

theorem postedFigures_eq {g : Leg} {p : Position} (h : g.dir = .cashIn ∨ g.dir = .cashOut) :
    postedFigures g p = { p with
      cashIn := if g.dir = .cashIn then satAdd p.cashIn (g.rounded : Int) else p.cashIn
      cashOut := if g.dir = .cashOut then satAdd p.cashOut (g.rounded : Int) else p.cashOut
      rounding := satAdd p.rounding (if g.dir = .cashIn then roundingDifference g else -roundingDifference g)
      txCount := satCount Config.topCounter p.txCount
      state := if p.state = .suspect then .suspect else .active } := by
  unfold postedFigures
  dsimp only
  rw [activated_eq]
  rcases h with h | h <;> rw [h] <;> rfl

/-- A leg's counts move without the flag. -/
theorem legCounts_excess (g : Leg) (p : Position) :
    (postedCounts g p).excess = p.excess ∧ (standinCounts g p).excess = p.excess := by
  unfold postedCounts standinCounts
  cases g.dir <;> exact ⟨rfl, rfl⟩

theorem postingSaturates_iff {g : Leg} {p : Position} (h : g.dir = .cashIn ∨ g.dir = .cashOut) :
    postingSaturates g p = true ↔
      999999999999 < ((if g.dir = .cashIn then p.cashIn else p.cashOut) + (g.rounded : Int)).natAbs ∨
        999999999999 < (p.rounding + (if g.dir = .cashIn then roundingDifference g else -roundingDifference g)).natAbs ∨
        65535 ≤ p.txCount := by
  have past : ∀ a b : Int, satOver a b = true ↔ 999999999999 < (a + b).natAbs := fun a b => by
    have top : (Config.topTotal : Int) = 999999999999 := rfl
    unfold satOver
    rw [top]
    simp only [Bool.or_eq_true, decide_eq_true_eq]
    omega
  have full : decide (Config.topCounter ≤ p.txCount) = true ↔ 65535 ≤ p.txCount := decide_eq_true_iff
  unfold postingSaturates
  dsimp only
  rcases h with h | h <;> simp only [h, Bool.or_eq_true, past, full, or_assoc, if_true, if_false, reduceCtorEq]

/-- A posting of either kind: the drawer's figures, then COUNTER_SATURATED, then EXCESS_CASH. -/
theorem postAt_follows {st : Station} {n : Nat} {g : Leg} {counts : Leg → Position → Position} {s t : State}
    (hc : ∀ p, (counts g p).excess = p.excess) (ht : t = postAt st n g counts s) :
    excessFollows st n s t ∧
      (flagSet .counterSaturated t.mrs.flags = true ↔
        flagSet .counterSaturated s.mrs.flags = true ∨ postingSaturates g (drawerOf st s) = true) := by
  subst ht
  let posted := setPosition (some st) (postedFigures g (retotal (facesOf s) (counts g (drawerOf st s)))) s
  let raised := raiseIf (postingSaturates g (drawerOf st s)) .counterSaturated posted
  have flags : ∀ f, flagSet f raised.mrs.flags =
      (flagSet f s.mrs.flags || (postingSaturates g (drawerOf st s) && decide (f = .counterSaturated))) := fun f =>
    flagSet_raiseIf_eq _ _ f posted
  have csh : raised.csh = posted.csh := by simp [raised]
  have drawer : drawerOf st raised = postedFigures g (retotal (facesOf s) (counts g (drawerOf st s))) := by
    have := congrArg (fun c : Csh => c.drawers.get st) csh
    exact this.trans (by simp [posted, setPosition])
  have record : tellerRecord n raised = tellerRecord n s := by simp [tellerRecord, raised, posted]
  refine ⟨excessFollows_from (excessFollows_evaluateExcess st n raised) record ?_ (by simp [flags]), ?_⟩
  · rw [drawer, postedFigures_excess]
    exact hc _
  · show flagSet .counterSaturated (evaluateExcess st n raised).mrs.flags = true ↔ _
    have kept : flagSet .counterSaturated (evaluateExcess st n raised).mrs.flags = flagSet .counterSaturated raised.mrs.flags :=
      (raisedOnly_evaluateExcess (fs := [.excessCash]) (by simp) st n raised).2.2.1 _ (by simp)
    rw [kept, flags]
    simp

/-! ## Reservation and release (R42, R46) -/

theorem movePairs_movePairs {f g : Counts → Nat → Counts} {b : Breakdown} {p : Position} (h : ∀ c n, g (f c n) n = c) :
    movePairs g b (movePairs f b p) = p := by
  have all : ∀ (cs : List Counts) (i : Nat), applyPairs g b i (applyPairs f b i cs) = cs := by
    intro cs
    induction cs with
    | nil => intro _; rfl
    | cons c rest ih => intro i; rw [applyPairs, applyPairs, h, ih]
  show ({ p with counts := applyPairs g b 1 (applyPairs f b 1 p.counts) } : Position) = p
  rw [all]

theorem releasedPosition_reserved (g : Leg) (p : Position) : releasedPosition g (reservedPosition g p) = p := by
  unfold releasedPosition reservedPosition
  cases g.dir with
  | noCash => rfl
  | cashIn => exact movePairs_movePairs fun c n => by simp
  | cashOut => exact movePairs_movePairs fun c n => by simp

theorem reservedPosition_counts (g : Leg) (p : Position) : { reservedPosition g p with counts := p.counts } = p := by
  unfold reservedPosition
  cases g.dir <;> rfl

/-- Settles O30, each figure by its own rule: the additions of R54, the posting of R44, the judgement of R47, and the counts of
the leg's own denominations. -/
theorem reservationPostingAndRelease : Obligations.ReservationPostingAndRelease := by
  refine ⟨satAdd_eq, ?_, fun _ _ => rfl, ?_, ?_, ?_⟩
  · intro g p r d hr hd hdir
    subst hr hd
    exact postedFigures_eq hdir
  · intro st n g s t p r d hp ht hr hd hdir
    subst hp hr hd
    rw [show (g.rounded : Int) - (g.exact : Int) = roundingDifference g from rfl,
      ← postingSaturates_iff hdir]
    rcases ht with ht | ht
    · exact postAt_follows (fun p => (legCounts_excess g p).1) ht
    · exact postAt_follows (fun p => (legCounts_excess g p).2) ht
  · intro st n s t l ht hl
    subst ht
    obtain ⟨same, others⟩ := evaluateExcess_positions st n s
    refine ⟨excessFollows_evaluateExcess st n s, same, others, fun h => ?_, fun h => ?_⟩
    · rw [drawerOf_evaluateExcess hl] at h
      rw [evaluateExcess_eq hl, if_pos h]
    · refine ⟨by simp [keeps], otherScreens_evaluateExcess st n s, raisedOnly_evaluateExcess (by simp) st n s, ?_⟩
      rw [drawerOf_evaluateExcess hl] at h
      rw [evaluateExcess_eq hl, if_neg h, contextOf_refresh, if_pos rfl]
      rw [contextOf_congr (s := s) st (by simp)]
      congr 1
      funext c
      exact (recomposed_refresh _ _ _ c).symm
  · intro g p
    refine ⟨releasedPosition_reserved g p, reservedPosition_counts g p, fun i h1 h2 => ⟨fun hd => ?_, fun hd => ?_⟩⟩ <;>
      simp only [reservedPosition, postedCounts, standinCounts, hd, countsAt_movePairs h1 h2, and_self]

end Sys2Proof.Machine
end

section
/-! SUPPORT. What a composition shows and leaves (R65 to R70), the state that the delivery of a drop's frame leaves (R170), and
the form call (R66). -/

namespace Sys2Proof.Machine
open Sys2Proof

/-! ## Compositions -/

theorem otherScreens_refl (st : Station) (s : State) : otherScreens st s s := ⟨rfl, rfl, fun _ _ => rfl⟩

theorem otherScreens_trans {st : Station} {s t u : State} (h : otherScreens st s t) (k : otherScreens st t u) :
    otherScreens st s u := by
  obtain ⟨h1, h2, h3⟩ := h
  obtain ⟨k1, k2, k3⟩ := k
  exact ⟨k1.trans h1, k2.trans h2, fun x hx => (k3 x hx).trans (h3 x hx)⟩

theorem otherScreens_of {st : Station} {s t : State} (h : t.scm = s.scm) : otherScreens st s t := by
  refine ⟨by rw [h], by rw [h], fun x _ => ?_⟩
  unfold contextOf
  rw [h]

theorem otherScreens_composeWith (st : Station) (f : ScreenContext → ScreenContext) (s : State) :
    otherScreens st s (composeWith st f s) := by
  refine ⟨by simp, by simp, fun x hx => ?_⟩
  rw [contextOf_composeWith, if_neg hx]

/-- A context once a format has been composed there for input. -/
def inputContext (st : Station) (mode : ScreenMode) (number : Option Nat) (fields : List KeyField) (err : Option Nat)
    (message : Text) (s : State) (c : ScreenContext) : ScreenContext :=
  recomposed st s { c with
    mode := mode
    format := number
    shown := number.bind fun n => formatOf n s
    texts := match number.bind fun n => formatOf n s with
      | some f => keyedTexts (decimalsOf s) f fields
      | none => []
    errorTag := shownErrorTag (number.bind fun n => formatOf n s) err
    message := message }

theorem contextOf_composeInput (st a : Station) (mode : ScreenMode) (number : Option Nat) (fields : List KeyField)
    (err : Option Nat) (message : Text) (s : State) :
    contextOf a (composeInput st mode number fields err message s) =
      if a = st then (contextOf st s).map (inputContext st mode number fields err message s) else contextOf a s :=
  contextOf_composeWith st a _ s

theorem otherScreens_composeInput (st : Station) (mode : ScreenMode) (number : Option Nat) (fields : List KeyField)
    (err : Option Nat) (message : Text) (s : State) : otherScreens st s (composeInput st mode number fields err message s) :=
  otherScreens_composeWith st _ s

theorem screenShows_composeInput {st : Station} {mode : ScreenMode} {number : Option Nat} {fields : List KeyField}
    {err : Option Nat} {message : Text} {s : State} (h : (contextOf st s).isSome = true) :
    screenShows st mode message (composeInput st mode number fields err message s) := by
  obtain ⟨c, hc⟩ := Option.isSome_iff_exists.1 h
  have shown := contextOf_composeInput st st mode number fields err message s
  rw [if_pos rfl, hc] at shown
  exact ⟨_, shown, rfl, rfl, rfl, rfl⟩

theorem screenShows_composeResult {st : Station} {number : Nat} {info : ResultInfo} {message : Text} {s : State}
    (h : (contextOf st s).isSome = true) : screenShows st .result message (composeResult st number info message s) := by
  obtain ⟨c, hc⟩ := Option.isSome_iff_exists.1 h
  have shown := contextOf_composeResult st st number info message s
  rw [if_pos rfl, hc] at shown
  exact ⟨_, shown, rfl, rfl, rfl, rfl⟩

/-- A screen shows what it shows in any state with the same context. -/
theorem screenShows_congr {st : Station} {mode : ScreenMode} {message : Text} {s t : State} (h : screenShows st mode message s)
    (hc : contextOf st t = contextOf st s) : screenShows st mode message t := by
  obtain ⟨c, k, rest⟩ := h
  exact ⟨c, hc.trans k, rest⟩

/-- A context with a message, both images waiting to be sent. -/
def shows (message : Text) (c : ScreenContext) : Prop :=
  c.message = message ∧ c.terminalPending = true ∧ c.mirrorPending = true

theorem composeWith_shows {st : Station} {f : ScreenContext → ScreenContext} {message : Text} {s : State} {c : ScreenContext}
    (hc : contextOf st s = some c) (hf : (f c).message = message) :
    ∃ c', contextOf st (composeWith st f s) = some c' ∧ shows message c' := by
  refine ⟨recomposed st s (f c), ?_, hf, rfl, rfl⟩
  rw [contextOf_composeWith, if_pos rfl, hc]
  rfl

/-- A refusal shows its message at its own station, and leaves every other screen. -/
theorem refusalScreen_shows {st : Station} {r : KeyRequest} {why : Reason} {s : State} {c : ScreenContext}
    (hc : contextOf st s = some c) :
    ∃ c', contextOf st (refusalScreen st r why s) = some c' ∧ shows (refusalMessage why) c' := by
  unfold refusalScreen
  split
  · exact composeWith_shows hc rfl
  · split
    · split
      · exact composeWith_shows hc rfl
      · exact composeWith_shows hc rfl
    · exact composeWith_shows hc rfl

theorem otherScreens_refusalScreen (st : Station) (r : KeyRequest) (why : Reason) (s : State) :
    otherScreens st s (refusalScreen st r why s) := by
  unfold refusalScreen
  split
  · exact otherScreens_composeWith _ _ _
  · split
    · split
      · exact otherScreens_composeInput _ _ _ _ _ _ _
      · exact otherScreens_composeWith _ _ _
    · exact otherScreens_composeWith _ _ _

/-! ## Delivery (R170) -/

/-- The state with another receive buffer at a line. -/
def rebuffered (st : Station) (buffer : List (Drop × DropFrame)) (s : State) : State :=
  onLine st (fun l => { l with buffer := buffer }) s

/-- A delivery changes the buffer of its own line, or nothing. -/
theorem delivered_rebuffered {st : Station} {d : Drop} {f : DropFrame} {s t : State} (h : delivered st d f s = some t) :
    ∃ buffer, t = rebuffered st buffer s := by
  obtain ⟨-, ⟨-, rfl⟩ | ⟨rest, -, rfl⟩⟩ := delivered_cases h
  · exact ⟨(lineOf st t).buffer, (setLine_self rfl).symm⟩
  · exact ⟨rest, rfl⟩

@[simp] theorem rebuffered_keeps (st : Station) (b : List (Drop × DropFrame)) (s : State) :
    (rebuffered st b s).pending = s.pending ∧ (rebuffered st b s).uptime = s.uptime ∧ (rebuffered st b s).ttr = s.ttr ∧
      (rebuffered st b s).csh = s.csh ∧ (rebuffered st b s).scm = s.scm ∧ (rebuffered st b s).pbk = s.pbk ∧
      (rebuffered st b s).sda = s.sda ∧ (rebuffered st b s).jrn = s.jrn ∧ (rebuffered st b s).day = s.day ∧
      (rebuffered st b s).tbl = s.tbl ∧ (rebuffered st b s).slc.samples = s.slc.samples ∧ (rebuffered st b s).blc = s.blc ∧
      (rebuffered st b s).mrs = s.mrs ∧ (rebuffered st b s).rts = s.rts := by
  simp [rebuffered]

@[simp] theorem lineOf_rebuffered (st a : Station) (b : List (Drop × DropFrame)) (s : State) :
    lineOf a (rebuffered st b s) = if a = st then { lineOf st s with buffer := b } else lineOf a s :=
  lineOf_onLine st a _ s

/-- What reads neither a line nor the samples reads alike. -/
@[simp] theorem reads_rebuffered (st : Station) (b : List (Drop × DropFrame)) (s : State) :
    (∀ a, contextOf a (rebuffered st b s) = contextOf a s) ∧ (∀ a, tellerAt a (rebuffered st b s) = tellerAt a s) ∧
      (∀ n, codeRecord n (rebuffered st b s) = codeRecord n s) ∧ (∀ n, formatOf n (rebuffered st b s) = formatOf n s) ∧
      (∀ n, tellerRecord n (rebuffered st b s) = tellerRecord n s) ∧ decimalsOf (rebuffered st b s) = decimalsOf s ∧
      facesOf (rebuffered st b s) = facesOf s ∧ (∀ a, drawerOf a (rebuffered st b s) = drawerOf a s) ∧
      (∀ p, positionOf p (rebuffered st b s) = positionOf p s) ∧ (∀ a, printerOf a (rebuffered st b s) = printerOf a s) ∧
      ∀ a, nextNumber a (rebuffered st b s) = nextNumber a s := by
  refine ⟨?_, ?_, ?_, ?_, ?_, ?_, ?_, ?_, fun p => ?_, ?_, ?_⟩ <;> intros <;> (try cases p) <;> rfl

/-! ## The form call (R66) -/

/-- The screen that a form call leaves at its own station. -/
theorem takeFormCall_shows {st : Station} {code : Nat} {s : State} {c : ScreenContext} (hc : contextOf st s = some c) :
    ∃ c', contextOf st (takeFormCall st code s) = some c' ∧ c'.terminalPending = true ∧ c'.mirrorPending = true ∧
      (codeRecord code s = none →
        c'.message = "UNKNOWN CODE".toList ∧ c'.mode = c.mode ∧ c'.format = c.format ∧ c'.shown = c.shown ∧
          c'.texts = c.texts ∧ c'.errorTag = c.errorTag) ∧
      ∀ rec, codeRecord code s = some rec →
        (tellerAt st s = none → rec.localAction ≠ some .signOn →
          c'.message = "NOT SIGNED ON".toList ∧ c'.mode = c.mode ∧ c'.format = c.format ∧ c'.shown = c.shown ∧
            c'.texts = c.texts ∧ c'.errorTag = c.errorTag) ∧
        ((tellerAt st s ≠ none ∨ rec.localAction = some .signOn) →
          c'.mode = .form ∧ c'.format = some rec.requestFormat ∧ c'.shown = formatOf rec.requestFormat s ∧
            (∀ x ∈ c'.texts, x = []) ∧ c'.errorTag = none ∧ c'.message = []) := by
  have kept : ∀ message, contextOf st (composeWith st (fun c => { c with message := message }) s) =
      some (recomposed st s { c with message := message }) := fun message => by
    rw [contextOf_composeWith, if_pos rfl, hc]; rfl
  unfold takeFormCall
  cases hr : codeRecord code s with
  | none => exact ⟨_, kept _, rfl, rfl, fun _ => ⟨rfl, rfl, rfl, rfl, rfl, rfl⟩, fun _ h => by cases h⟩
  | some rec =>
    dsimp only
    split
    · next refused =>
      refine ⟨_, kept _, rfl, rfl, fun h => (by cases h), fun rec' h => ?_⟩
      cases h
      refine ⟨fun _ _ => ⟨rfl, rfl, rfl, rfl, rfl, rfl⟩, fun h => ?_⟩
      rcases h with h | h
      · exact absurd refused.1 h
      · exact absurd h refused.2
    · next carried =>
      have shown := contextOf_composeInput st st .form (some rec.requestFormat) [] none [] s
      rw [if_pos rfl, hc] at shown
      refine ⟨_, shown, rfl, rfl, fun h => (by cases h), fun rec' h => ?_⟩
      cases h
      refine ⟨fun h k => absurd ⟨h, k⟩ carried, fun _ => ⟨rfl, rfl, rfl, ?_, ?_, rfl⟩⟩
      · intro x hx
        simp only [inputContext, recomposed, Option.bind_some] at hx
        cases hf : formatOf rec.requestFormat s with
        | none => rw [hf] at hx; cases hx
        | some f =>
          rw [hf] at hx
          obtain ⟨y, -, rfl⟩ := List.mem_map.1 hx
          simp [fieldText]
      · simp only [inputContext, recomposed, Option.bind_some, shownErrorTag]
        split <;> simp_all

theorem otherScreens_takeFormCall (st : Station) (code : Nat) (s : State) : otherScreens st s (takeFormCall st code s) := by
  unfold takeFormCall
  split
  · exact otherScreens_composeWith _ _ _
  · split
    · exact otherScreens_composeWith _ _ _
    · exact otherScreens_composeInput _ _ _ _ _ _ _

/-- Settles O23: a form call that waits leaves the state; one that is delivered composes its station's screen alone. -/
theorem formCallIsJudged : Obligations.FormCallIsJudged := by
  intro st code s
  have run : exec (.formCall st code) s = execFormCall st code s := rfl
  refine ⟨fun h => by rw [run, execFormCall, h], fun s1 h => ?_⟩
  obtain ⟨b, rfl⟩ := delivered_rebuffered h
  refine ⟨takeFormCall st code (rebuffered st b s), by rw [run, execFormCall, h], by simp [keeps], by simp,
    otherScreens_trans (otherScreens_of (by simp)) (otherScreens_takeFormCall st code _), fun c hc => ?_⟩
  have shown := takeFormCall_shows (st := st) (code := code) (s := rebuffered st b s) (c := c) (by simpa using hc)
  simpa using shown

end Sys2Proof.Machine
end

section
/-! SUPPORT. The breakdown tags end at 63 (R35), so that the model reads 16 counts at most, while the statements of the cash checks,
of a transfer and of a balancing read one for every denomination of the active DNT. They part in a state whose DNT holds a
17th denomination: no commit leaves such a table (R157), but the statements speak of every state. -/

namespace Sys2Proof.Machine
open Sys2Proof

/-! ## A branch with 17 denominations -/

/-- A format with an amount and a text field for each tag from 48 to 64. -/
def wideForm : SftFormat :=
  { number := 1, kind := .input, title := []
    fields := ⟨9, 1, 1, 5, 0, .amount, false, .replyTag⟩ ::
      (List.range 17).map fun i => ⟨48 + i, 1, 1, 5, 0, .text, false, .replyTag⟩ }

/-- A code of the wide branch. -/
def wideCode (code : Nat) (routing : Routing) (action : Option LocalAction) (dir : CashDirection) : TctRec :=
  { code := code, name := [], routing := routing, localAction := action, dayClass := .admin, minAuthority := .teller,
    requestFormat := 1, approveFormat := 1, declineFormat := 1, cashDirection := dir, replyTimeout := 30, offlineCeiling := 0,
    passbookUse := .notUsed, accountTag := 0, amountTag := if dir = .noCash then 0 else 9 }

/-- A position with one piece of each of the 17 denominations. -/
def widePosition : Position := { Position.cold with state := .active, counts := List.replicate 17 ⟨1, 0, 0⟩, total := 17 }

/-- An open day, the link UP, teller 1 at station 1, and 17 denominations of face 1. -/
def wideBranch : State :=
  { State.reset with
    csh := { drawers := Eight.fill widePosition, reserve := widePosition }
    scm := { State.reset.scm with signOn := (Eight.fill none).set .s1 (some 1) }
    day := { State.reset.day with state := .opened, date := some ⟨2031, 3, 31⟩ }
    tbl := { State.reset.tbl with
      tct := [wideCode 1 .localCode (some .toReserve) .noCash, wideCode 2 .localCode (some .balance) .noCash,
              wideCode 3 .online none .cashIn]
      sft := [wideForm]
      dnt := List.replicate 17 ⟨1, .note, 0⟩
      tlt := [{ teller := 1, authority := .teller, softLimit := 1000, hardLimit := 1000, standinCeiling := 0 }] }
    slc := { State.reset.slc with
      lines := (Eight.fill Line.cold).set .s1 { Line.cold with setup := { LineSetup.cold with role := .teller } } }
    blc := { State.reset.blc with link := .up } }

/-- One piece of the first denomination and five under tag 64. -/
def wideFields : List KeyField := [⟨48, ['1']⟩, ⟨64, ['5']⟩]

/-- The same behind an amount of 1. -/
def wideDeposit : List KeyField := ⟨9, ['1']⟩ :: wideFields

/-- A count for each of the tags 48 to 64, the first no number. -/
def wideCounts : List KeyField := (List.range 17).map fun i => ⟨48 + i, if i = 0 then ['X'] else ['1']⟩

/-- The code 1 asks for a transfer, 2 for a balancing; 3 is a deposit of 1. -/
def wideRequest (code : Nat) (fields : List KeyField) : KeyRequest := { form := 1, code := code, fields := fields }

theorem delivered_wide (r : KeyRequest) : delivered .s1 .d1 (.keyRequest r) wideBranch = some wideBranch := rfl

theorem judgeSettle_of_open {s : State} (h : s.day.state ≠ .cutoff) : judgeSettle s = s := by
  unfold judgeSettle
  rw [if_neg fun k => h k.1]

/-! ## The refutations -/

/-- Refutes O31: the transfer of the wide branch takes its one keyed piece, and the statement reads five more under tag 64. -/
theorem not_transferKeepsTheCash : ¬ Obligations.TransferKeepsTheCash := by
  intro h
  obtain ⟨-, carried⟩ := h
  have passes : passesIntake .s1 (wideRequest 1 wideFields) (wideCode 1 .localCode (some .toReserve) .noCash) wideForm ⟨none, none⟩
      wideBranch := by unfold passesIntake; decide +kernel
  obtain ⟨-, keyed, -⟩ := carried true .s1 (wideRequest 1 wideFields) wideBranch wideBranch _ _ _ 1 .toReserve wideFields
    (delivered_wide _) passes rfl (by decide +kernel) rfl rfl rfl (by decide +kernel)
  obtain ⟨⟨-, -, read⟩, -⟩ := keyed [(1, 1)] (by decide +kernel)
  exact absurd read (by decide +kernel)

/-- The entries' bodies after a run. -/
def bodiesAfter (o : Host.Outcome State Fault Refusal) : List EntryBody :=
  match o with
  | .next t => t.jrn.entries.map fun e => e.draft.body
  | _ => []

/-- Refutes O32: the balancing of the wide branch finds no count for the 17th denomination, while the statement finds the one of
tag 64, and refuses the first for its text. -/
theorem not_balancingDeclaresTheCounts : ¬ Obligations.BalancingDeclaresTheCounts := by
  intro h
  obtain ⟨-, carried⟩ := h
  have passes : passesIntake .s1 (wideRequest 2 wideCounts) (wideCode 2 .localCode (some .balance) .noCash) wideForm ⟨none, none⟩
      wideBranch := by unfold passesIntake; decide +kernel
  obtain ⟨balance, -⟩ := carried .s1 (wideRequest 2 wideCounts) wideBranch wideBranch _ _ _ 1 wideCounts
    (delivered_wide _) passes rfl (by decide +kernel) rfl (by decide +kernel)
  obtain ⟨-, -, refused⟩ := balance (some .s1) rfl rfl
  have fails : balanceFails (some .s1) wideCounts wideBranch .breakdownMismatch :=
    .inr ⟨by decide +kernel, .inl ⟨⟨⟨48, ['X']⟩, by decide +kernel, by decide, by decide, .inr fun v hv => by
      exact absurd hv (by simp [show readDecimal ['X'] = none by decide +kernel])⟩, rfl⟩⟩
  obtain ⟨u, run, keep, -, -, -, written, -⟩ := refused .breakdownMismatch (.inr fails)
  have day : u.day = wideBranch.day := by
    obtain ⟨-, -, -, -, -, -, -, -, day, -⟩ := keep
    exact day (by decide)
  have entry := (written ⟨by decide +kernel, by decide +kernel⟩).1
  rw [judgeSettle_of_open (by rw [day]; decide)] at run
  have body : bodiesAfter (exec (.keyRequest .s1 (wideRequest 2 wideCounts)) wideBranch) =
      [.localAction 1 2 .balance (some .breakdownRequired) 1] := by decide +kernel
  rw [run] at body
  have said : bodiesAfter (.next u) = [.localAction 1 2 .balance (some .breakdownMismatch) 1] := by
    show u.jrn.entries.map (fun e => e.draft.body) = _
    rw [entry]
    decide +kernel
  exact absurd (said.symm.trans body) (by decide)

/-- The open transactions after a run. -/
def openAfter (o : Host.Outcome State Fault Refusal) : Nat :=
  match o with
  | .next t => t.ttr.ott.length
  | _ => 0

/-- Refutes O19: the deposit of 1 at the wide branch is accepted with its one keyed piece, while the statement reads five more under
tag 64 and has it refused. -/
theorem not_refusedRequestChangesTheScreen : ¬ Obligations.RefusedRequestChangesTheScreen := by
  intro h
  have keyed : keyedBreakdown 17 wideDeposit [(1, 1), (17, 5)] :=
    ⟨⟨⟨48, ['1']⟩, by decide, by decide, by decide⟩, fun f hf h1 h2 => by
      rcases List.mem_cons.1 hf with rfl | hf
      · exact absurd h1 (by decide)
      · rcases List.mem_pair.1 hf with rfl | rfl
        · exact ⟨by decide, 1, by decide +kernel, by decide⟩
        · exact absurd h2 (by decide), by decide +kernel⟩
  have cash : cashFails .s1 1 .cashIn 1 wideDeposit wideBranch .breakdownMismatch :=
    .inr ⟨.inr (by decide +kernel), .inr ⟨by decide +kernel, 1, by decide +kernel, .inr (.inr ⟨[(1, 1), (17, 5)], keyed,
      .inl ⟨by decide +kernel, rfl⟩⟩)⟩⟩
  have later : refusedLater .s1 (wideRequest 3 wideDeposit) wideBranch .breakdownMismatch :=
    ⟨wideCode 3 .online none .cashIn, wideForm, ⟨some 1, none⟩, by decide +kernel, .inl (by decide +kernel), rfl, by decide +kernel,
      by decide +kernel, by decide +kernel, .inr (.inr ⟨by decide +kernel, by decide +kernel, 1, by decide +kernel,
        .inr ⟨by decide +kernel, .inr (.inr ⟨by decide +kernel, by decide +kernel, .inr ⟨fun k => absurd k (by decide),
          .inr (.inr (.inr ⟨.inl ⟨by decide +kernel, by decide +kernel⟩, 1, rfl, by decide, cash⟩))⟩⟩)⟩⟩)⟩
  obtain ⟨u, run, -, -, ttr, -⟩ := h .s1 (wideRequest 3 wideDeposit) wideBranch wideBranch .breakdownMismatch true
    (delivered_wide _) (.inr ⟨rfl, later⟩)
  have accepted : openAfter (exec (.keyRequest .s1 (wideRequest 3 wideDeposit)) wideBranch) = 1 := by decide +kernel
  rw [run] at accepted
  have same : (judgeSettle u).ttr.ott = [] := by simp [ttr, wideBranch, State.reset]
  have none : openAfter (.next (judgeSettle u)) = 0 := congrArg List.length same
  exact absurd (none.symm.trans accepted) (by decide)

end Sys2Proof.Machine
end

section
/-! SUPPORT. Entries written one after another (R118, R119); a late reply (R26), and a deadline (R24, R25). -/

namespace Sys2Proof.Machine
open Sys2Proof

/-! ## What two steps keep -/

theorem keeps_trans {bs : List Block} {s t u : State} (h : keeps bs s t) (k : keeps bs t u) : keeps bs s u := by
  obtain ⟨h1, h2, h3, h4, h5, h6, h7, h8, h9, h10, h11, h12, h13, h14⟩ := h
  obtain ⟨k1, k2, k3, k4, k5, k6, k7, k8, k9, k10, k11, k12, k13, k14⟩ := k
  exact ⟨k1.trans h1, k2.trans h2, fun b => (k3 b).trans (h3 b), fun b => (k4 b).trans (h4 b), fun b => (k5 b).trans (h5 b),
    fun b => (k6 b).trans (h6 b), fun b => (k7 b).trans (h7 b), fun b => (k8 b).trans (h8 b), fun b => (k9 b).trans (h9 b),
    fun b => (k10 b).trans (h10 b), fun b => (k11 b).trans (h11 b), fun b => (k12 b).trans (h12 b),
    fun b => (k13 b).trans (h13 b), fun b => (k14 b).trans (h14 b)⟩

theorem keeps_mono {bs cs : List Block} {s t : State} (h : keeps bs s t) (k : ∀ b ∈ bs, b ∈ cs) : keeps cs s t := by
  obtain ⟨h1, h2, h3, h4, h5, h6, h7, h8, h9, h10, h11, h12, h13, h14⟩ := h
  have out : ∀ {b}, b ∉ cs → b ∉ bs := fun hb hx => hb (k _ hx)
  exact ⟨h1, h2, fun b => h3 (out b), fun b => h4 (out b), fun b => h5 (out b), fun b => h6 (out b), fun b => h7 (out b),
    fun b => h8 (out b), fun b => h9 (out b), fun b => h10 (out b), fun b => h11 (out b), fun b => h12 (out b),
    fun b => h13 (out b), fun b => h14 (out b)⟩

/-- A block's record that is not among those named stands. -/
theorem keeps_stands {bs : List Block} {s t : State} (h : keeps bs s t) :
    (.ttr ∉ bs → t.ttr = s.ttr) ∧ (.csh ∉ bs → t.csh = s.csh) ∧ (.scm ∉ bs → t.scm = s.scm) ∧ (.pbk ∉ bs → t.pbk = s.pbk) ∧
      (.sda ∉ bs → t.sda = s.sda) ∧ (.jrn ∉ bs → t.jrn = s.jrn) ∧ (.day ∉ bs → t.day = s.day) ∧ (.tbl ∉ bs → t.tbl = s.tbl) ∧
      (.slc ∉ bs → t.slc = s.slc) ∧ (.blc ∉ bs → t.blc = s.blc) ∧ (.mrs ∉ bs → t.mrs = s.mrs) := by
  obtain ⟨-, -, h3, h4, h5, h6, h7, h8, h9, h10, h11, h12, h13, -⟩ := h
  exact ⟨h3, h4, h5, h6, h7, h8, h9, h10, h11, h12, h13⟩

/-! ## Entries written one after another -/

theorem entriesFrom_append (date : Option Date) (time : Stamp) (n : Nat) (ds es : List Draft) :
    entriesFrom date time n (ds ++ es) = entriesFrom date time n ds ++ entriesFrom date time (n + ds.length) es := by
  induction ds generalizing n with
  | nil => rfl
  | cons d rest ih =>
    simp only [List.cons_append, entriesFrom, ih, List.length_cons]
    rw [show n + 1 + rest.length = n + (rest.length + 1) by omega]

theorem journalAfter_nil (time : Stamp) (s : State) : journalAfter 0 time [] s = s.jrn := by
  simp [journalAfter, entriesFrom]

/-- One entry more, behind those written so far. -/
theorem journalAfter_snoc {k l : Nat} {time : Stamp} {ds : List Draft} {d : Draft} {s u v : State} (hw : wrote l d u v)
    (hu : u.jrn = journalAfter k time ds s) (fits : (ds.map draftSlots).sum ≤ s.jrn.free + k)
    (hdate : u.day.date = s.day.date) (hclock : u.mrs.clock = time) : v.jrn = journalAfter (k + l) time (ds ++ [d]) s := by
  unfold wrote at hw
  rw [hw, hu, hdate, hclock]
  simp only [journalAfter, entriesFrom_append, entriesFrom, List.map_append, List.map_cons, List.map_nil, List.sum_append,
    List.sum_cons, List.sum_nil, Nat.add_zero, List.length_append, List.length_singleton, List.append_assoc, Nat.sub_sub,
    ← Nat.add_assoc]
  congr 1
  omega

theorem journalAfter_one {k : Nat} {d : Draft} {s t : State} (h : wrote k d s t) : t.jrn = journalAfter k s.mrs.clock [d] s := by
  have := journalAfter_snoc h (k := 0) (ds := []) (journalAfter_nil _ s).symm (Nat.zero_le _) rfl rfl
  simpa using this

/-! ## A late reply (R26) -/

theorem queueReversal_sda (ref : Ref) (cause : ReversalCause) (dir : CashDirection) (n : Nat) (s : State) :
    (queueReversal ref cause dir n s).sda = { s.sda with
      queue := s.sda.queue ++ [.advice { number := adviceNumber s, body := .reversal ref cause dir n, sent := none }]
      nextAdvice := wrapNext 65535 (adviceNumber s) } := rfl

/-- A late approval has its REVERSAL queued, a late decline nothing. -/
theorem lateReply_eq (l : LateEntry) (approved : Bool) (s : State) : lateReply l approved s =
    endLate l (if approved then .lateApproval else .lateDecline)
      (if approved then queueReversal l.ref .lateApproval l.dir l.rounded s else s) := by
  cases approved <;> rfl

/-- Settles O26: the frame arrives, an approval's REVERSAL is queued, and the Late List entry ends. -/
theorem lateReplyReverses : Obligations.LateReplyReverses := by
  intro dest r s l hst ho hlines hn hl hseq
  have taken : takeReply dest (some r) (arrive s) = lateReply l (decide (r.outcome = 1)) (arrive s) :=
    takeReply_late hst ho hlines ((ottEntry_congr (by simp)).trans hn) ((lateEntry_congr (by simp)).trans hl)
  have named : l.ref = ⟨dest, r.seq⟩ := lateEntry_ref hl
  let v := if decide (r.outcome = 1) = true then queueReversal l.ref .lateApproval l.dir l.rounded (arrive s) else arrive s
  have keep : v.jrn = s.jrn ∧ v.day = s.day ∧ v.mrs = (arrive s).mrs ∧ v.blc = (arrive s).blc ∧ v.ttr = s.ttr ∧
      v.scm = (arrive s).scm := by
    simp only [v]
    split <;> simp
  obtain ⟨jrn, day, mrs, blc, ttr, scm⟩ := keep
  have clock : v.mrs.clock = s.mrs.clock := by rw [mrs]; simp
  have sda : v.sda = if r.outcome = 1 then
      { s.sda with
        queue := s.sda.queue ++
          [.advice { number := adviceNumber s, body := .reversal ⟨dest, r.seq⟩ .lateApproval l.dir l.rounded, sent := none }]
        nextAdvice := wrapNext 65535 (adviceNumber s) } else s.sda := by
    simp only [v, named, decide_eq_true_eq]
    split
    · rw [queueReversal_sda]; simp [adviceNumber]
    · simp
  have ends : takeReply dest (some r) (arrive s) = endLate l (if r.outcome = 1 then .lateApproval else .lateDecline) v := by
    rw [taken, lateReply_eq]
    simp only [decide_eq_true_eq, v]
  refine ⟨_, exec_reply _ _ _, ?_, ?_, ?_, ?_, ?_, ?_⟩
  · have reach : keeps [.scm, .sda, .blc, .mrs] s v := by
      simp only [v]
      split <;> simp [keeps]
    rw [ends]
    simp only [keeps, List.mem_cons, List.not_mem_nil, or_false, reduceCtorEq, not_false_eq_true, forall_const] at reach ⊢
    simp [reach]
  · rw [ends]; simp [scm]
  · rw [ends, endLate_ttr, ttr, named]
  · have written := endLate_wrote l (if r.outcome = 1 then .lateApproval else .lateDecline) (s := v) (by rw [jrn]; exact hseq)
    rw [ends]
    have draft := wrote_congr written jrn (by rw [day]) clock rfl (t := endLate l _ v)
    simpa [lateDraft, named, roundedPart] using draft
  · rw [ends, endLate_sda, sda]
  · rw [ends]; exact raisedOnly_from (raisedOnly_endLate l _ v) mrs blc

/-! ## A deadline (R24, R25) -/

theorem displaceOldest_room {s : State} (h : s.ttr.late.length < 16) : displaceOldest s = s := by
  unfold displaceOldest
  split
  · rfl
  · rw [if_neg (by simpa [Config.lateCapacity] using h)]

theorem displaceOldest_full {s : State} {l : LateEntry} {rest : List LateEntry} (h : s.ttr.late = l :: rest)
    (hl : 16 ≤ s.ttr.late.length) : displaceOldest s = endLate l .expired s := by
  unfold displaceOldest
  rw [h] at hl ⊢
  exact if_pos hl

theorem reserveSlots_jrn (n : Nat) (s : State) :
    (reserveSlots n s).jrn = { s.jrn with reserved := s.jrn.reserved + n, free := s.jrn.free - n } := by
  simp [reserveSlots]

theorem raisedOnly_reserveSlots {fs : List EventFlag} (h : .journalFull ∈ fs) (n : Nat) (s : State) :
    raisedOnly fs s (reserveSlots n s) := by
  unfold reserveSlots noteFree
  exact raisedOnly_from (raisedOnly_raiseIf h _ _) rfl rfl

/-- The state in which a timed-out transaction leaves the OTT, before the Late List takes it. -/
def timedOutEnd (e : OttEntry) (s : State) : State :=
  removeOtt e.ref (composeResult e.ref.station e.declineFormat (plainInfo e "NO REPLY".toList)
    (refMessage "NO REPLY".toList e.ref)
    (writeEntry Config.ottSlots (txnDraft e .timedOut []) (releaseLeg e.ref.station e.leg s)))

/-- The Late List with room for one more: as it was, or without its oldest entry, whose LATE entry has been written. -/
def roomMade (s : State) (kept gone : List LateEntry) (w : State) : Prop :=
  w.ttr = { s.ttr with late := kept } ∧ keeps [.ttr, .jrn, .blc, .mrs] s w ∧ raisedOnly journalFlags s w ∧
    (s.ttr.late.length < 16 → kept = s.ttr.late ∧ gone = []) ∧
    (∀ l rest, s.ttr.late = l :: rest → 16 ≤ s.ttr.late.length →
      kept = (s.ttr.late.filter fun x => x.ref ≠ l.ref) ∧ gone = [l]) ∧
    ∀ r k d, s.jrn = journalAfter k s.mrs.clock [d] r → s.day.date = r.day.date → draftSlots d ≤ k → s.jrn.nextSeq ≤ 4294967295 →
      w.jrn = journalAfter (k + 2 * gone.length) s.mrs.clock (d :: gone.map fun l => lateDraft l .expired) r

theorem displaceOldest_roomMade (s : State) : ∃ kept gone, roomMade s kept gone (displaceOldest s) := by
  by_cases h : s.ttr.late.length < 16
  · refine ⟨s.ttr.late, [], ?_⟩
    rw [displaceOldest_room h]
    exact ⟨rfl, keeps_refl _ s, raisedOnly_refl _ s, fun _ => ⟨rfl, rfl⟩, fun _ _ _ k => absurd h (by omega),
      fun r k d hj _ _ _ => hj⟩
  · cases hl : s.ttr.late with
    | nil => rw [hl] at h; exact absurd (Nat.zero_lt_succ 15) h
    | cons l rest =>
      refine ⟨s.ttr.late.filter fun x => x.ref ≠ l.ref, [l], ?_⟩
      rw [displaceOldest_full hl (by omega)]
      refine ⟨endLate_ttr l _ s, endLate_reach l _ s, raisedOnly_endLate l _ s, fun k => absurd k h, fun l' rest' h' _ => ?_,
        fun r k d hj hdate fits hseq => ?_⟩
      · rw [hl] at h'
        cases h'
        exact ⟨rfl, rfl⟩
      · have slots : ([d].map draftSlots).sum ≤ r.jrn.free + k := by simpa using Nat.le_add_left_of_le fits
        exact journalAfter_snoc (endLate_wrote l .expired hseq) hj slots hdate rfl

theorem timeOut_eq (e : OttEntry) (s : State) : timeOut e s =
    onTtr (fun t => { t with late := t.late ++ [lateOf e (timedOutEnd e s)] })
      (reserveSlots Config.lateSlots (displaceOldest (timedOutEnd e s))) := rfl

/-- Settles O27: the entry's own end, the room made in the Late List, and the two slots of its new entry. -/
theorem deadlineMovesToTheLateList : Obligations.DeadlineMovesToTheLateList := by
  intro ref s e deadline he ha hseq
  have named := ottEntry_ref he
  subst named
  have run : exec (.deadlineExpiry e.ref) s = .next (judgeSettle (timeOut e s)) := by
    show execDeadlineExpiry e.ref s = _
    simp only [execDeadlineExpiry, he, ha]
  let v := timedOutEnd e s
  have sequence : (releaseLeg e.ref.station e.leg s).jrn.nextSeq ≤ 4294967295 := by simp; omega
  have written : wrote 4 (txnDraft e .timedOut []) s v :=
    wrote_congr (writeEntry_wrote (s := releaseLeg e.ref.station e.leg s)
      ⟨(txnDraft_slots e _).trans (Nat.le_add_left _ _), sequence⟩)
      (by simp) (by simp) (by simp) (by simp [v, timedOutEnd, Config.ottSlots])
  have next : v.jrn.nextSeq = s.jrn.nextSeq + 1 := by unfold wrote at written; rw [written]
  have clock : v.mrs.clock = s.mrs.clock := by simp [v, timedOutEnd]
  obtain ⟨kept, gone, ttr, reach, raised, room, full, journal⟩ := displaceOldest_roomMade v
  have vttr : v.ttr = { s.ttr with ott := s.ttr.ott.filter fun x => x.ref ≠ e.ref } := by simp [v, timedOutEnd, removeOtt]
  have late : v.ttr.late = s.ttr.late := by rw [vttr]
  rw [late] at room full
  have vreach : keeps [.ttr, .csh, .scm, .sda, .jrn, .blc, .mrs] s v := by simp [keeps, v, timedOutEnd]
  have last : timeOut e s = onTtr (fun t => { t with late := t.late ++ [lateOf e v] })
      (reserveSlots Config.lateSlots (displaceOldest v)) := timeOut_eq e s
  have ends : keeps [.ttr, .jrn, .blc, .mrs] v (timeOut e s) := by
    refine keeps_trans reach ?_
    rw [last]
    simp [keeps]
  have vraised : raisedOnly journalFlags s v :=
    raisedOnly_of_eq (raisedOnly_from (raisedOnly_writeEntry Config.ottSlots (txnDraft e .timedOut [])
      (releaseLeg e.ref.station e.leg s)) (by simp) (by simp)) (by simp [v, timedOutEnd]) (by simp [v, timedOutEnd])
  obtain ⟨-, csh, scm, -, sda, -⟩ := keeps_stands ends
  replace csh := csh (by decide)
  replace scm := scm (by decide)
  replace sda := sda (by decide)
  have vcounted : countedFor (some e.teller) s v := by
    have counted := writeEntry_counted (k := 4) (d := txnDraft e .timedOut []) (s := releaseLeg e.ref.station e.leg s)
      ⟨(txnDraft_slots e _).trans (Nat.le_add_left _ _), sequence⟩
    simpa [countedFor, v, timedOutEnd, Config.ottSlots, countedTeller, txnDraft] using counted
  refine ⟨timeOut e s, run, keeps_trans vreach (keeps_mono ends (by decide)), ?_, ?_, ⟨kept, gone, ?_, room, full, ?_⟩,
    by rw [countedFor, sda]; exact vcounted, by rw [sda]; simp [v, timedOutEnd], fun p => ?_, ?_, ?_, fun hc => ?_⟩
  · rw [last]
    simp [ttr, vttr]
  · rw [last]
    simp [ttr, vttr]
  · have time : v.uptime = s.uptime := by simp [v, timedOutEnd]
    rw [last]
    simp [ttr, lateOf, entryRounded, millisAhead, Config.lateWindow, time]
  · intro drafts after hd hafter
    have jrn := journal s 4 (txnDraft e .timedOut []) ((journalAfter_one written).trans (by rw [clock])) (by simp [v, timedOutEnd])
      (txnDraft_slots e _) (by omega)
    have same : (timeOut e s).jrn = (reserveSlots Config.lateSlots (displaceOldest v)).jrn := by rw [last]; simp
    rw [same, reserveSlots_jrn, jrn, clock, hafter, hd]
    rfl
  · rw [← positionOf_releaseLeg]
    have money : (timeOut e s).csh = (releaseLeg e.ref.station e.leg s).csh := csh.trans (by simp [v, timedOutEnd])
    cases p <;> simp [positionOf, drawerOf, money]
  · refine raisedOnly_trans vraised ?_
    have grown := raisedOnly_trans raised
      (raisedOnly_reserveSlots (fs := journalFlags) (by decide) Config.lateSlots (displaceOldest v))
    rw [last]
    exact raisedOnly_of_eq grown (by simp) (by simp)
  · exact otherScreens_trans (t := v) (otherScreens_trans (otherScreens_of (by simp)) (otherScreens_trans
      (otherScreens_composeResult e.ref.station e.declineFormat (plainInfo e "NO REPLY".toList)
        (refMessage "NO REPLY".toList e.ref) (writeEntry Config.ottSlots (txnDraft e .timedOut []) (releaseLeg e.ref.station e.leg s)))
      (otherScreens_of (by simp [v, timedOutEnd])))) (otherScreens_of scm)
  · refine screenShows_congr (s := v) ?_ (by unfold contextOf; rw [scm])
    refine screenShows_congr (screenShows_composeResult (st := e.ref.station) (number := e.declineFormat)
      (info := plainInfo e "NO REPLY".toList) (message := refMessage "NO REPLY".toList e.ref)
      (s := writeEntry Config.ottSlots (txnDraft e .timedOut []) (releaseLeg e.ref.station e.leg s)) (by simpa [contextOf] using hc))
      (by simp [v, timedOutEnd, contextOf])

end Sys2Proof.Machine
end

section
/-! SUPPORT. The mirror's redaction, the broadcast text, and the frames and messages of the branch link. -/

namespace Sys2Proof.Machine
open Sys2Proof

/-! ## The mirror's redaction (R75) -/

/-- A weight is contained in a number where the quotient by it is odd. -/
theorem redacts_iff (key mask cls : Nat) : redacts key mask cls = true ↔
    ∀ w ∈ [8, 4, 2, 1], mask / w % 2 = 0 → cls / w % 2 = key / w % 2 := by
  have bit : ∀ i, mask.testBit i = true ∨ cls.testBit i = key.testBit i ↔
      (mask / 2 ^ i % 2 = 0 → cls / 2 ^ i % 2 = key / 2 ^ i % 2) := by
    intro i
    simp only [Nat.testBit_eq_decide_div_mod_eq, decide_eq_true_eq, decide_eq_decide]
    omega
  simp only [redacts, List.all_cons, List.all_nil, Bool.and_true, Bool.and_eq_true, Bool.or_eq_true, beq_iff_eq, bit]
  simp

/-- Settles O33: the weights bit by bit, and the row 24 that every mirror image ends with. -/
theorem mirrorRedaction : Obligations.MirrorRedaction := by
  refine ⟨redacts_iff, fun key cls => ?_, fun key cls hk hc => ?_, fun x f t => rfl, fun x c => ?_⟩
  · rw [redacts_iff]
    simp
  · rw [redacts_iff]
    simp
    omega
  · unfold mirrorImage
    cases c.shown with
    | none => exact List.getLast?_concat
    | some f => exact List.getLast?_concat

/-! ## The broadcast text (R72, R73) -/

theorem setBroadcast_follow (b : Option Broadcast) (s : State) : statusLinesFollow s (setBroadcast b s) :=
  follow_from (refreshAll_follow _) (by simp) (by simp)

theorem setBroadcast_text (b : Option Broadcast) (s : State) : (setBroadcast b s).scm.broadcast = b := by
  simp [setBroadcast]

theorem setBroadcast_reach (b : Option Broadcast) (s : State) : keeps [.scm] s (setBroadcast b s) := by
  simp [keeps, setBroadcast]

/-- The broadcast set or withdrawn as the answer of a request that has been taken. -/
theorem setBroadcast_done {id : Nat} {r : MgmtRequest} {s s1 : State} (h : mgmtTaken id r s s1) (b : Option Broadcast) :
    requestDone id .done .nothing [.scm] s s1 (answer id .done .nothing (setBroadcast b s1)) ∧
      statusLinesFollow s (answer id .done .nothing (setBroadcast b s1)) ∧
      (answer id .done .nothing (setBroadcast b s1)).scm.broadcast = b := by
  refine ⟨requestDone_of h (setBroadcast_reach b s1) (by simp [setBroadcast]) (by simp [setBroadcast]), ?_, ?_⟩
  · obtain ⟨-, places, rfl, -⟩ := h
    have follow := setBroadcast_follow b (onMrs (fun m => { m with places := places }) s)
    have told := follow_to (t := answer id .done .nothing (setBroadcast b (onMrs (fun m => { m with places := places }) s)))
      follow (by simp) (by simp) (by simp) (fun _ => rfl) (by simp) (by simp)
    exact follow_from told (by simp) (by simp)
  · exact setBroadcast_text b s1

/-- Settles O34: the request by its three cases, and the expiry. -/
theorem broadcastIsShown : Obligations.BroadcastIsShown := by
  refine ⟨fun id text expiry s s1 h => ?_, fun s => ?_⟩
  · have run : exec (.broadcastText id text expiry) s = .next (takeBroadcast id text expiry s1) := by
      show Host.Outcome.next _ = _
      rw [withRequest_taken h]
    refine ⟨_, run, fun empty => ?_, fun shown low high => ?_, fun shown out => ?_⟩
    · rw [takeBroadcast, if_pos empty]
      exact setBroadcast_done h none
    · rw [takeBroadcast, if_neg shown, if_pos (by simp [within, low, high])]
      obtain ⟨done, follow, set⟩ := setBroadcast_done h
        (some { text := cutText Config.broadcastLength text, ends := secondsAhead expiry s1 })
      refine ⟨done, follow, set.trans ?_⟩
      obtain ⟨-, places, rfl, -⟩ := h
      simp [cutText, Config.broadcastLength, secondsAhead]
    · rw [takeBroadcast, if_neg shown, if_neg (by simp [within]; omega)]
      exact requestRefused_of h
  · cases hb : s.scm.broadcast with
    | none => exact ⟨s, by show execBroadcastExpiry s = _; simp only [execBroadcastExpiry, hb], by simp⟩
    | some b =>
      refine ⟨setBroadcast none s, by show execBroadcastExpiry s = _; simp only [execBroadcastExpiry, hb], by simp,
        fun _ => ⟨setBroadcast_reach none s, setBroadcast_follow none s, setBroadcast_text none s⟩⟩

/-! ## Frames and messages (R181 to R184) -/

/-- The part being gathered is replaced, and the count of frames of a bad form changed. -/
def regather (r : Option Reassembly) (k : Nat → Nat) (b : Blc) : Blc := { b with reassembly := r, frameForm := k b.frameForm }

theorem refresh_regather (r : Option Reassembly) (k : Nat → Nat) (st : Station) (s : State) :
    refresh st (onBlc (regather r k) s) = onBlc (regather r k) (refresh st s) := by
  have same : contextOf st (onBlc (regather r k) s) = contextOf st s := rfl
  have line : ∀ c, recomposed st (onBlc (regather r k) s) c = recomposed st s c := fun c =>
    recomposed_congr rfl rfl rfl rfl rfl rfl rfl
  unfold refresh composeWith
  rw [same]
  cases contextOf st s with
  | none => rfl
  | some c => simp only [line]; rfl

theorem refreshAll_regather (r : Option Reassembly) (k : Nat → Nat) (s : State) :
    refreshAll (onBlc (regather r k) s) = onBlc (regather r k) (refreshAll s) := by
  have all : ∀ (sts : List Station) (u : State), sts.foldl (fun acc st => refresh st acc) (onBlc (regather r k) u) =
      onBlc (regather r k) (sts.foldl (fun acc st => refresh st acc) u) := by
    intro sts
    induction sts with
    | nil => exact fun _ => rfl
    | cons st rest ih =>
      intro u
      rw [List.foldl_cons, refresh_regather, ih, List.foldl_cons]
  exact all Station.all s

theorem placeNotice_regather (f : EventFlag) (a : Option Station) (r : Option Reassembly) (k : Nat → Nat) (s : State) :
    placeNotice f a (onBlc (regather r k) s) = onBlc (regather r k) (placeNotice f a s) := by
  have events : (onBlc (regather r k) s).blc.events = s.blc.events := rfl
  unfold placeNotice
  rw [events]
  split
  · rfl
  · rfl

theorem raise_regather (f : EventFlag) (r : Option Reassembly) (k : Nat → Nat) (s : State) :
    raise f (onBlc (regather r k) s) = onBlc (regather r k) (raise f s) := by
  have flags : (onBlc (regather r k) s).mrs = s.mrs := rfl
  unfold raise raiseWith
  rw [flags]
  split
  · exact placeNotice_regather f none r k (onMrs (fun m => { m with flags := setFlag f m.flags }) s)
  · rfl

/-- The taking of a valid frame does not read the part being gathered. -/
theorem validFrame_regather (r : Option Reassembly) (k : Nat → Nat) (s : State) :
    validFrame (onBlc (regather r k) s) = onBlc (regather r k) (validFrame s) := by
  have link : (onBlc (regather r k) s).blc.link = s.blc.link := rfl
  unfold validFrame
  rw [link]
  split
  · show refreshAll (raise .linkRestored (onBlc (regather r k)
      (restartSilence (onBlc (fun b => { b with link := restoredState s }) s)))) = _
    rw [raise_regather, refreshAll_regather]
    rfl
  · rfl

/-- A valid frame is taken at the link as its state says. -/
theorem validFrame_taken (s : State) : linkTaken s (validFrame s) := by
  refine ⟨fun up => validFrame_of_not_lost up, fun lost => ?_⟩
  rw [validFrame_of_lost lost]
  refine ⟨by simp [keeps], restoreLink_follow s, restoreLink_flag s, ?_⟩
  have raised := raisedOnly_raise (fs := [.linkRestored]) (f := .linkRestored) (by simp)
    (restartSilence (onBlc (fun b => { b with link := restoredState s }) s))
  exact raisedOnly_of_eq raised (by simp [restoreLink]) (by simp [restoreLink])

/-! ### What a frame becomes -/

theorem exec_inboundFrame_valid {bytes : List Byte} {k : InboundKind} {dest segment : Nat} {last : Bool}
    {payload : List Byte} (h : judgeFrame bytes = .valid k dest segment last payload) (s : State) :
    exec (.inboundFrame bytes) s = .next (gather k dest segment last payload (validFrame s)) := by
  show execInboundFrame bytes s = _
  simp only [execInboundFrame, h]

/-- Where no part is being gathered, a complete message arrives as a valid frame does. -/
theorem arrive_idle {s : State} (h : s.blc.reassembly = none) : arrive s = validFrame s := by
  have idle : (validFrame s).blc.reassembly = none := by simpa using h
  simp only [arrive, discardPart, idle]

/-- A frame that is a whole message is dispatched. -/
theorem gather_whole {s : State} (h : s.blc.reassembly = none) (k : InboundKind) (dest : Nat) (payload : List Byte) :
    gather k dest 0 true payload (validFrame s) = dispatch k dest payload (arrive s) := by
  have idle : (validFrame s).blc.reassembly = none := by simpa using h
  simp only [gather, idle, takeFirstSegment, if_true, arrive_idle h]

/-- The last segment dispatches what has been gathered. -/
theorem gather_last {s : State} {g : Reassembly} (h : s.blc.reassembly = some g) (payload : List Byte) (dest : Nat) :
    gather g.kind dest g.expected true payload (validFrame s) =
      dispatch g.kind dest (g.payload ++ payload) (arrive (onBlc (fun b => { b with reassembly := none }) s)) := by
  have held : (validFrame s).blc.reassembly = some g := by simpa using h
  have done : arrive (onBlc (fun b => { b with reassembly := none }) s) = setReassembly none (validFrame s) :=
    (arrive_idle rfl).trans (validFrame_regather none id s)
  rw [done]
  simp only [gather, held, and_self, if_true, takeNextSegment]

/-- A frame out of its order costs the part gathered, which is counted, and is then taken as with none. -/
theorem gather_mismatch {s : State} {g : Reassembly} {k : InboundKind} {segment : Nat} (h : s.blc.reassembly = some g)
    (out : g.kind ≠ k ∨ g.expected ≠ segment) (dest : Nat) (last : Bool) (payload : List Byte) :
    gather k dest segment last payload (validFrame s) = gather k dest segment last payload (validFrame
      (onBlc (fun b => { b with reassembly := none, frameForm := satCount 65535 b.frameForm }) s)) := by
  have held : (validFrame s).blc.reassembly = some g := by simpa using h
  have counted := validFrame_regather none (satCount 65535) s
  have idle : (onBlc (regather none (satCount 65535)) (validFrame s)).blc.reassembly = none := rfl
  have cost : discardPart (validFrame s) = onBlc (regather none (satCount 65535)) (validFrame s) := by
    simp only [discardPart, held]
    rfl
  show _ = gather k dest segment last payload (validFrame (onBlc (regather none (satCount 65535)) s))
  rw [counted]
  have other : ¬ (g.kind = k ∧ g.expected = segment) := by
    rintro ⟨one, two⟩
    exact out.elim (fun h => h one) (fun h => h two)
  simp only [gather, held, idle, if_neg other, cost]

theorem stationOf_num (st : Station) : Station.ofNat? st.num = some st := by cases st <;> rfl

/-- A complete message is dispatched as its own command has it. -/
theorem dispatch_message (payload : List Byte) (s : State) :
    (∀ st, Host.Outcome.next (dispatch .reply st.num payload (arrive s)) = exec (.reply st (readReply payload)) s) ∧
      (∀ dest id r, readMgmt payload = some (id, r) →
        Host.Outcome.next (dispatch .mgmtReq dest payload (arrive s)) = exec (.mgmtReq id r) s) ∧
      (∀ dest, readMgmt payload = none → dispatch .mgmtReq dest payload (arrive s) = countFrameForm (arrive s)) ∧
      (∀ dest, Host.Outcome.next (dispatch .adviceAck dest payload (arrive s)) = exec (.adviceAck (readAck payload)) s) ∧
      (∀ dest, Host.Outcome.next (dispatch .batchAck dest payload (arrive s)) = exec (.batchAck (readAck payload)) s) ∧
      ∀ dest, Host.Outcome.next (dispatch .linkCheck dest payload (arrive s)) =
        exec (.linkCheck (readCheckNumber payload)) s := by
  refine ⟨fun st => ?_, fun dest id r h => ?_, fun dest h => ?_, fun _ => rfl, fun _ => rfl, fun _ => rfl⟩
  · simp only [dispatch, stationOf_num]
    rfl
  · simp only [dispatch, h]
    rfl
  · simp only [dispatch, h]

/-- Settles O51: the frame's verdict, the part gathered before it, and the dispatch of what it completes. -/
theorem wholeFrameIsItsMessage : Obligations.WholeFrameIsItsMessage := by
  intro bytes s
  refine ⟨fun h => ?_, fun h => ?_, fun dest payload idle => ?_, validFrame s, validFrame_taken s, ?_, ?_⟩
  · show execInboundFrame bytes s = _
    simp only [execInboundFrame, h]
    rfl
  · show execInboundFrame bytes s = _
    simp only [execInboundFrame, h]
    rfl
  · obtain ⟨reply, mgmt, unread, advice, batch, check⟩ := dispatch_message payload s
    refine ⟨fun st h hd => ?_, fun id r h hr => ?_, fun h hr => ?_, fun h => ?_, fun h => ?_, fun h => ?_⟩
    · rw [exec_inboundFrame_valid h, gather_whole idle, hd]
      exact reply st
    · rw [exec_inboundFrame_valid h, gather_whole idle]
      exact mgmt dest id r hr
    · rw [exec_inboundFrame_valid h, gather_whole idle, unread dest hr]
      rfl
    · rw [exec_inboundFrame_valid h, gather_whole idle]
      exact advice dest
    · rw [exec_inboundFrame_valid h, gather_whole idle]
      exact batch dest
    · rw [exec_inboundFrame_valid h, gather_whole idle]
      exact check dest
  · intro k dest segment last payload h
    refine ⟨fun idle zero notLast => ?_, fun idle notZero => ?_, fun g held => ⟨?_, ?_, ?_, fun out => ?_⟩⟩
    · have none : (validFrame s).blc.reassembly = .none := by simpa using idle
      rw [exec_inboundFrame_valid h, zero, notLast]
      simp only [gather, none, takeFirstSegment, if_true]
      rfl
    · have none : (validFrame s).blc.reassembly = .none := by simpa using idle
      rw [exec_inboundFrame_valid h]
      simp only [gather, none, takeFirstSegment, if_neg notZero]
      rfl
    · rintro rfl rfl rfl room
      have kept : (validFrame s).blc.reassembly = some g := by simpa using held
      have more : ¬ 15 ≤ g.expected := by omega
      rw [exec_inboundFrame_valid h]
      simp only [gather, kept, and_self, if_true, takeNextSegment, if_neg more]
      rfl
    · rintro rfl hs rfl full
      subst hs
      have kept : (validFrame s).blc.reassembly = some g := by simpa using held
      have most : 15 ≤ g.expected := by omega
      rw [exec_inboundFrame_valid h]
      simp only [gather, kept, and_self, if_true, takeNextSegment, if_pos most]
      rfl
    · rintro whole done rfl rfl rfl rfl rfl
      obtain ⟨reply, mgmt, unread, advice, batch, check⟩ :=
        dispatch_message (g.payload ++ payload) (onBlc (fun b => { b with reassembly := none }) s)
      have ended : arrive (onBlc (fun b => { b with reassembly := none }) s) = setReassembly none (validFrame s) :=
        (arrive_idle rfl).trans (validFrame_regather none id s)
      rw [exec_inboundFrame_valid h, gather_last held]
      refine ⟨fun st hk hd => ?_, fun id r hk hr => ?_, fun hk hr => ?_, fun hk => ?_, fun hk => ?_, fun hk => ?_⟩
      · rw [hk, hd]
        exact reply st
      · rw [hk]
        exact mgmt dest id r hr
      · rw [hk, unread dest hr, ended]
        rfl
      · rw [hk]
        exact advice dest
      · rw [hk]
        exact batch dest
      · rw [hk]
        exact check dest
    · rw [exec_inboundFrame_valid h, exec_inboundFrame_valid h]
      exact congrArg Host.Outcome.next (gather_mismatch held out dest last payload)
  · intro id r idle
    have run : exec (.mgmtReq id r) s = .next (placeRequest id r (validFrame s)) := by
      rw [← arrive_idle idle]
      rfl
    have places : (validFrame s).mrs.places = s.mrs.places := by simp
    refine ⟨fun room => ?_, fun full => ⟨_, run, ?_⟩⟩
    · rw [run, placeRequest, if_pos (by rw [places]; exact room)]
      rfl
    · have overruns : (validFrame s).mrs.overruns = s.mrs.overruns := by simp
      rw [placeRequest, if_neg (by rw [places]; exact Nat.not_lt.2 full), countOverrun]
      refine ⟨by simp [keeps], ?_, by simp [flagSet_raise]⟩
      rw [← overruns]
      exact raisedOnly_raise (by simp) _

end Sys2Proof.Machine
end

section
/-! SUPPORT. The branch sums, the parts of the totals batch, and the beginning of settlement (R55, R134, R137 to R141). -/

namespace Sys2Proof.Machine
open Sys2Proof

/-! ## Branch sums (R55) -/

theorem branchSum_eq (xs : List Int) : branchSum xs = boundedSum xs := by
  have same : satAdd = fun a b : Int =>
      if a = 999999999999 ∨ a = -999999999999 then a else max (-999999999999) (min 999999999999 (a + b)) :=
    funext fun a => funext fun b => satAdd_eq a b
  unfold branchSum boundedSum
  rw [same]

theorem overShortSumFrom_values (vs : List Int) (a : Int) :
    overShortSumFrom a (vs.map OverShort.value) = some (vs.foldl satAdd a) := by
  induction vs generalizing a with
  | nil => rfl
  | cons v vs ih => exact ih (satAdd a v)

theorem overShortSumFrom_other {xs : List OverShort} {x : OverShort} (h : x ∈ xs) (no : ∀ v, x ≠ .value v) (a : Int) :
    overShortSumFrom a xs = none := by
  induction xs generalizing a with
  | nil => cases h
  | cons y ys ih =>
    cases y with
    | value v => exact ih ((List.mem_cons.1 h).resolve_left (no v)) (satAdd a v)
    | absent => rfl
    | unknown => rfl

theorem numberedPositions_map {α : Type} (f : Position → α) (s : State) :
    (numberedPositions s.csh).map (fun p => f p.2) = nineOf f s := by
  simp [numberedPositions, nineOf, drawerOf, Function.comp_def]

/-- The sums of the snapshot are the branch sums of the nine positions. -/
theorem snapshotOf_sums (s : State) : sumsHold (snapshotOf s.csh).sums s := by
  refine ⟨?_, ?_, ?_, ?_, fun vs hv => ?_, fun ⟨q, hq, no⟩ => ?_⟩
  · exact (branchSum_eq _).trans (congrArg _ (numberedPositions_map (fun q => (q.total : Int)) s))
  · exact (branchSum_eq _).trans (congrArg _ (numberedPositions_map Position.cashIn s))
  · exact (branchSum_eq _).trans (congrArg _ (numberedPositions_map Position.cashOut s))
  · exact (branchSum_eq _).trans (congrArg _ (numberedPositions_map Position.rounding s))
  · have values := numberedPositions_map Position.overShort s
    show overShortSumFrom 0 ((numberedPositions s.csh).map fun p => p.2.overShort) = _
    rw [values, hv, overShortSumFrom_values, ← branchSum_eq]
    rfl
  · have values := numberedPositions_map Position.overShort s
    show overShortSumFrom 0 ((numberedPositions s.csh).map fun p => p.2.overShort) = _
    have held : q.overShort ∈ nineOf Position.overShort s := by
      simp only [nineOf, id_eq, List.mem_append, List.mem_map, List.mem_singleton] at hq ⊢
      rcases hq with ⟨st, hst, rfl⟩ | rfl
      · exact .inl ⟨st, hst, rfl⟩
      · exact .inr rfl
    rw [values]
    exact overShortSumFrom_other held no 0

/-! ## The parts of the totals batch (R140, R141) -/

theorem mem_allPositions (p : Option Station) : p ∈ allPositions := by
  cases p with
  | none => simp [allPositions]
  | some st => simp [allPositions, Station.mem_all]

theorem orderedTellers_sorted (s : State) : (orderedTellers s).Pairwise fun a b => a.teller ≤ b.teller := by
  have total : Std.Total (fun a b : TellerDay => a.teller ≤ b.teller) := ⟨fun a b => Nat.le_total a.teller b.teller⟩
  have trans : IsTrans TellerDay (fun a b => a.teller ≤ b.teller) := ⟨fun a b c => Nat.le_trans⟩
  exact List.pairwise_insertionSort (fun a b : TellerDay => a.teller ≤ b.teller) s.sda.tellerDays

theorem orderedTellers_perm (s : State) : (orderedTellers s).Perm s.sda.tellerDays :=
  List.perm_insertionSort (fun a b : TellerDay => a.teller ≤ b.teller) s.sda.tellerDays

/-- The parts built carry the positions, their sums and the Teller Day Records. -/
theorem totalsParts_carry (s : State) : partsCarry (totalsParts s) s := by
  refine ⟨orderedTellers s, if orderedTellers s = [] then 1 else if (orderedTellers s).length ≤ 32 then 2 else 3,
    allPositions.map fun p => closePosition p s, (snapshotOf s.csh).sums, snapshotOf_sums s, orderedTellers_perm s,
    orderedTellers_sorted s, rfl, ?_, rfl, fun p q hq => ⟨closePosition p s, List.mem_map_of_mem (mem_allPositions p), ?_⟩⟩
  · simp only [totalsParts, List.length_eq_zero_iff]
    rfl
  · subst hq
    refine ⟨rfl, ?_, rfl, rfl, rfl, ?_, rfl⟩
    · show closeFlag (positionOf p s).state = _
      cases (positionOf p s).state <;> rfl
    · show dayFigures (positionOf p s) = _
      unfold dayFigures
      cases (positionOf p s).state <;> rfl

theorem totalsParts_congr {s t : State} (csh : t.csh = s.csh) (day : t.day.date = s.day.date)
    (marks : ∀ p, marked p t = marked p s) (jrn : t.jrn.lastAccepted = s.jrn.lastAccepted)
    (sda : t.sda.tellerDays = s.sda.tellerDays) : totalsParts t = totalsParts s := by
  have closes : ∀ p, closePosition p t = closePosition p s := by
    intro p
    have position : positionOf p t = positionOf p s := by cases p <;> simp [positionOf, drawerOf, csh]
    simp only [closePosition, position, marks p]
  have sorted : orderedTellers t = orderedTellers s := by
    unfold orderedTellers
    rw [sda]
  unfold totalsParts
  rw [sorted, day, jrn, csh, funext closes]

theorem partsCarry_congr {parts : List TotalsPart} {s t : State} (h : partsCarry parts s) (csh : t.csh = s.csh)
    (day : t.day.date = s.day.date) (marks : ∀ p, marked p t = marked p s) (jrn : t.jrn.lastAccepted = s.jrn.lastAccepted)
    (sda : t.sda.tellerDays = s.sda.tellerDays) : partsCarry parts t := by
  have position : ∀ p, positionOf p t = positionOf p s := fun p => by cases p <;> simp [positionOf, drawerOf, csh]
  unfold partsCarry sumsHold nineOf drawerOf at h ⊢
  simpa only [csh, day, marks, jrn, sda, position] using h

/-! ## The beginning of settlement (R134, R137, R139) -/

theorem unaccepted_eq_nil (s : State) : unaccepted s = [] ↔ ∀ e ∈ s.jrn.entries, e.seq ≤ s.jrn.lastAccepted := by
  simp [unaccepted]

/-- The phase TOTALS stands with the parts as they are built. -/
theorem beginTotals_day {s : State} {c : Settlement} (h : s.day.settlement = some c) :
    (beginTotals s).day = { s.day with settlement := some { c with
      phase := .totals, current := none, attempts := 0, parts := totalsParts s } } := by
  simp [beginTotals, onSettlement, h]

/-- The parts are those of the state in which they then stand. -/
theorem beginTotals_parts (s : State) : totalsParts (beginTotals s) = totalsParts s ∧ partsCarry (totalsParts s) (beginTotals s) := by
  have marks : ∀ p, marked p (beginTotals s) = marked p s := fun p => by
    cases p <;> simp [marked, beginTotals, onSettlement]
  exact ⟨totalsParts_congr (by simp) (by simp [beginTotals, onSettlement]) marks (by simp) (by simp),
    partsCarry_congr (totalsParts_carry s) (by simp) (by simp [beginTotals, onSettlement]) marks (by simp) (by simp)⟩

theorem settleCondition_iff (s : State) : settleCondition s = true ↔ s.ttr.ott = [] ∧ s.sda.queue = [] ∧
    (∀ st, tellerAt st s = none) ∧
    ∀ p, (positionOf p s).state = .notOpened ∨ (positionOf p s).state = .balanced ∨ marked p s = true := by
  have signed : s.scm.signOn.toList.all Option.isNone = true ↔ ∀ st, tellerAt st s = none := by
    rw [List.all_eq_true]
    constructor
    · intro h st
      exact Option.isNone_iff_eq_none.1 (h _ ((Eight.mem_toList _ _).2 ⟨st, rfl⟩))
    · intro h x hx
      obtain ⟨st, rfl⟩ := (Eight.mem_toList _ _).1 hx
      exact Option.isNone_iff_eq_none.2 (h st)
  have rest : (allPositions.all fun p => positionAtRest p s) = true ↔
      ∀ p, (positionOf p s).state = .notOpened ∨ (positionOf p s).state = .balanced ∨ marked p s = true := by
    rw [List.all_eq_true]
    constructor
    · intro h p
      simpa [positionAtRest, or_assoc] using h p (mem_allPositions p)
    · intro h p _
      simpa [positionAtRest, or_assoc] using h p
  simp only [settleCondition, Bool.and_eq_true, signed, rest, List.isEmpty_iff, and_assoc]

/-- A context just set up, with its phase and parts, where phase JOURNAL begins (R137, R139). -/
theorem beginJournalPhase_day (s : State) : ∃ c, (beginJournalPhase s).day = { s.day with settlement := some c } ∧
    c.current = none ∧ c.outstanding = none ∧ c.attempts = 0 ∧ c.pause = none ∧
    if (∀ e ∈ s.jrn.entries, e.seq ≤ s.jrn.lastAccepted) then
      c.phase = .totals ∧ c.parts = totalsParts (beginJournalPhase s) ∧ partsCarry c.parts (beginJournalPhase s)
    else c.phase = .journal ∧ c.parts = [] := by
  let v := onDay (fun d => { d with settlement := some (newSettlement .journal) }) s
  have ends : unaccepted v = [] ↔ ∀ e ∈ s.jrn.entries, e.seq ≤ s.jrn.lastAccepted := unaccepted_eq_nil v
  by_cases none : unaccepted v = []
  · have built : beginJournalPhase s = beginTotals v := if_pos none
    obtain ⟨parts, carry⟩ := beginTotals_parts v
    rw [built]
    refine ⟨_, beginTotals_day (s := v) (c := newSettlement .journal) rfl, rfl, rfl, rfl, rfl, ?_⟩
    rw [if_pos (ends.1 none), parts]
    exact ⟨rfl, rfl, carry⟩
  · have built : beginJournalPhase s = v := if_neg none
    rw [built]
    refine ⟨newSettlement .journal, rfl, rfl, rfl, rfl, rfl, ?_⟩
    rw [if_neg (fun all => none (ends.2 all))]
    exact ⟨rfl, rfl⟩

theorem judgeSettle_of_not {s : State} (h : s.day.state ≠ .cutoff ∨ settleCondition s = false) : judgeSettle s = s := by
  refine if_neg ?_
  rintro ⟨cutoff, holds⟩
  rcases h with h | h
  · exact h cutoff
  · rw [h] at holds
    cases holds

/-- Settles O59: the condition part by part, and settlement as the change of day and the phase it begins. -/
theorem settleConditionIsJudged : Obligations.SettleConditionIsJudged := by
  intro s
  refine ⟨settleCondition_iff s, judgeSettle_of_not, fun cutoff holds => ?_⟩
  have judged : judgeSettle s = beginJournalPhase (changeDay .settling s) := if_pos ⟨cutoff, holds⟩
  obtain ⟨follow, raised, entered⟩ := changeDay_entered .settling s
  obtain ⟨c, day, current, outstanding, attempts, pause, phase⟩ := beginJournalPhase_day (changeDay .settling s)
  have jrn : (beginJournalPhase (changeDay .settling s)).jrn = (changeDay .settling s).jrn := by simp
  have accepted : (changeDay .settling s).jrn.lastAccepted = s.jrn.lastAccepted := by simp
  rw [judged]
  refine ⟨by simp [keeps], ⟨?_, ?_, fun h => ?_⟩, c, ?_, current, outstanding, attempts, pause, ?_⟩
  · exact follow_to follow (by simp) (by simp) (by simp [day]) (by simp [drawerOf]) (by simp) (by simp)
  · exact raisedOnly_of_eq raised (by simp) (by simp)
  · have written := entered h
    unfold wrote at written ⊢
    rw [jrn]
    exact written
  · rw [day]
    simp
  · rw [jrn]
    rw [accepted] at phase
    exact phase

end Sys2Proof.Machine
end

section
/-! SUPPORT. The requests of the MRS: settings, the two reads with their contents, and the clock (R192, R193, R196 to R198). -/

namespace Sys2Proof.Machine
open Sys2Proof

/-- A request that has been taken acts on the state with its place taken. -/
theorem taken_run {id : Nat} {r : MgmtRequest} {s s1 : State} (h : mgmtTaken id r s s1) (act : State → State) :
    Host.Outcome.next (withRequest id r act s) = (Host.Outcome.next (act s1) : Host.Outcome State Fault Refusal) := by
  rw [withRequest_taken h]

/-- The taking of a request changes the buffer alone. -/
theorem taken_buffer {id : Nat} {r : MgmtRequest} {s s1 : State} (h : mgmtTaken id r s s1) :
    ∃ places, s1 = onMrs (fun m => { m with places := places }) s := by
  obtain ⟨-, places, same, -⟩ := h
  exact ⟨places, same⟩

/-! ## Settings (R193) -/

/-- The value of a setting after the writing of its item. -/
def writtenValue (x : Settings) (p : SettingName × Nat) : Nat :=
  match p.1 with
  | .journalMode => journalModeCode ((journalModeOfCode p.2).getD x.journalMode)
  | _ => storedValue p.1 p.2

theorem settingOf_writeSetting (x : Settings) (p : SettingName × Nat) (name : SettingName) :
    settingOf (writeSetting x p) name = if name = p.1 then writtenValue x p else settingOf x name := by
  obtain ⟨n, v⟩ := p
  cases n <;> cases name <;> rfl

/-- An item that the request can store: a journal mode is HOLD or TRICKLE. -/
def storable (p : SettingName × Nat) : Prop := p.1 = .journalMode → p.2 = 1 ∨ p.2 = 2

theorem badMode_iff (p : SettingName × Nat) : badMode p = true ↔ ¬ storable p := by
  obtain ⟨n, v⟩ := p
  have code : journalModeOfCode v = none ↔ ¬ (v = 1 ∨ v = 2) := by
    unfold journalModeOfCode
    split <;> simp_all
  simp [badMode, storable, code]

theorem writtenValue_of_storable {p : SettingName × Nat} (h : storable p) (x : Settings) :
    writtenValue x p = storedValue p.1 p.2 := by
  obtain ⟨n, v⟩ := p
  cases n
  case journalMode =>
    rcases h rfl with rfl | rfl
    · rfl
    · rfl
  all_goals rfl

theorem settingOf_writeSettings {items : List (SettingName × Nat)} (once : (items.map Prod.fst).Nodup)
    (h : ∀ p ∈ items, storable p) (x : Settings) :
    (∀ p ∈ items, settingOf (items.foldl writeSetting x) p.1 = storedValue p.1 p.2) ∧
      ∀ name, name ∉ items.map Prod.fst → settingOf (items.foldl writeSetting x) name = settingOf x name := by
  induction items generalizing x with
  | nil => simp
  | cons p rest ih =>
    rw [List.map_cons, List.nodup_cons] at once
    obtain ⟨written, others⟩ := ih once.2 (fun q hq => h q (List.mem_cons_of_mem p hq)) (writeSetting x p)
    refine ⟨fun q hq => ?_, fun name hn => ?_⟩
    · rcases List.mem_cons.1 hq with rfl | hq
      · rw [List.foldl_cons, others _ once.1, settingOf_writeSetting, if_pos rfl,
          writtenValue_of_storable (h q (List.mem_cons_self ..))]
      · exact written q hq
    · rw [List.map_cons, List.mem_cons, not_or] at hn
      rw [List.foldl_cons, others name hn.2, settingOf_writeSetting, if_neg hn.1]

theorem namedTwice_iff (items : List (SettingName × Nat)) : namedTwice items = true ↔ ¬ (items.map Prod.fst).Nodup := by
  induction items with
  | nil => simp [namedTwice]
  | cons p rest ih =>
    rw [namedTwice, Bool.or_eq_true, ih, List.map_cons, List.nodup_cons, not_and_or, not_not]
    simp

theorem clampedItems_eq_nil (items : List (SettingName × Nat)) :
    clampedItems items = [] ↔ ∀ p ∈ items, storedValue p.1 p.2 = p.2 := by
  simp [clampedItems]

/-- A SETTINGS-WRITE that can be stored writes its items, and reports those clamped. -/
theorem settingsWrite_result {id : Nat} {items : List (SettingName × Nat)} {s s1 : State}
    (h : mgmtTaken id (.settingsWrite items) s s1) (once : (items.map Prod.fst).Nodup)
    (can : ∀ p ∈ items, storable p) (t : State) (ht : t = takeSettingsWrite id items s1) :
    keeps [.mrs, .blc] s t ∧ t.mrs = { s1.mrs with settings := items.foldl writeSetting s1.mrs.settings } ∧
      ((∀ p ∈ items, storedValue p.1 p.2 = p.2) → replied id .done .nothing s t) ∧
      ((∃ p ∈ items, storedValue p.1 p.2 ≠ p.2) → replied id .doneClamped (.clamped (clampedItems items)) s t) := by
  obtain ⟨places, rfl⟩ := taken_buffer h
  have notTwice : namedTwice items = false := by
    rw [← Bool.not_eq_true, namedTwice_iff, not_not]
    exact once
  have good : items.any badMode = false := by
    rw [← Bool.not_eq_true, List.any_eq_true]
    rintro ⟨p, hp, bad⟩
    exact (badMode_iff p).1 bad (can p hp)
  rw [takeSettingsWrite, notTwice, good, if_neg (by simp)] at ht
  by_cases none : clampedItems items = []
  · rw [if_pos none] at ht
    subst ht
    refine ⟨by simp [keeps], by simp, fun _ => by simp [replied, answer], fun ⟨p, hp, no⟩ => ?_⟩
    exact absurd ((clampedItems_eq_nil items).1 none p hp) no
  · rw [if_neg none] at ht
    subst ht
    refine ⟨by simp [keeps], by simp, fun all => ?_, fun _ => by simp [replied, answer]⟩
    exact absurd ((clampedItems_eq_nil items).2 all) none

/-! ## STATUS-READ (R196) -/

theorem queueKinds_length (q : List QueueEntry) :
    q.countP (isKind .standin) + q.countP (isKind .reversal) + q.countP (isKind .passbookUpdate) +
      q.countP (isKind .alarm) + q.countP isReservation = q.length := by
  induction q with
  | nil => rfl
  | cons x rest ih =>
    have one : (if isKind .standin x = true then 1 else 0) + (if isKind .reversal x = true then 1 else 0) +
        (if isKind .passbookUpdate x = true then 1 else 0) + (if isKind .alarm x = true then 1 else 0) +
        (if isReservation x = true then 1 else 0) = 1 := by
      cases x with
      | reservation r => rfl
      | advice a =>
        cases kind : adviceKind a.body <;> simp [isKind, isReservation, kind]
    simp only [List.countP_cons, List.length_cons]
    omega

theorem countP_isKind (k : AdviceKind) (s : State) : queueCount (isKind k) s = advicesOf k s :=
  List.countP_congr fun q _ => by cases q <;> exact Iff.rfl

theorem station_num_lt : Station.all.Pairwise fun a b => a.num < b.num := by decide

/-- The report says the state as it stands. -/
theorem statusReport_reads (lines : List Nat) (s : State) : statusReads lines (statusReport lines s) s := by
  refine ⟨⟨rfl, rfl, rfl⟩, ⟨rfl, rfl, rfl⟩, ⟨rfl, rfl, rfl⟩, ⟨rfl, rfl, fun st => ?_⟩,
    ⟨countP_isKind .standin s, countP_isKind .reversal s, countP_isKind .passbookUpdate s, countP_isKind .alarm s,
      queueKinds_length s.sda.queue, List.countP_congr fun q _ => by cases q <;> exact Iff.rfl, rfl, rfl⟩,
    ⟨rfl, rfl, rfl, rfl, rfl, rfl, rfl, rfl, rfl, rfl, rfl, rfl⟩, fun st => ?_, ⟨?_, fun st e => ?_⟩, rfl⟩
  · simp [statusReport, stationCount]
  · have inserted : (insertedBook st s).isSome = true ↔ ∃ c, printerOf st s = some c ∧ c.book ≠ none := by
      unfold insertedBook
      cases printerOf st s with
      | none => simp
      | some c => simp [Option.ne_none_iff_isSome]
    simp only [statusReport, Eight.get_mapWith, lineReport]
    exact ⟨trivial, trivial, fun d => by simp, trivial, inserted, trivial⟩
  · exact List.pairwise_map.2 (station_num_lt.filter _)
  · simp only [statusReport, List.mem_map, List.mem_filter, Station.mem_all, true_and, List.contains_iff_mem, Prod.mk.injEq]
    exact ⟨fun ⟨a, named, same, his⟩ => same ▸ ⟨named, his.symm⟩, fun ⟨named, his⟩ => ⟨st, named, rfl, his.symm⟩⟩

theorem clear_none (f : EventFlag) : flagSet f EventFlags.clear = false := by
  cases f
  case dropDown st => exact Eight.get_fill false st
  all_goals rfl

/-- What a STATUS-READ clears, and what it leaves. -/
theorem clearRead_clears (lines : List Nat) (s : State) :
    keeps [.sda, .jrn, .slc, .blc, .mrs] s (clearRead lines s) ∧
      (clearRead lines s).blc = { s.blc with frameCheck := 0, frameForm := 0 } ∧
      (clearRead lines s).mrs = { s.mrs with flags := EventFlags.clear, unmatchedReplies := 0, overruns := 0 } ∧
      (clearRead lines s).sda = { s.sda with unmatchedAcks := 0 } ∧
      (clearRead lines s).jrn = { s.jrn with notStored := 0, unmatchedAcks := 0 } ∧
      (clearRead lines s).slc.samples = s.slc.samples ∧
      ∀ st, lineOf st (clearRead lines s) =
        if st.num ∈ lines then { lineOf st s with errors := ⟨0, 0, 0, 0⟩ } else lineOf st s := by
  refine ⟨by simp [keeps, clearRead], rfl, rfl, rfl, rfl, rfl, fun st => ?_⟩
  simp only [clearRead, lineOf, onSlc, Eight.get_mapWith, List.contains_iff_mem]
  rfl

/-! ## TOTALS-READ (R197) -/

theorem positionNumber_lt : (allPositions.map positionNumber).Pairwise (· < ·) := by decide

theorem totalsReads_snapshot (s : State) : totalsReads (snapshotOf s.csh) (markedNumbers s) s := by
  refine ⟨rfl, snapshotOf_sums s, ?_, fun n => ?_⟩
  · exact List.pairwise_map.2 ((List.pairwise_map.1 positionNumber_lt).filter _)
  · simp only [markedNumbers, List.mem_map, List.mem_filter]
    constructor
    · rintro ⟨p, ⟨-, is⟩, rfl⟩
      cases p with
      | none => exact .inr ⟨rfl, is⟩
      | some st => exact .inl ⟨st, rfl, is⟩
    · rintro (⟨st, rfl, is⟩ | ⟨rfl, is⟩)
      · exact ⟨some st, ⟨mem_allPositions _, is⟩, rfl⟩
      · exact ⟨none, ⟨mem_allPositions _, is⟩, rfl⟩

/-- Settles O58: each request by its own function, read on the state with its place taken. -/
theorem settingsClockAndReads : Obligations.SettingsClockAndReads := by
  refine ⟨fun id items s s1 h => ⟨_, taken_run h _, fun bad => ?_, fun once mode => ?_⟩,
    fun id s s1 h => ⟨_, taken_run h _, ?_⟩,
    fun id secs s s1 h => ⟨_, taken_run h _, fun out => ?_, fun within => ?_⟩,
    fun id lines s s1 h => ⟨_, statusReport lines s1, taken_run h _, fun ⟨n, hn, no⟩ => ?_, fun all => ?_⟩,
    fun id s s1 h => ⟨_, snapshotOf s.csh, markedNumbers s, taken_run h _, totalsReads_snapshot s, ?_⟩,
    fun id kind s s1 h => ⟨_, taken_run h _, requestRefused_of h⟩⟩
  · have refused : (namedTwice items || items.any badMode) = true := by
      rcases bad with twice | ⟨v, hv, no⟩
      · rw [(namedTwice_iff items).2 twice]
        rfl
      · have named : items.any badMode = true :=
          List.any_eq_true.2 ⟨_, hv, (badMode_iff _).2 fun can => (can rfl).elim no.1 no.2⟩
        rw [named, Bool.or_true]
    rw [takeSettingsWrite, if_pos refused]
    exact requestRefused_of h
  · have can : ∀ p ∈ items, storable p := by
      rintro ⟨name, v⟩ hp rfl
      exact mode v hp
    obtain ⟨reach, mrs, done, clamped⟩ := settingsWrite_result h once can _ rfl
    obtain ⟨written, others⟩ := settingOf_writeSettings once can s1.mrs.settings
    obtain ⟨places, rfl⟩ := taken_buffer h
    refine ⟨reach, ⟨_, mrs⟩, fun name v hv => ?_, fun name hn => ?_, done, clamped⟩
    · rw [mrs]
      refine (written (name, v) hv).trans ?_
      cases name <;> rfl
    · rw [mrs]
      exact others name hn
  · obtain ⟨places, rfl⟩ := taken_buffer h
    exact requestDone_of h (keeps_refl [] _) rfl rfl
  · rw [takeClockSet, if_neg (show ¬ secs < Config.daySeconds from Nat.not_lt.2 out)]
    exact requestRefused_of h
  · obtain ⟨places, rfl⟩ := taken_buffer h
    rw [takeClockSet, if_pos (show secs < Config.daySeconds from within)]
    exact ⟨by simp [keeps], by simp, by simp [replied, answer]⟩
  · have refused : ¬ (lines.all fun n => (Station.ofNat? n).isSome) = true := by
      rw [List.all_eq_true]
      intro every
      have there := every n hn
      rw [no] at there
      cases there
    rw [takeStatusRead, if_neg refused]
    exact requestRefused_of h
  · have read : (lines.all fun n => (Station.ofNat? n).isSome) = true := by
      rw [List.all_eq_true]
      exact fun n hn => Option.isSome_iff_ne_none.2 (all n hn)
    obtain ⟨places, rfl⟩ := taken_buffer h
    rw [takeStatusRead, if_pos read]
    obtain ⟨-, -, mrs, sda, jrn, samples, line⟩ := clearRead_clears lines (onMrs (fun m => { m with places := places }) s)
    refine ⟨by simp [keeps, clearRead], statusReport_reads lines _, ?_, fun f => ?_, ?_, sda, jrn, samples, line⟩
    · rfl
    · simpa [mrs] using clear_none f
    · simp [mrs]
  · obtain ⟨places, rfl⟩ := taken_buffer h
    exact requestDone_of h (keeps_refl [] _) rfl rfl

end Sys2Proof.Machine
end

section
/-! SUPPORT. The requests to Day Control: cutoff, forced close, retry and the date roll (R133, R135, R143, R145, R146). -/

namespace Sys2Proof.Machine
open Sys2Proof

/-! ## One operation at every station -/

/-- What is read of one station comes from the operation at that station, on a state that reads the same there. -/
theorem forStations_reaches {β : Type} (read : State → β) (P : State → Prop) (f : Station → State → State) (st : Station)
    (own : ∀ u, P u → P (f st u)) (others : ∀ a u, a ≠ st → P u → P (f a u) ∧ read (f a u) = read u) {s : State} (h : P s) :
    ∃ u, P u ∧ read u = read s ∧ read (forStations f s) = read (f st u) := by
  have apart : ∀ (xs : List Station) (u : State), st ∉ xs → P u →
      P (xs.foldl (fun acc a => f a acc) u) ∧ read (xs.foldl (fun acc a => f a acc) u) = read u := by
    intro xs
    induction xs with
    | nil => exact fun u _ hu => ⟨hu, rfl⟩
    | cons a rest ih =>
      intro u out hu
      rw [List.mem_cons, not_or] at out
      obtain ⟨kept, same⟩ := others a u (Ne.symm out.1) hu
      obtain ⟨last, reads⟩ := ih (f a u) out.2 kept
      exact ⟨last, reads.trans same⟩
  obtain ⟨before, after, all⟩ := List.append_of_mem (Station.mem_all st)
  have once : Station.all.Nodup := by decide
  rw [all, List.nodup_append] at once
  obtain ⟨-, behind, front⟩ := once
  have notFront : st ∉ before := fun hm => front st hm st (List.mem_cons_self ..) rfl
  obtain ⟨kept, same⟩ := apart before s notFront h
  refine ⟨_, kept, same, ?_⟩
  rw [forStations, all, List.foldl_append, List.foldl_cons]
  exact (apart after _ (List.nodup_cons.1 behind).1 (own _ kept)).2

/-! ## DAY-FORCE (R63, R135) -/

theorem tellerAt_forcedSignOff (a b : Station) (n : Nat) (s : State) :
    tellerAt b (forcedSignOff a n s) = if b = a then none else tellerAt b s := by
  have signed : (forcedSignOff a n s).scm.signOn = (setSignOn a none s).scm.signOn := by
    simp [forcedSignOff, composePrompt, signOff]
  rw [tellerAt_congr b signed, tellerAt_setSignOn]

theorem forceOff_own (st : Station) (s : State) : tellerAt st (forceOff st s) = none := by
  unfold forceOff
  cases h : tellerAt st s with
  | none => exact h
  | some n => exact (tellerAt_forcedSignOff st st n s).trans (if_pos rfl)

theorem forceOff_other {a st : Station} (h : st ≠ a) (s : State) :
    tellerAt st (forceOff a s) = tellerAt st s ∧ contextOf st (forceOff a s) = contextOf st s := by
  unfold forceOff
  split
  · refine ⟨(tellerAt_forcedSignOff a st _ s).trans (if_neg h), ?_⟩
    rw [forcedSignOff, composePrompt, contextOf_composeInput, if_neg h]
    simp [contextOf, signOff]
  · exact ⟨rfl, rfl⟩

/-- A Teller Day Record stamped at a sign-off (R62). -/
def stampedOff (s : State) (r : TellerDay) : TellerDay := { r with station := none, lastOff := some s.mrs.clock }

theorem forceOff_tellerDays (st : Station) (s : State) : (forceOff st s).sda.tellerDays =
    s.sda.tellerDays.map fun r => if tellerAt st s = some r.teller then stampedOff s r else r := by
  unfold forceOff
  cases h : tellerAt st s with
  | none => simp
  | some n =>
    simp only [forcedSignOff, composePrompt, composeInput_keeps, signOff, tellerDayOff, Option.some.injEq, eq_comm (a := n)]
    rfl

/-- Every teller's record is stamped, at whatever stations the teller was signed on. -/
theorem forStations_forceOff_tellerDays (s : State) : (forStations forceOff s).sda.tellerDays =
    s.sda.tellerDays.map fun r =>
      if (Station.all.any fun st => tellerAt st s = some r.teller) = true then stampedOff s r else r := by
  have some : ∀ (xs : List Station) (u : State), xs.Nodup → (∀ a ∈ xs, tellerAt a u = tellerAt a s) →
      u.mrs.clock = s.mrs.clock → (xs.foldl (fun acc a => forceOff a acc) u).sda.tellerDays =
        u.sda.tellerDays.map fun r => if (xs.any fun st => tellerAt st s = some r.teller) = true then stampedOff s r else r := by
    intro xs
    induction xs with
    | nil => intros; simp
    | cons a rest ih =>
      intro u once same clock
      rw [List.nodup_cons] at once
      have rests : ∀ b ∈ rest, tellerAt b (forceOff a u) = tellerAt b s := fun b hb =>
        (forceOff_other (fun h : b = a => once.1 (h ▸ hb)) u).1.trans (same b (List.mem_cons_of_mem a hb))
      rw [List.foldl_cons, ih (forceOff a u) once.2 rests (by simpa using clock), forceOff_tellerDays, List.map_map]
      refine List.map_congr_left fun r _ => ?_
      rw [same a (List.mem_cons_self ..)]
      by_cases here : tellerAt a s = .some r.teller
      · simp [here, stampedOff, clock]
      · simp [here]
  exact some Station.all s (by decide) (fun _ _ => rfl) rfl

theorem contextOf_forceOff (st : Station) (s : State) :
    (∀ n, tellerAt st s = some n → (contextOf st s).isSome = true →
      screenShows st .signOnPrompt "SIGNED OFF".toList (forceOff st s)) ∧
    (tellerAt st s = none → forceOff st s = s) := by
  unfold forceOff
  refine ⟨fun n hn hc => ?_, fun hn => ?_⟩
  · simp only [hn]
    exact screenShows_composeInput (by simpa [contextOf, signOff] using hc)
  · simp only [hn]

/-- Every teller is signed off, and shown so where there is a screen; no other screen changes. -/
theorem forStations_forceOff (st : Station) (s : State) : tellerAt st (forStations forceOff s) = none ∧
    (∀ n, tellerAt st s = some n → (contextOf st s).isSome = true →
      screenShows st .signOnPrompt "SIGNED OFF".toList (forStations forceOff s)) ∧
    (tellerAt st s = none → contextOf st (forStations forceOff s) = contextOf st s) := by
  obtain ⟨u, -, before, after⟩ := forStations_reaches (fun x => (tellerAt st x, contextOf st x)) (fun _ => True) forceOff st
    (fun _ _ => trivial) (fun a x h _ => ⟨trivial, Prod.ext (forceOff_other (Ne.symm h) x).1 (forceOff_other (Ne.symm h) x).2⟩)
    (s := s) trivial
  rw [Prod.mk.injEq] at before after
  obtain ⟨teller, context⟩ := before
  obtain ⟨shows, stands⟩ := contextOf_forceOff st u
  refine ⟨after.1.trans (forceOff_own st u), fun n hn hc => ?_, fun hn => ?_⟩
  · exact screenShows_congr (shows n (teller.trans hn) (by rw [context]; exact hc)) after.2
  · rw [after.2, stands (teller.trans hn), context]

theorem mem_signedOnTellers (n : Nat) (s : State) : n ∈ signedOnTellers s ↔ ∃ st, tellerAt st s = some n := by
  simp [signedOnTellers, Station.mem_all]

theorem mem_forcedPositions (k : Nat) (s : State) : k ∈ forcedPositions s ↔ ∃ p, k = positionNumber p ∧
    ((positionOf p s).state = .active ∨ (positionOf p s).state = .suspect) := by
  simp [forcedPositions, mem_allPositions, forceMarks, and_comm, eq_comm (a := k)]

theorem marked_markUnbalanced (p : Option Station) (s : State) : marked p (markUnbalanced s) =
    (marked p s || decide ((positionOf p s).state = .active) || decide ((positionOf p s).state = .suspect)) := by
  cases p with
  | none => exact (Bool.or_assoc ..).symm
  | some st => exact (Eight.get_mapWith _ _ st).trans (Bool.or_assoc ..).symm

/-! ## The date roll (R129, R145, R146) -/

/-- The last entry held is still to be printed (R145). -/
def unprintedEnd (s : State) : Prop :=
  ∃ e, printerRoleHeld s = true ∧ s.jrn.entries.getLast? = some e ∧ s.jrn.printedCursor < e.seq

/-- The checks of a date roll, one behind the other. -/
theorem rollRefusal_eq (d : Date) (s : State) :
    (s.day.state ≠ .noDate → s.day.state ≠ .settled → rollRefusal d s = some .wrongDayState) ∧
      ((s.day.state = .noDate ∨ s.day.state = .settled) →
        ((validDate d = false ∨ ∃ old, s.day.date = some old ∧ laterDate d old = false) →
          rollRefusal d s = some .badDate) ∧
        (validDate d = true → (∀ old, s.day.date = some old → laterDate d old = true) →
          (unprintedEnd s → rollRefusal d s = some .journalUnprinted) ∧ (¬ unprintedEnd s → rollRefusal d s = none))) := by
  refine ⟨fun h1 h2 => if_pos ⟨h1, h2⟩, fun state => ⟨fun bad => ?_, fun valid later => ⟨fun h => ?_, fun h => ?_⟩⟩⟩
  all_goals
    have right : ¬ (s.day.state ≠ .noDate ∧ s.day.state ≠ .settled) := fun ⟨h1, h2⟩ => state.elim h1 h2
    unfold rollRefusal
    simp only [if_neg right]
  · rw [if_pos]
    rcases bad with invalid | ⟨old, date, early⟩
    · simp [invalid]
    · simp [date, early]
  · obtain ⟨e, held, last, behind⟩ := h
    rw [if_neg (by
      cases date : s.day.date with
      | none => simp [valid]
      | some old => simp [valid, later old date]), if_pos (by simp [last, held, behind])]
  · rw [if_neg (by
      cases date : s.day.date with
      | none => simp [valid]
      | some old => simp [valid, later old date]), if_neg]
    cases last : s.jrn.entries.getLast? with
    | none => simp
    | some e =>
      rw [Bool.and_eq_true, decide_eq_true_eq]
      exact fun ⟨held, behind⟩ => h ⟨e, held, last, behind⟩

/-- The state in which the day's change enters the new day. -/
def rolledOver (d : Date) (s : State) : State :=
  journalNewDay (onCsh (onPositions openedPosition) (onSda (fun a => { a with tellerDays := [], accountMap := [], nextAdvice := 1 })
    (onDay (fun x => { x with
      date := some d, drawerMarks := Eight.fill false, reserveMark := false, settlement := none }) s)))

theorem rollDay_eq (d : Date) (s : State) : rollDay d s = changeDay .opened (rolledOver d s) := rfl

theorem dayDraft_slots (x : DayState) (d : Option Date) : draftSlots (dayDraft x d) = 1 := by
  simp [draftSlots, draftBytes, dayDraft]

/-- The journal of the new day holds the DAY entry alone. -/
theorem rollDay_jrn {d : Date} {s : State} (room : 1 ≤ s.jrn.free + s.jrn.used) : (rollDay d s).jrn = { s.jrn with
    entries := [{ seq := 1, date := some d, time := s.mrs.clock, draft := dayDraft .opened (some d) }]
    used := 1, free := s.jrn.free + s.jrn.used - 1, nextSeq := 2, lastAccepted := 0, printedCursor := 0, batchCounter := 1 } := by
  obtain ⟨-, -, written⟩ := changeDay_entered .opened (rolledOver d s)
  have can : canWrite 0 (dayDraft .opened (some d)) (rolledOver d s) :=
    ⟨(dayDraft_slots ..).trans_le room, show 1 ≤ Config.topJournal by decide⟩
  have stored := written can
  unfold wrote at stored
  rw [rollDay_eq, stored, dayDraft_slots]
  rfl

theorem positionOf_rollDay (d : Date) (p : Option Station) (s : State) :
    positionOf p (rollDay d s) = openedPosition (positionOf p s) := by
  have money : (rollDay d s).csh = onPositions openedPosition s.csh := by simp [rollDay]
  cases p with
  | none => simp [positionOf, money, onPositions]
  | some st => simp [positionOf, drawerOf, money, onPositions]

theorem sda_ext {x y : Sda} (days : x.tellerDays = y.tellerDays) (queue : x.queue = y.queue) (next : x.nextAdvice = y.nextAdvice)
    (acks : x.unmatchedAcks = y.unmatchedAcks) (map : x.accountMap = y.accountMap) : x = y := by
  cases x
  cases y
  simp_all

/-- What the checks of the day read stands as a request is taken. -/
theorem taken_stands {id : Nat} {r : MgmtRequest} {s s1 : State} (h : mgmtTaken id r s s1) :
    s1.day = s.day ∧ s1.ttr = s.ttr ∧ s1.jrn = s.jrn ∧ s1.scm = s.scm ∧ s1.sda = s.sda ∧ s1.csh = s.csh ∧ s1.slc = s.slc ∧
      s1.mrs.clock = s.mrs.clock := by
  obtain ⟨places, rfl⟩ := taken_buffer h
  exact ⟨rfl, rfl, rfl, rfl, rfl, rfl, rfl, rfl⟩

/-- Settles O60: each request by its checks, and by what its change of the day does. -/
theorem dayRequests : Obligations.DayRequests := by
  refine ⟨fun id s s1 h => ⟨_, taken_run h _, fun other => ?_, fun opened => ?_⟩,
    fun id s s1 h => ⟨_, taken_run h _, fun other => ?_, fun cutoff flight => ?_, fun cutoff empty => ?_⟩,
    fun id s s1 h => ⟨_, taken_run h _, fun other => ?_, fun c failed hc => ?_⟩,
    fun id d s s1 h => ⟨_, taken_run h _, fun h1 h2 => ?_, fun state bad => ?_, fun state valid later => ⟨fun unprinted => ?_,
      fun printed room => ?_⟩⟩⟩
  · obtain ⟨day, -⟩ := taken_stands h
    rw [takeDayCutoff, if_neg (by rw [day]; exact other)]
    exact requestRefused_of h
  · obtain ⟨day, -⟩ := taken_stands h
    rw [takeDayCutoff, if_pos (by rw [day]; exact opened)]
    exact ⟨_, changeDay_entered .cutoff s1, changeDay_reach .cutoff s1, by rw [changeDay_day, day], rfl⟩
  · obtain ⟨day, -⟩ := taken_stands h
    rw [takeDayForce, if_pos (by rw [day]; exact other)]
    exact requestRefused_of h
  · obtain ⟨day, ttr, -⟩ := taken_stands h
    rw [takeDayForce, if_neg (by rw [day]; exact not_not.2 cutoff), if_pos (by rw [ttr]; exact flight)]
    exact requestRefused_of h
  · obtain ⟨day, ttr, jrn, scm, sda, csh, slc, clock⟩ := taken_stands h
    have teller : ∀ st, tellerAt st s1 = tellerAt st s := fun st => tellerAt_congr st (by rw [scm])
    have context : ∀ st, contextOf st s1 = contextOf st s := fun st => contextOf_congr st (by rw [scm])
    have position : ∀ p, positionOf p s1 = positionOf p s := fun p => by cases p <;> simp [positionOf, drawerOf, csh]
    have mark : ∀ p, marked p (forStations forceOff s1) = marked p s := fun p => by cases p <;> simp [marked, day]
    have held : ∀ p, positionOf p (forStations forceOff s1) = positionOf p s := fun p => by
      cases p <;> simp [positionOf, drawerOf, csh]
    rw [takeDayForce, if_neg (by rw [day]; exact not_not.2 cutoff), if_neg (by rw [ttr]; exact not_not.2 empty)]
    refine ⟨markUnbalanced (forStations forceOff s1), signedOnTellers s1, forcedPositions s1, rfl, by simp [keeps],
      fun st => ?_, fun st n hn hc => ?_, fun st hn => ?_, ?_, fun n => ?_, fun k => ?_, fun p => ?_⟩
    · exact (forStations_forceOff st s1).1
    · exact (forStations_forceOff st s1).2.1 n ((teller st).trans hn) (by rw [context]; exact hc)
    · exact ((forStations_forceOff st s1).2.2 ((teller st).trans hn)).trans (context st)
    · have records := forStations_forceOff_tellerDays s1
      simp only [sda, teller, stampedOff, clock] at records
      exact sda_ext records (by simp [markUnbalanced, sda]) (by simp [markUnbalanced, sda]) (by simp [markUnbalanced, sda])
        (by simp [markUnbalanced, sda])
    · simp only [mem_signedOnTellers, teller]
    · simp only [mem_forcedPositions, position]
    · rw [marked_markUnbalanced, mark, held]
  · obtain ⟨day, -⟩ := taken_stands h
    rw [takeSettleRetry, if_pos (by rw [day]; exact other)]
    exact requestRefused_of h
  · obtain ⟨day, -⟩ := taken_stands h
    rw [takeSettleRetry, if_neg (by rw [day]; exact not_not.2 failed)]
    let v := onSettlement (fun c => { c with attempts := 0 }) s1
    have vday : v.day = { s.day with settlement := some { c with attempts := 0 } } := by
      simp [v, onSettlement, day, hc]
    obtain ⟨follow, raised, written⟩ := changeDay_entered .settling v
    refine ⟨changeDay .settling v, ⟨?_, ?_, fun can => ?_⟩, ?_, by rw [changeDay_day, vday], by rw [day, hc]; rfl⟩
    · exact follow_from follow (by simp [v]) (by simp [v])
    · exact raisedOnly_from raised (by simp [v]) (by simp [v])
    · have date : v.day.date = s1.day.date := by rw [vday, day]
      have stored := written (by rw [date]; exact can)
      exact wrote_congr (by rw [date] at stored; exact stored) (by simp [v]) (by rw [date]) (by simp [v]) rfl
    · exact keeps_trans (t := v) (by simp [keeps, v]) (changeDay_reach .settling v)
  · obtain ⟨day, -⟩ := taken_stands h
    have refused := (rollRefusal_eq d s1).1 (by rw [day]; exact h1) (by rw [day]; exact h2)
    simp only [takeDateRoll, refused]
    exact requestRefused_of h
  · obtain ⟨day, -⟩ := taken_stands h
    have refused := ((rollRefusal_eq d s1).2 (by rw [day]; exact state)).1 (by rw [day]; exact bad)
    simp only [takeDateRoll, refused]
    exact requestRefused_of h
  · obtain ⟨day, -, jrn, -, -, -, slc, -⟩ := taken_stands h
    have role : printerRoleHeld s1 = printerRoleHeld s := by simp [printerRoleHeld, slc]
    have refused := (((rollRefusal_eq d s1).2 (by rw [day]; exact state)).2 valid (by rw [day]; exact later)).1
      (by unfold unprintedEnd; rw [role, jrn]; exact unprinted)
    simp only [takeDateRoll, refused]
    exact requestRefused_of h
  · obtain ⟨day, ttr, jrn, scm, sda, csh, slc, clock⟩ := taken_stands h
    have role : printerRoleHeld s1 = printerRoleHeld s := by simp [printerRoleHeld, slc]
    have passes := (((rollRefusal_eq d s1).2 (by rw [day]; exact state)).2 valid (by rw [day]; exact later)).2 (by
      rintro ⟨e, held, last, behind⟩
      rw [jrn] at last behind
      rcases printed e last with none | reached
      · exact absurd (held.symm.trans (role.trans none)) (by simp)
      · exact absurd behind (Nat.not_lt.2 reached))
    obtain ⟨follow, raised, -⟩ := changeDay_entered .opened (rolledOver d s1)
    simp only [takeDateRoll, passes]
    refine ⟨rollDay d s1, by simp [keeps], ?_, ?_, ?_, ?_, fun p => ?_, ?_, ?_⟩
    · rw [lastSequence, jrn]
    · simp [rollDay]
    · rw [rollDay_jrn (by rw [jrn]; exact room), jrn, clock]
    · simp [rollDay, sda]
    · rw [positionOf_rollDay]
      have position : positionOf p s1 = positionOf p s := by cases p <;> simp [positionOf, drawerOf, csh]
      rw [position]
      rfl
    · exact follow_from follow (by simp [rolledOver, journalNewDay, scm]) (by simp [rolledOver, journalNewDay, scm])
    · exact raisedOnly_from raised (by simp [rolledOver, journalNewDay]) (by simp [rolledOver, journalNewDay])

end Sys2Proof.Machine
end

section
/-! SUPPORT. The answers to batches: what an acceptance frees and whether it ends the phase JOURNAL, and what a failure does
(R125, R128, R139, R142 to R144). -/

namespace Sys2Proof.Machine
open Sys2Proof

/-! ## What an acceptance does to the journal (R125, R128) -/

theorem acceptSequence_entries (last : Nat) (s : State) : (acceptSequence last s).jrn.entries =
    s.jrn.entries.dropWhile fun e => decide (e.seq ≤ last) &&
      (!printerRoleHeld s || decide (e.seq ≤ s.jrn.printedCursor)) := rfl

theorem acceptSequence_accepted (last : Nat) (s : State) : (acceptSequence last s).jrn.lastAccepted = last := rfl

/-- An acceptance leaves no entry to be sent exactly where all entries held have been accepted. -/
theorem unaccepted_acceptSequence (last : Nat) (s : State) :
    unaccepted (acceptSequence last s) = [] ↔ ∀ e ∈ s.jrn.entries, e.seq ≤ last := by
  rw [unaccepted_eq_nil, acceptSequence_entries, acceptSequence_accepted]
  refine ⟨fun h e he => ?_, fun h e he => h e ((List.dropWhile_sublist _).mem he)⟩
  rw [← List.takeWhile_append_dropWhile (p := fun e : Entry => decide (e.seq ≤ last) &&
    (!printerRoleHeld s || decide (e.seq ≤ s.jrn.printedCursor))) (l := s.jrn.entries), List.mem_append] at he
  rcases he with gone | left
  · have freed := List.mem_takeWhile_imp gone
    rw [Bool.and_eq_true, decide_eq_true_eq] at freed
    exact freed.1
  · exact h e left

/-- The phase after an acceptance: it ends where phase JOURNAL has no entry left to send. -/
theorem phaseAfterAcceptance_eq (s : State) :
    (s.day.settlement = none → phaseAfterAcceptance s = s) ∧
      ∀ c, s.day.settlement = some c →
        (c.phase = .journal → unaccepted s = [] → phaseAfterAcceptance s = beginTotals s) ∧
        (c.phase ≠ .journal ∨ unaccepted s ≠ [] → phaseAfterAcceptance s = s) := by
  refine ⟨fun h => ?_, fun c h => ⟨fun phase none => ?_, fun other => ?_⟩⟩
  · simp only [phaseAfterAcceptance, h]
  · simp only [phaseAfterAcceptance, h, if_pos phase, journalPhaseEnd, if_pos none]
  · simp only [phaseAfterAcceptance, h]
    split
    · next phase => exact if_neg (other.resolve_left (not_not.2 phase))
    · rfl

theorem slotsAccounted_freeEntries {s : State} (h : slotsAccounted s) : slotsAccounted (freeEntries s) := by
  obtain ⟨all, reserved, used⟩ := h
  have parts : slotsOf s.jrn.entries = slotsOf (s.jrn.entries.takeWhile (freeable s)) + slotsOf (freeEntries s).jrn.entries := by
    show _ = _ + slotsOf (s.jrn.entries.dropWhile (freeable s))
    rw [← slotsOf_append, List.takeWhile_append_dropWhile]
  have gone : (freeEntries s).jrn.used = s.jrn.used - slotsOf (s.jrn.entries.takeWhile (freeable s)) := rfl
  have back : (freeEntries s).jrn.free = s.jrn.free + slotsOf (s.jrn.entries.takeWhile (freeable s)) := rfl
  have stands : (freeEntries s).jrn.reserved = s.jrn.reserved := rfl
  have owed : reservedSlots (freeEntries s) = reservedSlots s := by simp [reservedSlots]
  refine ⟨?_, stands.trans (reserved.trans owed.symm), ?_⟩
  · omega
  · omega

theorem slotsAccounted_congr {s t : State} (h : slotsAccounted s) (jrn : t.jrn = s.jrn) (ttr : t.ttr = s.ttr) :
    slotsAccounted t := by
  unfold slotsAccounted reservedSlots at *
  rw [jrn, ttr]
  exact h

theorem printerRoleHeld_congr {s t : State} (h : t.slc = s.slc) : printerRoleHeld t = printerRoleHeld s := by
  unfold printerRoleHeld
  rw [h]

/-! ## The answers -/

theorem exec_batchAck (a : Option Ack) (s : State) : exec (.batchAck a) s = .next (takeBatchAck a (arrive s)) := rfl

theorem takeBatchAck_trickle {b : TrickleBatch} {s : State} (h : s.jrn.trickle = some b) :
    takeBatchAck (some ⟨b.number, 1⟩) s = answerTrickle b true s ∧
      takeBatchAck (some ⟨b.number, 2⟩) s = answerTrickle b false s := by
  have found : trickleOf b.number s = some b := by simp [trickleOf, h]
  exact ⟨by simp only [takeBatchAck, ackAccepted, found], by simp only [takeBatchAck, ackAccepted, found]⟩

theorem takeBatchAck_settlement {b : Batch} {c : Settlement} {s : State} (hc : s.day.settlement = some c)
    (out : c.outstanding.isSome = true) (current : c.current = some b) (apart : ∀ x, s.jrn.trickle = some x → x.number ≠ b.number) :
    takeBatchAck (some ⟨b.number, 1⟩) s = settlementAccepted b s ∧
      takeBatchAck (some ⟨b.number, 2⟩) s = settlementFails s := by
  have found : settlementOf b.number s = some b := by simp [settlementOf, outstandingSettlement, hc, out, current]
  have none : trickleOf b.number s = none := by
    unfold trickleOf
    cases trickle : s.jrn.trickle with
    | none => rfl
    | some x => simpa using apart x trickle
  refine ⟨?_, ?_⟩
  · simp only [takeBatchAck, ackAccepted, found, none, if_true]
  · simp only [takeBatchAck, ackAccepted, found, none]
    rfl

theorem takeBatchAck_unmatched {ack : Option Ack} {s : State}
    (h : ∀ n, ack = some ⟨n, 1⟩ ∨ ack = some ⟨n, 2⟩ → trickleOf n s = none ∧ settlementOf n s = none) :
    takeBatchAck ack s = unmatchedBatchAck s := by
  cases ack with
  | none => rfl
  | some k =>
    obtain ⟨n, status⟩ := k
    have neither : ∀ ok, ackAccepted ⟨n, status⟩ = some ok → trickleOf n s = none ∧ settlementOf n s = none := by
      intro ok judged
      refine h n ?_
      unfold ackAccepted at judged
      split at judged
      · next one => exact .inl (by rw [show status = 1 from one])
      · next two => exact .inr (by rw [show status = 2 from two])
      · cases judged
    simp only [takeBatchAck]
    cases judged : ackAccepted ⟨n, status⟩ with
    | none => rfl
    | some ok =>
      obtain ⟨one, two⟩ := neither ok judged
      simp only [one, two]

/-- The day after an acceptance, in each phase. -/
theorem phaseAfterAcceptance_day {s : State} {c : Settlement} (h : s.day.settlement = some c) :
    (c.phase = .journal → unaccepted s = [] → ∃ parts, (phaseAfterAcceptance s).day = { s.day with settlement := some { c with
        phase := .totals, current := none, attempts := 0, parts := parts } } ∧
      parts = totalsParts (phaseAfterAcceptance s) ∧ partsCarry parts (phaseAfterAcceptance s)) ∧
    (c.phase ≠ .journal ∨ unaccepted s ≠ [] → (phaseAfterAcceptance s).day = s.day) := by
  obtain ⟨begins, stands⟩ := (phaseAfterAcceptance_eq s).2 c h
  obtain ⟨parts, carry⟩ := beginTotals_parts s
  refine ⟨fun phase none => ?_, fun other => by rw [stands other]⟩
  rw [begins phase none]
  exact ⟨totalsParts s, beginTotals_day h, parts.symm, carry⟩

theorem settlementFails_eq {c : Settlement} {s : State} (h : s.day.settlement = some c) :
    (c.phase = .trailing → settlementFails s = onDay (fun d => { d with settlement := some { c with
      current := none, outstanding := none, pause := some (s.uptime + 1000 * s.mrs.settings.batchAck) } }) s) ∧
    (c.phase ≠ .trailing → c.attempts < 2 → settlementFails s = onDay (fun d => { d with settlement := some { c with
      outstanding := none, attempts := c.attempts + 1 } }) s) ∧
    (c.phase ≠ .trailing → 2 ≤ c.attempts → settlementFails s = failDay (onDay (fun d => { d with settlement := some { c with
      outstanding := none, attempts := c.attempts + 1 } }) s)) := by
  have one : ∀ f : Settlement → Settlement,
      onSettlement f s = onDay (fun d => { d with settlement := some (f c) }) s := by
    intro f
    simp [onSettlement, onDay, h]
  refine ⟨fun trailing => ?_, fun phase few => ?_, fun phase third => ?_⟩
  · simp only [settlementFails, h, if_pos trailing, one]
    rfl
  · simp only [settlementFails, h, if_neg phase, one]
    exact if_neg (by omega)
  · simp only [settlementFails, h, if_neg phase, one]
    exact if_pos (by omega)

/-- A day that fails is SETTLE_FAILED, with its entry and its flag. -/
theorem failDay_fails (s : State) : keeps [.scm, .jrn, .day, .blc, .mrs] s (failDay s) ∧ statusLinesFollow s (failDay s) ∧
    raisedOnly (.settleFailed :: journalFlags) s (failDay s) ∧ flagSet .settleFailed (failDay s).mrs.flags = true ∧
    (failDay s).day = { s.day with state := .settleFailed } ∧
    (canWrite 0 (dayDraft .settleFailed s.day.date) s → wrote 0 (dayDraft .settleFailed s.day.date) s (failDay s)) := by
  obtain ⟨follow, raised, written⟩ := changeDay_entered .settleFailed s
  refine ⟨by simp [keeps, failDay], ?_, ?_, by simp [failDay, flagSet_raise], by simp [failDay], fun can => ?_⟩
  · exact follow_to follow (by simp [failDay]) (by simp [failDay]) (by simp [failDay]) (by simp [failDay, drawerOf])
      (by simp [failDay]) (by simp [failDay])
  · exact raisedOnly_trans (raisedOnly_mono raised fun f hf => List.mem_cons_of_mem _ hf) (raisedOnly_raise (by simp) _)
  · have stored := written can
    unfold wrote at stored ⊢
    simpa [failDay] using stored

/-- The last part of the totals batch is accepted: the day is SETTLED, in phase TRAILING. -/
theorem endSettlement_settles {c : Settlement} {s : State} (h : s.day.settlement = some c) :
    keeps [.scm, .jrn, .day, .blc, .mrs] s (endSettlement s) ∧ statusLinesFollow s (endSettlement s) ∧
    raisedOnly journalFlags s (endSettlement s) ∧
    (endSettlement s).day = { s.day with state := .settled, settlement := some { c with phase := .trailing, parts := [] } } ∧
    (canWrite 0 (dayDraft .settled s.day.date) s → wrote 0 (dayDraft .settled s.day.date) s (endSettlement s)) := by
  let v := onSettlement (fun c => { c with phase := .trailing, parts := [] }) s
  have date : v.day.date = s.day.date := by simp [v]
  obtain ⟨follow, raised, written⟩ := changeDay_entered .settled v
  show keeps _ s (changeDay .settled v) ∧ statusLinesFollow s (changeDay .settled v) ∧ raisedOnly _ s (changeDay .settled v) ∧
    (changeDay .settled v).day = _ ∧ (_ → wrote _ _ s (changeDay .settled v))
  refine ⟨keeps_trans (t := v) (by simp [keeps, v]) (changeDay_reach .settled v), ?_, ?_, ?_, fun can => ?_⟩
  · exact follow_from follow (by simp [v]) (by simp [v])
  · exact raisedOnly_from raised (by simp [v]) (by simp [v])
  · rw [changeDay_day]
    simp [v, onSettlement, h]
  · have stored := written (by rw [date]; exact can)
    rw [date] at stored
    exact wrote_congr stored (by simp [v]) date (by simp [v]) rfl

/-- An accepted journal batch of the settlement. -/
theorem settlementAccepted_journal {b : Batch} {j : JournalBatch} {c : Settlement} {s : State} (content : b.content = .journal j)
    (h : s.day.settlement = some c) : ∃ c', keeps [.jrn, .day] s (settlementAccepted b s) ∧
      (settlementAccepted b s).jrn = (acceptSequence j.last s).jrn ∧
      (settlementAccepted b s).day = { s.day with settlement := some c' } ∧ c'.current = none ∧ c'.outstanding = none ∧
      c'.attempts = 0 ∧ c'.pause = c.pause ∧
      if c.phase = .journal ∧ (∀ e ∈ s.jrn.entries, e.seq ≤ j.last) then
        c'.phase = .totals ∧ c'.parts = totalsParts (settlementAccepted b s) ∧ partsCarry c'.parts (settlementAccepted b s)
      else c'.phase = c.phase ∧ c'.parts = c.parts := by
  let v := onSettlement clearCurrent (acceptSequence j.last s)
  have run : settlementAccepted b s = phaseAfterAcceptance v := by simp only [settlementAccepted, content]; rfl
  have vday : v.day = { s.day with settlement := some (clearCurrent c) } := by simp [v, onSettlement, h]
  have settlement : v.day.settlement = some (clearCurrent c) := by rw [vday]
  have left : unaccepted v = [] ↔ ∀ e ∈ s.jrn.entries, e.seq ≤ j.last := by
    rw [← unaccepted_acceptSequence]
    simp [v, unaccepted]
  obtain ⟨begins, stands⟩ := phaseAfterAcceptance_day settlement
  rw [run]
  have reach : keeps [.jrn, .day] s (phaseAfterAcceptance v) := by simp [keeps, v]
  have jrn : (phaseAfterAcceptance v).jrn = (acceptSequence j.last s).jrn := by simp [v]
  by_cases ended : c.phase = .journal ∧ ∀ e ∈ s.jrn.entries, e.seq ≤ j.last
  · obtain ⟨parts, day, built, carry⟩ := begins ended.1 (left.2 ended.2)
    refine ⟨{ clearCurrent c with phase := .totals, current := none, attempts := 0, parts := parts }, reach, jrn,
      by rw [day, vday], rfl, rfl, rfl, rfl, ?_⟩
    rw [if_pos ended]
    exact ⟨rfl, built, carry⟩
  · have other : (clearCurrent c).phase ≠ .journal ∨ unaccepted v ≠ [] := by
      by_cases phase : c.phase = .journal
      · exact .inr fun none => ended ⟨phase, left.1 none⟩
      · exact .inl phase
    refine ⟨clearCurrent c, reach, jrn, by rw [stands other, vday], rfl, rfl, rfl, rfl, ?_⟩
    rw [if_neg ended]
    exact ⟨rfl, rfl⟩

/-- An accepted part of the totals batch. -/
theorem settlementAccepted_totals {b : Batch} {p part : TotalsPart} {rest : List TotalsPart} {c : Settlement} {s : State}
    (content : b.content = .totals p) (h : s.day.settlement = some c) (parts : c.parts = part :: rest) :
    (rest ≠ [] → settlementAccepted b s = onDay (fun d => { d with
      settlement := some { c with current := none, outstanding := none, attempts := 0, parts := rest } }) s) ∧
    (rest = [] → settlementAccepted b s = endSettlement (onDay (fun d => { d with
      settlement := some { c with current := none, outstanding := none, attempts := 0, parts := [] } }) s)) := by
  have cleared : onSettlement (fun c => { clearCurrent c with parts := c.parts.tail }) s = onDay (fun d => { d with
      settlement := some { c with current := none, outstanding := none, attempts := 0, parts := rest } }) s := by
    simp [onSettlement, onDay, h, parts, clearCurrent]
  refine ⟨fun more => ?_, fun last => ?_⟩
  · simp only [settlementAccepted, content, cleared, onDay, if_neg more]
  · subst last
    simp only [settlementAccepted, content, cleared, onDay, if_true]

/-- Settles O53: the batch that is answered, what its acceptance or failure does, and the timers. -/
theorem batchAnswered : Obligations.BatchAnswered := by
  rintro s a rfl
  have jrn : (arrive s).jrn = s.jrn := by simp
  have day : (arrive s).day = s.day := by simp
  have role : printerRoleHeld (arrive s) = printerRoleHeld s := by simp [printerRoleHeld]
  have time : (arrive s).uptime = s.uptime := by simp
  have settings : (arrive s).mrs.settings = s.mrs.settings := by simp
  refine ⟨fun ack h => ?_, fun b hb => ⟨⟨_, exec_batchAck _ s, ?_⟩, ?_⟩, rfl, rfl, rfl, fun none => ?_,
    fun b c hc out current apart => ⟨fun j content => ?_, fun p part rest content parts => ⟨fun more => ?_, fun last => ?_⟩,
      fun cmd x h => ?_⟩⟩
  · rw [exec_batchAck, takeBatchAck_unmatched (by simpa only [trickleOf, settlementOf, outstandingSettlement, jrn, day] using h)]
    rfl
  · rw [(takeBatchAck_trickle (jrn ▸ hb)).1]
    let v := acceptSequence b.batch.last (onJrn (fun j => { j with trickle := .none }) (arrive s))
    have run : answerTrickle b true (arrive s) = phaseAfterAcceptance v := rfl
    rw [run]
    have vjrn : (phaseAfterAcceptance v).jrn = v.jrn := by simp
    have vday : v.day = s.day := by simp [v]
    have left : unaccepted v = [] ↔ ∀ e ∈ s.jrn.entries, e.seq ≤ b.batch.last := by
      rw [unaccepted_acceptSequence]
      simp
    refine ⟨by simp [keeps, v], by simp [v], fun none => ?_, fun c hc => ⟨fun phase all => ?_, fun other => ?_⟩, ?_, ?_, fun h => ?_⟩
    · rw [(phaseAfterAcceptance_eq v).1 (by rw [vday]; exact none), vday]
    · have begins := (phaseAfterAcceptance_day (s := v) (by rw [vday]; exact hc)).1 phase (left.2 all)
      rw [vday] at begins
      exact begins
    · have stands := (phaseAfterAcceptance_day (s := v) (by rw [vday]; exact hc)).2
      rw [stands (other.imp_right fun ⟨e, he, later⟩ none => absurd (left.1 none e he) (Nat.not_le.2 later)), vday]
    · rw [vjrn]
      rfl
    · rw [vjrn, acceptSequence_entries]
      simp only [onJrn, jrn, printerRoleHeld_congr (s := s) (t := { arrive s with jrn := { s.jrn with trickle := .none } }) (by simp)]
    · have taken : slotsAccounted (onJrn (fun j => { j with trickle := .none, lastAccepted := b.batch.last }) (arrive s)) := by
        unfold slotsAccounted reservedSlots at *
        simpa using h
      exact slotsAccounted_congr (slotsAccounted_freeEntries taken) vjrn (by simp [v])
  · rw [exec_batchAck, (takeBatchAck_trickle (jrn ▸ hb)).2]
    simp only [answerTrickle, secondsAhead, time, settings]
    rfl
  · show execSettlementBatchTimeout s = _
    simp only [execSettlementBatchTimeout, none]
  · have held : (arrive s).day.settlement = some c := by rw [day]; exact hc
    rw [exec_batchAck, (takeBatchAck_settlement held out current (by rw [jrn]; exact apart)).1]
    obtain ⟨c', reach, same, settled, rest⟩ := settlementAccepted_journal content held
    rw [jrn] at rest
    refine ⟨_, c', rfl, reach, by rw [same]; rfl, ?_, by rw [settled, day], rest⟩
    rw [same, acceptSequence_entries, jrn, role]
  · have held : (arrive s).day.settlement = some c := by rw [day]; exact hc
    rw [exec_batchAck, (takeBatchAck_settlement held out current (by rw [jrn]; exact apart)).1]
    exact congrArg Host.Outcome.next ((settlementAccepted_totals content held parts).1 more)
  · have held : (arrive s).day.settlement = some c := by rw [day]; exact hc
    rw [exec_batchAck, (takeBatchAck_settlement held out current (by rw [jrn]; exact apart)).1,
      (settlementAccepted_totals content held parts).2 last]
    let v := onDay (fun d => { d with
      settlement := some { c with current := none, outstanding := none, attempts := 0, parts := [] } }) (arrive s)
    have vday : v.day = { s.day with
        settlement := some { c with current := none, outstanding := none, attempts := 0, parts := [] } } := by simp [v]
    obtain ⟨reach, follow, raised, settled, written⟩ := endSettlement_settles (s := v) (by rw [vday])
    refine ⟨_, rfl, keeps_trans (t := v) (by simp [keeps, v]) reach, follow, raised, by rw [settled, vday], fun can => ?_⟩
    have date : v.day.date = s.day.date := by rw [vday]
    have stored := written (by rw [date]; simpa [canWrite, v] using can)
    rw [date] at stored
    exact wrote_congr stored rfl (by rw [date, day]) rfl rfl
  · have fails : exec cmd s = .next (settlementFails x) := by
      rcases h with ⟨rfl, rfl⟩ | ⟨rfl, rfl⟩
      · rw [exec_batchAck, (takeBatchAck_settlement (by rw [day]; exact hc) out current (by rw [jrn]; exact apart)).2]
      · show execSettlementBatchTimeout x = _
        have outstanding : outstandingSettlement x = some b := by simp [outstandingSettlement, hc, out, current]
        simp only [execSettlementBatchTimeout, outstanding]
    have same : x.day = s.day ∧ x.uptime = s.uptime ∧ x.mrs.settings = s.mrs.settings ∧ x.jrn = s.jrn := by
      rcases h with ⟨-, rfl⟩ | ⟨-, rfl⟩
      · exact ⟨day, time, settings, jrn⟩
      · exact ⟨rfl, rfl, rfl, rfl⟩
    obtain ⟨xday, xtime, xsettings, xjrn⟩ := same
    obtain ⟨trailing, again, third⟩ := settlementFails_eq (s := x) (by rw [xday]; exact hc)
    rw [fails]
    refine ⟨fun phase => ?_, fun phase few => by rw [again phase few], fun phase many => ?_⟩
    · rw [trailing phase, xtime, xsettings]
    · rw [third phase many]
      let v := onDay (fun d => { d with settlement := some { c with outstanding := none, attempts := c.attempts + 1 } }) x
      obtain ⟨reach, follow, raised, flag, failed, written⟩ := failDay_fails v
      have vday : v.day = { s.day with settlement := some { c with outstanding := none, attempts := c.attempts + 1 } } := by
        simp [v, xday]
      have date : v.day.date = s.day.date := by rw [vday]
      refine ⟨_, rfl, keeps_trans (t := v) (by simp [keeps, v]) reach, follow, raised, flag, by rw [failed, vday], fun can => ?_⟩
      have stored := written (by rw [date]; simpa [canWrite, v, xjrn] using can)
      rw [date] at stored
      exact wrote_congr stored rfl (by rw [date, xday]) rfl rfl

end Sys2Proof.Machine
end

section
/-! SUPPORT. The acknowledgement of an advice: its removal, the alarm or the recovery that ends with it, and what a refusal
leaves (R76, R112, R113, R187). -/

namespace Sys2Proof.Machine
open Sys2Proof

theorem isSentNumber_eq (n : Nat) : isSentNumber n = fun q => isSent q && decide (entryNumber q = some n) := by
  funext q
  cases q with
  | advice a => simp [isSentNumber, isSent, entryNumber, Bool.and_comm]
  | reservation r => rfl

theorem sentAdvice_congr {s t : State} (h : t.sda.queue = s.sda.queue) (n : Nat) : sentAdvice n t = sentAdvice n s := by
  unfold sentAdvice
  rw [h]

theorem sentAdvice_number {n : Nat} {s : State} {x : Advice} (h : sentAdvice n s = some x) : x.number = n := by
  obtain ⟨q, -, found⟩ := List.exists_of_findSome?_eq_some h
  cases q with
  | reservation r => cases found
  | advice a =>
    simp only [Option.ite_none_right_eq_some, Option.some.injEq] at found
    exact found.2 ▸ found.1.1

/-! ## The removal -/

/-- The queue without the SENT advice of a number. -/
def withoutSent (n : Nat) (q : List QueueEntry) : List QueueEntry :=
  q.filter fun x => !(isSent x && decide (entryNumber x = some n))

/-- The link once an advice has left the queue: a RECOVERING link is UP where it was the last STANDIN advice. -/
def linkWithout (x : Advice) (n : Nat) (s : State) : LinkState :=
  if adviceKind x.body = .standin ∧ s.blc.link = .recovering ∧
      (s.sda.queue.any fun q => isKind .standin q && !(isSent q && decide (entryNumber q = some n))) = false
    then .up else s.blc.link

/-- The advice has left, and with it the alarm it stands for. -/
def advicePassed (x : Advice) (n : Nat) (s : State) : State :=
  alarmEnded x (onSda (fun d => { d with queue := withoutSent n d.queue }) s)

theorem removeAdvice_eq {x : Advice} {n : Nat} (h : x.number = n) (s : State) :
    removeAdvice x s = recoverLink x (advicePassed x n s) := by
  rw [removeAdvice, h, isSentNumber_eq]
  rfl

theorem advicePassed_keeps (x : Advice) (n : Nat) (s : State) : keeps [.scm, .sda] s (advicePassed x n s) ∧
    (advicePassed x n s).sda = { s.sda with queue := withoutSent n s.sda.queue } := by
  simp [keeps, advicePassed]

theorem advicePassed_screens {x : Advice} {n : Nat} {s : State} :
    (adviceKind x.body ≠ .alarm → (advicePassed x n s).scm = s.scm) ∧
      ∀ st first k c, x.body = .alarm st first k → contextOf st s = some c →
        contextOf st (advicePassed x n s) = some { c with terminalPending := true, mirrorPending := true } ∧
          otherScreens st s (advicePassed x n s) := by
  refine ⟨fun other => ?_, fun st first k c body hc => ?_⟩
  · unfold advicePassed alarmEnded
    split
    · next body => exact absurd (by rw [body]; rfl) other
    · rfl
  · have context : contextOf st (onSda (fun d => { d with queue := withoutSent n d.queue }) s) = some c := hc
    simp only [advicePassed, alarmEnded, body, pendBoth, context]
    exact ⟨by simp, rfl, rfl, fun a ha => (contextOf_setContext ..).trans (if_neg ha)⟩

theorem holdsStandin_without (n : Nat) (s : State) : (withoutSent n s.sda.queue).any (isKind .standin) =
    s.sda.queue.any fun q => isKind .standin q && !(isSent q && decide (entryNumber q = some n)) := by
  rw [withoutSent, List.any_filter]
  exact congrArg _ (funext fun q => Bool.and_comm ..)

/-- What follows an advice out of the queue. -/
structure adviceLeft (x : Advice) (n : Nat) (s u : State) : Prop where
  reach : keeps [.scm, .sda, .blc] s u
  sda : u.sda = { s.sda with queue := withoutSent n s.sda.queue }
  blc : u.blc = { s.blc with link := linkWithout x n s }
  screens : adviceKind x.body ≠ .alarm → linkWithout x n s = s.blc.link → u.scm = s.scm
  follow : linkWithout x n s ≠ s.blc.link → statusLinesFollow s u
  alarm : ∀ st first k c, x.body = .alarm st first k → contextOf st s = some c →
    contextOf st u = some { c with terminalPending := true, mirrorPending := true } ∧ otherScreens st s u

theorem removeAdvice_left {x : Advice} {n : Nat} (h : x.number = n) (s : State) : adviceLeft x n s (removeAdvice x s) := by
  obtain ⟨reach, sda⟩ := advicePassed_keeps x n s
  obtain ⟨screens, alarm⟩ := advicePassed_screens (x := x) (n := n) (s := s)
  have blc : (advicePassed x n s).blc = s.blc := (keeps_stands reach).2.2.2.2.2.2.2.2.2.1 (by decide)
  have holds : holdsStandin (advicePassed x n s) =
      s.sda.queue.any fun q => isKind .standin q && !(isSent q && decide (entryNumber q = some n)) := by
    rw [holdsStandin, sda]
    exact holdsStandin_without n s
  rw [removeAdvice_eq h, recoverLink, holds, blc]
  by_cases recovers : adviceKind x.body = .standin ∧ (s.sda.queue.any fun q =>
      isKind .standin q && !(isSent q && decide (entryNumber q = some n))) = false ∧ s.blc.link = .recovering
  · obtain ⟨kind, last, link⟩ := recovers
    have up : linkWithout x n s = .up := if_pos ⟨kind, link, last⟩
    have notAlarm : adviceKind x.body ≠ .alarm := by rw [kind]; decide
    rw [if_pos ⟨kind, last, link⟩]
    have wide : keeps [.scm, .sda, .blc] s (advicePassed x n s) := keeps_mono reach (by decide)
    refine ⟨keeps_trans wide (by simp [keeps]), by simp [sda], by simp [blc, up], fun _ same => ?_, fun _ => ?_,
      fun st first k c body => absurd (by rw [body]; rfl) notAlarm⟩
    · rw [up, link] at same
      cases same
    · have scm := screens notAlarm
      exact follow_from (refreshAll_follow _) (by simp [scm]) (by simp [scm])
  · have stays : linkWithout x n s = s.blc.link :=
      if_neg fun ⟨kind, link, last⟩ => recovers ⟨kind, last, link⟩
    rw [if_neg recovers]
    exact ⟨keeps_mono reach (by decide), sda, by rw [blc, stays], fun other _ => screens other, fun no => absurd stays no, alarm⟩

/-! ## The acknowledgement -/

theorem takeAdviceAck_unmatched {ack : Option Ack} {s : State}
    (h : ∀ n, ack = some ⟨n, 1⟩ ∨ ack = some ⟨n, 2⟩ → sentAdvice n s = none) : takeAdviceAck ack s = unmatchedAck s := by
  cases ack with
  | none => rfl
  | some k =>
    obtain ⟨n, status⟩ := k
    have unsent : ∀ ok, ackAccepted ⟨n, status⟩ = some ok → sentAdvice n s = none := by
      intro ok judged
      refine h n ?_
      unfold ackAccepted at judged
      split at judged
      · next one => exact .inl (by rw [show status = 1 from one])
      · next two => exact .inr (by rw [show status = 2 from two])
      · cases judged
    simp only [takeAdviceAck]
    cases judged : ackAccepted ⟨n, status⟩ with
    | none => rfl
    | some ok =>
      simp only [unsent ok judged]

theorem exec_adviceAck (a : Option Ack) (s : State) :
    exec (.adviceAck a) s = .next (judgeSettle (takeAdviceAck a (arrive s))) := rfl

/-- Settles O52: the advice that is acknowledged leaves the queue, a refusal adds its flag and entry, and a timeout returns it. -/
theorem adviceAcknowledged : Obligations.AdviceAcknowledged := by
  rintro s a rfl
  have sda : (arrive s).sda = s.sda := by simp
  have same : ∀ n, sentAdvice n (arrive s) = sentAdvice n s := sentAdvice_congr (by rw [sda])
  refine ⟨fun ack h => ?_, fun n x b hx hb => ?_, fun n => ?_⟩
  · rw [exec_adviceAck, takeAdviceAck_unmatched (by simpa only [same] using h)]
    rfl
  · have sent : sentAdvice n (arrive s) = some x := (same n).trans hx
    obtain ⟨reach, left, blc, screens, follow, alarm⟩ := removeAdvice_left (sentAdvice_number hx) (arrive s)
    have link : b.blc = { (arrive s).blc with link := linkWithout x n (arrive s) } := by
      rw [hb, linkWithout, sda]
      rfl
    have moved : b.blc.link = linkWithout x n (arrive s) := by rw [link]
    rw [sda] at left
    refine ⟨⟨_, ?_, reach, left, blc.trans link.symm, fun other stays => screens other (moved.symm.trans stays),
      fun moves => follow (fun stays => moves (moved.trans stays)), alarm⟩, ?_⟩
    · rw [exec_adviceAck, takeAdviceAck]
      simp only [ackAccepted, sent]
    · let v := raise .adviceRefused (removeAdvice x (arrive s))
      let u := writeEntry 0 (refusedAdviceDraft x) v
      have run : exec (.adviceAck (some ⟨n, 2⟩)) s = .next (judgeSettle u) := by
        rw [exec_adviceAck, takeAdviceAck]
        simp only [ackAccepted, sent]
        rfl
      have scm : u.scm = (removeAdvice x (arrive s)).scm := by simp [u, v]
      have number : x.number = n := sentAdvice_number hx
      refine ⟨u, run, ?_, ?_, ?_, ?_, fun other stays => ?_, fun moves => ?_, fun st first k c body hc => ?_, ?_⟩
      · exact keeps_trans (keeps_mono reach (by decide)) (by simp [keeps, u, v])
      · have written : u.sda = v.sda := writeEntry_sda (by rfl) v
        exact (written.trans (by simp [v])).trans left
      · refine raisedOnly_from (t := removeAdvice x (arrive s)) ?_ (by rw [hb]; simp) (blc.trans link.symm)
        have written : raisedOnly journalFlags v u := raisedOnly_writeEntry 0 (refusedAdviceDraft x) v
        exact raisedOnly_trans (raisedOnly_raise (by simp) _) (raisedOnly_mono written fun f hf => List.mem_cons_of_mem _ hf)
      · have written : raisedOnly journalFlags v u := raisedOnly_writeEntry 0 (refusedAdviceDraft x) v
        exact written.2.1 _ (by simp [v, flagSet_raise])
      · exact scm.trans (screens other (moved.symm.trans stays))
      · exact follow_to (follow fun stays => moves (moved.trans stays)) scm (by simp [u, v]) (by simp [u, v])
          (by simp [u, v, drawerOf]) (by simp [u, v]) (by simp [u, v])
      · obtain ⟨context, others⟩ := alarm st first k c body hc
        exact ⟨(contextOf_congr st (by rw [scm])).trans context, otherScreens_trans others (otherScreens_of scm)⟩
      · rintro draft rfl can
        have drafted : refusedAdviceDraft x = {
            station := some (adviceStation x.body), teller := none,
            body := .late .adviceRefused (adviceSeq x.body) (adviceCode x.body) n (some (adviceKind x.body)),
            account := adviceAccount x.body, amounts := adviceAmounts x.body, breakdown := [] } := by
          rw [refusedAdviceDraft, number]
        rw [← drafted] at can ⊢
        have stored := writeEntry_wrote (k := 0) (d := refusedAdviceDraft x) (s := v) (by simpa [canWrite, v] using can)
        exact wrote_congr stored (by simp [v]) (by simp [v]) (by simp [v]) rfl
  · show execAdviceAckTimeout n s = _
    rw [execAdviceAckTimeout, isSentNumber_eq]

end Sys2Proof.Machine
end

section
/-! SUPPORT. Open transactions that end one after another without a posting (R20, R28), and the loss of the link (R186). -/

namespace Sys2Proof.Machine
open Sys2Proof

/-! ## One end -/

theorem raisedOnly_requests {fs : List EventFlag} {s t : State} (h : raisedOnly fs s t) (q : List RequestMsg) :
    raisedOnly fs (onBlc (fun b => { b with requests := q }) s) (onBlc (fun b => { b with requests := q }) t) := by
  obtain ⟨mrs, set, others, blc, new, events, among⟩ := h
  refine ⟨mrs, set, others, ?_, new, events, among⟩
  exact congrArg (fun b : Blc => { b with requests := q }) blc

/-- From s to t one OTT entry has ended with an outcome and without a posting: it has left the OTT, its leg is released, its
REQUEST withdrawn, and its TXN entry written and counted. -/
structure endedOne (o : TxnOutcome) (e : OttEntry) (s t : State) : Prop where
  ttr : t.ttr = { s.ttr with ott := s.ttr.ott.filter fun x => x.ref ≠ e.ref }
  written : s.jrn.nextSeq ≤ 4294967295 → wrote 4 (txnDraft e o []) s t ∧ countedFor (some e.teller) s t
  position : ∀ p, positionOf p t =
    if p = some e.ref.station then afterLeg releasedPosition e.leg (positionOf p s) else positionOf p s
  day : t.day = s.day
  requests : t.blc.requests = s.blc.requests.filter fun m => m.ref ≠ e.ref
  raised : raisedOnly journalFlags (onBlc (fun b => { b with requests := t.blc.requests }) s) t

/-- The end of an entry whose leg is released and whose REQUEST is withdrawn. -/
theorem endedOne_endEntry (o : TxnOutcome) (e : OttEntry) {s v t : State} (ttr : v.ttr = s.ttr) (jrn : v.jrn = s.jrn)
    (day : v.day = s.day) (mrs : v.mrs = s.mrs) (days : v.sda.tellerDays = s.sda.tellerDays)
    (csh : v.csh = (releaseLeg e.ref.station e.leg s).csh)
    (blc : v.blc = { s.blc with requests := s.blc.requests.filter fun m => m.ref ≠ e.ref })
    (t_eq : keeps [.scm] (endEntry e o [] v) t) : endedOne o e s t := by
  obtain ⟨tttr, tcsh, -, -, tsda, tjrn, tday, -, -, tblc, tmrs⟩ := keeps_stands t_eq
  replace tttr := tttr (by decide)
  replace tcsh := tcsh (by decide)
  replace tsda := tsda (by decide)
  replace tjrn := tjrn (by decide)
  replace tday := tday (by decide)
  replace tblc := tblc (by decide)
  replace tmrs := tmrs (by decide)
  have requests : t.blc.requests = s.blc.requests.filter fun m => m.ref ≠ e.ref := by
    rw [tblc]
    simp [blc]
  refine ⟨by rw [tttr, endEntry_ttr, ttr], fun room => ⟨?_, ?_⟩, fun p => ?_, by rw [tday]; simp [day], requests, ?_⟩
  · exact wrote_congr (endEntry_wrote e o (s := v) (by rw [jrn]; exact room)) jrn (by rw [day]) (by rw [mrs]) tjrn
  · have counted := endEntry_counted e o (s := v) (by rw [jrn]; exact room)
    unfold countedFor at counted ⊢
    rw [tsda, counted, days]
  · rw [← positionOf_releaseLeg]
    have money : t.csh = (releaseLeg e.ref.station e.leg s).csh := by
      rw [tcsh]
      simp [csh]
    cases p <;> simp [positionOf, drawerOf, money]
  · rw [requests]
    exact raisedOnly_of_eq (raisedOnly_from (raisedOnly_endEntry e o [] v) mrs blc) tmrs tblc

theorem endedOne_endLinkDown (e : OttEntry) (s : State) : endedOne .linkDown e s (endLinkDown e s) := by
  refine endedOne_endEntry .linkDown e (v := releaseLeg e.ref.station e.leg (withdrawRequest e.ref s)) (by simp) (by simp)
    (by simp) (by simp) (by simp) ?_ ?_ ?_
  · cases e.leg <;> rfl
  · simp [withdrawRequest]
  · simp [keeps, endLinkDown]

/-! ## One end after another -/

/-- From s to t a list of OTT entries have ended one after another. -/
structure endedInTurn (o : TxnOutcome) (es : List OttEntry) (s t : State) : Prop where
  ttr : t.ttr = { s.ttr with ott := s.ttr.ott.filter fun x => x.ref ∉ es.map OttEntry.ref }
  written : s.jrn.nextSeq + es.length ≤ 4294967296 →
    t.jrn = journalAfter (4 * es.length) s.mrs.clock (es.map fun e => txnDraft e o []) s ∧
      t.sda.tellerDays = s.sda.tellerDays.map fun r => { r with txCount := countedTxns es r }
  reserve : t.csh.reserve = s.csh.reserve
  drawers : ∀ st, drawerOf st t = (es.filter fun e => e.ref.station = st).foldl
    (fun p e => afterLeg releasedPosition e.leg p) (drawerOf st s)
  day : t.day = s.day
  requests : t.blc.requests = s.blc.requests.filter fun m => m.ref ∉ es.map OttEntry.ref
  raised : raisedOnly journalFlags (onBlc (fun b => { b with requests := t.blc.requests }) s) t

theorem endedInTurn_nil (o : TxnOutcome) (s : State) : endedInTurn o [] s s := by
  refine ⟨by simp, fun _ => ⟨(journalAfter_nil _ s).symm, ?_⟩, rfl, fun st => rfl, rfl, by simp, raisedOnly_refl _ s⟩
  simp [countedTxns]

/-- The slots of the entries written lie within those reserved for them. -/
theorem txnDrafts_slots (o : TxnOutcome) (es : List OttEntry) :
    ((es.map fun e => txnDraft e o []).map draftSlots).sum ≤ 4 * es.length := by
  induction es with
  | nil => simp
  | cons e rest ih =>
    have one := txnDraft_slots e o
    simp only [List.map_cons, List.sum_cons, List.length_cons]
    omega

theorem countedTxns_snoc (es : List OttEntry) (e : OttEntry) (r : TellerDay) : countedTxns (es ++ [e]) r =
    if e.teller = r.teller then satCount 65535 (countedTxns es r) else countedTxns es r := by
  unfold countedTxns
  rw [List.countP_append, Nat.add_comm, Function.iterate_add_apply, List.countP_singleton]
  by_cases same : e.teller = r.teller
  · simp [same]
  · simp [same]

theorem notAmong_snoc (es : List OttEntry) (e : OttEntry) (r : Ref) : decide (r ∉ (es ++ [e]).map OttEntry.ref) =
    (decide (r ≠ e.ref) && decide (r ∉ es.map OttEntry.ref)) := by
  rw [List.map_append, ← Bool.decide_and]
  refine decide_eq_decide.2 ?_
  rw [List.mem_append, not_or, and_comm, List.map_singleton, List.mem_singleton]

theorem endedInTurn_snoc {o : TxnOutcome} {es : List OttEntry} {e : OttEntry} {s u t : State} (h : endedInTurn o es s u)
    (k : endedOne o e u t) : endedInTurn o (es ++ [e]) s t := by
  have clock : u.mrs.clock = s.mrs.clock := (congrArg Mrs.clock h.raised.1 :)
  have requests : t.blc.requests = s.blc.requests.filter fun m => m.ref ∉ (es ++ [e]).map OttEntry.ref := by
    rw [k.requests, h.requests, List.filter_filter]
    exact List.filter_congr fun m _ => (notAmong_snoc es e m.ref).symm
  refine ⟨?_, fun room => ?_, ?_, fun st => ?_, k.day.trans h.day, requests, ?_⟩
  · have left : (s.ttr.ott.filter fun x => decide (x.ref ≠ e.ref) && decide (x.ref ∉ es.map OttEntry.ref)) =
        s.ttr.ott.filter fun x => x.ref ∉ (es ++ [e]).map OttEntry.ref :=
      List.filter_congr fun x _ => (notAmong_snoc es e x.ref).symm
    rw [k.ttr, h.ttr, List.filter_filter, left]
  · rw [List.length_append, List.length_singleton] at room
    obtain ⟨jrn, days⟩ := h.written (by omega)
    obtain ⟨written, counted⟩ := k.written (by rw [jrn]; simp only [journalAfter, List.length_map]; omega)
    refine ⟨?_, ?_⟩
    · have slots := txnDrafts_slots o es
      have after := journalAfter_snoc written jrn (by omega) (by rw [h.day]) clock
      rw [after, List.map_append, List.length_append]
      rfl
    · rw [counted, days, List.map_map]
      refine List.map_congr_left fun r _ => ?_
      simp only [Function.comp_apply, Option.some.injEq, countedTxns_snoc, Config.topCounter]
      split
      · rfl
      · rfl
  · exact (k.position none).trans h.reserve
  · rw [List.filter_append, List.foldl_append, ← h.drawers st]
    have own : drawerOf st t = _ := k.position (some st)
    rw [own]
    by_cases here : e.ref.station = st
    · simp [here, positionOf]
    · simp [here, positionOf, Ne.symm here]
  · have before := raisedOnly_requests h.raised t.blc.requests
    exact raisedOnly_trans before k.raised

theorem endedInTurn_foldl {o : TxnOutcome} {f : OttEntry → State → State} (one : ∀ e s, endedOne o e s (f e s))
    (es : List OttEntry) (s : State) : endedInTurn o es s (es.foldl (fun acc e => f e acc) s) := by
  induction es using List.reverseRecOn with
  | nil => exact endedInTurn_nil o s
  | append_singleton es e ih =>
    rw [List.foldl_append]
    exact endedInTurn_snoc ih (one e _)

/-! ## What a release leaves -/

theorem afterLeg_released_total (leg : Option Leg) (p : Position) : (afterLeg releasedPosition leg p).total = p.total := by
  cases leg with
  | none => rfl
  | some g =>
    show (releasedPosition g p).total = p.total
    unfold releasedPosition
    split <;> rfl

theorem released_total (es : List OttEntry) (p : Position) :
    (es.foldl (fun p e => afterLeg releasedPosition e.leg p) p).total = p.total := by
  induction es generalizing p with
  | nil => rfl
  | cons e rest ih => exact (ih _).trans (afterLeg_released_total e.leg p)

theorem endedInTurn.total {o : TxnOutcome} {es : List OttEntry} {s t : State} (h : endedInTurn o es s t) (p : Option Station) :
    (positionOf p t).total = (positionOf p s).total := by
  cases p with
  | none => exact congrArg Position.total h.reserve
  | some st => exact (congrArg Position.total (h.drawers st)).trans (released_total _ _)

theorem endedInTurn.position {o : TxnOutcome} {es : List OttEntry} {s t : State} (h : endedInTurn o es s t) {st : Station}
    (none : ∀ e ∈ es, e.ref.station ≠ st) : drawerOf st t = drawerOf st s := by
  rw [h.drawers st, List.filter_eq_nil_iff.2 fun e he => by simpa using none e he]
  rfl

/-! ## The screens of the entries ended by the loss of the link (R20) -/

/-- The screens after some entries have ended LINK_DOWN: a station's is that of its last. -/
structure linkDownShown (es : List OttEntry) (s t : State) : Prop where
  signOn : t.scm.signOn = s.scm.signOn
  stands : ∀ st, (∀ e ∈ es, e.ref.station ≠ st) → contextOf st t = contextOf st s
  there : ∀ st, (contextOf st t).isSome = (contextOf st s).isSome
  shows : ∀ st e, (es.filter fun x => x.ref.station = st).getLast? = some e → (contextOf st s).isSome = true →
    screenShows st .result (refMessage "LINK DOWN".toList e.ref) t ∧ (contextOf st t).bind ScreenContext.format = some e.declineFormat

/-- What is shown of an entry that ends LINK_DOWN. -/
theorem contextOf_endLinkDown (e : OttEntry) (s : State) : ∃ v, contextOf e.ref.station v = contextOf e.ref.station s ∧
    (∀ a, a ≠ e.ref.station → contextOf a (endLinkDown e s) = contextOf a s) ∧
    contextOf e.ref.station (endLinkDown e s) = (contextOf e.ref.station s).map
      (resultContext e.ref.station e.declineFormat (plainInfo e "LINK DOWN".toList) (refMessage "LINK DOWN".toList e.ref) v) := by
  let v := endEntry e .linkDown [] (releaseLeg e.ref.station e.leg (withdrawRequest e.ref s))
  have same : ∀ a, contextOf a v = contextOf a s := fun a => contextOf_congr a (by simp [v])
  have shown := fun a => contextOf_composeResult e.ref.station a e.declineFormat (plainInfo e "LINK DOWN".toList)
    (refMessage "LINK DOWN".toList e.ref) v
  refine ⟨v, same _, fun a ha => ?_, ?_⟩
  · exact (shown a).trans ((if_neg ha).trans (same a))
  · refine (shown e.ref.station).trans ?_
    rw [if_pos rfl, same]

theorem linkDownShown_foldl (es : List OttEntry) (s : State) :
    linkDownShown es s (es.foldl (fun acc e => endLinkDown e acc) s) := by
  induction es using List.reverseRecOn with
  | nil => exact ⟨rfl, fun _ _ => rfl, fun _ => rfl, fun st e h => by cases h⟩
  | append_singleton es e ih =>
    obtain ⟨signOn, stands, there, shows⟩ := ih
    rw [List.foldl_append]
    obtain ⟨v, -, others, own⟩ := contextOf_endLinkDown e (es.foldl (fun acc e => endLinkDown e acc) s)
    refine ⟨?_, fun st none => ?_, fun st => ?_, fun st x last hc => ?_⟩
    · exact Eq.trans (by simp) signOn
    · have apart : st ≠ e.ref.station := Ne.symm (none e (by simp))
      exact (others st apart).trans (stands st fun x hx => none x (by simp [hx]))
    · by_cases here : st = e.ref.station
      · subst here
        exact (congrArg Option.isSome own).trans (Option.isSome_map.trans (there _))
      · exact (congrArg Option.isSome (others st here)).trans (there st)
    · by_cases here : st = e.ref.station
      · subst here
        have is : x = e := by simpa [List.filter_append, eq_comm] using last
        subst is
        obtain ⟨c, hc⟩ := Option.isSome_iff_exists.1 ((there _).trans hc)
        have context := own.trans (congrArg _ hc)
        exact ⟨⟨_, context, rfl, rfl, rfl, rfl⟩, congrArg (fun o => Option.bind o ScreenContext.format) context⟩
      · have before : (es.filter fun x => x.ref.station = st).getLast? = some x := by
          simpa [List.filter_append, Ne.symm here] using last
        obtain ⟨screen, format⟩ := shows st x before hc
        exact ⟨screenShows_congr screen (others st here), (congrArg (fun o => Option.bind o ScreenContext.format) (others st here)).trans format⟩

/-! ## The loss of the link (R186) -/

/-- The entries that the loss of the link ends. -/
def queuedEntries (s : State) : List OttEntry := s.ttr.ott.filter fun e => e.state = .queued

/-- Over an OTT that holds no reference twice, those of the QUEUED entries are theirs alone. -/
theorem mem_queuedRefs {s : State} (once : (heldRefs s).Nodup) {x : OttEntry} (hx : x ∈ s.ttr.ott) :
    x.ref ∈ (queuedEntries s).map OttEntry.ref ↔ x.state = .queued := by
  have apart : (s.ttr.ott.map OttEntry.ref).Nodup := (List.nodup_append.1 once).1
  rw [List.mem_map]
  constructor
  · rintro ⟨y, hy, same⟩
    obtain ⟨held, queued⟩ := List.mem_filter.1 hy
    have is : y = x := List.inj_on_of_nodup_map apart held hx same
    simpa [is] using queued
  · exact fun queued => ⟨x, List.mem_filter.2 ⟨hx, by simpa using queued⟩, rfl⟩

/-- The link as it is lost, before its units act. -/
def linkDropped (s : State) : State := onBlc (fun b => { b with
  link := .lost, silence := none, reassembly := none, linkAnswer := none }) s

theorem loseLink_eq (s : State) : loseLink s = refreshAll (settlementLinkLost (onJrn (fun j => { j with trickle := none })
    (returnAllUnsent (endQueued (raise .linkLost (linkDropped s)))))) := rfl

/-- Settles O55: the entries that end in turn, their screens, and the parts of the other units. -/
theorem silenceLosesTheLink : Obligations.SilenceLosesTheLink := by
  intro s
  refine ⟨fun lost => if_pos lost, fun up once => ⟨loseLink s, if_neg up, ?_⟩⟩
  let s1 := raise .linkLost (linkDropped s)
  have stood : keeps [.blc, .mrs] s s1 := by simp [keeps, s1, linkDropped]
  obtain ⟨ttr1, csh1, scm1, -, sda1, jrn1, day1, -⟩ := keeps_stands stood
  replace ttr1 := ttr1 (by decide)
  replace csh1 := csh1 (by decide)
  replace scm1 := scm1 (by decide)
  replace sda1 := sda1 (by decide)
  replace jrn1 := jrn1 (by decide)
  replace day1 := day1 (by decide)
  have clock1 : s1.mrs.clock = s.mrs.clock := by simp [s1, linkDropped]
  have gone1 : queuedEntries s1 = queuedEntries s := by rw [queuedEntries, ttr1]; rfl
  let v := endQueued s1
  have fold : v = (queuedEntries s).foldl (fun acc e => endLinkDown e acc) s1 := by rw [← gone1]; rfl
  have ended : endedInTurn .linkDown (queuedEntries s) s1 v := fold ▸ endedInTurn_foldl endedOne_endLinkDown _ s1
  have shown : linkDownShown (queuedEntries s) s1 v := fold ▸ linkDownShown_foldl _ s1
  let w := settlementLinkLost (onJrn (fun j => { j with trickle := none }) (returnAllUnsent v))
  have run : loseLink s = refreshAll w := loseLink_eq s
  have position : ∀ p, positionOf p (refreshAll w) = positionOf p v := fun p => by cases p <;> simp [positionOf, drawerOf, w]
  have position1 : ∀ p, positionOf p s1 = positionOf p s := fun p => by cases p <;> simp [positionOf, drawerOf, csh1]
  have context1 : ∀ st, contextOf st s1 = contextOf st s := fun st => contextOf_congr st (by rw [scm1])
  have context : ∀ st, contextOf st (refreshAll w) = (contextOf st v).map (recomposed st (refreshAll w)) := fun st =>
    (refreshAll_follow w).2 st |>.trans (congrArg _ (contextOf_congr st (by simp [w])))
  rw [run]
  refine ⟨?_, ?_, ?_, ?_, ?_, ?_, ?_, ?_, ?_, ?_, ?_, ?_, ?_, fun st none => ⟨?_, ?_⟩, fun none => ?_, ?_⟩
  · exact keeps_trans (keeps_mono stood (by decide)) (keeps_trans (t := v) (by simp [keeps, v]) (by simp [keeps, w]))
  · have left : (refreshAll w).ttr = v.ttr := by simp [w]
    have ott : (s.ttr.ott.filter fun x => x.ref ∉ (queuedEntries s).map OttEntry.ref) =
        s.ttr.ott.filter fun e => e.state ≠ .queued := by
      refine List.filter_congr fun x hx => ?_
      rw [decide_eq_decide, not_iff_not]
      exact mem_queuedRefs once hx
    rw [left, ended.ttr, ttr1, ott]
  · have lost := raisedOnly_requests (raisedOnly_raise (fs := .linkLost :: journalFlags) (f := .linkLost) (by simp)
      (linkDropped s)) v.blc.requests
    have all := raisedOnly_trans lost (raisedOnly_mono ended.raised fun f hf => List.mem_cons_of_mem _ hf)
    have requests : v.blc.requests = s.blc.requests.filter fun m =>
        !(s.ttr.ott.any fun e => decide (e.state = .queued) && decide (e.ref = m.ref)) := by
      rw [ended.requests]
      have stood : s1.blc.requests = s.blc.requests := by simp [s1, linkDropped]
      rw [stood]
      refine List.filter_congr fun m _ => ?_
      rw [decide_not]
      refine congrArg _ ?_
      rw [Bool.eq_iff_iff, decide_eq_true_eq, List.any_eq_true]
      simp [queuedEntries, and_assoc]
    rw [requests] at all
    exact raisedOnly_of_eq all (by simp [w]) (by simp [w])
  · have set : flagSet .linkLost s1.mrs.flags = true := by simp [s1, flagSet_raise]
    have kept := ended.raised.2.1 .linkLost set
    simpa [w] using kept
  · simp [w, v, s1, returnAllUnsent, linkDropped]
  · simp [w, v, s1, returnAllUnsent, linkDropped]
  · simp [w, v, s1, returnAllUnsent, linkDropped]
  · simp [w]
  · simp [w, v, s1, linkDropped]
  · have day : v.day = s.day := ended.day.trans day1
    have same : (refreshAll w).day = w.day := by simp
    rw [same, ← day]
    rfl
  · intro p
    rw [position, ended.total, position1]
  · rw [position]
    exact ended.reserve.trans (position1 none)
  · exact Eq.trans (by simp [w]) (shown.signOn.trans (congrArg Scm.signOn scm1))
  · have apart : ∀ e ∈ queuedEntries s, e.ref.station ≠ st := fun e he => by
      obtain ⟨held, queued⟩ := List.mem_filter.1 he
      exact none e held (by simpa using queued)
    rw [position]
    exact (ended.position apart).trans (position1 (some st))
  · have apart : ∀ e ∈ queuedEntries s, e.ref.station ≠ st := fun e he => by
      obtain ⟨held, queued⟩ := List.mem_filter.1 he
      exact none e held (by simpa using queued)
    rw [context, shown.stands st apart, context1]
  · have empty : queuedEntries s = [] := List.filter_eq_nil_iff.2 fun e he => by simpa using none e he
    have idle : v = s1 := by rw [fold, empty]; rfl
    have jrn : (refreshAll w).jrn = { v.jrn with trickle := .none } := by simp [w]
    rw [jrn, idle, jrn1]
  · rintro gone rfl
    refine ⟨fun room => ?_, fun st => ?_, fun st e last hc => ?_⟩
    · obtain ⟨jrn, days⟩ := ended.written (by rw [jrn1]; exact room)
      have same : journalAfter (4 * (queuedEntries s).length) s1.mrs.clock ((queuedEntries s).map fun e => txnDraft e .linkDown []) s1 =
          journalAfter (4 * (queuedEntries s).length) s.mrs.clock ((queuedEntries s).map linkDownDraft) s := by
        rw [clock1]
        unfold journalAfter
        rw [jrn1, day1]
        rfl
      have left : (refreshAll w).jrn = { v.jrn with trickle := .none } := by simp [w]
      have told : (refreshAll w).sda.tellerDays = v.sda.tellerDays := by simp [w, returnAllUnsent]
      exact ⟨by rw [left, jrn, same]; rfl, by rw [told, days, sda1]; rfl⟩
    · have drawer := position (some st)
      have start := position1 (some st)
      exact drawer.trans ((ended.drawers st).trans (congrArg (List.foldl _ · _) start))
    · obtain ⟨⟨c, hc, mode, message, -, -⟩, format⟩ := shown.shows st e last (by rw [context1]; exact hc)
      have now := (context st).trans (congrArg (Option.map _) hc)
      rw [hc] at format
      exact ⟨⟨_, now, mode, message, rfl, rfl⟩, (congrArg (fun o => Option.bind o ScreenContext.format) now).trans format⟩

end Sys2Proof.Machine
end

section
/-! SUPPORT. The transmitter: when each class of messages is ready, the frames a message goes out in, and what its owner does as it
is taken (R111, R123, R124, R138, R182, R188, R189). -/

namespace Sys2Proof.Machine
open Sys2Proof

/-! ## When a class is ready -/

theorem offeredAdvice_iff (s : State) (x : Advice) : offeredAdvice s = some x ↔ adviceOffered s x := by
  have first : firstUnsent s = some x ↔ x.sent = none ∧
      ∃ before after, s.sda.queue = before ++ .advice x :: after ∧ ∀ q ∈ before, isUnsent q = false := by
    have passes : ∀ q, (match q with
        | QueueEntry.advice a => if a.sent.isNone then some a else none
        | .reservation _ => none) = none ↔ isUnsent q = false := by
      intro q
      cases q with
      | reservation r => simp [isUnsent]
      | advice a => cases sent : a.sent <;> simp [isUnsent, sent]
    unfold firstUnsent
    rw [List.findSome?_eq_some_iff]
    constructor
    · rintro ⟨before, q, after, queue, found, none⟩
      cases q with
      | reservation r => cases found
      | advice a =>
        simp only [Option.ite_none_right_eq_some, Option.some.injEq, Option.isNone_iff_eq_none] at found
        obtain ⟨unsent, rfl⟩ := found
        exact ⟨unsent, before, after, queue, fun q hq => (passes q).1 (none q hq)⟩
    · rintro ⟨unsent, before, after, queue, none⟩
      exact ⟨before, .advice x, after, queue, by simp [unsent], fun q hq => (passes q).2 (none q hq)⟩
  unfold offeredAdvice adviceOffered queueCount
  rw [Option.ite_none_right_eq_some, first]
  exact and_assoc

theorem journalBatch_iff (es : List Entry) (b : JournalBatch) : journalBatch es = some b ↔ batchOf es b := by
  have control : ∀ xs : List Entry, controlTotal xs = (xs.map fun e => (e.draft.amounts.map Prod.snd).getD 0).sum := by
    intro xs
    unfold controlTotal
    congr 1
    refine List.map_congr_left fun e _ => ?_
    cases e.draft.amounts <;> rfl
  obtain ⟨first, last, count, total, entries⟩ := b
  unfold journalBatch batchOf
  cases taken : es.take Config.batchEntries with
  | nil =>
    have none : es.take 64 = [] := taken
    simp only [none]
    constructor
    · intro h; cases h
    · rintro ⟨rfl, h, -⟩; cases h
  | cons e rest =>
    have all : es.take 64 = e :: rest := taken
    obtain ⟨x, hx⟩ : ∃ x, (e :: rest).getLast? = some x := ⟨_, List.getLast?_eq_some_getLast (List.cons_ne_nil e rest)⟩
    simp only [all, control, hx, Option.map_some, Option.getD_some, Option.some.injEq, JournalBatch.mk.injEq]
    constructor
    · rintro ⟨rfl, rfl, rfl, rfl, rfl⟩
      exact ⟨rfl, rfl, by rw [hx]; rfl, rfl, rfl⟩
    · rintro ⟨rfl, h1, h2, rfl, rfl⟩
      rw [hx] at h2
      have one := Option.some.inj h1
      have two := Option.some.inj h2
      exact ⟨one, two, by rw [← one, ← two], rfl, rfl⟩

theorem trickleEligible_eq (s : State) : trickleEligible s = s.jrn.entries.filter fun e => decide (s.jrn.lastAccepted < e.seq) &&
    (!printerRoleHeld s || decide (e.seq ≤ s.jrn.printedCursor)) := by
  unfold trickleEligible unaccepted
  rw [List.filter_filter]
  exact List.filter_congr fun e _ => Bool.and_comm ..

theorem noBatchOutstanding_iff (s : State) : noBatchOutstanding s = true ↔
    s.jrn.trickle = none ∧ ∀ x, s.day.settlement = some x → x.outstanding = none := by
  unfold noBatchOutstanding
  cases s.day.settlement with
  | none => simp
  | some c => simp

theorem trickleOffer_iff (s : State) (j : JournalBatch) : trickleOffer s = some j ↔
    s.mrs.settings.journalMode = .trickle ∧ s.day.state = .opened ∧ s.blc.link = .up ∧ s.jrn.trickle = none ∧
      (∀ x, s.day.settlement = some x → x.outstanding = none) ∧ s.jrn.pause = none ∧
      batchOf (s.jrn.entries.filter fun e => decide (s.jrn.lastAccepted < e.seq) &&
        (!printerRoleHeld s || decide (e.seq ≤ s.jrn.printedCursor))) j := by
  unfold trickleOffer
  rw [Option.ite_none_right_eq_some, journalBatch_iff, trickleEligible_eq, noBatchOutstanding_iff]
  simp only [and_assoc]

theorem batchToOffer_iff (c : Settlement) (b : Batch) (s : State) : batchToOffer c s = some b ↔ settlementBatch c b s := by
  have content : ∀ x, nextContent c s = some x ↔
      (c.phase ≠ .totals ∧ ∃ j, x = .journal j ∧
        batchOf (s.jrn.entries.filter fun e => decide (s.jrn.lastAccepted < e.seq)) j) ∨
      (c.phase = .totals ∧ ∃ part rest, c.parts = part :: rest ∧ x = .totals part) := by
    intro x
    have journal : (journalBatch (unaccepted s)).map BatchContent.journal = some x ↔ ∃ j, x = .journal j ∧
        batchOf (s.jrn.entries.filter fun e => decide (s.jrn.lastAccepted < e.seq)) j := by
      rw [Option.map_eq_some_iff]
      exact exists_congr fun j => by rw [journalBatch_iff, and_comm, eq_comm]; rfl
    unfold nextContent
    cases c.phase with
    | journal => simp [journal]
    | trailing => simp [journal]
    | totals =>
      cases c.parts with
      | nil => simp
      | cons part rest => simp [eq_comm]
  obtain ⟨number, x⟩ := b
  unfold batchToOffer settlementBatch
  cases c.current with
  | some y => simp
  | none =>
    simp only [Option.map_eq_some_iff, Batch.mk.injEq, reduceCtorEq, false_or, true_and]
    constructor
    · rintro ⟨y, next, rfl, rfl⟩
      exact ⟨rfl, (content y).1 next⟩
    · rintro ⟨rfl, next⟩
      exact ⟨x, (content x).2 next, rfl, rfl⟩

theorem settlementOffer_iff (s : State) (b : Batch) : settlementOffer s = some b ↔ ∃ x, s.day.settlement = some x ∧
    (s.day.state = .settling ∨ (s.day.state = .settled ∧ x.phase = .trailing)) ∧ s.blc.link ≠ .lost ∧
    s.jrn.trickle = none ∧ x.outstanding = none ∧ x.pause = none ∧ settlementBatch x b s := by
  unfold settlementOffer
  cases settlement : s.day.settlement with
  | none => simp
  | some c =>
    have outstanding := noBatchOutstanding_iff s
    rw [settlement] at outstanding
    simp only [Option.ite_none_right_eq_some, batchToOffer_iff, Bool.and_eq_true, outstanding, settlementOpen, Bool.or_eq_true,
      decide_eq_true_eq, Option.isNone_iff_eq_none, Option.some.injEq, forall_eq', exists_eq_left', and_assoc]

/-- A class is ready as its rule states. -/
theorem readyMessage_iff (s : State) (c : OutClass) (m : OutMsg) : readyMessage s c = some m ↔ classReady s c m := by
  have offered : ∀ P : Advice → Prop, (∃ x, offeredAdvice s = some x ∧ P x) ↔ ∃ x, adviceOffered s x ∧ P x := fun P =>
    exists_congr fun x => by rw [offeredAdvice_iff]
  cases c with
  | linkAnswer => simp [readyMessage, classReady, Option.map_eq_some_iff, queueCount, eq_comm]
  | alarmAdvice =>
    simp only [readyMessage, classReady, Option.bind_eq_some_iff, Option.ite_none_right_eq_some, Option.some.injEq, offered]
    simp only [eq_comm]
  | otherAdvice =>
    simp only [readyMessage, classReady, Option.bind_eq_some_iff, Option.ite_none_left_eq_some, Option.some.injEq, offered]
    simp only [ne_eq, eq_comm]
  | mgmtReply => cases h : s.blc.replies <;> simp [readyMessage, classReady, h, eq_comm]
  | request => cases h : s.blc.requests <;> simp [readyMessage, classReady, h, eq_comm]
  | event => cases h : s.blc.events <;> simp [readyMessage, classReady, h, eq_comm]
  | settlement =>
    simp only [readyMessage, classReady, Option.map_eq_some_iff, settlementOffer_iff]
    constructor
    · rintro ⟨b, ⟨x, hx, rest⟩, rfl⟩
      exact ⟨x, b, hx, rfl, rest⟩
    · rintro ⟨x, b, hx, rfl, rest⟩
      exact ⟨b, ⟨x, hx, rest⟩, rfl⟩
  | trickle =>
    simp only [readyMessage, classReady, Option.map_eq_some_iff, trickleOffer_iff]
    exact exists_congr fun j => ⟨fun ⟨h, e⟩ => ⟨e.symm, h⟩, fun ⟨e, h⟩ => ⟨h, e.symm⟩⟩

/-! ## The frames of a message (R182, section 12.1) -/

theorem byteOf_toNat {n : Nat} (h : n < 256) : (byteOf n).toNat = n := by
  simp [byteOf, Nat.mod_eq_of_lt h]

/-- Segments are whole but for the last, and are the payload cut up. -/
theorem segments_cut (k : Nat) (bs : List Byte) (h : bs.length ≤ 1024 * (k + 1)) :
    (segments k bs).flatten = bs ∧ (segments k bs).length = max 1 ((bs.length + 1023) / 1024) ∧
      ∀ (i : Nat) (p : List Byte), (segments k bs)[i]? = some p → i + 1 < (segments k bs).length → p.length = 1024 := by
  induction k generalizing bs with
  | zero =>
    simp only [segments]
    refine ⟨by simp, by simp; omega, fun i p _ hi => ?_⟩
    simp at hi
  | succ k ih =>
    unfold segments
    by_cases one : bs.length ≤ Config.payloadBytes
    · have small : bs.length ≤ 1024 := one
      rw [if_pos one]
      refine ⟨by simp, by simp; omega, fun i p _ hi => ?_⟩
      simp at hi
    · have large : 1024 < bs.length := Nat.not_le.1 one
      have rest : (bs.drop Config.payloadBytes).length = bs.length - 1024 := List.length_drop ..
      obtain ⟨flat, length, whole⟩ := ih (bs.drop Config.payloadBytes) (by rw [rest]; omega)
      rw [if_neg one]
      refine ⟨?_, ?_, fun i p hp hi => ?_⟩
      · rw [List.flatten_cons, flat, List.take_append_drop]
      · rw [List.length_cons, length, rest]
        omega
      · cases i with
        | zero =>
          obtain rfl : bs.take Config.payloadBytes = p := by simpa using hp
          rw [List.length_take]
          exact Nat.min_eq_left large.le
        | succ i => exact whole i p (by simpa using hp) (by simpa using hi)

/-- The frames of segments, from a number on. -/
theorem segmentFrames_carry (source kind : Nat) (ps : List (List Byte)) (n : Nat) :
    (segmentFrames source kind n ps).length = ps.length ∧
      (segmentFrames source kind n ps).flatMap LinkFrame.payload = ps.flatten ∧
      ∀ (i : Nat) (f : LinkFrame), (segmentFrames source kind n ps)[i]? = some f → ps[i]? = some f.payload ∧
        f.dest = byteOf 255 ∧ f.source = byteOf source ∧ f.kind = byteOf kind ∧
        f.segment = segmentByte (n + i) (decide (i + 1 = ps.length)) := by
  induction ps generalizing n with
  | nil => exact ⟨rfl, rfl, fun i f h => by simp [segmentFrames] at h⟩
  | cons p rest ih =>
    cases rest with
    | nil =>
      refine ⟨rfl, by simp [segmentFrames], fun i f h => ?_⟩
      cases i with
      | zero =>
        obtain rfl := Option.some.inj h
        exact ⟨rfl, rfl, rfl, rfl, rfl⟩
      | succ i => simp [segmentFrames] at h
    | cons q more =>
      obtain ⟨length, flat, each⟩ := ih (n + 1)
      refine ⟨?_, ?_, fun i f h => ?_⟩
      · simp only [segmentFrames, List.length_cons] at length ⊢
        rw [length]
      · simp only [segmentFrames, List.flatMap_cons, List.flatten_cons] at flat ⊢
        rw [flat]
      · cases i with
        | zero =>
          obtain rfl := Option.some.inj h
          exact ⟨rfl, rfl, rfl, rfl, by simp⟩
        | succ i =>
          obtain ⟨payload, dest, src, knd, segment⟩ := each i f h
          refine ⟨payload, dest, src, knd, segment.trans ?_⟩
          simp [Nat.add_assoc, Nat.add_comm 1 i]

theorem segmentByte_toNat {n : Nat} (h : n < 16) (last : Bool) :
    (segmentByte n last).toNat = n + (if last = true then 128 else 0) := by
  unfold segmentByte
  rw [Nat.mod_eq_of_lt h]
  cases last with
  | false => exact byteOf_toNat (by simp; omega)
  | true => exact byteOf_toNat (by simp; omega)

/-- A message of up to 16 segments goes out whole. -/
theorem outFrames_carry (m : OutMsg) (h : (outPayload m).length ≤ 16384) :
    ∃ fs : List LinkFrame, outFrames m = fs.map frameBytes ∧ framesCarry m fs := by
  obtain ⟨flat, length, whole⟩ := segments_cut 15 (outPayload m) h
  obtain ⟨count, payloads, each⟩ := segmentFrames_carry (outSource m) (outKindCode m) (segments 15 (outPayload m)) 0
  refine ⟨segmentFrames (outSource m) (outKindCode m) 0 (segments 15 (outPayload m)), rfl, count.trans length,
    payloads.trans flat, fun i f hf => ?_⟩
  obtain ⟨payload, dest, source, kind, segment⟩ := each i f hf
  have within : i < (segments 15 (outPayload m)).length := (List.getElem?_eq_some_iff.1 payload).1
  have few : i < 16 := by
    rw [length] at within
    omega
  refine ⟨by rw [dest]; rfl, ?_, ?_, ?_, fun more => whole i f.payload payload (by rw [← count]; exact more)⟩
  · rw [source]
    cases m with
    | request r =>
      have small : ∀ st : Station, st.num < 256 := fun st => by cases st <;> decide
      exact byteOf_toNat (small r.ref.station)
    | advice n body => rfl
    | mgmtReply r => rfl
    | batch b => rfl
    | linkAnswer n link day queued unsent => rfl
    | event n => rfl
  · rw [kind]
    cases m <;> rfl
  · rw [segment, segmentByte_toNat (by omega), count]
    simp

/-! ## What is taken, and what its owner does (R188, R189) -/

/-- The marking of an advice SENT, entry by entry. -/
theorem markSent_eq (n deadline : Nat) : markSent n deadline = fun q => match q with
    | .advice y => .advice (if y.number = n then { y with sent := some deadline } else y)
    | .reservation r => .reservation r := by
  funext q
  cases q with
  | reservation r => rfl
  | advice y => exact (apply_ite QueueEntry.advice ..).symm

/-- The batch that is taken is the current one, and a batch built now takes its number from the counter. -/
theorem settlementSent_eq {b : Batch} {x : Settlement} {s : State} (h : s.day.settlement = some x) :
    (settlementSent b s).day = { s.day with settlement := some { x with
        current := some b, outstanding := some (s.uptime + 1000 * s.mrs.settings.batchAck) } } ∧
      (settlementSent b s).jrn = { s.jrn with
        batchCounter := if x.current = none then wrapNext 65535 s.jrn.batchCounter else s.jrn.batchCounter } := by
  unfold settlementSent
  simp only [h, Option.isNone_iff_eq_none]
  split
  · exact ⟨by simp [onSettlement, h, secondsAhead], rfl⟩
  · exact ⟨by simp [onSettlement, h, secondsAhead], by simp⟩

theorem arbiterChoice_first {s : State} {c : OutClass} {m : OutMsg} {before after : List OutClass}
    (order : classOrder s.blc.link = before ++ c :: after) (none : ∀ x ∈ before, readyMessage s x = none)
    (ready : readyMessage s c = some m) : arbiterChoice s = some (c, m) := by
  unfold arbiterChoice
  rw [order, List.findSome?_eq_some_iff]
  exact ⟨before, c, after, rfl, by simp [ready], fun x hx => by simp [none x hx]⟩

theorem arbiterChoice_none {s : State} (h : s.blc.link = .lost ∨ ∀ c, readyMessage s c = none) : arbiterChoice s = none := by
  unfold arbiterChoice
  rw [List.findSome?_eq_none_iff]
  intro c hc
  rcases h with lost | none
  · rw [lost] at hc
    cases hc
  · simp [none c]

/-- Settles O56: readiness class by class, the frames segment by segment, and the taking by the class chosen. -/
theorem transmitterTakesByRank : Obligations.TransmitterTakesByRank := by
  refine ⟨rfl, rfl, readyMessage_iff, outFrames_carry, fun s => ⟨rfl, fun h => ?_, fun c m before after idle order none ready => ?_⟩⟩
  · show execTransmit s = _
    unfold execTransmit
    by_cases idle : s.blc.sending = none
    · rw [if_neg (by simp [idle]), arbiterChoice_none (h.resolve_left (not_not.2 idle))]
    · rw [if_pos (Option.isSome_iff_ne_none.2 idle)]
  · have run := exec_transmit_chosen idle (arbiterChoice_first order none ready)
    have is := (readyMessage_iff s c m).1 ready
    refine ⟨_, run, rfl, ?_, ?_, ?_, ?_, ?_, ?_, ?_⟩
    · rintro rfl
      rfl
    · rintro rfl
      obtain ⟨r, rest, replies, rfl⟩ := is
      refine ⟨r, rest, replies, rfl, ?_⟩
      simp [ownerSent, replySent, replies, onBlc, onMrs]
    · rintro rfl
      obtain ⟨r, rest, requests, rfl⟩ := is
      refine ⟨r, rest, requests, rfl, ?_⟩
      simp [ownerSent, requestSent, requests, onBlc, onTtr, secondsAhead]
    · intro which
      have advice : ∃ x, adviceOffered s x ∧ m = .advice x.number x.body ∧
          ownerSent c m s = adviceSent x.number s := by
        rcases which with rfl | rfl
        · obtain ⟨x, offered, -, rfl⟩ := is
          exact ⟨x, offered, rfl, rfl⟩
        · obtain ⟨x, offered, -, rfl⟩ := is
          exact ⟨x, offered, rfl, rfl⟩
      obtain ⟨x, offered, message, sent⟩ := advice
      refine ⟨x, offered, message, ?_⟩
      rw [sent, adviceSent, markSent_eq]
      rfl
    · rintro rfl
      obtain ⟨n, rest, events, rfl⟩ := is
      refine ⟨n, rest, events, rfl, ?_⟩
      simp [ownerSent, events, onBlc]
    · rintro rfl
      obtain ⟨x, b, settlement, rfl, -, -, -, -, -, batch⟩ := is
      refine ⟨b, x, settlement, rfl, batch, ?_, ?_, ?_⟩
      · simp [keeps, ownerSent]
      · exact (settlementSent_eq settlement).1
      · exact (settlementSent_eq settlement).2
    · rintro rfl
      obtain ⟨j, rfl, -⟩ := is
      refine ⟨j, rfl, ?_⟩
      simp [ownerSent, trickleSent, advanceBatchCounter, onBlc, onJrn, secondsAhead, Config.topBatch]

end Sys2Proof.Machine
end

section
/-! SUPPORT. The discrete lines: LINE-CONTROL, the drawer's watch and the alarm (R110, R174 to R177). -/

namespace Sys2Proof.Machine
open Sys2Proof

/-! ## A line replaced -/

/-- A line that has been replaced, with nothing else of the SLC's record changed. -/
theorem lineBecomes_setLine (st : Station) (l : Line) (s : State) : lineBecomes st l s (setLine st l s) := by
  refine ⟨rfl, ?_, fun x hx => ?_⟩
  · exact (Eight.get_set ..).trans (if_pos rfl)
  · exact (Eight.get_set ..).trans (if_neg hx)

theorem lineBecomes_congr {st : Station} {l : Line} {s t u : State} (h : lineBecomes st l s t) (slc : u.slc = t.slc) :
    lineBecomes st l s u := by
  unfold lineBecomes otherLines at *
  simp only [slc, lineOf_congr _ slc]
  exact h

/-! ## LINE-CONTROL (R174) -/

theorem controlOp_none {op : Nat} (h1 : op ≠ 1) (h2 : op ≠ 2) : controlOp op = none := by
  unfold controlOp
  split
  · exact absurd rfl h1
  · exact absurd rfl h2
  · rfl

/-- Settles O47: the values written line by line, and the level each function drives. -/
theorem lineControlWritesLatches : Obligations.LineControlWritesLatches := by
  refine ⟨fun id n op mask s s1 h => ⟨_, taken_run h _, fun bad => ?_, fun st hn hop => ?_⟩, fun st d s => ?_⟩
  · have refused : takeLineControl id n op mask s1 = refuseRequest id .badRequest s1 := by
      unfold takeLineControl
      rcases bad with none | ⟨h1, h2⟩
      · rw [none]
      · rw [controlOp_none h1 h2]
        cases Station.ofNat? n <;> rfl
    rw [refused]
    exact requestRefused_of h
  · obtain ⟨set, code, meaning⟩ : ∃ set, controlOp op = some set ∧ set = decide (op = 1) := by
      rcases hop with rfl | rfl
      · exact ⟨true, rfl, rfl⟩
      · exact ⟨false, rfl, rfl⟩
    have run : takeLineControl id n op mask s1 = answer id .done (.latches (controlValues st set mask s1))
        (nextSample (onLine st (fun l => { l with latches := controlValues st set mask s1 }) s1)) := by
      simp only [takeLineControl, hn, stationOf_num, code]
    rw [run]
    have line : ∀ a, lineOf a s1 = lineOf a s := fun a => by
      obtain ⟨places, rfl⟩ := taken_buffer h
      rfl
    refine ⟨controlValues st set mask s1, requestDone_of h (by simp [keeps]) (by simp) (by simp), fun a ha => ?_, ?_,
      fun d => ?_⟩
    · have other : lineOf a (onLine st (fun l => { l with latches := controlValues st set mask s1 }) s1) = lineOf a s1 :=
        (lineOf_onLine ..).trans (if_neg ha)
      exact other.trans (line a)
    · have own : lineOf st (onLine st (fun l => { l with latches := controlValues st set mask s1 }) s1) =
          { lineOf st s1 with latches := controlValues st set mask s1 } := (lineOf_onLine ..).trans (if_pos rfl)
      exact own.trans (by rw [line])
    · have value : (controlValues st set mask s1).get d = if mask.get d = true then set else readLine st s1 d := by
        simp [controlValues]
      rw [value, meaning]
      by_cases masked : mask.get d = true
      · rw [if_pos masked, if_pos masked]
      · rw [if_neg masked, if_neg masked]
        simp only [readLine, line]
        cases (lineOf st s).setup.functions.get d <;> rfl
  · cases f : (lineOf st s).setup.functions.get d <;> simp [drivenLevel, lampCondition, f]

/-! ## The drawer (R175, R176) -/

/-- Settles O48: the level sensed, the timer and the condition. -/
theorem drawerIsWatched : Obligations.DrawerIsWatched := by
  rintro st s l rfl
  refine ⟨fun opened same => ?_, fun sense shut => ?_, fun sense opened => ?_, fun idle => ?_, fun runs => ?_, rfl⟩
  · show execDrawerSenseChange st opened s = _
    exact if_pos (same.imp_left Option.isNone_iff_eq_none.2)
  · show execDrawerSenseChange st true s = _
    have change : ¬ ((lineWith .drawerSense (lineOf st s).setup).isNone ∨ (lineOf st s).drawerOpen = true) := by
      simp [sense, shut]
    refine (if_neg change).trans (congrArg Host.Outcome.next ?_)
    simp only [if_true, startDrawerTimer, onLine, setLine_setLine]
    rw [(lineBecomes_setLine ..).2.1]
    rfl
  · have change : ¬ ((lineWith .drawerSense (lineOf st s).setup).isNone ∨ (lineOf st s).drawerOpen = false) := by
      simp [sense, opened]
    let shut := setLine st { lineOf st s with drawerOpen := false, openTimer := none, leftOpen := false } s
    have run : exec (.drawerSenseChange st false) s =
        .next (if (lineOf st s).leftOpen then refresh st shut else shut) := by
      show execDrawerSenseChange st false s = _
      refine (if_neg change).trans (congrArg Host.Outcome.next ?_)
      have own : lineOf st (onLine st (fun l => { l with drawerOpen := false }) s) = { lineOf st s with drawerOpen := false } :=
        (lineOf_onLine ..).trans (if_pos rfl)
      have both : onLine st (fun l => { l with openTimer := none, leftOpen := false })
          (onLine st (fun l => { l with drawerOpen := false }) s) = shut := by
        rw [onLine, own, onLine, setLine_setLine]
      simp only [Bool.false_eq_true, if_false, endDrawerWatch, own, both]
    have became := lineBecomes_setLine st { lineOf st s with drawerOpen := false, openTimer := none, leftOpen := false } s
    refine ⟨_, run, ?_, ?_, ?_, fun no => ?_, fun left => ?_⟩
    · split <;> simp [keeps, shut]
    · split
      · exact otherScreens_trans (otherScreens_of (t := shut) rfl) (otherScreens_composeWith st id shut)
      · exact otherScreens_of rfl
    · split
      · exact lineBecomes_congr became (by simp [shut])
      · exact became
    · rw [if_neg (by simp [no])]
      rfl
    · rw [if_pos left]
      have shown := (contextOf_refresh st st shut).trans (if_pos rfl)
      have stood : contextOf st shut = contextOf st s := rfl
      rw [shown, stood]
      exact congrArg (fun f => (contextOf st s).map f) (funext fun c => (recomposed_refresh st shut st c).symm)
  · show execDrawerOpenTimerExpiry st s = _
    exact if_neg (by simp [idle])
  · let open' := setLine st { lineOf st s with openTimer := none, leftOpen := true } s
    let raised := raise .drawerLeftOpen open'
    have run : exec (.drawerOpenTimerExpiry st) s = .next (refresh st raised) := by
      show execDrawerOpenTimerExpiry st s = _
      exact if_pos (by simpa [Option.isSome_iff_ne_none] using runs)
    have became := lineBecomes_setLine st { lineOf st s with openTimer := none, leftOpen := true } s
    have flag : flagSet .drawerLeftOpen raised.mrs.flags = true := flagSet_raise ..
    refine ⟨_, run, by simp [keeps, raised, open'], ?_, lineBecomes_congr became (by simp [raised, open']), ?_, ?_, ?_⟩
    · exact otherScreens_trans (otherScreens_of (t := raised) (by simp [raised, open']))
        (otherScreens_composeWith st id raised)
    · exact raisedOnly_of_eq (raisedOnly_from (t := open') (raisedOnly_raise (f := .drawerLeftOpen) (by simp) open') rfl rfl)
        (by simp [raised]) (by simp [raised])
    · simpa using flag
    · have shown := (contextOf_refresh st st raised).trans (if_pos rfl)
      have stood : contextOf st raised = contextOf st s := contextOf_congr st (by simp [raised, open'])
      rw [shown, stood]
      exact congrArg (fun f => (contextOf st s).map f) (funext fun c => (recomposed_refresh st raised st c).symm)

/-! ## The alarm (R110, R177) -/

/-- The first ALARM advice of a station's is its record. -/
theorem alarmRecord_split {st : Station} {s : State} {front back : List QueueEntry} {a : Advice} {first : Stamp} {n : Nat}
    (queue : s.sda.queue = front ++ .advice a :: back) (own : a.body = .alarm st first n)
    (clear : (front.all fun q => alarmStation q ≠ some st) = true) : alarmRecord st s = some (first, n) := by
  unfold alarmRecord
  rw [queue, List.findSome?_append, List.findSome?_eq_none_iff.2]
  · simp [own]
  · intro q hq
    have free := of_decide_eq_true (List.all_eq_true.1 clear q hq)
    cases q with
    | reservation r => rfl
    | advice b =>
      cases body : b.body with
      | alarm x time m =>
        have other : x ≠ st := fun e => free (by simp [alarmStation, body, e])
        simp [body, other]
      | standin => simp [body]
      | reversal => simp [body]
      | passbookUpdate => simp [body]

theorem repeatAlarm_other {st : Station} {q : QueueEntry} (h : alarmStation q ≠ some st) : repeatAlarm st q = q := by
  cases q with
  | reservation r => rfl
  | advice b =>
    cases body : b.body with
    | alarm x time m =>
      have other : x ≠ st := fun e => h (by simp [alarmStation, body, e])
      simp [repeatAlarm, body, other]
    | standin => simp [repeatAlarm, body]
    | reversal => simp [repeatAlarm, body]
    | passbookUpdate => simp [repeatAlarm, body]

theorem map_repeatAlarm_others {st : Station} {queue : List QueueEntry}
    (h : (queue.all fun q => alarmStation q ≠ some st) = true) : queue.map (repeatAlarm st) = queue :=
  (List.map_congr_left fun q hq => repeatAlarm_other (of_decide_eq_true (List.all_eq_true.1 h q hq))).trans
    (List.map_id queue)

/-- The queue's part of a rising ALARM_IN. -/
def alarmQueued (st : Station) (s : State) : State :=
  if alarmStands st s then onSda (fun a => { a with queue := a.queue.map (repeatAlarm st) }) s else queueAlarm st s

theorem alarmQueued_keeps (st : Station) (s : State) : keeps [.sda] s (alarmQueued st s) := by
  unfold alarmQueued
  split <;> simp [keeps]

theorem raiseAlarm_eq (st : Station) (s : State) :
    raiseAlarm st s = ((alarmRecord st (alarmQueued st s)).map fun r => writeEntry 0 (alarmDraft st r.1 r.2)
      (raiseWith .alarm (some st) (alarmQueued st s))).getD (raiseWith .alarm (some st) (alarmQueued st s)) := by
  have same : alarmRecord st (raiseWith .alarm (some st) (alarmQueued st s)) = alarmRecord st (alarmQueued st s) := by
    unfold alarmRecord
    simp
  unfold raiseAlarm
  change (match alarmRecord st (raiseWith .alarm (some st) (alarmQueued st s)) with
    | some (t, n) => writeEntry 0 (alarmDraft st t n) (raiseWith .alarm (some st) (alarmQueued st s))
    | none => raiseWith .alarm (some st) (alarmQueued st s)) = _
  rw [same]
  cases alarmRecord st (alarmQueued st s) <;> rfl

theorem raiseAlarm_raises (st : Station) (s : State) :
    raisedOnly (.alarm :: journalFlags) s (raiseAlarm st s) ∧ flagSet .alarm (raiseAlarm st s).mrs.flags = true := by
  have queue := alarmQueued_keeps st s
  simp only [keeps] at queue
  obtain ⟨-, -, -, -, -, -, -, -, -, -, -, blc, mrs, -⟩ := queue
  have raised : raisedOnly (.alarm :: journalFlags) s (raiseWith .alarm (some st) (alarmQueued st s)) :=
    raisedOnly_from (raisedOnly_raiseWith (by simp) _ _) (mrs (by simp)) (blc (by simp))
  have flag : flagSet .alarm (raiseWith .alarm (some st) (alarmQueued st s)).mrs.flags = true :=
    flagSet_raiseWith ..
  rw [raiseAlarm_eq]
  cases alarmRecord st (alarmQueued st s) with
  | none => exact ⟨raised, flag⟩
  | some r =>
    have entry := raisedOnly_writeEntry 0 (alarmDraft st r.1 r.2) (raiseWith .alarm (some st) (alarmQueued st s))
    exact ⟨raisedOnly_trans raised (raisedOnly_mono entry fun f hf => List.mem_cons_of_mem _ hf), entry.2.1 _ flag⟩

/-- What the record and the entry of a rising ALARM_IN are, once the queue has its advice. -/
theorem raiseAlarm_writes {st : Station} {s : State} {first : Stamp} {n : Nat}
    (record : alarmRecord st (alarmQueued st s) = some (first, n)) :
    (raiseAlarm st s).sda = (alarmQueued st s).sda ∧
      (canWrite 0 (alarmDraft st first n) s → wrote 0 (alarmDraft st first n) s (raiseAlarm st s)) := by
  have run : raiseAlarm st s = writeEntry 0 (alarmDraft st first n) (raiseWith .alarm (some st) (alarmQueued st s)) := by
    rw [raiseAlarm_eq, record]
    rfl
  have queue := alarmQueued_keeps st s
  simp only [keeps] at queue
  obtain ⟨-, -, -, -, -, -, -, jrn, day, -, -, -, mrs, -⟩ := queue
  have jrn : (raiseWith .alarm (some st) (alarmQueued st s)).jrn = s.jrn := by simp [jrn (by simp)]
  rw [run]
  refine ⟨(writeEntry_sda rfl _).trans (by simp), fun room => ?_⟩
  have stored : canWrite 0 (alarmDraft st first n) (raiseWith .alarm (some st) (alarmQueued st s)) := by
    unfold canWrite at *
    rwa [jrn]
  exact wrote_congr (writeEntry_wrote stored) jrn (by simp [day (by simp)]) (by simp [mrs (by simp)]) rfl

theorem alarmStands_split {st : Station} {s : State} {front back : List QueueEntry} {a : Advice} {first : Stamp} {n : Nat}
    (queue : s.sda.queue = front ++ .advice a :: back) (own : a.body = .alarm st first n) : alarmStands st s = true := by
  unfold alarmStands
  rw [queue]
  simp [alarmStation, own]

/-- Settles O49: the number, the queue, the flag and the entry of a rising ALARM_IN. -/
theorem alarmIsQueued : Obligations.AlarmIsQueued := by
  refine ⟨fun s queue counters => ?_, fun st s => ⟨fun absent => ?_, fun present => ?_⟩⟩
  · obtain ⟨-, few, fits⟩ := queueOk_iff.1 queue
    obtain ⟨-, ⟨low, high⟩, -⟩ := counters
    have held : ∀ n, n ∈ s.sda.queue.filterMap entryNumber ↔ ∃ a, QueueEntry.advice a ∈ s.sda.queue ∧ a.number = n :=
      fun n => by
        rw [List.mem_filterMap]
        refine ⟨?_, fun ⟨a, ha, number⟩ => ⟨_, ha, congrArg some number⟩⟩
        rintro ⟨q, hq, number⟩
        cases q with
        | advice a => exact ⟨a, hq, Option.some.inj number⟩
        | reservation r => cases number
    obtain ⟨k, number, free, passed⟩ := passOver_first low high (numbers_few few fits)
    exact ⟨k, number, fun h => free ((held _).2 h), fun j hj => (held _).1 (passed j hj)⟩
  · show execAlarmInRising st s = _
    exact if_neg (by simp [absent])
  · have run : exec (.alarmInRising st) s = .next (raiseAlarm st s) := by
      show execAlarmInRising st s = _
      exact if_pos (Option.isSome_iff_ne_none.2 present)
    obtain ⟨raised, flag⟩ := raiseAlarm_raises st s
    refine ⟨_, run, by simp [keeps], raised, flag, fun quiet => ?_, fun a front back first n queue own clear behind => ?_⟩
    · have queued : alarmQueued st s = queueAlarm st s := if_neg (by simp [quiet])
      let front := s.sda.queue.takeWhile isAlarm
      let back := s.sda.queue.dropWhile isAlarm
      have split : s.sda.queue = front ++ back := List.takeWhile_append_dropWhile.symm
      have clear : (front.all fun q => alarmStation q ≠ some st) = true := List.all_eq_true.2 fun q hq => by
        have member : q ∈ s.sda.queue := split ▸ List.mem_append_left _ hq
        have none := List.any_eq_false.1 quiet q member
        simpa using none
      have record : alarmRecord st (alarmQueued st s) = some (s.mrs.clock, 1) := by
        rw [queued]
        exact alarmRecord_split (back := back)
          (a := { number := adviceNumber s, body := .alarm st s.mrs.clock 1, sent := none }) rfl rfl clear
      obtain ⟨sda, entry⟩ := raiseAlarm_writes record
      refine ⟨⟨front, back, split, List.all_takeWhile, ?_, ?_⟩, entry⟩
      · have head := List.head?_dropWhile_not isAlarm s.sda.queue
        show ((s.sda.queue.dropWhile isAlarm).head?.map isAlarm).getD false = false
        cases first : (s.sda.queue.dropWhile isAlarm).head? with
        | none => rfl
        | some q => simpa [first] using head
      · rw [sda, queued]
        rfl
    · have queued : (alarmQueued st s) = onSda (fun a => { a with queue := a.queue.map (repeatAlarm st) }) s :=
        if_pos (alarmStands_split queue own)
      have count : satCount Config.topErrors n = if n < 255 then n + 1 else 255 := rfl
      have after : (alarmQueued st s).sda.queue =
          front ++ .advice { a with body := .alarm st first (if n < 255 then n + 1 else 255) } :: back := by
        rw [queued]
        show s.sda.queue.map (repeatAlarm st) = _
        rw [queue, List.map_append, List.map_cons, map_repeatAlarm_others clear, map_repeatAlarm_others behind]
        simp [repeatAlarm, own, count]
      have record := alarmRecord_split after rfl clear
      obtain ⟨sda, entry⟩ := raiseAlarm_writes record
      refine ⟨?_, entry⟩
      rw [sda, ← after, queued]
      rfl

end Sys2Proof.Machine
end

section
/-! SUPPORT. The cold start's values (R199). -/

namespace Sys2Proof.Machine
open Sys2Proof

/-- A line as the watch of its drawer at a start leaves it (R176). -/
def watchedLine (s : State) (l : Line) : Line :=
  if drawerReadsOpen l = true then { l with openTimer := some (s.uptime + 1000 * s.mrs.settings.drawerOpen) } else l

theorem lineOf_startWatch (a st : Station) (s : State) :
    lineOf st (startWatch a s) = if st = a then watchedLine s (lineOf a s) else lineOf st s := by
  unfold startWatch watchedLine
  by_cases opened : drawerReadsOpen (lineOf a s) = true
  · rw [if_pos opened, if_pos opened]
    exact lineOf_onLine ..
  · rw [if_neg opened, if_neg opened]
    split
    · subst st; rfl
    · rfl

theorem lineOf_startWatches (st : Station) (s : State) :
    lineOf st (forStations startWatch s) = watchedLine s (lineOf st s) := by
  obtain ⟨u, ⟨time, settings⟩, before, after⟩ := forStations_reaches (lineOf st)
    (fun u => u.uptime = s.uptime ∧ u.mrs = s.mrs) startWatch st (fun u h => by simpa using h)
    (fun a u h k => ⟨by simpa using k, (lineOf_startWatch a st u).trans (if_neg (Ne.symm h))⟩) ⟨rfl, rfl⟩
  rw [after, lineOf_startWatch, if_pos rfl, before]
  simp only [watchedLine, time, settings]

theorem lineOf_coldStart (st : Station) (s : State) : lineOf st (coldStart s) =
    watchedLine { State.reset with uptime := s.uptime }
      { Line.cold with drawerOpen := coldDrawerLevel s.slc.samples st (lineOf st s) } := by
  unfold coldStart
  rw [lineOf_startWatches]
  simp only [lineOf, Eight.get_mapWith]
  rfl

theorem drawerOpen_coldStart (st : Station) (s : State) :
    (lineOf st (coldStart s)).drawerOpen = coldDrawerLevel s.slc.samples st (lineOf st s) := by
  rw [lineOf_coldStart]
  unfold watchedLine
  split <;> rfl

theorem flagSet_reset (f : EventFlag) : flagSet f State.reset.mrs.flags = decide (f = .retentionLost) := by
  cases f with
  | dropDown st => cases st <;> rfl
  | _ => rfl

theorem coldValues_reset : coldValues State.reset := by
  refine ⟨rfl, positionOf_reset, rfl, rfl, rfl, rfl, rfl, rfl, fun st => ?_, rfl,
    ⟨rfl, flagSet_reset, rfl, rfl, rfl, rfl⟩, rfl⟩
  have cold : lineOf st State.reset = Line.cold := Eight.get_fill ..
  rw [cold]
  rfl

theorem coldValues_coldStart (s : State) : coldValues (coldStart s) := by
  obtain ⟨ttr, positions, scm, pbk, sda, jrn, day, tbl, -, blc, mrs, rts⟩ := coldValues_reset
  have csh : (coldStart s).csh = State.reset.csh := by simp [coldStart]
  have same : (coldStart s).mrs = State.reset.mrs := by simp [coldStart]
  refine ⟨.trans (by simp [coldStart]) ttr, fun p => ?_, .trans (by simp [coldStart]) scm, .trans (by simp [coldStart]) pbk,
    .trans (by simp [coldStart]) sda, .trans (by simp [coldStart]) jrn, .trans (by simp [coldStart]) day,
    .trans (by simp [coldStart]) tbl, fun st => ?_, .trans (by simp [coldStart]) blc, by rw [same]; exact mrs,
    .trans (by simp [coldStart]) rts⟩
  · have stands : positionOf p (coldStart s) = positionOf p State.reset := by
      cases p <;> simp only [positionOf, drawerOf, csh]
    exact stands.trans (positions p)
  · have time : (coldStart s).uptime = s.uptime := by simp [coldStart]
    rw [drawerOpen_coldStart, lineOf_coldStart, time]
    unfold watchedLine
    cases coldDrawerLevel s.slc.samples st (lineOf st s) <;> rfl

/-- Settles O17: the values that a cold start and the reset leave, and what a cold start does not reset. -/
theorem coldStartValues : Obligations.ColdStartValues := by
  refine ⟨⟨coldValues_reset, rfl⟩, fun s absent => ⟨coldStart s, ?_, coldValues_coldStart s, by simp [coldStart],
    by simp [coldStart], by simp [coldStart], fun st sensed => ?_⟩⟩
  · show execStart s = _
    exact if_neg (by simp [absent])
  · rw [drawerOpen_coldStart]
    exact if_pos sensed

end Sys2Proof.Machine
end

section
/-! SUPPORT. The exchanges of the station lines: the events of a line, the choice of an exchange, the answers to a select,
and the line tests (R168 to R172, R178). -/

namespace Sys2Proof.Machine
open Sys2Proof

/-! ## A line after operations -/

@[simp] theorem lineOf_setLine_same (st : Station) (l : Line) (s : State) : lineOf st (setLine st l s) = l :=
  (lineBecomes_setLine st l s).2.1

@[simp] theorem onLine_setLine (st : Station) (f : Line → Line) (l : Line) (s : State) :
    onLine st f (setLine st l s) = setLine st (f l) s := by
  rw [onLine, setLine_setLine, lineOf_setLine_same]

/-- The end of an exchange and the answer of a drop that was UP, or of none. -/
theorem responded_up {st : Station} {d : Drop} {s : State}
    (up : dropState st d s = some .up ∨ dropState st d s = none) :
    responded st d (endExchange st s) = setLine st (answeredLine d (lineOf st s)) s := by
  have ended : endExchange st s =
      setLine st { lineOf st s with exchange := none, sweeping := sweepGoesOn (lineOf st s) } s := rfl
  have same : dropState st d (endExchange st s) = dropState st d s := by
    unfold dropState
    rw [ended, lineOf_setLine_same]
  unfold responded
  rw [same, if_pos up, ended, onDrop, onLine_setLine]
  rfl

theorem onDrop_of {st : Station} {d : Drop} {s : State} {x : DropStatus} (h : (lineOf st s).drops.get d = some x)
    (f : DropStatus → DropStatus) :
    onDrop st d f s = setLine st { lineOf st s with drops := (lineOf st s).drops.set d (some (f x)) } s := by
  simp only [onDrop, onLine, h, Option.map_some]

theorem onDrop_none {st : Station} {d : Drop} {s : State} (h : (lineOf st s).drops.get d = none)
    (f : DropStatus → DropStatus) : onDrop st d f s = s := by
  have stands : (lineOf st s).drops.set d none = (lineOf st s).drops := by rw [← h, Three.set_get]
  simp only [onDrop, onLine, h, Option.map_none, stands]
  exact setLine_lineOf ..

/-! ## The events of a line (R168 to R173, R178) -/

theorem delivered_iff {st : Station} {d : Drop} {f : DropFrame} {s s1 : State} :
    delivered st d f s = some s1 ↔ (lineOf st s).setup.role = .teller ∧ (((lineOf st s).buffer = [] ∧ s1 = s) ∨
      ∃ rest, (lineOf st s).buffer = (d, f) :: rest ∧ s1 = setLine st { lineOf st s with buffer := rest } s) := by
  refine ⟨delivered_cases, ?_⟩
  rintro ⟨teller, ⟨empty, rfl⟩ | ⟨rest, front, rfl⟩⟩
  · simp [delivered, teller, empty]
  · simp [delivered, teller, front, onLine]

theorem unsolicited_eq (st : Station) (s : State) : unsolicited st s =
    if testRuns (lineOf st s) = false ∧ (lineOf st s).unsolicitedRun = false then
      setLine st { lineOf st s with
        unsolicitedRun := true
        errors := { (lineOf st s).errors with unsolicited := satCount 255 (lineOf st s).errors.unsolicited } } s
    else s := by
  unfold unsolicited
  cases testRuns (lineOf st s) <;> cases (lineOf st s).unsolicitedRun <;> rfl

/-- Settles O42: each event of a line, in its case and out of it. -/
theorem lineEvents : Obligations.LineEvents := by
  rintro st s l rfl
  refine ⟨fun d f s1 => delivered_iff, fun d x drop => ⟨?_, ?_⟩, fun d absent => ⟨?_, ?_⟩, ?_, ?_, fun signal => ?_⟩
  · refine congrArg Host.Outcome.next ((onDrop_of drop _).trans ?_)
    by_cases due : x.state = .down ∧ x.repoll.isSome = true
    · rw [if_pos due, if_pos due]
    · rw [if_neg due, if_neg due]
      refine setLine_self ?_
      rw [← drop, Three.set_get]
  · exact congrArg Host.Outcome.next (onDrop_of drop _)
  · exact congrArg Host.Outcome.next (onDrop_none absent _)
  · exact congrArg Host.Outcome.next (onDrop_none absent _)
  · show execAttention st s = _
    unfold execAttention
    by_cases off : (lineOf st s).setup.role = .off
    · rw [if_pos (.inl off), if_neg (fun h => h.1 off)]
    · cases sweeping : (lineOf st s).sweeping with
      | true => rw [if_pos (.inr rfl), if_neg (fun h => Bool.noConfusion h.2)]
      | false =>
        rw [if_neg (by simp [off]), if_pos ⟨off, rfl⟩]
        have drops : presentDrops (lineOf st s).setup = [Drop.d1, .d2, .d3].filter fun d => d = .d1 ||
            ((lineOf st s).setup.role = .teller &&
              (if d = .d2 then (lineOf st s).setup.printerPresent else (lineOf st s).setup.mirrorPresent)) := by
          refine List.filter_congr fun d _ => ?_
          cases d <;> simp [dropPresent, off]
        rw [← drops]
        rfl
  · have run : execUnsolicited st s = .next (if (lineOf st s).exchange = none then unsolicited st s else s) := by
      unfold execUnsolicited
      cases (lineOf st s).exchange <;> rfl
    refine run.trans (congrArg Host.Outcome.next ?_)
    rw [unsolicited_eq]
    by_cases free : (lineOf st s).exchange = none
    · rw [if_pos free]
      exact if_congr (by simp [free]) rfl rfl
    · rw [if_neg free, if_neg (fun h => free h.1)]
  · show execEchoCharacter st signal s = _
    unfold execEchoCharacter
    cases test : (lineOf st s).test with
    | none => rfl
    | some r =>
      by_cases echo : r.mode = .echo
      · simp [echo, onLine, test]
      · simp [echo]

/-! ## The answers to a select (R171) -/

theorem contextOf_setLine (a st : Station) (l : Line) (s : State) : contextOf a (setLine st l s) = contextOf a s := rfl

theorem imageAccepted_of {st : Station} {s : State} {c : ScreenContext} (h : contextOf st s = some c) (terminal : Bool) :
    imageAccepted st terminal s = setContext st (some (if terminal then
      { c with terminalPending := c.terminalPending && c.terminalRecomposed }
      else { c with mirrorPending := c.mirrorPending && c.mirrorRecomposed })) s := by
  unfold imageAccepted
  rw [h]
  cases terminal <;> rfl

theorem onPrinter_of {st : Station} {s : State} {c : PrinterContext} (h : printerOf st s = some c)
    (f : PrinterContext → PrinterContext) : onPrinter st f s = setPrinter st (some (f c)) s := by
  unfold onPrinter
  rw [h]

/-- Settles O40: what the owner of each output is told, and the wait after a BUSY. -/
theorem selectAnswers : Obligations.SelectAnswers := by
  intro st s d item x selected drop up
  have answered := responded_up (st := st) (s := s) (d := d) (.inl (by simp [dropState, drop, up]))
  have accepted : exec (.accept st) s =
      .next (outputAccepted st item (setLine st (answeredLine d (lineOf st s)) s)) := by
    show execAccept st s = _
    rw [← answered]
    simp only [execAccept, selected]
  rw [accepted]
  refine ⟨fun image c hi hc => ?_, fun rows c hi hc => ?_, fun i c hi fresh hc own => ?_, fun e hi role => ?_, ?_⟩
  · subst hi
    exact congrArg Host.Outcome.next (imageAccepted_of (by rw [contextOf_setLine, hc]) true)
  · subst hi
    exact congrArg Host.Outcome.next (imageAccepted_of (by rw [contextOf_setLine, hc]) false)
  · subst hi
    refine congrArg Host.Outcome.next
      ((onPrinter_of (s := setLine st (answeredLine d (lineOf st s)) s) (c := c) hc _).trans ?_)
    simp [own, fresh, millisAhead, setLine, Config.completionTime]
  · subst hi
    let base := onJrn (fun j => { j with printedCursor := e.seq }) (setLine st (answeredLine d (lineOf st s)) s)
    have held : printerRoleHeld base = true := by
      refine printerRoleHeld_of (a := st) ?_
      have line : lineOf st base = answeredLine d (lineOf st s) := lineOf_setLine_same ..
      rw [line]
      exact role
    have goes : freeable base = fun y => decide (y.seq ≤ s.jrn.lastAccepted) && decide (y.seq ≤ e.seq) := by
      funext y
      simp only [freeable, held]
      rfl
    refine ⟨freeEntries base, rfl, by simp [keeps, base], by simp [base], by simp [base], ?_, fun slots => ?_, ?_⟩
    · rw [← goes]
      rfl
    · exact slotsAccounted_freeEntries (show slotsAccounted base from slots)
    · simp [freeEntries, base]
  · show execBusy st s = _
    simp only [execBusy, selected, answered]
    refine congrArg Host.Outcome.next ?_
    have now : (lineOf st (setLine st (answeredLine d (lineOf st s)) s)).drops.get d =
        some { x with state := .up, missed := 0, repoll := none, repollDue := false } := by
      simp [answeredLine, drop]
    rw [onDrop_of now, setLine_setLine, lineOf_setLine_same]
    simp [answeredLine, Three.set_set, millisAhead, Config.busyTime, setLine]

/-! ## Line tests (R178) -/

/-- A judged frame of a loop. -/
theorem judgeLoopFrame_loop {st : Station} {s : State} {r : TestRecord} {n : Nat} (equal : Bool)
    (test : (lineOf st s).test = some r) (loop : r.mode = .loop n) :
    judgeLoopFrame st equal s = match r.stopping with
      | some id => answer id .done (testCounts (some (judgedRecord n equal r)))
          (setLine st { lineOf st s with test := some (judgedRecord n equal r) } s)
      | none => setLine st { lineOf st s with test := some (judgedRecord n equal r) } s := by
  unfold judgeLoopFrame
  simp only [test, loop]
  cases r.stopping <;> rfl

/-- Settles O44: LINE-TEST by its checks and modes, and the judging of a loop's frames. -/
theorem lineTests : Obligations.LineTests := by
  refine ⟨fun id line mode count s s1 h => ⟨_, taken_run h _, fun bad => ?_, ?_⟩, ?_⟩
  · have refused : takeLineTest id line mode count s1 = refuseRequest id .badRequest s1 := by
      unfold takeLineTest
      cases station : Station.ofNat? line with
      | none => rfl
      | some st => exact if_pos (bad.resolve_left (by simp [station]))
    rw [refused]
    exact requestRefused_of h
  · rintro st l rfl rfl
    have line : ∀ a, lineOf a s1 = lineOf a s := fun a => by
      obtain ⟨places, rfl⟩ := taken_buffer h
      rfl
    have becomes : ∀ (x : Line) (content : ReplyContent),
        lineBecomes st x s (answer id .done content (setLine st x s1)) := fun x content => by
      obtain ⟨places, rfl⟩ := taken_buffer h
      exact lineBecomes_setLine st x s
    have run : ∀ (good : ¬ (mode < 1 ∨ 3 < mode ∨ (mode = 2 ∧ (count < 1 ∨ 255 < count)))),
        takeLineTest id st.num mode count s1 =
          if (lineOf st s).setup.role ≠ .off then refuseRequest id .roleOrder s1
          else if mode = 3 then takeStop id st s1
          else if testRuns (lineOf st s) then refuseRequest id .roleOrder s1
          else if mode = 1 then answer id .done .nothing
            (setLine st { lineOf st s with test := some { testRecord (lineOf st s) with mode := .echo } } s1)
          else answer id .done .nothing (setLine st { lineOf st s with
            test := some { mode := .loop count, sent := 1, matched := 0, mismatched := 0, stopping := none } } s1) :=
      fun good => by simp only [takeLineTest, stationOf_num, if_neg good, line, onLine]
    refine ⟨fun low high counted order => ?_, fun off idle echo => ?_, fun off idle loop few many => ?_, fun off stop => ?_⟩
    · rw [run (by omega)]
      by_cases off : (lineOf st s).setup.role = .off
      · obtain ⟨notStop, runs⟩ := order.resolve_left (not_not_intro off)
        rw [if_neg (not_not_intro off), if_neg notStop, if_pos runs]
        exact requestRefused_of h
      · rw [if_pos off]
        exact requestRefused_of h
    · rw [run (by omega), if_neg (not_not_intro off), if_neg (by omega), if_neg (by simp [idle]), if_pos echo]
      exact ⟨requestDone_of h (by simp [keeps]) (by simp) (by simp), becomes ..⟩
    · rw [run (by omega), if_neg (not_not_intro off), if_neg (by omega), if_neg (by simp [idle]), if_neg (by omega)]
      exact ⟨requestDone_of h (by simp [keeps]) (by simp) (by simp), becomes ..⟩
    · rw [run (by omega), if_neg (not_not_intro off), if_pos stop]
      refine ⟨fun absent => ?_, fun r test => ⟨fun noLoop => ?_, fun n loop => ?_⟩⟩
      · have stopped : takeStop id st s1 = answer id .done (testCounts none) s1 := by
          simp only [takeStop, line, absent]
        rw [stopped]
        exact requestDone_of h (keeps_refl ..) rfl rfl
      · have stopped : takeStop id st s1 = answer id .done (.testCounts r.sent r.matched r.mismatched)
            (setLine st { lineOf st s with test := some { r with mode := .idle } } s1) := by
          simp only [takeStop, line, test]
          cases mode' : r.mode with
          | loop n => exact absurd mode' (noLoop n)
          | echo =>
            simp only [onLine, line]
            rfl
          | idle =>
            have same : { lineOf st s with test := some { r with mode := .idle } } = lineOf st s1 := by
              rw [line, ← mode', ← test]
            rw [setLine_self same]
            rfl
        rw [stopped]
        exact ⟨requestDone_of h (by simp [keeps]) (by simp) (by simp), becomes ..⟩
      · have stopped : takeStop id st s1 =
            setLine st { lineOf st s with test := some { r with stopping := some id } } s1 := by
          simp only [takeStop, line, test, loop, onLine]
        rw [stopped]
        refine ⟨?_, rfl, ?_⟩
        · obtain ⟨places, rfl⟩ := taken_buffer h
          simp [keeps]
        · obtain ⟨places, rfl⟩ := taken_buffer h
          exact lineBecomes_setLine st _ s
  · rintro st how c equal s l rfl event
    have run : exec c s = .next (judgeLoopFrame st equal s) := by
      rcases event with ⟨rfl, rfl⟩ | ⟨rfl, rfl⟩ <;> rfl
    rw [run]
    refine ⟨fun noLoop => ?_, fun r r' n test loop judged => ?_⟩
    · unfold judgeLoopFrame
      cases test : (lineOf st s).test with
      | none => rfl
      | some r =>
        cases mode : r.mode with
        | loop n => exact absurd mode (noLoop r n test)
        | echo => simp [mode]
        | idle => simp [mode]
    · rw [judgeLoopFrame_loop equal test loop]
      subst judged
      refine ⟨fun free more => ?_, fun free last => ?_, fun id waits => ?_⟩
      · simp [free, judgedRecord, Nat.not_le.2 more]
      · simp [free, judgedRecord, last]
      · simp [waits, judgedRecord, testCounts]

end Sys2Proof.Machine
end

section
/-! SUPPORT. The choice of a line's next exchange (R168, R171, R172). -/

namespace Sys2Proof.Machine
open Sys2Proof

/-! ## The first in turn -/

/-- In a list of rising ranks, the first with a value is the one of least rank among those with a value. -/
theorem findSome?_least {α β : Type} (rank : α → Nat) (f : α → Option β) {y : β} : ∀ {xs : List α},
    xs.Pairwise (fun a b => rank a ≤ rank b) →
    (xs.findSome? f = some y → ∃ d ∈ xs, f d = some y ∧ ∀ a ∈ xs, (f a).isSome = true → rank d ≤ rank a)
  | [], _, h => by cases h
  | x :: rest, sorted, h => by
    obtain ⟨least, sorted⟩ := List.pairwise_cons.1 sorted
    rw [List.findSome?_cons] at h
    cases value : f x with
    | some z =>
      rw [value] at h
      refine ⟨x, List.mem_cons_self .., value.trans h, fun a ha _ => ?_⟩
      rcases List.mem_cons.1 ha with rfl | ha
      · exact le_refl _
      · exact least a ha
    | none =>
      rw [value] at h
      obtain ⟨d, member, found, first⟩ := findSome?_least rank f sorted h
      refine ⟨d, List.mem_cons_of_mem _ member, found, fun a ha some => ?_⟩
      rcases List.mem_cons.1 ha with rfl | ha
      · rw [value] at some
        cases some
      · exact first a ha some

theorem orderAfter_sorted (last : Option Drop) :
    (Drop.orderAfter last).Pairwise fun a b => turnsAfter last a ≤ turnsAfter last b := by
  rcases last with _ | (_ | _ | _) <;> decide

theorem mem_orderAfter (last : Option Drop) (d : Drop) : d ∈ Drop.orderAfter last := by
  rcases last with _ | (_ | _ | _) <;> cases d <;> decide

theorem turnsAfter_inj {last : Option Drop} {a b : Drop} (h : turnsAfter last a = turnsAfter last b) : a = b := by
  revert h
  rcases last with _ | (_ | _ | _) <;> cases a <;> cases b <;> decide

/-- The first drop in turn with a value. -/
theorem orderAfter_findSome {β : Type} {last : Option Drop} {f : Drop → Option β} {y : β} :
    (Drop.orderAfter last).findSome? f = some y ↔
      ∃ d, f d = some y ∧ ∀ a, (f a).isSome = true → turnsAfter last d ≤ turnsAfter last a := by
  constructor
  · intro h
    obtain ⟨d, -, found, first⟩ := findSome?_least (turnsAfter last) f (orderAfter_sorted last) h
    exact ⟨d, found, fun a => first a (mem_orderAfter last a)⟩
  · rintro ⟨d, found, first⟩
    cases h : (Drop.orderAfter last).findSome? f with
    | none => rw [List.findSome?_eq_none_iff.1 h d (mem_orderAfter last d)] at found; cases found
    | some z =>
      obtain ⟨e, -, value, least⟩ := findSome?_least (turnsAfter last) f (orderAfter_sorted last) h
      have same : d = e := turnsAfter_inj (le_antisymm (first e (by simp [value]))
        (least d (mem_orderAfter last d) (by simp [found])))
      rw [← value, ← same, found]

/-- The first drop in turn of which something holds. -/
theorem orderAfter_find {last : Option Drop} {p : Drop → Bool} {d : Drop} :
    (Drop.orderAfter last).find? p = some d ↔ p d = true ∧ ∀ a, p a = true → turnsAfter last d ≤ turnsAfter last a := by
  have guard : ∀ a, (Option.guard p a).isSome = p a := fun a => by simp [Option.isSome_guard]
  rw [List.find?_eq_findSome?_guard, orderAfter_findSome]
  simp only [guard, Option.guard_eq_some_iff]
  refine ⟨?_, fun h => ⟨d, ⟨rfl, h.1⟩, h.2⟩⟩
  rintro ⟨e, ⟨rfl, he⟩, first⟩
  exact ⟨he, first⟩

theorem all_find {p : Drop → Bool} {d : Drop} :
    Drop.all.find? p = some d ↔ p d = true ∧ ∀ a, p a = true → d.num ≤ a.num := by
  have rank : ∀ a : Drop, turnsAfter none a + 1 = a.num := fun a => by cases a <;> rfl
  refine (orderAfter_find (last := none)).trans (and_congr_right fun _ => forall_congr' fun a => ?_)
  rw [← rank d, ← rank a, Nat.add_le_add_iff_right]

/-! ## The poll (R168, R169, R172) -/

theorem dueRepoll_iff (l : Line) (d : Drop) : dueRepoll l d = true ↔ repollWaits l d := by
  unfold dueRepoll repollWaits
  cases l.drops.get d <;> simp

theorem inRoundRobin_iff (l : Line) (d : Drop) : inRoundRobin l d = true ↔ inTurn l d := by
  unfold inRoundRobin inTurn
  cases l.drops.get d <;> simp

theorem pollChoice_iff (l : Line) (d : Drop) : pollChoice l = some d ↔ pollsNext l d := by
  have round : (Drop.orderAfter l.lastPolled).find? (inRoundRobin l) = some d ↔ inTurn l d ∧
      ∀ a, inTurn l a → turnsAfter l.lastPolled d ≤ turnsAfter l.lastPolled a := by
    simp only [orderAfter_find, inRoundRobin_iff]
  have due : Drop.all.find? (dueRepoll l) = some d ↔ repollWaits l d ∧ ∀ a, repollWaits l a → d.num ≤ a.num := by
    simp only [all_find, dueRepoll_iff]
  have next : nextPoll l = some d ↔ l.sweep.head? = some d ∨ (l.sweep = [] ∧
      ((repollWaits l d ∧ ∀ a, repollWaits l a → d.num ≤ a.num) ∨ ((∀ a, ¬ repollWaits l a) ∧ inTurn l d ∧
        ∀ a, inTurn l a → turnsAfter l.lastPolled d ≤ turnsAfter l.lastPolled a))) := by
    unfold nextPoll
    cases sweep : l.sweep with
    | cons a rest => simp
    | nil =>
      cases waits : Drop.all.find? (dueRepoll l) with
      | some a =>
        have held : repollWaits l a := (dueRepoll_iff l a).1 (List.find?_some waits)
        rw [waits] at due
        simp only [due, List.head?_nil, reduceCtorEq, true_and, false_or]
        exact (or_iff_left fun h => h.1 a held).symm
      | none =>
        have quiet : ∀ a, ¬ repollWaits l a := fun a ha =>
          absurd ((dueRepoll_iff l a).2 ha) (List.find?_eq_none.1 waits a (mem_orderAfter none a))
        simp only [round, List.head?_nil, reduceCtorEq, true_and, false_or]
        exact ⟨fun h => .inr ⟨quiet, h⟩, fun h => (h.resolve_left fun k => quiet d k.1).2⟩
  unfold pollChoice pollsNext
  by_cases room : l.buffer.length < Config.receivePlaces
  · rw [if_pos room, next]
    exact (and_iff_right room).symm
  · rw [if_neg room]
    exact ⟨fun h => (by cases h), fun h => absurd h.1 room⟩

/-! ## The select (R168, R171) -/

theorem readyItem_iff {st : Station} {d : Drop} {s : State} {item : SelectItem} :
    readyItem st d s = some item ↔ match (lineOf st s).setup.role, d with
      | .teller, .d1 => ∃ c, contextOf st s = some c ∧ c.terminalPending = true ∧
          (∀ q ∈ s.sda.queue, alarmStation q ≠ some st) ∧ item = .terminal c.terminal
      | .teller, .d2 => ∃ c i, printerOf st s = some c ∧ c.item = some i ∧ i.accepted = false ∧ item = .printer i.body
      | .teller, .d3 => ∃ c, contextOf st s = some c ∧ c.mirrorPending = true ∧
          (∀ q ∈ s.sda.queue, alarmStation q ≠ some st) ∧ item = .mirror c.mirror
      | .journalPrinter, .d1 => ∃ e, (s.jrn.entries.find? fun y => y.seq = s.jrn.printedCursor + 1) = some e ∧
          item = .journalLine e
      | .journalPrinter, _ => False
      | .off, _ => False := by
  have quiet : alarmStands st s = false ↔ ∀ q ∈ s.sda.queue, alarmStation q ≠ some st := by
    simp [alarmStands]
  unfold readyItem
  cases (lineOf st s).setup.role with
  | off => simp
  | journalPrinter => cases d <;> simp [entryToPrint, eq_comm (a := item)]
  | teller =>
    cases d with
    | d1 => simp [Option.bind_eq_some_iff, ← quiet, and_assoc, eq_comm (a := item)]
    | d2 => simp [Option.bind_eq_some_iff, eq_comm (a := item), and_assoc]
    | d3 => simp [Option.bind_eq_some_iff, ← quiet, and_assoc, eq_comm (a := item)]

theorem readySelect_iff {st : Station} {s : State} {a d : Drop} {item : SelectItem} :
    readySelect st s a = some (d, item) ↔ a = d ∧ outputReady st s d item := by
  have ready := @readyItem_iff st a s item
  unfold readySelect
  cases drop : (lineOf st s).drops.get a with
  | none =>
    refine ⟨fun h => (by cases h), ?_⟩
    rintro ⟨rfl, ⟨x, hx, -⟩, -⟩
    rw [drop] at hx
    cases hx
  | some x =>
    by_cases free : selectable x = true
    · have up : x.state = .up ∧ x.busy = none := by simpa [selectable] using free
      simp only [free, if_true, Option.map_eq_some_iff, Prod.mk.injEq]
      constructor
      · rintro ⟨i, found, rfl, rfl⟩
        exact ⟨rfl, ⟨x, drop, up⟩, ready.1 found⟩
      · rintro ⟨rfl, -, out⟩
        exact ⟨item, ready.2 out, rfl, rfl⟩
    · simp only [free]
      refine ⟨fun h => by simp at h, ?_⟩
      rintro ⟨rfl, ⟨y, hy, up⟩, -⟩
      rw [drop] at hy
      cases hy
      exact absurd (by simpa [selectable] using up) free

theorem selectChoice_iff (st : Station) (s : State) (d : Drop) (item : SelectItem) :
    selectChoice st s = some (d, item) ↔ selectsNext st s d item := by
  have ready : ∀ a, (readySelect st s a).isSome = true ↔ ∃ y, outputReady st s a y := fun a => by
    rw [Option.isSome_iff_exists]
    refine ⟨fun ⟨⟨b, y⟩, h⟩ => ?_, fun ⟨y, h⟩ => ⟨(a, y), readySelect_iff.2 ⟨rfl, h⟩⟩⟩
    obtain ⟨rfl, out⟩ := readySelect_iff.1 h
    exact ⟨y, out⟩
  unfold selectChoice selectsNext
  rw [orderAfter_findSome]
  constructor
  · rintro ⟨a, found, first⟩
    obtain ⟨rfl, out⟩ := readySelect_iff.1 found
    exact ⟨out, fun b y h => first b ((ready b).2 ⟨y, h⟩)⟩
  · rintro ⟨out, first⟩
    exact ⟨d, readySelect_iff.2 ⟨rfl, out⟩, fun b h => by
      obtain ⟨y, hy⟩ := (ready b).1 h
      exact first b y hy⟩

/-! ## The exchange issued (R168) -/

theorem issuePoll_eq (st : Station) (d : Drop) (s : State) (l : Line) (hl : l = lineOf st s) :
    issuePoll st d s = setLine st { l with
      exchange := some (.poll d), lastPolled := some d, lastWasSelect := false, sweep := l.sweep.tail,
      unsolicitedRun := false,
      drops := match l.sweep, l.drops.get d with
        | [], some x => if x.state = .down ∧ x.repollDue = true then
            l.drops.set d (some { x with repollDue := false, repoll := some (s.uptime + 5000) }) else l.drops
        | _, _ => l.drops } s := by
  subst hl
  refine congrArg (fun drops => setLine st { lineOf st s with
    exchange := some (.poll d), lastPolled := some d, lastWasSelect := false, sweep := (lineOf st s).sweep.tail,
    unsolicitedRun := false, drops := drops } s) ?_
  cases (lineOf st s).sweep with
  | cons a rest => rfl
  | nil =>
    cases drop : (lineOf st s).drops.get d with
    | none =>
      show (lineOf st s).drops.set d none = (lineOf st s).drops
      rw [← drop, Three.set_get]
    | some x =>
      by_cases due : x.state = .down ∧ x.repollDue = true
      · simp [due, millisAhead, Config.repollTime]
      · simp only [ne_eq, not_true, if_false, Option.map_some, if_neg due]
        rw [← drop, Three.set_get]

theorem issueSelect_issues (st : Station) (d : Drop) (item : SelectItem) (s : State) :
    keeps [.slc, .scm] s (issueSelect st d item s) ∧ otherScreens st s (issueSelect st d item s) ∧
      lineBecomes st { lineOf st s with
        exchange := some (.select d item), lastSelected := some d, lastWasSelect := true, unsolicitedRun := false } s
        (issueSelect st d item s) ∧
      ∀ c, contextOf st s = some c → ∃ c', contextOf st (issueSelect st d item s) = some c' ∧
        c' = { c with terminalRecomposed := c'.terminalRecomposed, mirrorRecomposed := c'.mirrorRecomposed } ∧
        (∀ image, item = .terminal image → c'.terminalRecomposed = false) ∧
        ∀ rows, item = .mirror rows → c'.mirrorRecomposed = false := by
  let base := setLine st { lineOf st s with
    exchange := some (.select d item), lastSelected := some d, lastWasSelect := true, unsolicitedRun := false } s
  have became := lineBecomes_setLine st { lineOf st s with
    exchange := some (.select d item), lastSelected := some d, lastWasSelect := true, unsolicitedRun := false } s
  have issued : issueSelect st d item s = noteCopy st item base := rfl
  have screens : otherScreens st s (noteCopy st item base) ∧ ∀ c, contextOf st s = some c →
      ∃ c', contextOf st (noteCopy st item base) = some c' ∧
        c' = { c with terminalRecomposed := c'.terminalRecomposed, mirrorRecomposed := c'.mirrorRecomposed } ∧
        (∀ image, item = .terminal image → c'.terminalRecomposed = false) ∧
        ∀ rows, item = .mirror rows → c'.mirrorRecomposed = false := by
    have stood : contextOf st base = contextOf st s := rfl
    have placed : ∀ c', otherScreens st s (setContext st (some c') base) ∧
        contextOf st (setContext st (some c') base) = some c' := fun c' =>
      ⟨⟨rfl, rfl, fun x hx => (contextOf_setContext ..).trans (if_neg hx)⟩, (contextOf_setContext ..).trans (if_pos rfl)⟩
    unfold noteCopy
    rw [stood]
    cases context : contextOf st s with
    | none => exact ⟨otherScreens_of rfl, fun c h => by cases h⟩
    | some c =>
      cases item with
      | terminal image =>
        obtain ⟨others, own⟩ := placed { c with terminalRecomposed := false }
        refine ⟨others, fun y hy => ⟨_, own, ?_, fun _ _ => rfl, fun _ h => by cases h⟩⟩
        cases hy
        rfl
      | mirror rows =>
        obtain ⟨others, own⟩ := placed { c with mirrorRecomposed := false }
        refine ⟨others, fun y hy => ⟨_, own, ?_, fun _ h => (by cases h), fun _ _ => rfl⟩⟩
        cases hy
        rfl
      | printer body =>
        exact ⟨otherScreens_of rfl, fun y hy => ⟨y, stood.trans (context.trans hy), rfl, fun _ h => (by cases h),
          fun _ h => by cases h⟩⟩
      | journalLine e =>
        exact ⟨otherScreens_of rfl, fun y hy => ⟨y, stood.trans (context.trans hy), rfl, fun _ h => (by cases h),
          fun _ h => by cases h⟩⟩
  rw [issued]
  exact ⟨by simp [keeps, base], screens.1, lineBecomes_congr became (by simp [base]), screens.2⟩

/-- Settles O43: the choice between poll and select, and each as it is issued. -/
theorem exchangesAlternate : Obligations.ExchangesAlternate := by
  rintro st s l rfl
  refine ⟨fun busy => ?_, fun role free => ?_, pollChoice_iff _, selectChoice_iff st s⟩
  · show execIssueExchange st s = _
    exact if_pos (by simpa [Option.isSome_iff_ne_none] using busy)
  · have run : exec (.issueExchange st) s = .next (issueNext st s) := by
      show execIssueExchange st s = _
      exact if_neg (by simp [role, free])
    rw [run]
    have noPoll : (∀ d, ¬ pollsNext (lineOf st s) d) → pollChoice (lineOf st s) = none := fun h =>
      Option.eq_none_iff_forall_ne_some.2 fun d hd => h d ((pollChoice_iff ..).1 hd)
    have noSelect : (∀ d item, ¬ outputReady st s d item) → selectChoice st s = none := fun h =>
      Option.eq_none_iff_forall_ne_some.2 fun p hp => h p.1 p.2 ((selectChoice_iff st s p.1 p.2).1 hp).1
    unfold issueNext
    dsimp only
    refine ⟨fun idle quiet => ?_, fun d polls turn => ?_, fun d item selects turn => ?_⟩
    · rw [noPoll idle, noSelect quiet]
      cases (lineOf st s).lastWasSelect <;> rfl
    · refine Eq.trans (congrArg Host.Outcome.next ?_) (congrArg Host.Outcome.next (issuePoll_eq st d s _ rfl))
      rw [(pollChoice_iff ..).2 polls]
      rcases turn with last | quiet
      · rw [last]
      · rw [noSelect quiet]
        cases (lineOf st s).lastWasSelect <;> rfl
    · refine ⟨issueSelect st d item s, congrArg Host.Outcome.next ?_, issueSelect_issues st d item s⟩
      rw [(selectChoice_iff st s d item).2 selects]
      rcases turn with last | idle
      · rw [last]
      · rw [noPoll idle]
        cases (lineOf st s).lastWasSelect <;> rfl

end Sys2Proof.Machine
end

section
/-! SUPPORT. The passbook printer, operation by operation: what each leaves in the printer's context (R78 to R94). Every
operation but the completion of a job's end changes the context and its station's screen alone, so that each is a function
of the context; these functions stand beside the operations, each tied to its own by a lemma. -/

namespace Sys2Proof.Machine
open Sys2Proof

/-! ## One printer's context on a fixed state -/

/-- A state that differs from another in one printer's context, which is given, and in the screen of its station. -/
def atPrinter (st : Station) (c : PrinterContext) (s u : State) : Prop :=
  keeps [.pbk, .scm] s u ∧ otherPrinters st s u ∧ otherScreens st s u ∧ printerOf st u = some c

/-- A printer's context with another queue. -/
def withJobs (jobs : List Job) (c : PrinterContext) : PrinterContext := { c with queue := jobs }

/-- A printer's context with another prompt. -/
def withPrompt (p : Prompt) (c : PrinterContext) : PrinterContext := { c with prompt := p }

section
variable {st : Station} {c : PrinterContext} {s u : State}

theorem atPrinter_refl (h : printerOf st s = some c) : atPrinter st c s s :=
  ⟨keeps_refl _ s, fun _ _ => rfl, otherScreens_refl st s, h⟩

/-- What a state with another context shares with its base. -/
theorem atPrinter.stands (h : atPrinter st c s u) : u.uptime = s.uptime ∧ u.sda = s.sda ∧ u.jrn = s.jrn ∧ u.tbl = s.tbl ∧
    u.blc = s.blc ∧ u.mrs = s.mrs ∧ tellerAt st u = tellerAt st s := by
  obtain ⟨same, -, screens, -⟩ := h
  simp only [keeps] at same
  obtain ⟨-, time, -, -, -, -, sda, jrn, -, tbl, -, blc, mrs, -⟩ := same
  exact ⟨time, sda (by simp), jrn (by simp), tbl (by simp), blc (by simp), mrs (by simp),
    tellerAt_congr st (by rw [screens.1])⟩

theorem atPrinter.set (h : atPrinter st c s u) (d : PrinterContext) : atPrinter st d s (setPrinter st (some d) u) := by
  obtain ⟨same, printers, screens, -⟩ := h
  refine ⟨keeps_trans same (by simp [keeps]), fun x hx => ?_, otherScreens_trans screens (otherScreens_of rfl), ?_⟩
  · exact ((printerOf_setPrinter ..).trans (if_neg hx)).trans (printers x hx)
  · exact (printerOf_setPrinter ..).trans (if_pos rfl)

theorem atPrinter.on (h : atPrinter st c s u) (f : PrinterContext → PrinterContext) :
    atPrinter st (f c) s (onPrinter st f u) := by
  rw [onPrinter_of h.2.2.2]
  exact h.set (f c)

theorem atPrinter.prompt (h : atPrinter st c s u) (p : Prompt) :
    atPrinter st (withPrompt p c) s (setPrompt st p u) := by
  have context := h.2.2.2
  unfold setPrompt
  rw [context]
  by_cases same : c.prompt = p
  · simp only [if_pos same]
    subst same
    exact h
  · simp only [if_neg same]
    have placed := h.set (withPrompt p c)
    change atPrinter st (withPrompt p c) s (refresh st (setPrinter st (some (withPrompt p c)) u))
    generalize setPrinter st (some (withPrompt p c)) u = v at placed ⊢
    obtain ⟨kept, printers, screens, shows⟩ := placed
    refine ⟨keeps_trans kept (by simp [keeps]), fun x hx => ?_, otherScreens_trans screens (otherScreens_composeWith ..), ?_⟩
    · exact (printerOf_congr x (by simp)).trans (printers x hx)
    · exact (printerOf_congr st (by simp)).trans shows

/-! ## The head job and the item -/

theorem atPrinter.head (h : atPrinter st c s u) : headJob st u = c.queue.head? := by
  unfold headJob
  rw [h.2.2.2]
  rfl

theorem atPrinter.book (h : atPrinter st c s u) : insertedBook st u = c.book := by
  unfold insertedBook
  rw [h.2.2.2]
  rfl

theorem atPrinter.prompts (h : atPrinter st c s u) : promptAt st u = c.prompt := by
  unfold promptAt
  rw [h.2.2.2]

variable {j k : Job} {rest : List Job}

theorem queue_self (queue : c.queue = j :: rest) : withJobs (j :: rest) c = c := by
  unfold withJobs
  rw [← queue]

theorem atPrinter.afterHead (h : atPrinter st c s u) (queue : c.queue = j :: rest) (k : Job) :
    atPrinter st (withJobs (k :: rest) c) s (setHead st k u) := by
  have run : setHead st k u = setPrinter st (some (withJobs (k :: rest) c)) u := by
    unfold setHead
    rw [onPrinter_of h.2.2.2, queue]
    rfl
  rw [run]
  exact h.set _

/-- An item handed to the printer. -/
def handedTo (body : ItemBody) (c : PrinterContext) : PrinterContext :=
  { c with state := .printing, item := some (handed body) }

theorem atPrinter.afterItem (h : atPrinter st c s u) (body : ItemBody) :
    atPrinter st (handedTo body c) s (handItem st body u) := h.on _

/-- The line at the head job's next index, where it can be handed. -/
def lineGiven (s : State) (j : Job) (rest : List Job) (c : PrinterContext) : PrinterContext :=
  match j.layout, j.place, j.lines[j.next - 1]? with
  | some layout, some place, some l =>
    handedTo (.printLine place (lineTexts (decimalsOf s) layout l (printedBalance j j.next l)) (printedBalance j j.next l))
      (withJobs ({ j with state := .printing } :: rest) c)
  | _, _, _ => withJobs (j :: rest) c

theorem atPrinter.afterLine (h : atPrinter st c s u) (queue : c.queue = j :: rest) :
    atPrinter st (lineGiven s j rest c) s (handLine st u) := by
  have head : headJob st u = some j := by rw [h.head, queue]; rfl
  have decimals : decimalsOf u = decimalsOf s := by
    unfold decimalsOf
    rw [h.stands.2.2.2.1]
  unfold lineGiven
  cases layout : j.layout with
  | none =>
    have run : handLine st u = u := by simp only [handLine, head, layout]
    simpa only [run, queue_self queue] using h
  | some layout' =>
    cases place : j.place with
    | none =>
      have run : handLine st u = u := by simp only [handLine, head, layout, place]
      simpa only [run, queue_self queue] using h
    | some place' =>
      cases line : j.lines[j.next - 1]? with
      | none =>
        have run : handLine st u = u := by simp only [handLine, head, layout, place, line]
        simpa only [run, queue_self queue] using h
      | some l =>
        have given := (h.afterHead queue { j with state := .printing }).afterItem (.printLine place'
          (lineTexts (decimalsOf s) layout' l (printedBalance j j.next l)) (printedBalance j j.next l))
        have run : handLine st u = handItem st (.printLine place'
            (lineTexts (decimalsOf s) layout' l (printedBalance j j.next l)) (printedBalance j j.next l))
            (setHead st { j with state := .printing } u) := by
          simp only [handLine, head, layout, place, line, decimals]
        rw [run]
        simpa only [layout, place] using given

/-! ## The end of the head job (R93, R94) -/

/-- A job whose end has a stripe outcome. -/
def withOutcome (o : StripeOutcome) (j : Job) : Job := { j with outcome := some o }

/-- The end write made owed. -/
def owedLeft (j : Job) (rest : List Job) (c : PrinterContext) : PrinterContext :=
  { c with owed := leavesOwed j c.owed, queue := withOutcome .owed j :: rest }

theorem atPrinter.afterOwe (h : atPrinter st c s u) (queue : c.queue = k :: rest) (j : Job) :
    atPrinter st (owedLeft j rest c) s (oweEndWrite st j u) := by
  have owed := (h.afterHead queue { j with outcome := some .owed }).on
    fun c => { c with owed := match owedOf j with
      | some o => some o
      | none => c.owed }
  have same : (match owedOf j with
      | some o => some o
      | none => c.owed) = leavesOwed j c.owed := by
    unfold owedOf leavesOwed
    cases j.serial <;> cases j.place <;> rfl
  unfold owedLeft
  rw [← same]
  exact owed

/-- The end write of an ended head job. -/
def endWritten (j : Job) (rest : List Job) (c : PrinterContext) : PrinterContext :=
  if j.printed = 0 ∨ (j.cause.map writesNoEnd).getD true = true then
    withJobs (withOutcome .notDue j :: rest) c
  else match c.book, j.place with
    | some b, some p =>
      if c.state = .ready ∧ isJobsBook j b = true then
        if placeBefore p (bookPlace b) = true then (withJobs (withOutcome .written j :: rest) c)
        else handedTo (.stripeWrite p .endWrite) (withJobs (j :: rest) c)
      else owedLeft j rest c
    | _, _ => owedLeft j rest c

theorem atPrinter.afterEndWrite (h : atPrinter st c s u) (queue : c.queue = j :: rest) :
    atPrinter st (endWritten j rest c) s (endWrite st j u) := by
  unfold endWrite endWritten
  rw [h.2.2.2]
  by_cases due : j.printed = 0 ∨ (j.cause.map writesNoEnd).getD true = true
  · simp only [if_pos due]
    exact h.afterHead queue _
  · simp only [if_neg due]
    cases c.book with
    | none => exact h.afterOwe queue j
    | some b =>
      cases place : j.place with
      | none => exact h.afterOwe queue j
      | some p =>
        by_cases own : c.state = .ready ∧ isJobsBook j b = true
        · simp only [if_pos own]
          by_cases behind : placeBefore p (bookPlace b) = true
          · simp only [if_pos behind]
            simpa only [withOutcome, place] using h.afterHead queue (withOutcome .written j)
          · simp only [if_neg behind, queue_self queue]
            exact h.afterItem _
        · simp only [if_neg own]
          exact h.afterOwe queue j

/-- The head job ended with a cause. -/
def headEnded (cause : EndCause) (j : Job) (rest : List Job) (c : PrinterContext) : PrinterContext :=
  endWritten { j with state := .ended, cause := some cause, timer := none } rest
    (withJobs ({ j with state := .ended, cause := some cause, timer := none } :: rest)
      (withPrompt (promptAtEnd cause c.prompt) c))

theorem atPrinter.afterEnd (h : atPrinter st c s u) (queue : c.queue = j :: rest) (cause : EndCause) :
    atPrinter st (headEnded cause j rest c) s (endHead st cause u) := by
  have head : headJob st u = some j := by rw [h.head, queue]; rfl
  unfold endHead headEnded
  rw [h.2.2.2, head]
  have ended := (h.prompt (promptAtEnd cause c.prompt)).afterHead queue
    { j with state := .ended, cause := some cause, timer := none }
  exact ended.afterEndWrite rfl

/-! ## Placement (R87, R90) -/

/-- A full page: the book is full, or the page is turned. -/
def pageFilled (s : State) (j : Job) (rest : List Job) (page pages : Nat) (c : PrinterContext) : PrinterContext :=
  if pages ≤ page then headEnded .bookFull j rest (withJobs (j :: rest) c)
  else handedTo (.stripeWrite ⟨page + 1, 1⟩ .turn)
    (withPrompt .turnPage
      (withJobs ({ j with state := .turnWait, place := some ⟨page + 1, 1⟩, timer := waitEnd s } :: rest) c))

theorem waitEnd_congr (time : u.uptime = s.uptime) (mrs : u.mrs = s.mrs) : waitEnd u = waitEnd s := by
  unfold waitEnd secondsAhead
  rw [time, mrs]

theorem atPrinter.afterPage (h : atPrinter st c s u) (queue : c.queue = k :: rest) (j : Job) (page pages : Nat) :
    atPrinter st (pageFilled s j rest page pages c) s (pageFull st j page pages u) := by
  obtain ⟨time, -, -, -, -, mrs, -⟩ := h.stands
  unfold pageFull pageFilled
  rw [waitEnd_congr time mrs]
  by_cases full : pages ≤ page
  · simp only [if_pos full]
    exact (h.afterHead queue j).afterEnd rfl .bookFull
  · simp only [if_neg full]
    exact ((h.afterHead queue _).prompt .turnPage).afterItem _

/-- The start place judged. -/
def startJudged (s : State) (j : Job) (rest : List Job) (layout : PltRec) (b : Book) (c : PrinterContext) :
    PrinterContext :=
  let placed : Job := { j with layout := some layout, place := some { page := b.page, line := startLine layout b } }
  if b.page < 1 ∨ layout.pages < b.page ∨ startLine layout b < 1 ∨ layout.linesPerPage + 1 < startLine layout b then
    headEnded .badStripe placed rest (withJobs (placed :: rest) c)
  else if startLine layout b = layout.linesPerPage + 1 then pageFilled s placed rest b.page layout.pages c
  else lineGiven s placed rest (withJobs (placed :: rest) c)

theorem atPrinter.afterStart (h : atPrinter st c s u) (queue : c.queue = k :: rest) (j : Job) (layout : PltRec) (b : Book) :
    atPrinter st (startJudged s j rest layout b c) s (judgeStart st j layout b u) := by
  unfold judgeStart startJudged
  dsimp only
  split
  · exact (h.afterHead queue _).afterEnd rfl .badStripe
  · split
    · exact h.afterPage queue _ _ _
    · exact (h.afterHead queue _).afterLine rfl

/-- Placement begun or resumed at a book. -/
def placementBegun (s : State) (j : Job) (rest : List Job) (b : Book) (c : PrinterContext) : PrinterContext :=
  let met : PrinterContext := withPrompt (withdrawWait c.prompt) (withJobs (metBook j b :: rest) c)
  match j.layout with
  | some layout => startJudged s (metBook j b) rest layout b met
  | none => match layoutOf b.bookType s with
    | some layout => startJudged s (metBook j b) rest layout b met
    | none => headEnded .noLayout (metBook j b) rest met

theorem atPrinter.afterPlacement (h : atPrinter st c s u) (queue : c.queue = j :: rest) {b : Book} (book : c.book = some b) :
    atPrinter st (placementBegun s j rest b c) s (beginPlacement st u) := by
  have head : headJob st u = some j := by rw [h.head, queue]; rfl
  have inserted : insertedBook st u = some b := h.book.trans book
  have plain := h.afterHead queue (metBook j b)
  have met := plain.prompt (withdrawWait c.prompt)
  have layouts : layoutOf b.bookType u = layoutOf b.bookType s := by
    unfold layoutOf
    rw [h.stands.2.2.2.1]
  unfold placementBegun
  dsimp only
  cases layout : j.layout with
  | some layout' =>
    have run : beginPlacement st u =
        judgeStart st (metBook j b) layout' b (setPrompt st (withdrawWait c.prompt) (setHead st (metBook j b) u)) := by
      simp only [beginPlacement, head, inserted, layout, h.prompts]
      rfl
    rw [run]
    exact met.afterStart rfl _ layout' b
  | none =>
    cases found : layoutOf b.bookType s with
    | some layout' =>
      have run : beginPlacement st u =
          judgeStart st (metBook j b) layout' b (setPrompt st (withdrawWait c.prompt) (setHead st (metBook j b) u)) := by
        simp only [beginPlacement, head, inserted, layout, h.prompts, layouts, found]
        rfl
      rw [run]
      exact met.afterStart rfl _ layout' b
    | none =>
      have run : beginPlacement st u =
          endHead st .noLayout (setPrompt st (withdrawWait c.prompt) (setHead st (metBook j b) u)) := by
        simp only [beginPlacement, head, inserted, layout, h.prompts, layouts, found]
        rfl
      rw [run]
      exact met.afterEnd rfl .noLayout

/-! ## Owed writes and waits (R85, R86, R94) -/

/-- The owed write of the inserted book dealt with. -/
def owedDealt (b : Book) (c : PrinterContext) : PrinterContext :=
  match c.owed with
  | some o =>
    if owedFor c b = true then
      if placeBefore (bookPlace b) o.place = true then
        (if c.state = .ready then handedTo (.stripeWrite o.place .owed) c else c)
      else { c with owed := none }
    else c
  | none => c

theorem atPrinter.afterOwed (h : atPrinter st c s u) {b : Book} (book : c.book = some b) :
    atPrinter st (owedDealt b c) s (dealOwed st u) := by
  unfold dealOwed owedDealt
  rw [h.2.2.2, h.book.trans book]
  dsimp only
  cases owed : c.owed with
  | none => exact h
  | some o =>
    dsimp only
    split
    · split
      · split
        · exact h.afterItem _
        · exact h
      · exact h.on fun c => { c with owed := none }
    · exact h

/-- The head job in BOOK_WAIT offered the inserted book. -/
def waitResumed (s : State) (b : Book) (c : PrinterContext) : PrinterContext :=
  match c.queue with
  | j :: rest =>
    if j.state = .bookWait ∧ c.state = .ready ∧ bookReady c j = true then placementBegun s j rest b c else c
  | [] => c

theorem atPrinter.afterResume (h : atPrinter st c s u) {b : Book} (book : c.book = some b) :
    atPrinter st (waitResumed s b c) s (resumeBookWait st u) := by
  unfold resumeBookWait waitResumed
  rw [h.2.2.2, h.head]
  cases queue : c.queue with
  | nil => exact h
  | cons j rest =>
    dsimp only [List.head?_cons]
    split
    · exact h.afterPlacement queue book
    · exact h

theorem atPrinter.afterWait (h : atPrinter st c s u) (queue : c.queue = k :: rest) (j : Job) :
    atPrinter st (withJobs (waitsForBook j s :: rest) c) s (enterBookWait st j u) := by
  obtain ⟨time, -, -, -, -, mrs, -⟩ := h.stands
  have wait : ({ j with state := .bookWait, timer := waitEnd u } : Job) = waitsForBook j s := by
    rw [waitEnd_congr time mrs]
    rfl
  unfold enterBookWait
  rw [wait]
  exact h.afterHead queue _

/-- The QUEUED head job begun. -/
def headBegun (s : State) (j : Job) (rest : List Job) (c : PrinterContext) : PrinterContext :=
  match c.book with
  | some b =>
    if bookMatches j b = true ∧ c.state = .ready then
      if owedFor c b = true then
        waitResumed s b (owedDealt b (withJobs (waitsForBook (meetBook j b) s :: rest) c))
      else placementBegun s j rest b c
    else (withJobs (waitsForBook j s :: rest) c)
  | none => withJobs (waitsForBook j s :: rest) c

theorem owedDealt_book (b : Book) (c : PrinterContext) : (owedDealt b c).book = c.book := by
  unfold owedDealt handedTo
  repeat' split
  all_goals rfl

theorem atPrinter.afterBegin (h : atPrinter st c s u) (queue : c.queue = j :: rest) :
    atPrinter st (headBegun s j rest c) s (beginHead st u) := by
  unfold beginHead headBegun
  rw [h.2.2.2, h.head, queue]
  dsimp only [List.head?_cons]
  cases book : c.book with
  | none => exact h.afterWait queue j
  | some b =>
    dsimp only
    split
    · split
      · have waits := h.afterWait queue (meetBook j b)
        have dealt := waits.afterOwed (b := b) book
        exact dealt.afterResume ((owedDealt_book ..).trans book)
      · exact h.afterPlacement queue book
    · exact h.afterWait queue j

end
end Sys2Proof.Machine
end

section
/-! SUPPORT. What a placement does to a printer's context, and how a station's queue goes on (R85 to R94). -/

namespace Sys2Proof.Machine
open Sys2Proof

/-! ## The end of a head job, by its end write (R93, R94) -/

/-- A job ended with a cause, its end write not judged. -/
def endedJob (cause : EndCause) (j : Job) : Job := { j with state := .ended, cause := some cause, timer := none }

section
variable {j : Job} {rest : List Job} {b : Book} {c : PrinterContext} {cause : EndCause} {p : Place}

theorem headEnded_notDue (due : j.printed = 0 ∨ writesNoEnd cause = true) : headEnded cause j rest c =
    withJobs (withOutcome .notDue (endedJob cause j) :: rest) (withPrompt (promptAtEnd cause c.prompt) c) := by
  unfold headEnded endWritten
  rw [if_pos (by simpa using due)]
  rfl

theorem endedJob_due (some : j.printed ≠ 0) (due : writesNoEnd cause = false) :
    ¬ ((endedJob cause j).printed = 0 ∨ ((endedJob cause j).cause.map writesNoEnd).getD true = true) := by
  simp [endedJob, some, due]

theorem headEnded_owed (some : j.printed ≠ 0) (due : writesNoEnd cause = false)
    (away : c.state ≠ .ready ∨ j.place = none ∨ ∀ b, c.book = .some b → isJobsBook j b = false) :
    headEnded cause j rest c = { owedLeft (endedJob cause j) rest c with prompt := promptAtEnd cause c.prompt } := by
  change endWritten (endedJob cause j) rest (withJobs (endedJob cause j :: rest) (withPrompt (promptAtEnd cause c.prompt) c)) = _
  unfold endWritten
  rw [if_neg (endedJob_due some due)]
  have place : (endedJob cause j).place = j.place := rfl
  have book : (withJobs (endedJob cause j :: rest) (withPrompt (promptAtEnd cause c.prompt) c)).book = c.book := rfl
  rw [place, book]
  cases hb : c.book with
  | none => simp only [owedLeft, withJobs, withPrompt, hb]
  | some b =>
    cases hp : j.place with
    | none => simp only [owedLeft, withJobs, withPrompt, hb]
    | some p =>
      have notOwn : ¬ ((withJobs (endedJob cause j :: rest) (withPrompt (promptAtEnd cause c.prompt) c)).state = .ready ∧
          isJobsBook (endedJob cause j) b = true) := by
        rintro ⟨ready, own⟩
        rcases away with h | h | h
        · exact h ready
        · rw [hp] at h
          cases h
        · exact absurd (own.symm.trans (h b hb)) (by simp)
      dsimp only
      rw [if_neg notOwn]
      simp only [owedLeft, withJobs, withPrompt, hb]

theorem headEnded_book (some : j.printed ≠ 0) (due : writesNoEnd cause = false) (ready : c.state = .ready)
    (book : c.book = .some b) (own : isJobsBook j b = true) (place : j.place = .some p) :
    headEnded cause j rest c = withPrompt (promptAtEnd cause c.prompt)
      (if placeBefore p (bookPlace b) = true then
        withJobs (withOutcome .written (endedJob cause j) :: rest) c
      else handedTo (.stripeWrite p .endWrite) (withJobs (endedJob cause j :: rest) c)) := by
  change endWritten (endedJob cause j) rest (withJobs (endedJob cause j :: rest) (withPrompt (promptAtEnd cause c.prompt) c)) = _
  unfold endWritten
  rw [if_neg (endedJob_due some due)]
  have place : (endedJob cause j).place = .some p := place
  have book : (withJobs (endedJob cause j :: rest) (withPrompt (promptAtEnd cause c.prompt) c)).book = .some b := book
  rw [place, book]
  dsimp only
  rw [if_pos ⟨ready, own⟩]
  split <;> rfl

end

/-! ## What placement does (R87, R88, R90, R93) -/

section
variable {j : Job} {rest : List Job} {b : Book} {layout : PltRec} {l : PassLine} {line : Nat} {s : State} {c : PrinterContext}

theorem withdrawWait_eq (p : Prompt) : withdrawWait p = if p = .bookFull then .bookFull else .noPrompt := by
  cases p <;> rfl

theorem promptAtEnd_eq (cause : EndCause) (p : Prompt) :
    promptAtEnd cause p = if cause = .bookFull ∨ p = .bookFull then .bookFull else .noPrompt := by
  unfold promptAtEnd
  by_cases full : cause = .bookFull
  · simp [full]
  · simp [full, withdrawWait_eq]

theorem promptAtEnd_withdrawn (cause : EndCause) (p : Prompt) : promptAtEnd cause (withdrawWait p) = promptAtEnd cause p := by
  cases p <;> rfl

/-- A placement's start line is not before the stripe's. -/
theorem placeBefore_startLine (layout : PltRec) (b : Book) :
    placeBefore ⟨b.page, startLine layout b⟩ (bookPlace b) = false := by
  unfold placeBefore bookPlace startLine
  simp only [Bool.or_eq_false_iff, Bool.and_eq_false_iff, decide_eq_false_iff_not]
  split <;> omega

/-- A placement with a layout judges the start at it. -/
theorem placementBegun_layout (starts : j.layout = some layout ∨ (j.layout = none ∧ layoutOf b.bookType s = some layout)) :
    placementBegun s j rest b c = startJudged s (metBook j b) rest layout b
      (withPrompt (withdrawWait c.prompt) (withJobs (metBook j b :: rest) c)) := by
  unfold placementBegun
  rcases starts with own | ⟨none, found⟩
  · simp only [own]
  · simp only [none, found]

theorem placementBegun_line (starts : lineStarts j b layout l line s) :
    placementBegun s j rest b c = lineHanded j rest b layout l line s c := by
  obtain ⟨layouts, rfl, page, pages, low, high, next⟩ := starts
  rw [placementBegun_layout layouts]
  have inside : ¬ (b.page < 1 ∨ layout.pages < b.page ∨ startLine layout b < 1 ∨
      layout.linesPerPage + 1 < startLine layout b) := by
    unfold startLine
    omega
  have room : ¬ startLine layout b = layout.linesPerPage + 1 := by
    unfold startLine
    omega
  have nextLine : (metBook j b).lines[(metBook j b).next - 1]? = some l := next
  unfold startJudged
  simp only [if_neg inside, if_neg room, lineGiven, nextLine, withdrawWait_eq]
  rfl

theorem placementBegun_turn (turns : turnsAtStart j b layout s) :
    placementBegun s j rest b c = turnedAtStart j rest b layout s c := by
  obtain ⟨⟨layouts, full⟩, page, pages⟩ := turns
  have start : startLine layout b = layout.linesPerPage + 1 := full.symm
  rw [placementBegun_layout layouts]
  unfold startJudged
  simp only [start]
  rw [if_neg (by omega), if_pos trivial]
  unfold pageFilled
  rw [if_neg (by omega)]
  rfl

theorem placementBegun_full (starts : startsAt j b layout (layout.linesPerPage + 1) s) (page : 1 ≤ b.page)
    (last : b.page = layout.pages) (some : 0 < j.printed) (account : j.account = b.account)
    (serial : (metBook j b).serial = .some b.serial) (ready : c.state = .ready) (book : c.book = .some b) :
    placementBegun s j rest b c = { c with
      prompt := .bookFull
      state := .printing
      item := .some (handed (.stripeWrite ⟨b.page, layout.linesPerPage + 1⟩ .endWrite))
      queue := { metBook j b with
        layout := .some layout, place := .some ⟨b.page, layout.linesPerPage + 1⟩, state := .ended,
        cause := .some .bookFull } :: rest } := by
  obtain ⟨layouts, full⟩ := starts
  have start : startLine layout b = layout.linesPerPage + 1 := full.symm
  have here := placeBefore_startLine layout b
  rw [start] at here
  rw [placementBegun_layout layouts]
  unfold startJudged
  simp only [start]
  rw [if_neg (by omega), if_pos trivial]
  unfold pageFilled
  rw [if_pos (by omega)]
  have own : isJobsBook (metBook j b) b = true := by simp [isJobsBook, account.symm, metBook] at serial ⊢; exact serial
  refine (headEnded_book (j := { metBook j b with
    layout := .some layout, place := .some ⟨b.page, layout.linesPerPage + 1⟩ })
    (c := withJobs _ (withPrompt (withdrawWait c.prompt) (withJobs (metBook j b :: rest) c)))
    (Nat.ne_of_gt some) rfl ready book own rfl).trans ?_
  rw [if_neg (by simp [here])]
  rfl

/-- A placement that ends its job at its start leaves it ended with no stripe write due. -/
theorem placementBegun_ends {cause : EndCause} (ends : endsAtStart j b s cause) :
    ∃ q, placementBegun s j rest b c = withJobs (q :: rest) (withPrompt (promptAtEnd cause c.prompt) c) ∧
      q.state = .ended ∧ q.outcome = some .notDue ∧ q.cause = some cause ∧
      jobReservation q = jobReservation (metBook j b) ∧ q.ref = j.ref := by
  let base := withPrompt (withdrawWait c.prompt) (withJobs (metBook j b :: rest) c)
  have final : ∀ (k : Job) (jobs : List Job), k.printed = 0 ∨ writesNoEnd cause = true →
      headEnded cause k rest (withJobs jobs base) =
        withJobs (withOutcome .notDue (endedJob cause k) :: rest) (withPrompt (promptAtEnd cause c.prompt) c) :=
    fun k jobs due => by
      rw [headEnded_notDue due]
      show withJobs _ (withPrompt (promptAtEnd cause (withdrawWait c.prompt)) _) = _
      rw [promptAtEnd_withdrawn]
      rfl
  rcases ends with ⟨own, found, fresh, rfl⟩ | ⟨layout, line, ⟨layouts, rfl⟩, ⟨outside, rfl⟩ | ⟨page, last, full, fresh, rfl⟩⟩
  · have run : placementBegun s j rest b c = headEnded .noLayout (metBook j b) rest (withJobs (metBook j b :: rest) base) := by
      simp only [placementBegun, own, found]
      rfl
    exact ⟨_, run.trans (final _ _ (.inl fresh)), rfl, rfl, rfl, rfl, rfl⟩
  · have run := placementBegun_layout (rest := rest) (c := c) layouts
    have outside : b.page < 1 ∨ layout.pages < b.page ∨ startLine layout b < 1 ∨
        layout.linesPerPage + 1 < startLine layout b := outside
    unfold startJudged at run
    rw [if_pos outside] at run
    exact ⟨_, run.trans (final _ _ (.inr rfl)), rfl, rfl, rfl, rfl, rfl⟩
  · have start : startLine layout b = layout.linesPerPage + 1 := full
    have run := placementBegun_layout (rest := rest) (c := c) layouts
    unfold startJudged pageFilled at run
    simp only [start] at run
    rw [if_neg (by omega), if_pos trivial, if_pos (by omega)] at run
    exact ⟨_, run.trans (final _ _ (.inl fresh)), rfl, rfl, rfl, rfl, rfl⟩

end
end Sys2Proof.Machine
end

section
/-! SUPPORT. The end of a head job completed, and the queue of a station going on (R85, R93). -/

namespace Sys2Proof.Machine
open Sys2Proof

/-! ## An event of one printer -/

section
variable {st : Station} {s t u : State} {c : PrinterContext}

theorem ofPrinter_refl (st : Station) (s : State) : ofPrinter st s s :=
  ⟨keeps_refl _ s, fun _ _ => rfl, otherScreens_refl st s, raisedOnly_refl _ s⟩

theorem ofPrinter_trans (h : ofPrinter st s t) (k : ofPrinter st t u) : ofPrinter st s u := by
  obtain ⟨h1, h2, h3, h4⟩ := h
  obtain ⟨k1, k2, k3, k4⟩ := k
  exact ⟨keeps_trans h1 k1, fun x hx => (k2 x hx).trans (h2 x hx), otherScreens_trans h3 k3, raisedOnly_trans h4 k4⟩

theorem ofPrinter_of_at (h : atPrinter st c s u) : ofPrinter st s u := by
  obtain ⟨-, -, -, -, blc, mrs, -⟩ := h.stands
  obtain ⟨same, printers, screens, -⟩ := h
  refine ⟨keeps_mono same (by simp [printerBlocks]), printers, screens, ?_⟩
  exact raisedOnly_of_eq (raisedOnly_refl _ s) mrs blc

/-- What an event of a printer leaves of the clock, the settings and the tables. -/
theorem ofPrinter_stands (h : ofPrinter st s t) : t.uptime = s.uptime ∧ t.mrs.settings = s.mrs.settings ∧
    t.mrs.clock = s.mrs.clock ∧ t.day = s.day ∧ t.tbl = s.tbl ∧ tellerAt st t = tellerAt st s := by
  obtain ⟨same, -, screens, raised⟩ := h
  simp only [keeps, printerBlocks] at same
  obtain ⟨-, time, -, -, -, -, -, -, day, tbl, -⟩ := same
  obtain ⟨mrs, -⟩ := raised
  have settings : t.mrs.settings = s.mrs.settings := (congrArg Mrs.settings mrs : _)
  have clock : t.mrs.clock = s.mrs.clock := (congrArg Mrs.clock mrs : _)
  exact ⟨time, settings, clock, day (by simp), tbl (by simp), tellerAt_congr st (by rw [screens.1])⟩

/-! ## The end of the head job completed (R93) -/

variable {j : Job} {rest : List Job}

theorem jobReported_congr {cause : EndCause} {outcome : StripeOutcome} {t' : State}
    (h : jobReported st j cause outcome s t) (sda : t'.sda = t.sda) (jrn : t'.jrn = t.jrn) :
    jobReported st j cause outcome s t' := by
  unfold jobReported wrote at *
  rw [sda, jrn]
  exact h

/-- A job's report depends on what the job reports alone. -/
theorem jobReported_alike {k : Job} {cause : EndCause} {outcome : StripeOutcome}
    (h : jobReported st k cause outcome s t) (same : jobReservation k = jobReservation j) (ref : k.ref = j.ref) :
    jobReported st j cause outcome s t := by
  unfold jobReported at *
  rw [← same, ← ref]
  exact h

/-- The completion of a head job's end, on a state whose queue and journal are those of the base. -/
theorem finishHead_leaves (h : atPrinter st c s u) (queue : c.queue = j :: rest) :
    ofPrinter st s (finishHead st (tellerAt st u) u) ∧
      printerOf st (finishHead st (tellerAt st u) u) = some (withJobs rest c) ∧
      (canWrite 0 (passbookDraft st (tellerAt st s) (jobReservation j) (j.cause.getD .complete) (j.outcome.getD .notDue)) s →
        jobReported st j (j.cause.getD .complete) (j.outcome.getD .notDue) s (finishHead st (tellerAt st u) u)) := by
  obtain ⟨time, sda, jrn, tbl, blc, mrs, teller⟩ := h.stands
  have head : headJob st u = some j := by rw [h.head, queue]; rfl
  let draft := passbookDraft st (tellerAt st s) (jobReservation j) (j.cause.getD .complete) (j.outcome.getD .notDue)
  let v := convertReservation j.ref (fun _ => jobReservation j) (j.cause.getD .complete) u
  have printer : printerOf st (writeEntry 0 draft v) = some c := (printerOf_congr st (by simp [v])).trans h.2.2.2
  have run : finishHead st (tellerAt st u) u = setPrinter st (some (withJobs rest c)) (writeEntry 0 draft v) := by
    unfold finishHead
    rw [head, teller]
    refine (onPrinter_of printer _).trans ?_
    simp only [queue, List.tail_cons, withJobs]
  have stands : v.jrn = s.jrn ∧ v.day = s.day ∧ v.mrs = s.mrs ∧ v.blc = s.blc := by
    obtain ⟨-, -, -, -, -, -, -, -, day, -⟩ := h.1
    exact ⟨by simp [v, jrn], by simp [v, day], by simp [v, mrs], by simp [v, blc]⟩
  obtain ⟨vjrn, vday, vmrs, vblc⟩ := stands
  have kept : keeps printerBlocks s (setPrinter st (some (withJobs rest c)) (writeEntry 0 draft v)) :=
    keeps_trans (keeps_mono h.1 (by simp [printerBlocks])) (by simp [keeps, printerBlocks, v])
  rw [run]
  refine ⟨⟨kept, fun x hx => ?_, ?_, ?_⟩, (printerOf_setPrinter ..).trans (if_pos rfl), fun room => ⟨?_, ?_⟩⟩
  · have other := (printerOf_setPrinter st x (some (withJobs rest c)) (writeEntry 0 draft v)).trans (if_neg hx)
    exact (other.trans (printerOf_congr x (by simp [v]))).trans (h.2.1 x hx)
  · exact otherScreens_trans h.2.2.1 (otherScreens_of (by simp [v]))
  · exact raisedOnly_of_eq (raisedOnly_from (raisedOnly_writeEntry 0 draft v) vmrs vblc) rfl rfl
  · have stored : canWrite 0 draft v := by
      unfold canWrite at *
      rwa [vjrn]
    exact wrote_congr (writeEntry_wrote stored) vjrn (by rw [vday]) (by rw [vmrs]) rfl
  · have number : adviceNumber u = adviceNumber s := by
      unfold adviceNumber
      rw [sda]
    have queued : (setPrinter st (some (withJobs rest c)) (writeEntry 0 draft v)).sda = v.sda := writeEntry_sda rfl v
    rw [queued, ← sda, ← number]
    rfl

/-! ## The queue at rest, and going on (R85, R93) -/

/-- The head of a queue has nothing to do: it has not ended with its stripe outcome known, and no QUEUED job can begin. -/
def queueAtRest (c : PrinterContext) : Prop :=
  ∀ j, c.queue.head? = some j → (j.state = .ended → j.outcome = none) ∧ (j.state = .queued → c.state = .printing)

theorem advanceQueue_rests (h : printerOf st u = some c) (rests : queueAtRest c) : ∀ k, advanceQueue k st u = u
  | 0 => rfl
  | k + 1 => by
    have head : headJob st u = c.queue.head? := (atPrinter_refl h).head
    unfold advanceQueue
    rw [h, head]
    cases first : c.queue.head? with
    | none => rfl
    | some j =>
      obtain ⟨ended, queued⟩ := rests j first
      dsimp only
      rw [if_neg (fun k => by simp [ended k.1] at k), if_neg (fun k => k.2 (queued k.1))]

theorem advanceQueue_finish (h : printerOf st u = some c) (queue : c.queue = j :: rest) (ended : j.state = .ended)
    (known : j.outcome.isSome = true) (k : Nat) :
    advanceQueue (k + 1) st u = advanceQueue k st (finishHead st (tellerAt st u) u) := by
  have head : headJob st u = some j := (atPrinter_refl h).head.trans (by rw [queue]; rfl)
  rw [advanceQueue, h, head]
  exact if_pos ⟨ended, known⟩

theorem advanceQueue_begin (h : printerOf st u = some c) (queue : c.queue = j :: rest) (queued : j.state = .queued)
    (free : c.state ≠ .printing) (k : Nat) : advanceQueue (k + 1) st u = advanceQueue k st (beginHead st u) := by
  have head : headJob st u = some j := (atPrinter_refl h).head.trans (by rw [queue]; rfl)
  rw [advanceQueue, h, head]
  dsimp only
  rw [if_neg (by simp [queued]), if_pos ⟨queued, free⟩]

theorem queueAtRest_waits {k : Job} {d : PrinterContext} (queue : d.queue = k :: rest) (waits : k.state = .bookWait) : queueAtRest d :=
    fun i hi => by
  have same : k = i := Option.some.inj ((congrArg List.head? queue).symm.trans hi)
  subst same
  simp [waits]

theorem queueAtRest_cons {k : Job} {d : PrinterContext} (queue : d.queue = k :: rest)
    (h : (k.state = .ended → k.outcome = none) ∧ (k.state = .queued → d.state = .printing)) : queueAtRest d := fun i hi => by
  have same : k = i := Option.some.inj ((congrArg List.head? queue).symm.trans hi)
  subst same
  exact h

theorem waitsForBook_congr (j : Job) (time : t.uptime = s.uptime) (settings : t.mrs.settings = s.mrs.settings) :
    waitsForBook j t = waitsForBook j s := by
  unfold waitsForBook
  rw [time, settings]

theorem nextWaits_congr (jobs : List Job) (time : t.uptime = s.uptime) (settings : t.mrs.settings = s.mrs.settings) :
    nextWaits jobs t = nextWaits jobs s := by
  unfold nextWaits
  cases jobs with
  | nil => rfl
  | cons k more => exact congrArg (· :: more) (waitsForBook_congr k time settings)

/-- A QUEUED head that finds no book of its own, or no READY printer, waits for a book. -/
theorem headBegun_waits {k : Job} (away : (∀ b, c.book = some b → bookMatches k b = false) ∨ c.state ≠ .ready) :
    headBegun s k rest c = withJobs (waitsForBook k s :: rest) c := by
  unfold headBegun
  cases book : c.book with
  | none => rfl
  | some b =>
    have not : ¬ (bookMatches k b = true ∧ c.state = .ready) := by
      rintro ⟨own, ready⟩
      rcases away with h | h
      · exact absurd (own.symm.trans (h b book)) (by simp)
      · exact h ready
    dsimp only
    rw [if_neg not]

/-- The jobs that stand once the head has left: the next, QUEUED, begins its wait where it finds no book of its own. -/
theorem advanceQueue_nextWaits (h : printerOf st s = some c) (waits : ∀ k, c.queue.head? = some k → k.state = .queued)
    (free : c.state ≠ .printing)
    (away : ∀ k, c.queue.head? = some k → (∀ b, c.book = some b → bookMatches k b = false) ∨ c.state ≠ .ready) (n : Nat) :
    atPrinter st (withJobs (nextWaits c.queue s) c) s (advanceQueue (n + 1) st s) := by
  cases queue : c.queue with
  | nil =>
    have same : withJobs (nextWaits [] s) c = c := by
      rw [← queue]
      unfold withJobs nextWaits
      simp only [queue]
      rw [← queue]
    rw [advanceQueue_rests h (fun j hj => by rw [queue] at hj; cases hj), same]
    exact atPrinter_refl h
  | cons k more =>
    rw [queue] at waits away
    have began := (atPrinter_refl h).afterBegin queue
    rw [headBegun_waits (away k rfl)] at began
    rw [advanceQueue_begin h queue (waits k rfl) free,
      advanceQueue_rests began.2.2.2 (queueAtRest_waits (k := waitsForBook k s) rfl rfl)]
    exact began

end
end Sys2Proof.Machine
end

section
/-! SUPPORT. The queue of a printer going on: what stands in every case, and each case of the statements (R85 to R94). -/

namespace Sys2Proof.Machine
open Sys2Proof

/-! ## What every step of a printer keeps of its book and its state -/

/-- A context goes on to another: the book stands, and where the state or the item changes a READY printer with a book in it
has been handed an item. -/
def contextGoesOn (c d : PrinterContext) : Prop :=
  d.book = c.book ∧ ((d.state = c.state ∧ d.item = c.item) ∨ (c.state = .ready ∧ c.book ≠ none ∧ d.state = .printing))

section
variable {c d e : PrinterContext} {j : Job} {rest : List Job} {b : Book} {s : State}

theorem contextGoesOn_refl (c : PrinterContext) : contextGoesOn c c := ⟨rfl, .inl ⟨rfl, rfl⟩⟩

theorem contextGoesOn_trans (h : contextGoesOn c d) (k : contextGoesOn d e) : contextGoesOn c e := by
  obtain ⟨book, rest⟩ := h
  obtain ⟨book', rest'⟩ := k
  refine ⟨book'.trans book, ?_⟩
  rcases rest with ⟨state, item⟩ | ⟨ready, held, printing⟩
  · rcases rest' with ⟨state', item'⟩ | ⟨ready', held', printing'⟩
    · exact .inl ⟨state'.trans state, item'.trans item⟩
    · exact .inr ⟨state ▸ ready', book ▸ held', printing'⟩
  · rcases rest' with ⟨state', -⟩ | ⟨ready', -, -⟩
    · exact .inr ⟨ready, held, state'.trans printing⟩
    · rw [printing] at ready'
      cases ready'

theorem handedTo_goesOn (ready : c.state = .ready) (held : c.book ≠ none) (body : ItemBody) :
    contextGoesOn c (handedTo body c) := ⟨rfl, .inr ⟨ready, held, rfl⟩⟩

theorem endWritten_goesOn : contextGoesOn c (endWritten j rest c) := by
  unfold endWritten
  split
  · exact ⟨rfl, .inl ⟨rfl, rfl⟩⟩
  · split
    · split
      · next ready =>
        split
        · exact ⟨rfl, .inl ⟨rfl, rfl⟩⟩
        · next book _ _ => exact ⟨rfl, .inr ⟨ready.1, by simp [book], rfl⟩⟩
      · exact ⟨rfl, .inl ⟨rfl, rfl⟩⟩
    · exact ⟨rfl, .inl ⟨rfl, rfl⟩⟩

theorem headEnded_goesOn (cause : EndCause) : contextGoesOn c (headEnded cause j rest c) :=
  contextGoesOn_trans (d := withJobs (endedJob cause j :: rest) (withPrompt (promptAtEnd cause c.prompt) c))
    ⟨rfl, .inl ⟨rfl, rfl⟩⟩ endWritten_goesOn

theorem lineGiven_goesOn (ready : c.state = .ready) (held : c.book ≠ none) : contextGoesOn c (lineGiven s j rest c) := by
  unfold lineGiven
  split
  · exact ⟨rfl, .inr ⟨ready, held, rfl⟩⟩
  · exact ⟨rfl, .inl ⟨rfl, rfl⟩⟩

theorem pageFilled_goesOn (ready : c.state = .ready) (held : c.book ≠ none) (page pages : Nat) :
    contextGoesOn c (pageFilled s j rest page pages c) := by
  unfold pageFilled
  split
  · exact contextGoesOn_trans (d := withJobs (j :: rest) c) ⟨rfl, .inl ⟨rfl, rfl⟩⟩ (headEnded_goesOn _)
  · exact ⟨rfl, .inr ⟨ready, held, rfl⟩⟩

theorem startJudged_goesOn (ready : c.state = .ready) (held : c.book ≠ none) (layout : PltRec) :
    contextGoesOn c (startJudged s j rest layout b c) := by
  unfold startJudged
  dsimp only
  split
  · exact contextGoesOn_trans (d := withJobs _ c) ⟨rfl, .inl ⟨rfl, rfl⟩⟩ (headEnded_goesOn _)
  · split
    · exact pageFilled_goesOn ready held ..
    · exact contextGoesOn_trans (d := withJobs _ c) ⟨rfl, .inl ⟨rfl, rfl⟩⟩ (lineGiven_goesOn ready held)

theorem placementBegun_goesOn (ready : c.state = .ready) (held : c.book ≠ none) :
    contextGoesOn c (placementBegun s j rest b c) := by
  let met := withPrompt (withdrawWait c.prompt) (withJobs (metBook j b :: rest) c)
  have begun : contextGoesOn c met := ⟨rfl, .inl ⟨rfl, rfl⟩⟩
  have judged : ∀ layout, contextGoesOn met (startJudged s (metBook j b) rest layout b met) := fun layout =>
    startJudged_goesOn (c := met) ready held layout
  have ended : contextGoesOn met (headEnded .noLayout (metBook j b) rest met) := headEnded_goesOn _
  refine contextGoesOn_trans begun ?_
  unfold placementBegun
  cases j.layout with
  | some layout => exact judged layout
  | none =>
    cases layoutOf b.bookType s with
    | some layout => exact judged layout
    | none => exact ended

theorem owedDealt_goesOn (held : c.book ≠ none) : contextGoesOn c (owedDealt b c) := by
  unfold owedDealt
  split
  · split
    · split
      · split
        · next ready => exact handedTo_goesOn ready held _
        · exact contextGoesOn_refl c
      · exact ⟨rfl, .inl ⟨rfl, rfl⟩⟩
    · exact contextGoesOn_refl c
  · exact contextGoesOn_refl c

theorem waitResumed_goesOn (held : c.book ≠ none) : contextGoesOn c (waitResumed s b c) := by
  unfold waitResumed
  split
  · split
    · next begins => exact placementBegun_goesOn begins.2.1 held
    · exact contextGoesOn_refl c
  · exact contextGoesOn_refl c

theorem headBegun_goesOn : contextGoesOn c (headBegun s j rest c) := by
  unfold headBegun
  split
  · next b' book =>
    have held : c.book ≠ none := by simp [book]
    split
    · next begins =>
      split
      · have waits : contextGoesOn c (withJobs (waitsForBook (meetBook j b') s :: rest) c) := ⟨rfl, .inl ⟨rfl, rfl⟩⟩
        have dealt := owedDealt_goesOn (b := b') (c := withJobs (waitsForBook (meetBook j b') s :: rest) c) held
        exact contextGoesOn_trans waits (contextGoesOn_trans dealt (waitResumed_goesOn (by rw [dealt.1]; exact held)))
      · exact placementBegun_goesOn begins.2 held
    · exact ⟨rfl, .inl ⟨rfl, rfl⟩⟩
  · exact ⟨rfl, .inl ⟨rfl, rfl⟩⟩

end

/-! ## The queue goes on -/

section
variable {st : Station} {s t u v : State} {c c' : PrinterContext} {j k : Job} {rest more : List Job} {b : Book}

theorem advanceQueue_goesOn : ∀ (n : Nat) {u : State} {c : PrinterContext}, printerOf st u = some c →
    ofPrinter st u (advanceQueue n st u) ∧ ∃ d, printerOf st (advanceQueue n st u) = some d ∧ contextGoesOn c d
  | 0, u, c, h => ⟨ofPrinter_refl st u, c, h, contextGoesOn_refl c⟩
  | n + 1, u, c, h => by
    by_cases rests : queueAtRest c
    · rw [advanceQueue_rests h rests]
      exact ⟨ofPrinter_refl st u, c, h, contextGoesOn_refl c⟩
    · cases queue : c.queue with
      | nil => exact absurd (fun i hi => by rw [queue] at hi; cases hi) rests
      | cons j rest =>
        by_cases leaves : j.state = .ended ∧ j.outcome.isSome = true
        · rw [advanceQueue_finish h queue leaves.1 leaves.2]
          obtain ⟨reach, printer, -⟩ := finishHead_leaves (atPrinter_refl h) queue
          obtain ⟨after, d, final, goes⟩ := advanceQueue_goesOn n printer
          exact ⟨ofPrinter_trans reach after, d, final, goes⟩
        · by_cases begins : j.state = .queued ∧ c.state ≠ .printing
          · rw [advanceQueue_begin h queue begins.1 begins.2]
            have began := (atPrinter_refl h).afterBegin queue
            obtain ⟨after, d, final, goes⟩ := advanceQueue_goesOn n began.2.2.2
            exact ⟨ofPrinter_trans (ofPrinter_of_at began) after, d, final, contextGoesOn_trans headBegun_goesOn goes⟩
          · refine absurd (queueAtRest_cons queue ⟨fun ended => ?_, fun queued => ?_⟩) rests
            · exact Option.not_isSome_iff_eq_none.1 fun known => leaves ⟨ended, known⟩
            · exact Decidable.byContradiction fun free => begins ⟨queued, free⟩

/-- A placement that hands no line, and the queue gone on. -/
theorem placedWithoutLine_goesOn (h : atPrinter st (placementBegun s j rest b c) s v) (book : c.book = some b)
    (ready : c.state = .ready) (n : Nat) (final : printerOf st (advanceQueue (n + 2) st v) = some c') :
    placedWithoutLine st j rest b s c c' (advanceQueue (n + 2) st v) := by
  refine ⟨fun cause ends others room => ?_, fun layout turns => ?_, fun layout starts page last printed account serial none => ?_⟩
  · obtain ⟨q, begun, ended, known, caused, same, ref⟩ := placementBegun_ends (rest := rest) (c := c) ends
    rw [begun] at h
    obtain ⟨reach, printer, report⟩ := finishHead_leaves h rfl
    rw [known, caused, same] at report
    rw [advanceQueue_finish h.2.2.2 rfl ended (by simp [known])] at final ⊢
    obtain ⟨time, settings, -⟩ := ofPrinter_stands reach
    have after := advanceQueue_nextWaits printer (fun k hk => (others k hk).1) (by simp [withJobs, withPrompt, ready])
      (fun k hk => .inl fun b' hb => by
        have same : b = b' := Option.some.inj (book.symm.trans hb)
        rw [← same]
        exact (others k hk).2) n
    obtain ⟨-, sda, jrn, -⟩ := after.stands
    refine ⟨?_, jobReported_congr (jobReported_alike (report room) same ref) sda jrn⟩
    rw [after.2.2.2] at final
    rw [← Option.some.inj final]
    simp only [withJobs, withPrompt, endedAtStart, nextWaits_congr rest time settings, promptAtEnd_eq]
  · rw [placementBegun_turn turns] at h
    rw [advanceQueue_rests h.2.2.2 (queueAtRest_cons rfl (by simp))] at final ⊢
    obtain ⟨-, sda, jrn, -⟩ := h.stands
    exact ⟨Option.some.inj (final.symm.trans h.2.2.2), sda, jrn⟩
  · rw [placementBegun_full starts page last printed account serial ready book] at h
    rw [advanceQueue_rests h.2.2.2 (queueAtRest_cons rfl (by simp [metBook, none]))] at final ⊢
    obtain ⟨-, sda, jrn, -⟩ := h.stands
    exact ⟨Option.some.inj (final.symm.trans h.2.2.2), sda, jrn⟩

/-- A placement that hands a line, and the queue at rest. -/
theorem lineHanded_rests {layout : PltRec} {l : PassLine} {line : Nat} (h : atPrinter st (placementBegun s j rest b c) s v)
    (starts : lineStarts j b layout l line s) (n : Nat) :
    advanceQueue n st v = v ∧ printerOf st v = some (lineHanded j rest b layout l line s c) := by
  rw [placementBegun_line starts] at h
  exact ⟨advanceQueue_rests h.2.2.2 (queueAtRest_cons rfl (by simp)) n, h.2.2.2⟩

/-- The placement of a head begun with an owed write that has been cleared. -/
theorem headBegun_placed {c0 : PrinterContext} (book : c.book = some b) (own : bookMatches k b = true) (ready : c.state = .ready)
    (deal : (owedFor c b = false ∧ c0 = c) ∨
      (∃ o, owedFor c b = true ∧ c.owed = some o ∧ placeBefore (bookPlace b) o.place = false ∧ c0 = { c with owed := none })) :
    ∃ q, headBegun s k more c = placementBegun s q more b c0 ∧ c0.book = some b ∧ c0.state = .ready ∧
      (q = k ∨ q = waitsForBook (meetBook k b) s) := by
  unfold headBegun
  rw [book]
  dsimp only
  rw [if_pos ⟨own, ready⟩]
  rcases deal with ⟨free, rfl⟩ | ⟨o, owed, stands, notBehind, rfl⟩
  · rw [if_neg (by simp [free])]
    exact ⟨k, rfl, book, ready, .inl rfl⟩
  · rw [if_pos owed]
    refine ⟨waitsForBook (meetBook k b) s, ?_, book, ready, .inr rfl⟩
    have dealt : owedDealt b (withJobs (waitsForBook (meetBook k b) s :: more) c) =
        withJobs (waitsForBook (meetBook k b) s :: more) { c with owed := none } := by
      unfold owedDealt
      have stands' : (withJobs (waitsForBook (meetBook k b) s :: more) c).owed = some o := stands
      have owed' : owedFor (withJobs (waitsForBook (meetBook k b) s :: more) c) b = true := owed
      rw [stands']
      dsimp only
      rw [if_pos owed', if_neg (by simp [notBehind])]
      rfl
    have matches' : bookMatches (waitsForBook (meetBook k b) s) b = true := by
      unfold bookMatches at own ⊢
      simp only [Bool.and_eq_true] at own ⊢
      refine ⟨own.1, ?_⟩
      cases serial : k.serial with
      | none => simp [waitsForBook, meetBook, serial]
      | some n => simpa [waitsForBook, meetBook, serial] using own.2
    rw [dealt]
    unfold waitResumed
    have begins : (waitsForBook (meetBook k b) s).state = .bookWait ∧ c.state = .ready ∧
        bookReady (withJobs (waitsForBook (meetBook k b) s :: more) { c with owed := none }) (waitsForBook (meetBook k b) s) =
          true := by
      refine ⟨rfl, ready, ?_⟩
      simp [bookReady, withJobs, book, matches', owedFor]
    refine (if_pos begins).trans ?_
    unfold placementBegun
    rfl

/-- The QUEUED head of a printer that is not PRINTING begins, and the queue goes on. -/
theorem headBegins_goesOn (h : printerOf st s = some c) (queue : c.queue = k :: more) (queued : k.state = .queued)
    (free : c.state ≠ .printing) (n : Nat) : headBegins st k more c s (advanceQueue (n + 3) st s) := by
  have began := (atPrinter_refl h).afterBegin queue
  rw [advanceQueue_begin h queue queued free]
  obtain ⟨-, c', final, -⟩ := advanceQueue_goesOn (n + 2) began.2.2.2
  refine ⟨c', final, fun away => ?_, fun b book own ready => ⟨fun o owed stands behind => ?_, fun c0 deal => ?_⟩⟩
  · rw [headBegun_waits away] at began
    rw [advanceQueue_rests began.2.2.2 (queueAtRest_waits (k := waitsForBook k s) rfl rfl)] at final ⊢
    obtain ⟨-, sda, jrn, -⟩ := began.stands
    exact ⟨Option.some.inj (final.symm.trans began.2.2.2), sda, jrn⟩
  · have begun : headBegun s k more c =
        handedTo (.stripeWrite o.place .owed) (withJobs (waitsForBook (metBook k b) s :: more) c) := by
      unfold headBegun
      rw [book]
      dsimp only
      rw [if_pos ⟨own, ready⟩, if_pos owed]
      have dealt : owedDealt b (withJobs (waitsForBook (meetBook k b) s :: more) c) =
          handedTo (.stripeWrite o.place .owed) (withJobs (waitsForBook (meetBook k b) s :: more) c) := by
        unfold owedDealt
        have stands' : (withJobs (waitsForBook (meetBook k b) s :: more) c).owed = some o := stands
        have owed' : owedFor (withJobs (waitsForBook (meetBook k b) s :: more) c) b = true := owed
        rw [stands']
        dsimp only
        rw [if_pos owed', if_pos behind]
        exact if_pos ready
      rw [dealt]
      unfold waitResumed
      refine (if_neg (fun h => ?_)).trans ?_
      · cases h.2.1
      · rfl
    rw [begun] at began
    rw [advanceQueue_rests began.2.2.2 (queueAtRest_waits (k := waitsForBook (metBook k b) s) rfl rfl)] at final ⊢
    obtain ⟨-, sda, jrn, -⟩ := began.stands
    exact ⟨Option.some.inj (final.symm.trans began.2.2.2), sda, jrn⟩
  · obtain ⟨q, begun, book0, ready0, which⟩ := headBegun_placed (s := s) (more := more) book own ready deal
    rw [begun] at began
    have line : ∀ layout l line, lineStarts q b layout l line s →
        c' = lineHanded q more b layout l line s c0 ∧
          (advanceQueue (n + 2) st (beginHead st s)).sda = s.sda ∧ (advanceQueue (n + 2) st (beginHead st s)).jrn = s.jrn :=
      fun layout l line starts => by
        obtain ⟨rests, printer⟩ := lineHanded_rests began starts (n + 2)
        obtain ⟨-, sda, jrn, -⟩ := began.stands
        rw [rests] at final ⊢
        exact ⟨Option.some.inj (final.symm.trans printer), sda, jrn⟩
    have placed := placedWithoutLine_goesOn began book0 ready0 n final
    rcases which with rfl | rfl
    · exact ⟨line, placed⟩
    · exact ⟨line, placed⟩

/-- The end of a head job with its stripe outcome known: the job leaves and the queue goes on. -/
theorem jobLeaves_goesOn {q : Job} {cause : EndCause} {outcome : StripeOutcome} (h : atPrinter st c s u)
    (queue : c.queue = q :: rest) (ended : q.state = .ended) (known : q.outcome = some outcome)
    (caused : q.cause.getD .complete = cause) (same : jobReservation q = jobReservation j) (ref : q.ref = j.ref)
    (waits : ∀ k, rest.head? = some k → k.state = .queued)
    (room : canWrite 0 (passbookDraft st (tellerAt st s) (jobReservation j) cause outcome) s) (n : Nat) :
    jobLeaves st j rest cause outcome c s (advanceQueue (n + 4) st u) := by
  obtain ⟨reach, printer, report⟩ := finishHead_leaves h queue
  rw [caused, known, same] at report
  rw [advanceQueue_finish h.2.2.2 queue ended (by simp [known])]
  obtain ⟨after, -⟩ := advanceQueue_goesOn (n + 3) printer
  refine ⟨finishHead st (tellerAt st u) u, reach, jobReported_alike (report room) same ref, printer,
    ofPrinter_trans reach after, fun stops => ?_, fun k more next free => ?_⟩
  · refine advanceQueue_rests printer (fun k hk => ⟨fun e => ?_, fun _ => ?_⟩) _
    · have queued := waits k hk
      rw [e] at queued
      cases queued
    · rcases stops with none | printing
      · rw [show (withJobs rest c).queue = rest from rfl, none] at hk
        cases hk
      · exact printing
  · have begins := headBegins_goesOn printer (k := k) (more := more) next (waits k (by rw [next]; rfl)) free n
    rw [next] at begins ⊢
    exact begins

end
end Sys2Proof.Machine
end

section
/-! SUPPORT. The reports that clear a printer's book (R79 to R82, R92), and the answers and failures of a station line's
drops (R169, R170, R173). -/

namespace Sys2Proof.Machine
open Sys2Proof

/-! ## The failure of the outstanding item (R79, R92) -/

/-- A context with no item outstanding. -/
def withoutItem (c : PrinterContext) : PrinterContext := { c with item := none }

/-- The outstanding item failed. -/
def itemFailed (cause : EndCause) (c : PrinterContext) : PrinterContext :=
  match c.item.map PrinterItem.body, c.queue with
  | none, _ => c
  | some (.printLine ..), j :: rest => headEnded cause j rest (withoutItem c)
  | some (.stripeWrite _ .endWrite), j :: rest => owedLeft j rest (withoutItem c)
  | some _, _ => withoutItem c

/-- A context with its book cleared and another state. -/
def bookTaken (state : PrinterState) (c : PrinterContext) : PrinterContext := { c with state := state, book := none }

section
variable {st : Station} {s u t : State} {c d : PrinterContext} {j : Job} {rest : List Job} {cause : EndCause}

theorem atPrinter.afterFailure (h : atPrinter st c s u) (cause : EndCause) :
    atPrinter st (itemFailed cause c) s (failItem st cause u) := by
  let v := setPrinter st (some (withoutItem c)) u
  have cleared : atPrinter st (withoutItem c) s v := h.set (withoutItem c)
  have head : headJob st v = c.queue.head? := cleared.head
  unfold itemFailed
  cases item : c.item with
  | none =>
    have run : failItem st cause u = u := by simp only [failItem, h.2.2.2, item]
    rw [run]
    exact h
  | some i =>
    have kept : ∀ place purpose, i.body = .stripeWrite place purpose → purpose ≠ .endWrite →
        failItem st cause u = v := fun place purpose body other => by
      cases purpose with
      | endWrite => exact absurd rfl other
      | turn => simp only [failItem, h.2.2.2, item, body]; rfl
      | repair => simp only [failItem, h.2.2.2, item, body]; rfl
      | owed => simp only [failItem, h.2.2.2, item, body]; rfl
    cases body : i.body with
    | printLine place texts balance =>
      have run : failItem st cause u = endHead st cause v := by
        simp only [failItem, h.2.2.2, item, body]
        rfl
      rw [run]
      cases queue : c.queue with
      | cons j rest => simpa only [Option.map_some, body] using cleared.afterEnd (j := j) (rest := rest) queue cause
      | nil =>
        have stays : endHead st cause v = v := by
          unfold endHead
          rw [cleared.2.2.2, head, queue]
          rfl
        rw [stays]
        simpa only [Option.map_some, body] using cleared
    | stripeWrite place purpose =>
      cases purpose with
      | turn => simpa only [Option.map_some, body, kept place _ body (by decide)] using cleared
      | repair => simpa only [Option.map_some, body, kept place _ body (by decide)] using cleared
      | owed => simpa only [Option.map_some, body, kept place _ body (by decide)] using cleared
      | endWrite =>
        have run : failItem st cause u = match headJob st v with
            | some j => oweEndWrite st j v
            | none => v := by
          simp only [failItem, h.2.2.2, item, body]
          rfl
        rw [run, head]
        cases queue : c.queue with
        | cons j rest => simpa only [Option.map_some, body, List.head?_cons] using cleared.afterOwe (rest := rest) queue j
        | nil => simpa only [Option.map_some, body, List.head?_nil] using cleared

theorem atPrinter.afterClearing (h : atPrinter st c s u) (state : PrinterContext → PrinterState) (cause : EndCause) :
    atPrinter st (itemFailed cause (bookTaken (state c) c)) s (clearAndFail st state cause u) :=
  (h.on fun c => { c with state := state c, book := none }).afterFailure cause

theorem itemFailed_clear (book : c.book = none) : (itemFailed cause c).book = none ∧ (itemFailed cause c).item = none ∧
    (itemFailed cause c).state = c.state := by
  unfold itemFailed
  split
  · next none => exact ⟨book, by simpa using none, rfl⟩
  · next j rest _ _ =>
    obtain ⟨same, goes⟩ := headEnded_goesOn (c := withoutItem c) (j := j) (rest := rest) cause
    obtain ⟨state, item⟩ := goes.resolve_right fun h => h.2.1 book
    exact ⟨same.trans book, item, state⟩
  · exact ⟨book, rfl, rfl⟩
  · exact ⟨book, rfl, rfl⟩

/-- An item that is neither a line nor an end write leaves the queue and the owed write. -/
theorem itemFailed_kept (kept : ∀ i, c.item = some i → isPrintLine i.body = false ∧ isEndWrite i.body = false) :
    itemFailed cause c = withoutItem c := by
  unfold itemFailed
  cases item : c.item with
  | none =>
    have same : withoutItem c = c := by
      unfold withoutItem
      rw [← item]
    exact same.symm
  | some i =>
    obtain ⟨line, write⟩ := kept i item
    cases body : i.body with
    | printLine => rw [body] at line; cases line
    | stripeWrite place purpose =>
      cases purpose with
      | endWrite => rw [body] at write; cases write
      | turn => simp only [Option.map_some, body]
      | repair => simp only [Option.map_some, body]
      | owed => simp only [Option.map_some, body]

theorem itemFailed_write {i : PrinterItem} (item : c.item = some i) (write : isEndWrite i.body = true)
    (queue : c.queue = j :: rest) : itemFailed cause c = owedLeft j rest (withoutItem c) := by
  unfold itemFailed
  rw [item, queue]
  cases body : i.body with
  | printLine => rw [body] at write; cases write
  | stripeWrite place purpose =>
    cases purpose with
    | endWrite => simp only [Option.map_some, body]
    | turn => rw [body] at write; cases write
    | repair => rw [body] at write; cases write
    | owed => rw [body] at write; cases write

theorem itemFailed_line {i : PrinterItem} (item : c.item = some i) (line : isPrintLine i.body = true)
    (queue : c.queue = j :: rest) : itemFailed cause c = headEnded cause j rest (withoutItem c) := by
  unfold itemFailed
  rw [item, queue]
  cases body : i.body with
  | printLine => simp only [Option.map_some, body]
  | stripeWrite => rw [body] at line; cases line

/-- The job that a failed line ends, where no book is inserted: its end write is owed, or none is due. -/
theorem headEnded_noBook (due : writesNoEnd cause = false) (book : c.book = none) :
    headEnded cause j rest c = { withJobs (withOutcome (if j.printed = 0 then .notDue else .owed) (endedJob cause j) :: rest)
      (withPrompt (promptAtEnd cause c.prompt) c) with
      owed := if j.printed = 0 then c.owed else leavesOwed j c.owed } := by
  by_cases fresh : j.printed = 0
  · rw [headEnded_notDue (.inl fresh), if_pos fresh, if_pos fresh]
    rfl
  · rw [headEnded_owed fresh due (.inr (.inr fun b hb => by rw [book] at hb; cases hb)), if_neg fresh, if_neg fresh]
    rfl

/-! ## A report that clears the book (R80 to R82) -/

/-- A head job ended without a book inserted leaves, and the next begins its wait. -/
theorem endedLeaves_nextWaits {q : Job} {outcome : StripeOutcome} {reported : EndCause} (h : atPrinter st d s u)
    (queue : d.queue = q :: rest) (ended : q.state = .ended) (known : q.outcome = some outcome)
    (caused : q.cause.getD .complete = reported) (same : jobReservation q = jobReservation j) (ref : q.ref = j.ref)
    (waits : ∀ k, rest.head? = some k → k.state = .queued) (free : d.state ≠ .printing) (book : d.book = none)
    (room : canWrite 0 (passbookDraft st (tellerAt st s) (jobReservation j) reported outcome) s) (n : Nat) :
    printerOf st (advanceQueue (n + 2) st u) = some (withJobs (nextWaits rest s) d) ∧
      jobReported st j reported outcome s (advanceQueue (n + 2) st u) := by
  obtain ⟨reach, printer, report⟩ := finishHead_leaves h queue
  rw [caused, known, same] at report
  rw [advanceQueue_finish h.2.2.2 queue ended (by simp [known])]
  obtain ⟨time, settings, -⟩ := ofPrinter_stands reach
  have after := advanceQueue_nextWaits printer waits free
    (fun k _ => .inl fun b hb => by rw [show (withJobs rest d).book = d.book from rfl, book] at hb; cases hb) n
  obtain ⟨-, sda, jrn, -⟩ := after.stands
  refine ⟨?_, jobReported_congr (jobReported_alike (report room) same ref) sda jrn⟩
  rw [after.2.2.2, show (withJobs rest d).queue = rest from rfl, nextWaits_congr rest time settings]
  rfl

/-- A report that clears the inserted-book record. -/
theorem bookCleared_goOn (h : printerOf st s = some c) (due : writesNoEnd cause = false)
    (state : PrinterContext → PrinterState) (free : c.item ≠ none → state c ≠ .printing) :
    bookCleared st cause (state c) c s (goOn st (clearAndFail st state cause s)) := by
  have failed := (atPrinter_refl h).afterClearing state cause
  obtain ⟨book, item, stated⟩ := itemFailed_clear (cause := cause) (c := bookTaken (state c) c) rfl
  obtain ⟨reach, c', final, same, goes⟩ := advanceQueue_goesOn queueTurns failed.2.2.2
  obtain ⟨state', item'⟩ := goes.resolve_right fun k => k.2.1 book
  refine ⟨ofPrinter_trans (ofPrinter_of_at failed) reach, c', final, same.trans book, item'.trans item, state'.trans stated,
    fun j rest queue waits kept => ?_, fun i j rest held queue waits => ⟨fun write ended room => ?_, fun line room => ?_⟩⟩
  · rw [itemFailed_kept (c := bookTaken (state c) c) kept] at failed
    have rests : queueAtRest (withoutItem (bookTaken (state c) c)) :=
      queueAtRest_cons queue (by rcases waits with w | w <;> simp [w])
    have stays : goOn st (clearAndFail st state cause s) = _ := advanceQueue_rests failed.2.2.2 rests queueTurns
    rw [show advanceQueue queueTurns st _ = _ from stays, failed.2.2.2] at final
    rw [← Option.some.inj final]
    exact ⟨rfl, rfl⟩
  · rw [itemFailed_write (c := bookTaken (state c) c) held write queue] at failed
    obtain ⟨printer, report⟩ := endedLeaves_nextWaits (j := j) (q := withOutcome .owed j) failed rfl ended rfl rfl rfl rfl waits
      (free (by simp [held])) rfl room 7
    rw [show advanceQueue queueTurns st _ = advanceQueue (7 + 2) st _ from rfl, printer] at final
    rw [← Option.some.inj final]
    exact ⟨rfl, rfl, report⟩
  · rw [itemFailed_line (c := bookTaken (state c) c) held line queue, headEnded_noBook due rfl] at failed
    obtain ⟨printer, report⟩ := endedLeaves_nextWaits (j := j)
      (q := withOutcome (if j.printed = 0 then .notDue else .owed) (endedJob cause j)) failed rfl rfl rfl rfl rfl rfl waits
      (free (by simp [held])) rfl room 7
    rw [show advanceQueue queueTurns st _ = advanceQueue (7 + 2) st _ from rfl, printer] at final
    rw [← Option.some.inj final]
    exact ⟨rfl, rfl, report⟩

/-- A report stands as the prompt changes. -/
theorem bookCleared_setPrompt {state : PrinterState} (h : bookCleared st cause state c s t) (p : Prompt) :
    bookCleared st cause state c s (setPrompt st p t) ∧
      (printerOf st (setPrompt st p t)).map PrinterContext.prompt = some p := by
  obtain ⟨reach, c', printer, book, item, stated, kept, reported⟩ := h
  have shown := (atPrinter_refl printer).prompt p
  obtain ⟨-, sda, jrn, -⟩ := shown.stands
  refine ⟨⟨ofPrinter_trans reach (ofPrinter_of_at shown), withPrompt p c', shown.2.2.2, book, item, stated, kept,
    fun i j rest held queue waits => ⟨fun write ended room => ?_, fun line room => ?_⟩⟩, by rw [shown.2.2.2]; rfl⟩
  · obtain ⟨jobs, owed, report⟩ := (reported i j rest held queue waits).1 write ended room
    exact ⟨jobs, owed, jobReported_congr report sda jrn⟩
  · obtain ⟨jobs, owed, report⟩ := (reported i j rest held queue waits).2 line room
    exact ⟨jobs, owed, jobReported_congr report sda jrn⟩

theorem reportedState_free (held : c.item ≠ none) : reportedState c ≠ .printing := by
  unfold reportedState
  cases c.state with
  | printing => simp [Option.isSome_iff_ne_none, held]
  | fault => simp
  | ready => simp
  | down => simp

theorem faultState_eq (c : PrinterContext) : faultState c = if c.state = .down then .down else .fault := by
  unfold faultState
  cases c.state <;> rfl

/-- Settles O36: the three reports, each by its own state and cause. -/
theorem printerReportsClearTheBook : Obligations.PrinterReportsClearTheBook := by
  intro st s c printer
  have fault : ∀ u, printerOf st u = some c → bookCleared st .printerFault (if c.state = .down then .down else .fault) c u
      (takeFault st u) := fun u h => by
    rw [← faultState_eq c]
    exact bookCleared_goOn h rfl faultState fun _ => by rw [faultState_eq]; split <;> simp
  refine ⟨fun s1 taken => ?_, fun s1 taken => ?_, fun runs => ?_, fun idle => ?_⟩
  · obtain ⟨buffer, rfl⟩ := delivered_rebuffered taken
    have run : exec (.bookRemoved st) s = .next (takeBookRemoved st (rebuffered st buffer s)) := by
      show execBookRemoved st s = _
      rw [execBookRemoved, taken]
    have here : printerOf st (rebuffered st buffer s) = some c := by simpa using printer
    have cleared := bookCleared_goOn (cause := .bookRemoved) here rfl reportedState reportedState_free
    refine ⟨_, run, by simp [takeBookRemoved], ?_, fun j rest queue waits noItem => ?_⟩
    · exact (bookCleared_setPrompt cleared _).1
    · refine (bookCleared_setPrompt cleared _).2.trans (congrArg some ?_)
      have failed := (atPrinter_refl here).afterClearing reportedState .bookRemoved
      rw [itemFailed_kept (c := bookTaken (reportedState c) c) (fun i hi => by
        rw [show (bookTaken (reportedState c) c).item = c.item from rfl, noItem] at hi; cases hi)] at failed
      have rests : queueAtRest (withoutItem (bookTaken (reportedState c) c)) :=
        queueAtRest_cons queue (by rcases waits with w | w <;> simp [w])
      have stays : goOn st (clearAndFail st reportedState .bookRemoved (rebuffered st buffer s)) = _ :=
        advanceQueue_rests failed.2.2.2 rests queueTurns
      rw [stays, failed.prompts, failed.head]
      show promptAfterRemoval c.prompt (c.queue.head?.map Job.state) = _
      rw [queue]
      rcases waits with w | w <;> cases c.prompt <;> simp [promptAfterRemoval, w]
  · obtain ⟨buffer, rfl⟩ := delivered_rebuffered taken
    have run : exec (.fault st) s = .next (takeFault st (rebuffered st buffer s)) := by
      show execFault st s = _
      rw [execFault, taken]
    exact ⟨_, run, by simp, fault _ (by simpa using printer)⟩
  · have run : exec (.completionTimerExpiry st) s = .next (takeFault st s) := by
      show Host.Outcome.next (takeCompletionExpiry st s) = _
      unfold takeCompletionExpiry
      rw [printer]
      exact congrArg Host.Outcome.next (if_pos runs)
    exact ⟨_, run, by simp, fault s printer⟩
  · show Host.Outcome.next (takeCompletionExpiry st s) = _
    unfold takeCompletionExpiry
    rw [printer]
    exact congrArg Host.Outcome.next (if_neg (by simp [idle]))

end
end Sys2Proof.Machine
end

section
/-! SUPPORT. The answers and the failures of a station line's drops (R168 to R170, R173, R203). -/

namespace Sys2Proof.Machine
open Sys2Proof

/-! ## Failed responses and silence (R169, R173) -/

section
variable {st : Station} {s : State} {d : Drop} {y : DropStatus} {x : Exchange}

theorem takePrinterDown_none {u : State} (h : printerOf st u = none) : takePrinterDown st u = u := by
  have cleared : clearAndFail st (fun _ => .down) .printerDown u = u := by
    simp only [clearAndFail, onPrinter, h, failItem]
  unfold takePrinterDown
  rw [cleared]
  unfold goOn queueTurns advanceQueue
  rw [h]

/-- A missed response of a drop, its exchange over and its error counted. -/
theorem missed_eq {l : Line} (h : l.drops.get d = some y) :
    missed st d (setLine st l s) =
      if y.state = .down then setLine st { l with drops := l.drops.set d (some y) } s
      else if 2 ≤ y.missed then dropDown st d (setLine st l s)
      else setLine st { l with drops := l.drops.set d (some { y with missed := y.missed + 1 }) } s := by
  have stands : l.drops.set d (some y) = l.drops := by rw [← h, Three.set_get]
  have limit : Config.missedLimit ≤ y.missed + 1 ↔ 2 ≤ y.missed := by unfold Config.missedLimit; omega
  unfold missed
  rw [lineOf_setLine_same, h, stands]
  simp only [limit]
  split
  · rfl
  · split
    · rfl
    · rw [onDrop, onLine_setLine, h]
      rfl

/-- A drop gone DOWN, its owner not yet told. -/
theorem dropDown_eq {l : Line} (h : l.drops.get d = some y) :
    dropDown st d (setLine st l s) =
      if l.setup.role = .teller ∧ d = .d2 then takePrinterDown st (raise (.dropDown st) (setLine st { l with
        drops := l.drops.set d (some { y with
          state := .down, missed := 3, repoll := some (s.uptime + 5000), repollDue := false }) } s))
      else raise (.dropDown st) (setLine st { l with
        drops := l.drops.set d (some { y with
          state := .down, missed := 3, repoll := some (s.uptime + 5000), repollDue := false }) } s) := by
  unfold dropDown
  rw [lineOf_setLine_same, onDrop, onLine_setLine, h]
  rfl

/-- Settles O41: the failures of an exchange, counted and judged. -/
theorem missedResponses : Obligations.MissedResponses := by
  refine fun st s => ⟨fun idle => ?_, fun d polled => ?_, fun d item selected => ?_, ?_⟩
  · have none : ∀ count, failExchange st count s = s := fun count => by simp only [failExchange, idle]
    exact ⟨congrArg Host.Outcome.next (none _), fun why => congrArg Host.Outcome.next (none _)⟩
  · refine ⟨?_, ?_⟩
    · show execAccept st s = _
      simp only [execAccept, polled]
      rfl
    · show execBusy st s = _
      simp only [execBusy, polled]
      rfl
  · refine ⟨?_, fun f => ?_⟩
    · show execNothing st s = _
      simp only [execNothing, selected]
      rfl
    · show execDropFrame st f s = _
      simp only [execDropFrame, selected]
      rfl
  · rintro e0 e x d y c rfl exchange which drop event
    let failed : Line := { lineOf st s with
      exchange := none, sweeping := sweepGoesOn (lineOf st s), errors := e }
    have here : failed.drops.get d = some y := drop
    have dropOf : exchangeDrop x = d := by rcases which with rfl | ⟨item, rfl⟩ <;> rfl
    have run : exec c s = .next (missed st d (setLine st failed s)) := by
      have ended : ∀ (count : State → State) (f : ErrorSummary → ErrorSummary),
          (∀ u, count u = onLine st (fun l => { l with errors := f l.errors }) u) → e = f (lineOf st s).errors →
          failExchange st count s = missed st d (setLine st failed s) := fun count f counts counted => by
        have ended' : endExchange st s =
            setLine st { lineOf st s with exchange := none, sweeping := sweepGoesOn (lineOf st s) } s := rfl
        unfold failExchange
        rw [exchange]
        dsimp only
        rw [dropOf, counts, ended', onLine_setLine, ← counted]
      rcases event with ⟨rfl, counted⟩ | ⟨rfl, counted⟩ | ⟨rfl, counted⟩
      · exact congrArg Host.Outcome.next (ended _ (fun e => { e with checkError := satCount 255 e.checkError })
          (fun _ => rfl) counted)
      · exact congrArg Host.Outcome.next (ended _ (fun e => { e with framing := satCount 255 e.framing })
          (fun _ => rfl) counted)
      · exact congrArg Host.Outcome.next (ended _ (fun e => { e with noResponse := satCount 255 e.noResponse })
          (fun _ => rfl) counted)
    rw [run, missed_eq here]
    refine ⟨fun down => ?_, fun notDown few => ?_, fun u notDown many same => ?_⟩
    · rw [if_pos down]
      rfl
    · rw [if_neg notDown, if_neg (by omega)]
      rfl
    · rw [if_neg notDown, if_pos many, dropDown_eq here]
      change u = raise (.dropDown st) (setLine st { failed with
        drops := failed.drops.set d (some { y with
          state := .down, missed := 3, repoll := some (s.uptime + 5000), repollDue := false }) } s) at same
      rw [← same]
      have printers : printerOf st u = printerOf st s := printerOf_congr st (by simp [same])
      refine ⟨by rw [same]; exact flagSet_raise .., fun away => ?_, fun p role second printer => ?_⟩
      · by_cases told : failed.setup.role = .teller ∧ d = .d2
        · rw [if_pos told]
          refine congrArg Host.Outcome.next (takePrinterDown_none ?_)
          rcases away with h | h | h
          · exact absurd told.1 h
          · exact absurd told.2 h
          · exact printers.trans h
        · rw [if_neg told]
      · rw [if_pos ⟨role, second⟩]
        exact ⟨_, rfl, by simp, bookCleared_goOn (printers.trans printer) rfl (fun _ => .down) fun _ => by simp⟩

end

/-! ## Valid answers to a poll (R170) -/

section
variable {st : Station} {s : State}

theorem takePrinterUp_reaches {c : PrinterContext} (h : printerOf st s = some c) : ofPrinter st s (takePrinterUp st s) := by
  have told := (atPrinter_refl h).on fun c => if c.state = .down then { c with state := .ready, book := none } else c
  obtain ⟨reach, -⟩ := advanceQueue_goesOn queueTurns told.2.2.2
  exact ofPrinter_trans (ofPrinter_of_at told) reach

theorem takePrinterUp_none (h : printerOf st s = none) : takePrinterUp st s = s := by
  unfold takePrinterUp
  simp only [onPrinter, h]
  unfold goOn queueTurns advanceQueue
  rw [h]

theorem takePrinterUp_down {c : PrinterContext} (h : printerOf st s = some c) (down : c.state = .down)
    (empty : c.queue = []) : printerOf st (takePrinterUp st s) = some { c with state := .ready, book := none } := by
  have told := (atPrinter_refl h).on fun c => if c.state = .down then { c with state := .ready, book := none } else c
  simp only [down, if_true] at told
  have rests : queueAtRest { c with state := .ready, book := none } := fun j hj => by
    rw [show ({ c with state := .ready, book := none } : PrinterContext).queue = c.queue from rfl, empty] at hj
    cases hj
  unfold takePrinterUp goOn
  rw [advanceQueue_rests told.2.2.2 rests, told.2.2.2]

theorem pendImage_of {c : ScreenContext} {d : Drop} (h : contextOf st s = some c) (hd : d = .d1 ∨ d = .d3) :
    pendImage st d s = setContext st (some (if d = .d1 then { c with terminalPending := true }
      else { c with mirrorPending := true })) s := by
  unfold pendImage
  rw [h]
  rcases hd with rfl | rfl <;> rfl

/-- A drop that was not UP answers: its line is answered and its owner told. -/
theorem responded_told {d : Drop} {x : DropStatus} (drop : (lineOf st s).drops.get d = some x) (down : x.state ≠ .up) :
    responded st d (endExchange st s) = tellUp st d (setLine st (answeredLine d (lineOf st s)) s) := by
  have ended : endExchange st s =
      setLine st { lineOf st s with exchange := none, sweeping := sweepGoesOn (lineOf st s) } s := rfl
  have state : dropState st d (endExchange st s) = some x.state := by
    unfold dropState
    rw [ended, lineOf_setLine_same]
    exact congrArg (Option.map DropStatus.state) drop
  have waits : ¬ (dropState st d (endExchange st s) = some .up ∨ dropState st d (endExchange st s) = none) := by
    rw [state]
    simp [down]
  unfold responded
  rw [if_neg waits, ended, onDrop, onLine_setLine]
  rfl

/-- What a drop that answers tells its owner. -/
theorem tellUp_tells (d : Drop) :
    keeps [.scm, .pbk, .sda, .jrn, .blc, .mrs] s (tellUp st d s) ∧ otherPrinters st s (tellUp st d s) ∧
      otherScreens st s (tellUp st d s) ∧ raisedOnly journalFlags s (tellUp st d s) ∧
      ((lineOf st s).setup.role ≠ .teller → tellUp st d s = s) ∧
      (∀ y, (lineOf st s).setup.role = .teller → d = .d1 → contextOf st s = some y →
        (tellUp st d s).pbk = s.pbk ∧ contextOf st (tellUp st d s) = some { y with terminalPending := true }) ∧
      (∀ y, (lineOf st s).setup.role = .teller → d = .d3 → contextOf st s = some y →
        (tellUp st d s).pbk = s.pbk ∧ contextOf st (tellUp st d s) = some { y with mirrorPending := true }) ∧
      ∀ y, (lineOf st s).setup.role = .teller → d = .d2 → printerOf st s = some y → y.state = .down → y.queue = [] →
        printerOf st (tellUp st d s) = some { y with state := .ready, book := none } := by
  by_cases role : (lineOf st s).setup.role = .teller
  · have image : ∀ e, d = e → e = .d1 ∨ e = .d3 → tellUp st d s = pendImage st e s := fun e he which => by
      subst he
      unfold tellUp
      rw [role]
      rcases which with rfl | rfl <;> rfl
    have screens : ∀ e, d = e → e = .d1 ∨ e = .d3 → otherScreens st s (pendImage st e s) := fun e _ which => by
      cases context : contextOf st s with
      | none =>
        have stays : pendImage st e s = s := by
          unfold pendImage
          rw [context]
        rw [stays]
        exact otherScreens_refl st s
      | some y =>
        rw [pendImage_of context which]
        exact ⟨rfl, rfl, fun a ha => (contextOf_setContext ..).trans (if_neg ha)⟩
    cases hd : d with
    | d1 =>
      rw [← hd, image .d1 hd (.inl rfl)]
      refine ⟨by simp [keeps], fun a _ => printerOf_congr a (by simp), screens .d1 hd (.inl rfl),
        raisedOnly_of_eq (raisedOnly_refl _ s) (by simp) (by simp), fun h => absurd role h, fun y _ _ context => ?_,
        fun y _ h => (by rw [hd] at h; cases h), fun y _ h => (by rw [hd] at h; cases h)⟩
      exact ⟨by simp, by rw [pendImage_of context (.inl rfl)]; exact (contextOf_setContext ..).trans (if_pos rfl)⟩
    | d3 =>
      rw [← hd, image .d3 hd (.inr rfl)]
      refine ⟨by simp [keeps], fun a _ => printerOf_congr a (by simp), screens .d3 hd (.inr rfl),
        raisedOnly_of_eq (raisedOnly_refl _ s) (by simp) (by simp), fun h => absurd role h,
        fun y _ h => (by rw [hd] at h; cases h), fun y _ _ context => ?_, fun y _ h => (by rw [hd] at h; cases h)⟩
      exact ⟨by simp, by rw [pendImage_of context (.inr rfl)]; exact (contextOf_setContext ..).trans (if_pos rfl)⟩
    | d2 =>
      have told : tellUp st d s = takePrinterUp st s := by
        unfold tellUp
        rw [role, hd]
      rw [← hd, told]
      have reach : ofPrinter st s (takePrinterUp st s) := by
        cases printer : printerOf st s with
        | none => rw [takePrinterUp_none printer]; exact ofPrinter_refl st s
        | some y => exact takePrinterUp_reaches printer
      obtain ⟨kept, printers, screens, raised⟩ := reach
      exact ⟨keeps_mono kept (by simp [printerBlocks]), printers, screens, raised, fun h => absurd role h,
        fun y _ h => (by rw [hd] at h; cases h), fun y _ h => (by rw [hd] at h; cases h),
        fun y _ _ printer down empty => takePrinterUp_down printer down empty⟩
  · have stays : tellUp st d s = s := by
      unfold tellUp
      cases h : (lineOf st s).setup.role with
      | teller => exact absurd h role
      | off => rfl
      | journalPrinter => rfl
    rw [stays]
    exact ⟨keeps_refl _ s, fun _ _ => rfl, otherScreens_refl st s, raisedOnly_refl _ s, fun _ => rfl,
      fun y h => absurd h role, fun y h => absurd h role, fun y h => absurd h role⟩

/-- Settles O39: an answer of a drop that was UP, and of one that was not. -/
theorem pollAnswers : Obligations.PollAnswers := by
  intro st f s d x c l polled drop event
  have run : ∃ g : Line → Line, exec c s = .next (onLine st g (responded st d (endExchange st s))) ∧
      l = g (answeredLine d (lineOf st s)) := by
    rcases event with ⟨rfl, sent, rfl⟩ | ⟨rfl, other, rfl⟩ | ⟨rfl, rfl⟩
    · refine ⟨fun l => { l with buffer := l.buffer ++ [(d, f)] }, ?_, rfl⟩
      show execDropFrame st f s = _
      simp only [execDropFrame, polled, frameAnswer, sent, if_true]
    · refine ⟨fun l => { l with errors := { l.errors with checkError := satCount 255 l.errors.checkError } }, ?_, rfl⟩
      show execDropFrame st f s = _
      simp only [execDropFrame, polled, frameAnswer, other, Bool.false_eq_true, if_false]
      rfl
    · refine ⟨id, ?_, rfl⟩
      show execNothing st s = _
      simp only [execNothing, polled]
      exact congrArg Host.Outcome.next (setLine_self rfl).symm
  obtain ⟨g, run, rfl⟩ := run
  rw [run]
  refine ⟨fun up => ?_, fun notUp => ?_⟩
  · rw [responded_up (.inl (by simp [dropState, drop, up])), onLine_setLine]
  · let base := setLine st (answeredLine d (lineOf st s)) s
    rw [responded_told drop notUp]
    obtain ⟨kept, printers, screens, raised, other, terminal, mirror, printer⟩ := tellUp_tells (st := st) (s := base) d
    have role : (lineOf st base).setup.role = (lineOf st s).setup.role := by
      rw [lineOf_setLine_same]
      rfl
    rw [role] at other terminal mirror printer
    have slc : (tellUp st d base).slc = base.slc := (keeps_stands kept).2.2.2.2.2.2.2.2.1 (by simp)
    have line : lineOf st (tellUp st d base) = answeredLine d (lineOf st s) :=
      (lineOf_congr st slc).trans (lineOf_setLine_same ..)
    have final : onLine st g (tellUp st d base) = setLine st (g (answeredLine d (lineOf st s))) (tellUp st d base) := by
      rw [onLine, line]
    refine ⟨_, rfl, ?_, ?_, fun a ha => ?_, ?_, ?_, fun role => ?_, fun y role hd context => ?_, fun y role hd context => ?_,
      fun y role hd held down empty => ?_⟩
    · rw [final]
      obtain ⟨samples, own, others⟩ := lineBecomes_setLine st (g (answeredLine d (lineOf st s))) s
      refine ⟨by simp [slc, base], lineOf_setLine_same .., fun a ha => ?_⟩
      have apart := (lineBecomes_setLine st (g (answeredLine d (lineOf st s))) (tellUp st d base)).2.2 a ha
      exact (apart.trans (lineOf_congr a slc)).trans ((lineBecomes_setLine st (answeredLine d (lineOf st s)) s).2.2 a ha)
    · have first : keeps [.slc, .scm, .pbk, .sda, .jrn, .blc, .mrs] s base := by simp [keeps, base]
      have second : keeps [.slc, .scm, .pbk, .sda, .jrn, .blc, .mrs] base (tellUp st d base) := keeps_mono kept (by simp)
      exact keeps_trans (keeps_trans first second) (by simp [keeps, base])
    · exact printers a ha
    · exact otherScreens_trans (otherScreens_trans (otherScreens_of rfl) screens) (otherScreens_of (by simp [base]))
    · exact raisedOnly_of_eq (raisedOnly_from raised rfl rfl) (by simp [base]) (by simp [base])
    · rw [other role]
      simp [keeps, base]
    · exact terminal y role hd context
    · exact mirror y role hd context
    · exact printer y role hd held down empty

end
end Sys2Proof.Machine
end

section
/-! SUPPORT. A printed line, a written stripe and the end of a wait (R86, R89 to R94). -/

namespace Sys2Proof.Machine
open Sys2Proof

/-! ## The printed line (R89, R90) -/

section
variable {st : Station} {s u t : State} {c : PrinterContext} {j : Job} {rest : List Job}

/-- The head job with one more line printed. -/
def linePrinted (balance : Option Int) (j : Job) : Job :=
  { j with
    printed := j.printed + 1
    next := j.next + 1
    lastBalance := balance.or j.lastBalance
    place := j.place.map fun p => { p with line := p.line + 1 } }

/-- The reservation told of a printed line. -/
def lineTold (balance : Option Int) (j : Job) (s : State) : State :=
  tellReservation j.ref
    (fun r => { r with printed := (linePrinted balance j).printed, lastBalance := (linePrinted balance j).lastBalance }) s

/-- A printed line of a job with its layout and its place: the job ends, the page is full, or the next line is handed. -/
theorem lineCompleted_eq {layout : PltRec} {p : Place} (own : j.layout = some layout) (place : j.place = some p)
    (balance : Option Int) : lineCompleted st j balance u =
      if j.lines.length ≤ j.next then endHead st .complete (setHead st (linePrinted balance j) (lineTold balance j u))
      else if p.line = layout.linesPerPage then
        pageFull st (linePrinted balance j) p.page layout.pages (setHead st (linePrinted balance j) (lineTold balance j u))
      else handLine st (setHead st (linePrinted balance j) (lineTold balance j u)) := by
  have run : lineCompleted st j balance u =
      if (linePrinted balance j).lines.length < (linePrinted balance j).next then
        endHead st .complete (setHead st (linePrinted balance j) (lineTold balance j u))
      else match j.place.map fun p => ({ p with line := p.line + 1 } : Place), j.layout with
        | some p, some layout =>
          if p.line = layout.linesPerPage + 1 then
            pageFull st (linePrinted balance j) p.page layout.pages
              (setHead st (linePrinted balance j) (lineTold balance j u))
          else handLine st (setHead st (linePrinted balance j) (lineTold balance j u))
        | _, _ => setHead st (linePrinted balance j) (lineTold balance j u) := by
    cases balance <;> rfl
  rw [run, place, own]
  simp only [Option.map_some, Nat.add_right_cancel_iff]
  exact if_congr Nat.lt_succ_iff rfl rfl

theorem lineGiven_of {layout : PltRec} {p : Place} {l : PassLine} (own : j.layout = some layout) (place : j.place = some p)
    (line : j.lines[j.next - 1]? = some l) : lineGiven s j rest c =
      handedTo (.printLine p (lineTexts (decimalsOf s) layout l (printedBalance j j.next l)) (printedBalance j j.next l))
        (withJobs ({ j with state := .printing } :: rest) c) := by
  simp only [lineGiven, own, place, line]

/-- Settles O37: the next line, the next page, and the end of the job. -/
theorem printedLineAdvancesTheJob : Obligations.PrintedLineAdvancesTheJob := by
  intro st s s1 c taken printer
  obtain ⟨buffer, rfl⟩ := delivered_rebuffered taken
  have here : printerOf st (rebuffered st buffer s) = some c := by simpa using printer
  have run : exec (.lineDone st) s = .next (takeLineDone st (rebuffered st buffer s)) := by
    show execLineDone st s = _
    rw [execLineDone, taken]
  rw [run]
  refine ⟨fun noLine => congrArg Host.Outcome.next ?_, ?_⟩
  · unfold takeLineDone
    rw [here]
    cases item : c.item with
    | none => simp [item]
    | some i =>
      have other := noLine i item
      rcases i with ⟨body, accepted, timer⟩
      cases body with
      | printLine => cases other
      | stripeWrite => simp [item]
  · intro i old texts balance j done rest layout p told item body printing queue own place finished tells
    subst finished tells
    let w := setPrinter st (some (itemDone c)) (rebuffered st buffer s)
    let base := lineTold balance j w
    have done : printerOf st w = some (itemDone c) := (printerOf_setPrinter ..).trans (if_pos rfl)
    have jobs : (itemDone c).queue = j :: rest := queue
    have told : printerOf st base = some (itemDone c) := (printerOf_congr st (by simp [base, lineTold])).trans done
    have next := (atPrinter_refl told).afterHead jobs (linePrinted balance j)
    have completed := lineCompleted_eq (st := st) (u := w) own place balance
    have ready : (itemDone c).state = .ready := if_pos printing
    have place' : (linePrinted balance j).place = some ⟨p.page, p.line + 1⟩ := by simp [linePrinted, place]
    have layout' : (linePrinted balance j).layout = some layout := own
    have head : headJob st w = some j := (atPrinter_refl done).head.trans (by rw [jobs]; rfl)
    have runs : takeLineDone st (rebuffered st buffer s) = goOn st (lineCompleted st j balance w) := by
      unfold takeLineDone
      rcases i with ⟨body', accepted, timer⟩
      simp only at body
      subst body
      simp only [here, item]
      rw [show headJob st (setPrinter st (some (itemDone c)) (rebuffered st buffer s)) = some j from head]
    rw [runs]
    have toBase : ofPrinter st (rebuffered st buffer s) base := by
      refine ⟨by simp [keeps, printerBlocks, base, w, lineTold], fun x hx => ?_, otherScreens_of (by simp [base, w, lineTold]),
        raisedOnly_of_eq (raisedOnly_refl _ _) (by simp [base, w, lineTold]) (by simp [base, w, lineTold])⟩
      exact (printerOf_congr (s := w) x (by simp [base, lineTold])).trans ((printerOf_setPrinter ..).trans (if_neg hx))
    have reached : ofPrinter st base (lineCompleted st j balance w) ∧
        ∃ d, printerOf st (lineCompleted st j balance w) = some d := by
      have at' : ∃ d, atPrinter st d base (lineCompleted st j balance w) := by
        rw [completed]
        split
        · exact ⟨_, next.afterEnd rfl .complete⟩
        · split
          · exact ⟨_, next.afterPage rfl _ _ _⟩
          · exact ⟨_, next.afterLine rfl⟩
      obtain ⟨d, at'⟩ := at'
      exact ⟨ofPrinter_of_at at', d, at'.2.2.2⟩
    obtain ⟨reach, d0, held⟩ := reached
    obtain ⟨reach', c', final, -⟩ := advanceQueue_goesOn queueTurns held
    have decimals : decimalsOf base = decimalsOf s := by simp [decimalsOf, base, w, lineTold]
    have wait : waitEnd base = some (s.uptime + 1000 * s.mrs.settings.pageTurn) := by
      simp [waitEnd, secondsAhead, base, w, lineTold]
    have printed : linePrinted balance j = { j with
        printed := j.printed + 1, next := j.next + 1, lastBalance := balance.or j.lastBalance
        place := some ⟨p.page, p.line + 1⟩ } := by simp [linePrinted, place]
    have settled : ∀ d, atPrinter st d base (lineCompleted st j balance w) → queueAtRest d →
        goOn st (lineCompleted st j balance w) = lineCompleted st j balance w ∧
          keeps [.pbk, .scm, .sda] (rebuffered st buffer s) (goOn st (lineCompleted st j balance w)) ∧
          (goOn st (lineCompleted st j balance w)).sda = base.sda ∧ c' = d := fun d at' rests => by
      have stays : goOn st (lineCompleted st j balance w) = lineCompleted st j balance w :=
        advanceQueue_rests at'.2.2.2 rests _
      have final' : printerOf st (goOn st (lineCompleted st j balance w)) = some c' := final
      rw [stays] at final' ⊢
      refine ⟨rfl, keeps_trans ?_ (keeps_mono at'.1 (by simp)), at'.stands.2.1,
        Option.some.inj (final'.symm.trans at'.2.2.2)⟩
      simp [keeps, base, w, lineTold]
    refine ⟨_, c', rfl, ofPrinter_trans toBase (ofPrinter_trans reach reach'), final, fun l more below line => ?_,
      fun more full pages => ?_, fun cause b ends book account serial none notBefore => ?_⟩
    · rw [if_neg (by omega), if_neg below] at completed
      have given := next.afterLine rfl
      rw [← completed, lineGiven_of layout' place' (l := l) line] at given
      obtain ⟨stays, kept, sda, rfl⟩ := settled _ given (queueAtRest_cons rfl (by simp))
      refine ⟨?_, sda, ?_⟩
      · rw [stays, completed]
        simp [keeps, base, w, lineTold]
      · rw [decimals, printed]
        simp only [handedTo, withJobs, itemDone, printing, handed]
        rfl
    · rw [if_neg (by omega), if_pos full] at completed
      have filled := next.afterPage rfl (linePrinted balance j) p.page layout.pages
      rw [← completed, pageFilled, if_neg (by omega)] at filled
      obtain ⟨-, kept, sda, rfl⟩ := settled _ filled (queueAtRest_cons rfl (by simp))
      refine ⟨kept, sda, ?_⟩
      rw [wait, printed]
      simp [handedTo, withJobs, withPrompt, itemDone, printing, handed]
    · have ended : atPrinter st (headEnded cause (linePrinted balance j) rest
          (withJobs (linePrinted balance j :: rest) (itemDone c))) base (lineCompleted st j balance w) := by
        rcases ends with ⟨last, rfl⟩ | ⟨more, full, pages, rfl⟩
        · rw [completed, if_pos last]
          exact next.afterEnd rfl .complete
        · rw [completed, if_neg (by omega), if_pos full]
          have filled := next.afterPage rfl (linePrinted balance j) p.page layout.pages
          rw [pageFilled, if_pos pages] at filled
          exact filled
      have due : writesNoEnd cause = false := by rcases ends with ⟨-, rfl⟩ | ⟨-, -, -, rfl⟩ <;> rfl
      have isOwn : isJobsBook (linePrinted balance j) b = true := by simp [isJobsBook, linePrinted, account, serial]
      rw [headEnded_book (c := withJobs (linePrinted balance j :: rest) (itemDone c)) (Nat.succ_ne_zero _) due ready book isOwn place', if_neg (by simp [notBefore]), promptAtEnd_eq] at ended
      obtain ⟨-, kept, sda, rfl⟩ := settled _ ended (queueAtRest_cons rfl (by simp [endedJob, linePrinted, none]))
      refine ⟨kept, sda, ?_⟩
      rw [printed]
      simp only [handedTo, withJobs, withPrompt, itemDone, handed, endedJob, printing]

end
end Sys2Proof.Machine
end

section
/-! SUPPORT. The completion of a stripe write, and the end of a wait for a book (R86, R90 to R94). -/

namespace Sys2Proof.Machine
open Sys2Proof

section
variable {st : Station} {s u t : State} {c : PrinterContext} {j : Job} {rest : List Job} {p : Place}

theorem setPrinter_twice (st : Station) (c d : Option PrinterContext) (s : State) :
    setPrinter st d (setPrinter st c s) = setPrinter st d s := by
  simp [setPrinter, onPbk, Eight.set_set]

/-- A context once the outstanding stripe write is completed at a place. -/
def stripeWritten (p : Place) (c : PrinterContext) : PrinterContext :=
  { c with item := none, state := .ready, book := c.book.map fun b => { b with page := p.page, line := p.line } }

/-- A WRITE_DONE for an outstanding stripe write. -/
theorem takeWriteDone_eq {i : PrinterItem} {purpose : WritePurpose} (h : printerOf st s = some c) (item : c.item = some i)
    (body : i.body = .stripeWrite p purpose) (printing : c.state = .printing) :
    takeWriteDone st s = goOn st (writeCompleted st purpose (setPrinter st (some (stripeWritten p c)) s)) := by
  have done : itemDone c = { c with item := none, state := .ready } := by simp [itemDone, printing]
  unfold takeWriteDone
  rw [h]
  rcases i with ⟨body', accepted, timer⟩
  simp only at body
  subst body
  simp only [item, done]
  rfl

theorem placed_at (h : printerOf st s = some c) {d : PrinterContext} (queue : d.queue = j :: rest) {b : Book}
    (book : d.book = some b) :
    atPrinter st (placementBegun s j rest b d) s (beginPlacement st (setPrinter st (some d) s)) :=
  ((atPrinter_refl h).set d).afterPlacement queue book

/-- The owed write that a completed one leaves. -/
theorem owedWritten_eq (p : Place) (c : PrinterContext) :
    (if owedWritten (stripeWritten p c) = true then none else c.owed) =
      if c.owed = c.book.map (fun b => { account := b.account, serial := b.serial, place := p }) then none else c.owed := by
  unfold owedWritten stripeWritten owedFor
  cases book : c.book with
  | none =>
    cases owed : c.owed with
    | none => rfl
    | some o => simp
  | some b =>
    cases owed : c.owed with
    | none => simp
    | some o =>
      have same : (o = { account := b.account, serial := b.serial, place := p }) ↔
          (o.account = b.account ∧ o.serial = b.serial) ∧ o.place = p := by
        rcases o with ⟨account, serial, place⟩
        simp [and_assoc]
      simp only [bookPlace, same, Option.map_some, Option.some.injEq, Bool.and_eq_true, decide_eq_true_eq]
      exact if_congr (and_congr_right' decide_eq_true_iff) rfl rfl

theorem owedCompleted (p : Place) (c : PrinterContext) :
    (if owedWritten (stripeWritten p c) = true then { stripeWritten p c with owed := none } else stripeWritten p c) =
      { c with
        item := none, state := .ready,
        owed := if c.owed = c.book.map (fun b => { account := b.account, serial := b.serial, place := p }) then none
          else c.owed,
        book := c.book.map fun b => { b with page := p.page, line := p.line } } := by
  rw [← owedWritten_eq]
  split <;> rfl

theorem writtenBook (p : Place) {b : Book} (book : c.book = some b) : stripeWritten p c =
    { c with item := none, state := .ready, book := some { b with page := p.page, line := p.line } } := by
  simp [stripeWritten, book]

/-- Settles O38: each purpose of a stripe write, and each end of a wait. -/
theorem stripeWriteAndWaitEnd : Obligations.StripeWriteAndWaitEnd := by
  intro st s c printer
  have wrote : ∀ s1 i p purpose, delivered st .d2 .writeDone s = some s1 → c.item = some i →
      i.body = .stripeWrite p purpose → c.state = .printing → ∃ buffer, s1 = rebuffered st buffer s ∧
        exec (.writeDone st) s = .next (goOn st (writeCompleted st purpose
          (setPrinter st (some (stripeWritten p c)) (rebuffered st buffer s)))) :=
    fun s1 i p purpose taken item body printing => by
      obtain ⟨buffer, rfl⟩ := delivered_rebuffered taken
      refine ⟨buffer, rfl, ?_⟩
      show execWriteDone st s = _
      rw [execWriteDone, taken]
      exact congrArg Host.Outcome.next (takeWriteDone_eq (by simpa using printer) item body printing)
  have owed : ∀ s1 i p after, delivered st .d2 .writeDone s = some s1 → c.item = some i → i.body = .stripeWrite p .owed →
      c.state = .printing → after = { c with
        item := none, state := .ready,
        owed := if c.owed = c.book.map (fun b => { account := b.account, serial := b.serial, place := p }) then none
          else c.owed,
        book := c.book.map fun b => { b with page := p.page, line := p.line } } →
      ∃ buffer, s1 = rebuffered st buffer s ∧
        exec (.writeDone st) s = .next (goOn st (resumeBookWait st (setPrinter st (some after) (rebuffered st buffer s)))) ∧
        atPrinter st after (rebuffered st buffer s) (setPrinter st (some after) (rebuffered st buffer s)) :=
    fun s1 i p after taken item body printing same => by
      obtain ⟨buffer, rfl, run⟩ := wrote s1 i p .owed taken item body printing
      have here : printerOf st (rebuffered st buffer s) = some c := by simpa using printer
      refine ⟨buffer, rfl, ?_, (atPrinter_refl here).set after⟩
      rw [run, writeCompleted, onPrinter_of ((atPrinter_refl here).set (stripeWritten p c)).2.2.2, setPrinter_twice,
        owedCompleted, ← same]
  have resumes : ∀ {r u : State} (d : PrinterContext) (j : Job) (rest : List Job) (b : Book), atPrinter st d r u →
      d.state = .ready → d.queue = j :: rest → j.state = .bookWait → d.book = some b → bookMatches j b = true →
      owedFor d b = false → resumeBookWait st u = beginPlacement st u :=
    fun d j rest b at' ready queue waits book own free => by
      unfold resumeBookWait
      rw [at'.2.2.2, at'.head, queue]
      exact if_pos ⟨waits, ready, by simp [bookReady, book, own, free]⟩
  refine ⟨fun s1 taken => ⟨fun noWrite => ?_, fun i p purpose j rest item body printing queue => ?_⟩, ?_, ?_,
    fun j rest x queue waits same => ?_, fun idle => ?_⟩
  · obtain ⟨buffer, rfl⟩ := delivered_rebuffered taken
    have here : printerOf st (rebuffered st buffer s) = some c := by simpa using printer
    show execWriteDone st s = _
    rw [execWriteDone, taken]
    refine congrArg Host.Outcome.next ?_
    unfold takeWriteDone
    rw [here]
    cases item : c.item with
    | none => simp [item]
    | some i =>
      have other := noWrite i item
      rcases i with ⟨body, accepted, timer⟩
      cases body with
      | printLine => simp [item]
      | stripeWrite => cases other
  · obtain ⟨buffer, rfl, run⟩ := wrote s1 i p purpose taken item body printing
    have here : printerOf st (rebuffered st buffer s) = some c := by simpa using printer
    have written := (atPrinter_refl here).set (stripeWritten p c)
    have head : headJob st (setPrinter st (some (stripeWritten p c)) (rebuffered st buffer s)) = some j :=
      written.head.trans (by rw [show (stripeWritten p c).queue = c.queue from rfl, queue]; rfl)
    rw [run]
    refine ⟨fun turn waits => ?_, fun b done layout l line repair waits book read starts => ?_,
      fun b done repair waits book read => ?_, fun ends ended behind room => ?_⟩
    · subst turn
      refine congrArg Host.Outcome.next ?_
      exact advanceQueue_rests written.2.2.2 (queueAtRest_cons (k := j) (rest := rest) queue (by simp [waits])) _
    · subst repair read
      have placed := placed_at here (d := stripeWritten p c) queue (b := { b with page := p.page, line := p.line })
        (by simp [stripeWritten, book])
      obtain ⟨rests, final⟩ := lineHanded_rests (l := l) (line := line) placed starts queueTurns
      have completed : writeCompleted st .repair (setPrinter st (some (stripeWritten p c)) (rebuffered st buffer s)) =
          beginPlacement st (setPrinter st (some (stripeWritten p c)) (rebuffered st buffer s)) := by
        unfold writeCompleted
        rw [head]
        exact if_pos waits
      rw [completed, goOn, rests]
      obtain ⟨-, sda, jrn, -⟩ := placed.stands
      refine ⟨_, rfl, by simp, ofPrinter_of_at placed, sda.trans (by simp), jrn.trans (by simp), ?_⟩
      rw [← writtenBook p book]
      exact final
    · subst repair read
      have placed := placed_at here (d := stripeWritten p c) queue (b := { b with page := p.page, line := p.line })
        (by simp [stripeWritten, book])
      have completed : writeCompleted st .repair (setPrinter st (some (stripeWritten p c)) (rebuffered st buffer s)) =
          beginPlacement st (setPrinter st (some (stripeWritten p c)) (rebuffered st buffer s)) := by
        unfold writeCompleted
        rw [head]
        exact if_pos waits
      rw [completed]
      obtain ⟨reach, c', final, -⟩ := advanceQueue_goesOn queueTurns placed.2.2.2
      have outcome := placedWithoutLine_goesOn placed (by simp [stripeWritten, book]) rfl 7 final
      refine ⟨_, c', rfl, by simp, ofPrinter_trans (ofPrinter_of_at placed) reach, final, ?_⟩
      rw [← writtenBook p book]
      exact outcome
    · subst ends
      have completed : writeCompleted st .endWrite (setPrinter st (some (stripeWritten p c)) (rebuffered st buffer s)) =
          setHead st (withOutcome .written j) (setPrinter st (some (stripeWritten p c)) (rebuffered st buffer s)) := by
        unfold writeCompleted
        rw [head]
        exact if_pos ended
      rw [completed]
      have known := written.afterHead queue (withOutcome .written j)
      exact ⟨_, rfl, jobLeaves_goesOn (j := j) (outcome := .written) known rfl ended rfl rfl rfl rfl behind room 5⟩
  · rintro s1 i p after taken item body printing same
    obtain ⟨buffer, rfl, run, at'⟩ := owed s1 i p after taken item body printing same
    rw [run]
    refine ⟨fun waits => ?_, fun j rest b layout l line queue waits book own free starts => ?_⟩
    · have stays : resumeBookWait st (setPrinter st (some after) (rebuffered st buffer s)) =
          setPrinter st (some after) (rebuffered st buffer s) := by
        unfold resumeBookWait
        rw [at'.2.2.2, at'.head]
        cases queue : after.queue with
        | nil => rfl
        | cons j rest =>
          refine if_neg ?_
          rintro ⟨bookWait, -, ready⟩
          have there : c.queue = j :: rest := by rw [← queue, same]
          rcases waits j rest there with turn | ⟨-, away⟩
          · rw [turn] at bookWait
            cases bookWait
          · unfold bookReady at ready
            cases book : after.book with
            | none => rw [book] at ready; cases ready
            | some b =>
              rw [book] at ready
              rcases away b book with h | h <;> simp [h] at ready
      have rests : queueAtRest after := fun j hj => by
        cases queue : after.queue with
        | nil => rw [queue] at hj; cases hj
        | cons k rest =>
          rw [queue] at hj
          cases hj
          have there : c.queue = j :: rest := by rw [← queue, same]
          rcases waits j rest there with turn | ⟨bookWait, -⟩
          · simp [turn]
          · simp [bookWait]
      rw [stays]
      exact congrArg Host.Outcome.next (advanceQueue_rests at'.2.2.2 rests _)
    · have jobs : after.queue = j :: rest := by rw [same]; exact queue
      have here : printerOf st (rebuffered st buffer s) = some c := by simpa using printer
      have placed := placed_at here (d := after) jobs book
      obtain ⟨rests, final⟩ := lineHanded_rests (l := l) (line := line) placed starts queueTurns
      rw [resumes after j rest b at' (by rw [same]) jobs waits book own free, goOn, rests]
      obtain ⟨-, sda, jrn, -⟩ := placed.stands
      exact ⟨_, rfl, by simp, ofPrinter_of_at placed, sda.trans (by simp), jrn.trans (by simp), final⟩
  · intro s1 i p after j rest b taken item body printing same queue waits book own free
    obtain ⟨buffer, rfl, run, at'⟩ := owed s1 i p after taken item body printing same
    have jobs : after.queue = j :: rest := by rw [same]; exact queue
    have here : printerOf st (rebuffered st buffer s) = some c := by simpa using printer
    have placed := placed_at here (d := after) jobs book
    rw [run, resumes after j rest b at' (by rw [same]) jobs waits book own free]
    obtain ⟨reach, c', final, -⟩ := advanceQueue_goesOn queueTurns placed.2.2.2
    have outcome := placedWithoutLine_goesOn placed book (by rw [same]) 7 final
    exact ⟨_, c', rfl, by simp, ofPrinter_trans (ofPrinter_of_at placed) reach, final, outcome⟩
  · have at' := atPrinter_refl printer
    have head : headJob st s = some j := at'.head.trans (by rw [queue]; rfl)
    have run : ∀ cause, ((j.state = .bookWait ∧ cause = .bookAbsent) ∨ (j.state = .turnWait ∧ cause = .turnTimeout)) →
        exec (.waitTimerExpiry st) s = .next (goOn st (endHead st cause s)) := fun cause which => by
      show Host.Outcome.next (takeWaitExpiry st s) = _
      unfold takeWaitExpiry
      rcases which with ⟨state, rfl⟩ | ⟨state, rfl⟩ <;> simp only [head, state]
    have prompt : ∀ cause : EndCause, cause ≠ .bookFull → withPrompt (promptAtEnd cause c.prompt) c = x := fun cause other => by
      rw [same, promptAtEnd_eq]
      simp [withPrompt, other]
    have due : ∀ cause : EndCause, ((j.state = .bookWait ∧ cause = .bookAbsent) ∨ (j.state = .turnWait ∧ cause = .turnTimeout)) →
        cause ≠ .bookFull ∧ writesNoEnd cause = false := fun cause which => by
      rcases which with ⟨-, rfl⟩ | ⟨-, rfl⟩ <;> exact ⟨by decide, rfl⟩
    have ended := fun cause => at'.afterEnd queue cause
    refine ⟨fun cause which fresh room => ?_, fun turn some away room => ?_,
      fun b p turn some ready book own place => ⟨fun notBefore none => ?_, fun before room => ?_⟩⟩
    · have fin := ended cause
      rw [headEnded_notDue (.inl fresh), prompt cause (due cause which).1] at fin
      refine ⟨_, run cause which, ?_⟩
      exact jobLeaves_goesOn (j := j) fin rfl rfl rfl rfl rfl rfl waits room 5
    · have fin := ended .turnTimeout
      rw [headEnded_owed (Nat.ne_of_gt some) rfl away] at fin
      refine ⟨_, run _ (.inr ⟨turn, rfl⟩), ?_⟩
      have shown := prompt .turnTimeout (by decide)
      have leaves := jobLeaves_goesOn (j := j) fin rfl rfl rfl rfl rfl rfl waits room 5
      rw [← shown]
      exact leaves
    · have fin := ended .turnTimeout
      rw [headEnded_book (Nat.ne_of_gt some) rfl ready book own place, if_neg (by simp [notBefore])] at fin
      have shown := prompt .turnTimeout (by decide)
      have rests := advanceQueue_rests fin.2.2.2 (queueAtRest_cons rfl (by simp [endedJob, none])) queueTurns
      obtain ⟨-, sda, jrn, -⟩ := fin.stands
      refine ⟨_, (run _ (.inr ⟨turn, rfl⟩)).trans (congrArg Host.Outcome.next rests), ofPrinter_of_at fin, sda, jrn, ?_⟩
      rw [fin.2.2.2, ← shown]
      rfl
    · have fin := ended .turnTimeout
      rw [headEnded_book (Nat.ne_of_gt some) rfl ready book own place, if_pos before] at fin
      refine ⟨_, run _ (.inr ⟨turn, rfl⟩), ?_⟩
      have shown := prompt .turnTimeout (by decide)
      have leaves := jobLeaves_goesOn (j := j) fin rfl rfl rfl rfl rfl rfl waits room 5
      rw [← shown]
      exact leaves
  · show Host.Outcome.next (takeWaitExpiry st s) = _
    refine congrArg Host.Outcome.next ?_
    have head : headJob st s = c.queue.head? := (atPrinter_refl printer).head
    unfold takeWaitExpiry
    rw [head]
    cases first : c.queue.head? with
    | none => rfl
    | some j =>
      obtain ⟨notBook, notTurn⟩ := idle j first
      cases state : j.state with
      | bookWait => exact absurd state notBook
      | turnWait => exact absurd state notTurn
      | queued => simp [state]
      | printing => simp [state]
      | ended => simp [state]

end
end Sys2Proof.Machine
end

section
/-! SUPPORT. A book read at a printer (R80, R86, R87, R91, R94). -/

namespace Sys2Proof.Machine
open Sys2Proof

/-- A book offered to a head job that waits. -/
def bookOffered (s : State) (b : Book) (c : PrinterContext) : PrinterContext :=
  match c.queue with
  | [] => c
  | j :: rest =>
    match j.state with
    | .bookWait =>
      if bookMatches j b = true then waitResumed s b (withJobs (meetBook j b :: rest) c) else withPrompt .wrongBook c
    | .turnWait =>
      match j.place with
      | none => c
      | some p =>
        if isJobsBook j b = true then
          if c.state = .ready then
            if placeBefore (bookPlace b) p = true then handedTo (.stripeWrite p .repair) c else placementBegun s j rest b c
          else c
        else withPrompt .wrongBook c
    | _ => c

/-- The context with a book read recorded, BOOK FULL ended. -/
def bookRecorded (b : Book) (c : PrinterContext) : PrinterContext :=
  { c with book := some b, prompt := if c.prompt = .bookFull then .noPrompt else c.prompt }

section
variable {st : Station} {s u m v : State} {c c1 d base : PrinterContext} {j : Job} {rest : List Job} {b : Book}

theorem bookOffered_bookWait (queue : c.queue = j :: rest) (waits : j.state = .bookWait) : bookOffered s b c =
    if bookMatches j b = true then waitResumed s b (withJobs (meetBook j b :: rest) c) else withPrompt .wrongBook c := by
  simp only [bookOffered, queue, waits]

theorem bookOffered_turnWait (queue : c.queue = j :: rest) (waits : j.state = .turnWait) {p : Place}
    (place : j.place = some p) : bookOffered s b c =
      if isJobsBook j b = true then
        if c.state = .ready then
          if placeBefore (bookPlace b) p = true then handedTo (.stripeWrite p .repair) c else placementBegun s j rest b c
        else c
      else withPrompt .wrongBook c := by
  simp only [bookOffered, queue, waits, place]

theorem bookOffered_noPlace (queue : c.queue = j :: rest) (waits : j.state = .turnWait) (place : j.place = none) :
    bookOffered s b c = c := by
  simp only [bookOffered, queue, waits, place]

theorem bookOffered_other (other : ∀ j, c.queue.head? = some j → j.state ≠ .bookWait ∧ j.state ≠ .turnWait) :
    bookOffered s b c = c := by
  unfold bookOffered
  cases queue : c.queue with
  | nil => rfl
  | cons j rest =>
    obtain ⟨notBook, notTurn⟩ := other j (by rw [queue]; rfl)
    cases state : j.state with
    | bookWait => exact absurd state notBook
    | turnWait => exact absurd state notTurn
    | queued => simp [state]
    | printing => simp [state]
    | ended => simp [state]

theorem atPrinter.afterOffer (h : atPrinter st c s u) (book : c.book = some b) :
    atPrinter st (bookOffered s b c) s (offerBook st u) := by
  have read : insertedBook st u = some b := h.book.trans book
  have stays : bookOffered s b c = c → offerBook st u = u → atPrinter st (bookOffered s b c) s (offerBook st u) :=
    fun same run => by
      rw [same, run]
      exact h
  cases queue : c.queue with
  | nil =>
    refine stays (bookOffered_other fun j hj => ?_) ?_
    · rw [queue] at hj
      cases hj
    · simp only [offerBook, h.2.2.2, h.head, queue, List.head?_nil]
  | cons j rest =>
    have first : headJob st u = some j := h.head.trans (by rw [queue]; rfl)
    have other : j.state ≠ .bookWait → j.state ≠ .turnWait → bookOffered s b c = c := fun notBook notTurn =>
      bookOffered_other fun k hk => by
        have same : j = k := Option.some.inj ((congrArg List.head? queue).symm.trans hk)
        exact same ▸ ⟨notBook, notTurn⟩
    cases state : j.state with
    | bookWait =>
      have run : offerBook st u = if (!bookMatches j b) = true then setPrompt st .wrongBook u
          else resumeBookWait st (setHead st (meetBook j b) u) := by
        simp only [offerBook, h.2.2.2, first, read, state]
      rw [run, bookOffered_bookWait queue state]
      cases own : bookMatches j b with
      | true => exact (h.afterHead queue (meetBook j b)).afterResume book
      | false => exact h.prompt .wrongBook
    | turnWait =>
      have run : offerBook st u = offerTurn st (decide (c.state = .ready)) j b u := by
        simp only [offerBook, h.2.2.2, first, read, state]
      cases place : j.place with
      | none => exact stays (bookOffered_noPlace queue state place) (by rw [run]; simp only [offerTurn, place])
      | some p =>
        rw [run, bookOffered_turnWait queue state place]
        unfold offerTurn
        simp only [place]
        cases own : isJobsBook j b with
        | false => exact h.prompt .wrongBook
        | true =>
          by_cases ready : c.state = .ready
          · by_cases behind : placeBefore (bookPlace b) p = true
            · simpa [ready, behind] using h.afterItem (.stripeWrite p .repair)
            · simpa [ready, behind] using h.afterPlacement queue book
          · simpa [ready] using h
    | queued =>
      exact stays (other (by simp [state]) (by simp [state])) (by simp only [offerBook, h.2.2.2, first, read, state])
    | printing =>
      exact stays (other (by simp [state]) (by simp [state])) (by simp only [offerBook, h.2.2.2, first, read, state])
    | ended =>
      exact stays (other (by simp [state]) (by simp [state])) (by simp only [offerBook, h.2.2.2, first, read, state])

theorem bookOffered_goesOn (held : c.book ≠ none) : contextGoesOn c (bookOffered s b c) := by
  cases queue : c.queue with
  | nil =>
    rw [bookOffered_other fun j hj => by rw [queue] at hj; cases hj]
    exact contextGoesOn_refl c
  | cons j rest =>
    by_cases bookWait : j.state = .bookWait
    · rw [bookOffered_bookWait queue bookWait]
      split
      · have met : contextGoesOn c (withJobs (meetBook j b :: rest) c) := ⟨rfl, .inl ⟨rfl, rfl⟩⟩
        exact contextGoesOn_trans met (waitResumed_goesOn (c := withJobs (meetBook j b :: rest) c) held)
      · exact ⟨rfl, .inl ⟨rfl, rfl⟩⟩
    · by_cases turnWait : j.state = .turnWait
      · cases place : j.place with
        | none =>
          rw [bookOffered_noPlace queue turnWait place]
          exact contextGoesOn_refl c
        | some p =>
          rw [bookOffered_turnWait queue turnWait place]
          split
          · split
            · next ready =>
              split
              · exact handedTo_goesOn ready held _
              · exact placementBegun_goesOn ready held
            · exact contextGoesOn_refl c
          · exact ⟨rfl, .inl ⟨rfl, rfl⟩⟩
      · rw [bookOffered_other fun k hk => by
          have same : j = k := Option.some.inj ((congrArg List.head? queue).symm.trans hk)
          exact same ▸ ⟨bookWait, turnWait⟩]
        exact contextGoesOn_refl c

/-- The book recorded and offered, the owed write dealt with: what a STRIPE_READ does once the item has failed. -/
def bookTakenUp (st : Station) (b : Book) (u : State) : State :=
  let v := onPrinter st (fun c => { c with book := some b }) u
  offerBook st (dealOwed st (if promptAt st v = .bookFull then setPrompt st .noPrompt v else v))

theorem atPrinter.afterRead (h : atPrinter st d m u) (b : Book) :
    atPrinter st (bookOffered m b (owedDealt b (bookRecorded b d))) m (bookTakenUp st b u) := by
  have noted := h.on fun c => { c with book := some b }
  have recorded : atPrinter st (bookRecorded b d) m
      (if promptAt st (onPrinter st (fun c => { c with book := some b }) u) = .bookFull then
        setPrompt st .noPrompt (onPrinter st (fun c => { c with book := some b }) u)
      else onPrinter st (fun c => { c with book := some b }) u) := by
    rw [noted.prompts]
    by_cases full : d.prompt = .bookFull
    · simpa [full, bookRecorded, withPrompt] using noted.prompt .noPrompt
    · simpa [full, bookRecorded] using noted
  exact (recorded.afterOwed rfl).afterOffer (owedDealt_book ..)

/-- The base that a book read leaves is the recorded context with the owed write dealt with. -/
theorem readRecorded_eq (read : readRecorded b c1 base) : base = owedDealt b (bookRecorded b
    { c1 with state := if c1.state = .fault then .ready else c1.state }) ∧ (base.state = .ready → owedFor base b = false) ∧
      base.queue = c1.queue ∧ base.book = some b := by
  obtain ⟨x, same, deal⟩ := read
  change x = bookRecorded b { c1 with state := if c1.state = .fault then .ready else c1.state } at same
  rw [← same]
  have owed : owedFor x b = owedFor c1 b := by rw [same]; rfl
  have queue : x.queue = c1.queue := by rw [same]; rfl
  have book : x.book = some b := by rw [same]; rfl
  rcases deal with ⟨free, rfl⟩ | ⟨o, stands, held, base'⟩
  · refine ⟨?_, fun _ => owed.trans free, queue, book⟩
    unfold owedDealt
    cases base.owed with
    | none => rfl
    | some o => exact (if_neg (by simp [owed, free])).symm
  · have there : x.owed = some o := by rw [same]; exact held
    refine ⟨?_, fun ready => ?_, ?_, ?_⟩
    · unfold owedDealt
      rw [there]
      dsimp only
      rw [if_pos (owed.trans stands), base']
      rfl
    · rw [base'] at ready ⊢
      by_cases behind : placeBefore (bookPlace b) o.place = true
      · rw [if_pos behind] at ready
        by_cases free : x.state = .ready
        · rw [if_pos free] at ready
          cases ready
        · rw [if_neg free] at ready
          exact absurd ready free
      · rw [if_neg behind]
        rfl
    · rw [base', ← queue]
      repeat' split
      all_goals rfl
    · rw [base', ← book]
      repeat' split
      all_goals rfl

theorem leaveEnded_stays (h : atPrinter st d m u) (going : ∀ j, d.queue.head? = some j → j.state ≠ .ended) :
    leaveEnded st u = u := by
  unfold leaveEnded
  rw [h.head]
  cases first : d.queue.head? with
  | none => rfl
  | some j => exact if_neg fun k => going j first k.1

theorem leaveEnded_leaves (h : atPrinter st d m u) (queue : d.queue = j :: rest) (ended : j.state = .ended)
    (known : j.outcome.isSome = true) : leaveEnded st u = finishHead st (tellerAt st u) u := by
  unfold leaveEnded
  rw [h.head, queue]
  exact if_pos ⟨ended, known⟩

theorem reportedState_eq (h : c.item ≠ none ∨ c.state ≠ .printing) :
    reportedState c = if c.state = .fault ∨ c.state = .printing then .ready else c.state := by
  unfold reportedState
  cases state : c.state with
  | printing => simpa [Option.isSome_iff_ne_none] using h.resolve_right (by simp [state])
  | fault => rfl
  | ready => rfl
  | down => rfl

/-- What the failure of an item leaves, by the time the book is recorded. -/
theorem failureLeaves_reached (h : printerOf st s = some c) (leaves : failureLeaves c c1)
    (going : ∀ j, c1.queue.head? = some j → j.state ≠ .ended) :
    ∃ m d, atPrinter st d m (leaveEnded st (clearAndFail st reportedState .bookRemoved s)) ∧ ofPrinter st s m ∧
      failureReported st c s m ∧ bookRecorded b d =
        bookRecorded b { c1 with state := if c1.state = .fault then .ready else c1.state } ∧
      ((∀ i, c.item = some i → isPrintLine i.body = false ∧ isEndWrite i.body = false) → m = s) := by
  have failed := (atPrinter_refl h).afterClearing reportedState .bookRemoved
  rcases leaves with ⟨item, free, rfl⟩ | ⟨i, x, item, printing, rfl, ⟨line, write, rfl⟩ | ⟨j, rest, queue, which⟩⟩
  · have kept : itemFailed .bookRemoved (bookTaken (reportedState c1) c1) = withoutItem (bookTaken (reportedState c1) c1) :=
      itemFailed_kept fun i hi => by
        rw [show (bookTaken (reportedState c1) c1).item = c1.item from rfl, item] at hi
        cases hi
    rw [kept] at failed
    rw [leaveEnded_stays failed going]
    refine ⟨s, _, failed, ofPrinter_refl st s, ⟨fun _ => ⟨rfl, rfl⟩, fun i j rest cause outcome hi => ?_⟩, ?_, ?_⟩
    · rw [item] at hi
      cases hi
    · rw [reportedState_eq (.inr free)]
      simp only [bookRecorded, withoutItem, bookTaken, item, free, or_false]
    · exact fun _ => rfl
  · have kept : itemFailed .bookRemoved (bookTaken (reportedState c) c) = withoutItem (bookTaken (reportedState c) c) :=
      itemFailed_kept fun k hk => by
        have same : i = k := Option.some.inj (item.symm.trans hk)
        exact same ▸ ⟨line, write⟩
    rw [kept] at failed
    rw [leaveEnded_stays failed going]
    refine ⟨s, _, failed, ofPrinter_refl st s, ⟨fun _ => ⟨rfl, rfl⟩, fun k j rest cause outcome hk _ ends => ?_⟩, ?_, ?_⟩
    · have same : i = k := Option.some.inj (item.symm.trans hk)
      subst same
      rcases ends with ⟨ends, -⟩ | ⟨ends, -⟩
      · rw [line] at ends
        cases ends
      · rw [write] at ends
        cases ends
    · rw [reportedState_eq (.inl (by simp [item]))]
      simp [bookRecorded, withoutItem, bookTaken, printing]
    · exact fun _ => rfl
  · have ready : reportedState c = .ready := by
      rw [reportedState_eq (.inl (by simp [item])), if_pos (.inr printing)]
    have reports : ∀ {m : State} {cause : EndCause} {outcome : StripeOutcome},
        (isPrintLine i.body = true ∨ isEndWrite i.body = true) →
        (∀ cause' outcome', ((isPrintLine i.body = true ∧ cause' = .bookRemoved ∧
          outcome' = (if j.printed = 0 then .notDue else .owed)) ∨
          (isEndWrite i.body = true ∧ cause' = j.cause.getD .complete ∧ outcome' = .owed)) →
          cause' = cause ∧ outcome' = outcome) →
        (canWrite 0 (passbookDraft st (tellerAt st s) (jobReservation j) cause outcome) s →
          jobReported st j cause outcome s m) → failureReported st c s m := fun ends only report => by
      refine ⟨fun none => ?_, fun k j' rest' cause' outcome' hk hq which room => ?_⟩
      · obtain ⟨line, write⟩ := none i item
        rw [line, write] at ends
        simp at ends
      · have same : i = k := Option.some.inj (item.symm.trans hk)
        subst same
        rw [queue] at hq
        cases hq
        obtain ⟨rfl, rfl⟩ := only cause' outcome' which
        exact report room
    rcases which with ⟨line, state, rfl⟩ | ⟨write, ended, rfl⟩
    · rw [itemFailed_line (c := bookTaken (reportedState c) c) item line queue, headEnded_noBook rfl rfl] at failed
      obtain ⟨reach, printer, report⟩ := finishHead_leaves failed rfl
      rw [leaveEnded_leaves failed rfl rfl rfl]
      refine ⟨_, _, atPrinter_refl printer, reach, reports (.inl line) (fun cause' outcome' which => ?_) report, ?_, ?_⟩
      · rcases which with ⟨-, rfl, rfl⟩ | ⟨write, -⟩
        · exact ⟨rfl, rfl⟩
        · cases body : i.body with
          | printLine => rw [body] at write; cases write
          | stripeWrite => rw [body] at line; cases line
      · simp [bookRecorded, withoutItem, bookTaken, withJobs, withPrompt, ready, promptAtEnd_eq]
      · intro none
        have other := (none i item).1
        rw [line] at other
        cases other
    · rw [itemFailed_write (c := bookTaken (reportedState c) c) item write queue] at failed
      obtain ⟨reach, printer, report⟩ := finishHead_leaves failed rfl
      rw [leaveEnded_leaves failed rfl ended rfl]
      refine ⟨_, _, atPrinter_refl printer, reach, reports (.inr write) (fun cause' outcome' which => ?_) report, ?_, ?_⟩
      · rcases which with ⟨line, -⟩ | ⟨-, rfl, rfl⟩
        · cases body : i.body with
          | printLine => rw [body] at write; cases write
          | stripeWrite => rw [body] at line; cases line
        · exact ⟨rfl, rfl⟩
      · simp [bookRecorded, withoutItem, bookTaken, withJobs, owedLeft, ready]
      · intro none
        have other := (none i item).2
        rw [write] at other
        cases other

theorem failureReported_congr {t : State} (h : failureReported st c s m) (sda : t.sda = m.sda) (jrn : t.jrn = m.jrn) :
    failureReported st c s t := by
  obtain ⟨kept, reported⟩ := h
  refine ⟨fun none => ?_, fun i j rest cause outcome item queue which room => ?_⟩
  · obtain ⟨sda', jrn'⟩ := kept none
    exact ⟨sda.trans sda', jrn.trans jrn'⟩
  · exact jobReported_congr (reported i j rest cause outcome item queue which room) sda jrn

/-- A job that met a book, its wait going on. -/
theorem meetBook_shown (waits : j.state = .bookWait) (b : Book) : meetBook j b = shownBook j b := by
  simp [shownBook, waits, meetBook, metBook]

theorem bookMatches_meetBook (own : bookMatches j b = true) : bookMatches (meetBook j b) b = true := by
  unfold bookMatches at own ⊢
  simp only [Bool.and_eq_true] at own ⊢
  refine ⟨own.1, ?_⟩
  cases serial : j.serial with
  | none => simp [meetBook, serial]
  | some n => simpa [meetBook, serial] using own.2

theorem withJobs_self (queue : c.queue = j :: rest) : withJobs (j :: rest) c = c := by
  unfold withJobs
  rw [← queue]

/-- A book offered that leaves the queue at rest. -/
theorem offeredRests {e : PrinterContext} (read : atPrinter st (bookOffered m b base) m v) (same : bookOffered m b base = e)
    (rests : queueAtRest e) : printerOf st (goOn st v) = some e ∧ (goOn st v).sda = m.sda ∧ (goOn st v).jrn = m.jrn := by
  rw [same] at read
  obtain ⟨-, sda, jrn, -⟩ := read.stands
  rw [goOn, advanceQueue_rests read.2.2.2 rests]
  exact ⟨read.2.2.2, sda, jrn⟩

/-- A QUEUED head is not offered the book; it begins, and waits for a book where the one read is not its own or the printer is not
READY. -/
theorem offeredWaits (read : atPrinter st (bookOffered m b base) m v) (queue : base.queue = j :: rest) (queued : j.state = .queued)
    (free : base.state ≠ .printing) (book : base.book = some b) (away : bookMatches j b = false ∨ base.state ≠ .ready) :
    printerOf st (goOn st v) = some (withJobs (waitsForBook j m :: rest) base) ∧ (goOn st v).sda = m.sda ∧
      (goOn st v).jrn = m.jrn := by
  rw [bookOffered_other fun k hk => by
    have same : j = k := Option.some.inj ((congrArg List.head? queue).symm.trans hk)
    exact same ▸ ⟨by simp [queued], by simp [queued]⟩] at read
  have began := read.afterBegin queue
  rw [headBegun_waits (away.imp (fun other x hx => Option.some.inj (book.symm.trans hx) ▸ other) id)] at began
  obtain ⟨-, sda, jrn, -⟩ := began.stands
  have run : goOn st v = beginHead st v := (advanceQueue_begin read.2.2.2 queue queued free _).trans
    (advanceQueue_rests began.2.2.2 (queueAtRest_waits (k := waitsForBook j m) rfl rfl) _)
  rw [run]
  exact ⟨began.2.2.2, sda, jrn⟩

/-- The head's own book read at a READY printer with no owed write for it begins the placement. -/
theorem offeredPlaced (read : atPrinter st (bookOffered m b base) m v) (queue : base.queue = j :: rest)
    (ready : base.state = .ready) (book : base.book = some b) (free : owedFor base b = false)
    (own : (j.state = .bookWait ∧ bookMatches j b = true) ∨ (j.state = .queued ∧ bookMatches j b = true) ∨
      (j.state = .turnWait ∧ isJobsBook j b = true ∧ ∃ p, j.place = some p ∧ placeBefore (bookPlace b) p = false)) :
    ∃ w n, goOn st v = advanceQueue (n + 2) st w ∧ atPrinter st (placementBegun m j rest b base) m w := by
  rcases own with ⟨waits, own⟩ | ⟨queued, own⟩ | ⟨waits, own, p, place, before⟩
  · rw [bookOffered_bookWait queue waits, if_pos own] at read
    have begun : waitResumed m b (withJobs (meetBook j b :: rest) base) = placementBegun m j rest b base := by
      have met : bookReady (withJobs (meetBook j b :: rest) base) (meetBook j b) = true := by
        have free' : owedFor (withJobs (meetBook j b :: rest) base) b = false := free
        have book' : (withJobs (meetBook j b :: rest) base).book = some b := book
        simp [bookReady, book', free', bookMatches_meetBook own]
      refine (if_pos ⟨waits, ready, met⟩).trans ?_
      unfold placementBegun
      rfl
    rw [begun] at read
    exact ⟨v, 7, rfl, read⟩
  · rw [bookOffered_other fun k hk => by
      have same : j = k := Option.some.inj ((congrArg List.head? queue).symm.trans hk)
      exact same ▸ ⟨by simp [queued], by simp [queued]⟩] at read
    have began := read.afterBegin queue
    have begun : headBegun m j rest base = placementBegun m j rest b base := by
      unfold headBegun
      rw [book]
      dsimp only
      rw [if_pos ⟨own, ready⟩, if_neg (by simp [free])]
    rw [begun] at began
    exact ⟨beginHead st v, 6, advanceQueue_begin read.2.2.2 queue queued (by simp [ready]) _, began⟩
  · rw [bookOffered_turnWait queue waits place, if_pos own, if_pos ready, if_neg (by simp [before])] at read
    exact ⟨v, 7, rfl, read⟩

/-- Settles O35: the item failed, the book recorded, and each head job offered it. -/
theorem stripeReadIsRecorded : Obligations.StripeReadIsRecorded := by
  intro st b s s1 c taken printer
  obtain ⟨buffer, rfl⟩ := delivered_rebuffered taken
  have here : printerOf st (rebuffered st buffer s) = some c := by simpa using printer
  let u := leaveEnded st (clearAndFail st reportedState .bookRemoved (rebuffered st buffer s))
  have run : exec (.stripeRead st b) s = .next (goOn st (bookTakenUp st b u)) := by
    show execStripeRead st b s = _
    rw [execStripeRead, taken]
    rfl
  have slc : (goOn st (bookTakenUp st b u)).slc = (rebuffered st buffer s).slc := by
    show (takeStripeRead st b (rebuffered st buffer s)).slc = _
    simp
  have failed := (atPrinter_refl here).afterClearing reportedState .bookRemoved
  have left : ∃ m d, atPrinter st d m u ∧ ofPrinter st (rebuffered st buffer s) m ∧ d.state = reportedState c := by
    obtain ⟨-, -, stated⟩ := itemFailed_clear (cause := .bookRemoved) (c := bookTaken (reportedState c) c) rfl
    cases first : (itemFailed .bookRemoved (bookTaken (reportedState c) c)).queue with
    | nil =>
      have stays : u = clearAndFail st reportedState .bookRemoved (rebuffered st buffer s) :=
        leaveEnded_stays failed fun j hj => by
          rw [first] at hj
          cases hj
      rw [stays]
      exact ⟨_, _, failed, ofPrinter_refl _ _, stated⟩
    | cons j rest =>
      by_cases leaves : j.state = .ended ∧ j.outcome.isSome = true
      · obtain ⟨reach, after, -⟩ := finishHead_leaves failed first
        have goes : u = _ := leaveEnded_leaves failed first leaves.1 leaves.2
        rw [goes]
        exact ⟨_, _, atPrinter_refl after, reach, stated⟩
      · have stays : u = clearAndFail st reportedState .bookRemoved (rebuffered st buffer s) := by
          show leaveEnded st _ = _
          unfold leaveEnded
          rw [failed.head, first]
          exact if_neg leaves
        rw [stays]
        exact ⟨_, _, failed, ofPrinter_refl _ _, stated⟩
  obtain ⟨m, d, at', reach, stated⟩ := left
  have read := at'.afterRead b
  obtain ⟨reach', c', final, goes⟩ := advanceQueue_goesOn queueTurns read.2.2.2
  have held : (bookRecorded b d).book ≠ none := by simp [bookRecorded]
  have dealt := owedDealt_goesOn (b := b) held
  have whole : contextGoesOn (bookRecorded b d) c' := contextGoesOn_trans (contextGoesOn_trans dealt
    (bookOffered_goesOn (s := m) (b := b) (by rw [dealt.1]; exact held))) goes
  obtain ⟨book, moved⟩ := whole
  refine ⟨_, c', run, slc, ofPrinter_trans reach (ofPrinter_trans (ofPrinter_of_at read) reach'), final,
    book, fun down => ?_, fun notDown => ?_, fun c1 base leaves recorded => ?_⟩
  · have same : reportedState c = .down := by simp [reportedState, down]
    rcases moved with ⟨state, -⟩ | ⟨ready, -⟩
    · exact state.trans (stated.trans same)
    · exact absurd (ready.symm.trans (stated.trans same)) (by simp)
  · rcases moved with ⟨state, -⟩ | ⟨-, -, printing⟩
    · have same : c'.state = reportedState c := state.trans stated
      rw [same]
      unfold reportedState
      cases state : c.state with
      | ready => exact .inl rfl
      | printing =>
        dsimp only
        split
        · exact .inl rfl
        · exact .inr rfl
      | fault => exact .inl rfl
      | down => exact absurd state notDown
    · exact .inr printing
  obtain ⟨same, free, queue, book⟩ := readRecorded_eq recorded
  have reached : (∀ j, c1.queue.head? = some j → j.state ≠ .ended) → ∃ m, ofPrinter st (rebuffered st buffer s) m ∧
      failureReported st c (rebuffered st buffer s) m ∧
      atPrinter st (bookOffered m b base) m (bookTakenUp st b u) ∧
      ((∀ i, c.item = some i → isPrintLine i.body = false ∧ isEndWrite i.body = false) → m = rebuffered st buffer s) :=
    fun going => by
      obtain ⟨m, d, at', reach, reported, recorded, stands⟩ := failureLeaves_reached (b := b) here leaves going
      have read := at'.afterRead b
      rw [recorded, ← same] at read
      exact ⟨m, reach, reported, read, stands⟩
  have conclude : ∀ {m e}, failureReported st c (rebuffered st buffer s) m →
      (printerOf st (goOn st (bookTakenUp st b u)) = some e ∧ (goOn st (bookTakenUp st b u)).sda = m.sda ∧
        (goOn st (bookTakenUp st b u)).jrn = m.jrn) →
      c' = e ∧ failureReported st c s (goOn st (bookTakenUp st b u)) := fun reported ends => by
    obtain ⟨printer, sda, jrn⟩ := ends
    exact ⟨Option.some.inj (final.symm.trans printer), failureReported_congr reported sda jrn⟩
  refine ⟨fun none => ?_, fun j rest own jobs which => ?_⟩
  · obtain ⟨m, reach, reported, read, -⟩ := reached fun j hj => by
      rw [none] at hj
      cases hj
    have none' : base.queue = [] := queue.trans none
    refine conclude reported (offeredRests read (bookOffered_other fun j hj => ?_) fun j hj => ?_)
    · rw [none'] at hj
      cases hj
    · rw [none'] at hj
      cases hj
  by_cases idle : j.state = .ended ∨ j.state = .printing
  · have false' : own = false := by
      rcases idle with state | state <;> rw [state] at which <;> exact which
    subst false'
    rcases idle with state | state <;> simp [state]
  rw [not_or] at idle
  obtain ⟨m, reach, reported, read, stands⟩ := reached fun k hk => by
    rw [jobs] at hk
    cases hk
    exact idle.1
  obtain ⟨time, settings, -, -, tables, -⟩ := ofPrinter_stands reach
  have jobs' : base.queue = j :: rest := queue.trans jobs
  have kept : withJobs (j :: rest) base = base := withJobs_self jobs'
  have later : waitsForBook j m = waitsForBook j s := waitsForBook_congr j time settings
  have matching : own = true → (j.state = .bookWait ∧ bookMatches j b = true) ∨ (j.state = .queued ∧ bookMatches j b = true) ∨
      (j.state = .turnWait ∧ isJobsBook j b = true) := fun yes => by
    subst yes
    cases state : j.state with
    | bookWait => exact .inl ⟨rfl, by rw [state] at which; exact which.symm⟩
    | turnWait => exact .inr (.inr ⟨rfl, by rw [state] at which; exact which.symm⟩)
    | queued => exact .inr (.inl ⟨rfl, by rw [state] at which; exact which.symm⟩)
    | printing => exact absurd state idle.2
    | ended => exact absurd state idle.1
  have notQueued : j.state ≠ .queued → queueAtRest base := fun other =>
    queueAtRest_cons jobs' ⟨fun ended => absurd ended idle.1, fun queued => absurd queued other⟩
  have shown : own = true → j.state ≠ .queued → base.state ≠ .ready →
      c' = { base with queue := shownBook j b :: rest } ∧ failureReported st c s (goOn st (bookTakenUp st b u)) :=
    fun yes other away => by
      rcases matching yes with ⟨waits, matched⟩ | ⟨queued, -⟩ | ⟨waits, matched⟩
      · rw [← meetBook_shown waits b]
        refine conclude reported (offeredRests read ?_ (queueAtRest_waits (k := meetBook j b) rfl waits))
        rw [bookOffered_bookWait jobs' waits, if_pos matched]
        exact if_neg fun h => away h.2.1
      · exact absurd queued other
      · have shown : shownBook j b = j := if_neg (by simp [waits])
        rw [shown]
        refine conclude reported (offeredRests read ?_ (e := withJobs (j :: rest) base) (by rw [kept]; exact notQueued other))
        rw [kept]
        cases place : j.place with
        | none => exact bookOffered_noPlace jobs' waits place
        | some p => rw [bookOffered_turnWait jobs' waits place, if_pos matched, if_neg away]
  have placed : own = true → base.state = .ready →
      (j.state = .turnWait → ∃ p, j.place = some p ∧ placeBefore (bookPlace b) p = false) →
      ∃ w n, goOn st (bookTakenUp st b u) = advanceQueue (n + 2) st w ∧ atPrinter st (placementBegun m j rest b base) m w :=
    fun yes ready turns => offeredPlaced read jobs' ready book (free ready) <| by
      rcases matching yes with h | h | ⟨waits, matched⟩
      · exact .inl h
      · exact .inr (.inl h)
      · exact .inr (.inr ⟨waits, matched, turns waits⟩)
  refine ⟨⟨fun waits other => ?_, fun queued away free => ?_, fun who printing => ?_, shown, fun p yes ready waits place behind => ?_,
    fun layout l line yes ready turns starts => ?_⟩, fun yes ready turns no => ?_⟩
  · subst other
    have offered : bookOffered m b base = withPrompt .wrongBook base := by
      rcases waits with waits | ⟨waits, place⟩
      · have not : bookMatches j b = false := by rw [waits] at which; exact which.symm
        rw [bookOffered_bookWait jobs' waits, if_neg (by simp [not])]
      · have not : isJobsBook j b = false := by rw [waits] at which; exact which.symm
        obtain ⟨p, some⟩ := Option.ne_none_iff_exists'.1 place
        rw [bookOffered_turnWait jobs' waits some, if_neg (by simp [not])]
    refine conclude reported (offeredRests read offered (queueAtRest_cons jobs' ⟨fun ended => absurd ended idle.1, fun queued => ?_⟩))
    rcases waits with waits | ⟨waits, -⟩
    · rw [waits] at queued
      cases queued
    · rw [waits] at queued
      cases queued
  · rw [← later]
    refine conclude reported (offeredWaits read jobs' queued away book (free.imp_left fun other => ?_))
    subst other
    rw [queued] at which
    exact which.symm
  · by_cases queued : j.state = .queued
    · have same : shownBook j b = j := if_neg (by simp [queued])
      rw [same]
      refine conclude reported (offeredRests read (e := withJobs (j :: rest) base) ?_ ?_)
      · rw [kept]
        exact bookOffered_other fun k hk => by
          have same : j = k := Option.some.inj ((congrArg List.head? jobs').symm.trans hk)
          exact same ▸ ⟨by simp [queued], by simp [queued]⟩
      · exact queueAtRest_cons rfl ⟨fun ended => absurd ended idle.1, fun _ => printing⟩
    · exact shown (who.resolve_right queued) queued (by simp [printing])
  · have matched : isJobsBook j b = true := by
      subst yes
      rw [waits] at which
      exact which.symm
    refine conclude reported (offeredRests read (e := handedTo (.stripeWrite p .repair) base) ?_ ?_)
    · rw [bookOffered_turnWait jobs' waits place, if_pos matched, if_pos ready, if_pos behind]
    · exact queueAtRest_cons jobs' ⟨fun ended => absurd ended idle.1, fun _ => rfl⟩
  · obtain ⟨w, n, goes, begun⟩ := placed yes ready turns
    have starts' : lineStarts j b layout l line m := by
      unfold lineStarts layoutOf at *
      rw [tables]
      exact starts
    have line' : lineHanded j rest b layout l line m base = lineHanded j rest b layout l line s base := by
      unfold lineHanded decimalsOf
      rw [tables]
      rfl
    obtain ⟨rests, printer⟩ := lineHanded_rests begun starts' (n + 2)
    obtain ⟨-, sda, jrn, -⟩ := begun.stands
    rw [← line']
    refine conclude reported ?_
    rw [goes, rests]
    exact ⟨printer, sda, jrn⟩
  · obtain ⟨w, n, goes, begun⟩ := placed yes ready turns
    have stays := stands no
    subst stays
    have final' : printerOf st (goOn st (bookTakenUp st b u)) = some c' := final
    rw [goes] at final' ⊢
    exact placedWithoutLine_goesOn begun book ready n final'

end
end Sys2Proof.Machine
end

section
/-! SUPPORT. The creation of a print job (R84, R85). -/

namespace Sys2Proof.Machine
open Sys2Proof

/-! ## The words of PASSBOOK_STATUS (R68) -/

section
variable {st : Station} {s t m u : State} {c c' c0 : PrinterContext} {j k : Job} {jobs : List Job} {b : Book} {cause : EndCause}

/-- The words are those of the last job of the queue, where it is the one asked for and has not ended. -/
theorem jobStatusWords_last (h : printerOf st t = some c) (queue : c.queue = jobs ++ [k]) (going : k.cause = none) :
    jobStatusWords st k.ref t = jobStateWords k.state := by
  unfold jobStatusWords
  have found : ((printerOf st t).bind fun c => (c.queue.filter fun j => j.ref = k.ref).getLast?) = some k := by
    simp [h, queue, List.filter_append]
  rw [found]
  simp only [going]

/-- The words are those of the end cause that the last advice of the queue reports, where the job has left its queue. -/
theorem jobStatusWords_left {r : Reservation} {n : Nat} {queue : List QueueEntry} (h : printerOf st t = some c)
    (empty : c.queue = [])
    (last : t.sda.queue = queue ++ [.advice { number := n, body := .passbookUpdate r cause, sent := none }]) :
    jobStatusWords st r.ref t = screenWords (endCauseName cause) := by
  unfold jobStatusWords
  have none' : ((printerOf st t).bind fun c => (c.queue.filter fun j => j.ref = r.ref).getLast?) = none := by
    simp [h, empty]
  rw [none']
  simp [last, List.filterMap_append]

/-! ## The reservation (R84) -/

/-- A conversion reaches the first reservation of a reference. -/
theorem convertFirst_last {ref : Ref} {mk : Reservation → Advice} {r : Reservation} (own : r.ref = ref) :
    ∀ {queue : List QueueEntry}, (∀ y, QueueEntry.reservation y ∈ queue → y.ref ≠ ref) →
      convertFirst ref mk (queue ++ [.reservation r]) = queue ++ [.advice (mk r)]
  | [], _ => if_pos own
  | .advice a :: rest, away => by
    have ih := convertFirst_last (mk := mk) own (queue := rest) fun y hy => away y (List.mem_cons_of_mem _ hy)
    simp [convertFirst, ih]
  | .reservation x :: rest, away => by
    have ih := convertFirst_last (mk := mk) own (queue := rest) fun y hy => away y (List.mem_cons_of_mem _ hy)
    have other : x.ref ≠ ref := away x (List.mem_cons_self ..)
    simp [convertFirst, ih, other]

/-- A reservation holds no advice number. -/
theorem adviceNumber_addReservation (r : Reservation) (s : State) : adviceNumber (addReservation r s) = adviceNumber s := by
  have none : [QueueEntry.reservation r].filterMap entryNumber = [] := rfl
  simp [adviceNumber, addReservation, onSda, List.filterMap_append, none]

/-! ## The queue of a printer that a job joins (R85) -/

/-- A head job stands in a printer context in front of others. -/
def headed (jobs : List Job) (c : PrinterContext) : Prop := ∃ k, c.queue = k :: jobs

theorem endWritten_headed : headed jobs (endWritten j jobs c) := by
  unfold endWritten
  split
  · exact ⟨_, rfl⟩
  · split
    · split
      · split <;> exact ⟨_, rfl⟩
      · exact ⟨_, rfl⟩
    · exact ⟨_, rfl⟩

theorem headEnded_headed : headed jobs (headEnded cause j jobs c) := endWritten_headed

theorem lineGiven_headed : headed jobs (lineGiven s j jobs c) := by
  unfold lineGiven
  split <;> exact ⟨_, rfl⟩

theorem pageFilled_headed {page pages : Nat} : headed jobs (pageFilled s j jobs page pages c) := by
  unfold pageFilled
  split
  · exact headEnded_headed
  · exact ⟨_, rfl⟩

theorem startJudged_headed {layout : PltRec} : headed jobs (startJudged s j jobs layout b c) := by
  unfold startJudged
  dsimp only
  split
  · exact headEnded_headed
  · split
    · exact pageFilled_headed
    · exact lineGiven_headed

theorem placementBegun_headed : headed jobs (placementBegun s j jobs b c) := by
  unfold placementBegun
  cases j.layout with
  | some layout => exact startJudged_headed
  | none =>
    cases layoutOf b.bookType s with
    | some layout => exact startJudged_headed
    | none => exact headEnded_headed

theorem owedDealt_queue (b : Book) (c : PrinterContext) : (owedDealt b c).queue = c.queue := by
  unfold owedDealt
  split
  · split
    · split
      · split <;> rfl
      · rfl
    · rfl
  · rfl

theorem waitResumed_headed (h : headed jobs c) : headed jobs (waitResumed s b c) := by
  obtain ⟨k, queue⟩ := h
  unfold waitResumed
  rw [queue]
  dsimp only
  split
  · exact placementBegun_headed
  · exact ⟨k, queue⟩

/-- The first job of a queue, once begun, still stands in front of the others. -/
theorem headBegun_headed : headed jobs (headBegun s j jobs c) := by
  unfold headBegun
  split
  · split
    · split
      · refine waitResumed_headed ⟨_, (owedDealt_queue ..).trans rfl⟩
      · exact placementBegun_headed
    · exact ⟨_, rfl⟩
  · exact ⟨_, rfl⟩

/-- A queue that goes on loses the jobs that end; where none does, its printer's context and screen alone change. -/
theorem advanceQueue_lengths : ∀ (n : Nat) {m u : State} {c : PrinterContext}, atPrinter st c m u →
    ∃ d, printerOf st (advanceQueue n st u) = some d ∧ d.queue.length ≤ c.queue.length ∧
      (d.queue.length = c.queue.length → atPrinter st d m (advanceQueue n st u))
  | 0, m, u, c, h => ⟨c, h.2.2.2, Nat.le_refl _, fun _ => h⟩
  | n + 1, m, u, c, h => by
    by_cases rests : queueAtRest c
    · rw [advanceQueue_rests h.2.2.2 rests]
      exact ⟨c, h.2.2.2, Nat.le_refl _, fun _ => h⟩
    · cases queue : c.queue with
      | nil => exact absurd (fun i hi => by rw [queue] at hi; cases hi) rests
      | cons j rest =>
        by_cases leaves : j.state = .ended ∧ j.outcome.isSome = true
        · rw [advanceQueue_finish h.2.2.2 queue leaves.1 leaves.2]
          obtain ⟨-, printer, -⟩ := finishHead_leaves h queue
          obtain ⟨d, final, shorter, -⟩ := advanceQueue_lengths n (atPrinter_refl printer)
          have less : d.queue.length ≤ rest.length := shorter
          exact ⟨d, final, Nat.le_succ_of_le less, fun same => absurd (same ▸ less) (Nat.not_succ_le_self _)⟩
        · by_cases begins : j.state = .queued ∧ c.state ≠ .printing
          · rw [advanceQueue_begin h.2.2.2 queue begins.1 begins.2]
            obtain ⟨k, jobs⟩ := headBegun_headed (s := m) (j := j) (jobs := rest) (c := c)
            obtain ⟨d, final, shorter, same⟩ := advanceQueue_lengths n (h.afterBegin queue)
            rw [jobs] at shorter same
            exact ⟨d, final, shorter, same⟩
          · refine absurd (queueAtRest_cons queue ⟨fun ended => ?_, fun queued => ?_⟩) rests
            · exact Option.not_isSome_iff_eq_none.1 fun known => leaves ⟨ended, known⟩
            · exact Decidable.byContradiction fun free => begins ⟨queued, free⟩

/-! ## The job created (R84, R85) -/

/-- The state as a job has been created: its reservation granted, and the job behind the others. -/
def jobAdded (st : Station) (j : Job) (c : PrinterContext) (s : State) : State :=
  setPrinter st (some (withJobs (c.queue ++ [j]) c)) (addReservation (createdReservation j) s)

theorem jobAdded_at (h : printerOf st s = some c) :
    atPrinter st (withJobs (c.queue ++ [j]) c) (addReservation (createdReservation j) s) (jobAdded st j c s) :=
  (atPrinter_refl (s := addReservation (createdReservation j) s) ((printerOf_congr st rfl).trans h)).set _

/-- The queue of the SDA as the end of a head job is completed. -/
theorem finishHead_sda (h : atPrinter st c s u) (queue : c.queue = j :: jobs) :
    (finishHead st (tellerAt st u) u).sda = { s.sda with
      queue := convertFirst j.ref (fun _ => { number := adviceNumber s
                                              body := .passbookUpdate (jobReservation j) (j.cause.getD .complete)
                                              sent := none }) s.sda.queue
      nextAdvice := wrapNext 65535 (adviceNumber s) } := by
  obtain ⟨-, sda, -⟩ := h.stands
  have head : headJob st u = some j := by rw [h.head, queue]; rfl
  let v := convertReservation j.ref (fun _ => jobReservation j) (j.cause.getD .complete) u
  have number : adviceNumber u = adviceNumber s := by
    unfold adviceNumber
    rw [sda]
  have run : (finishHead st (tellerAt st u) u).sda = v.sda := by
    unfold finishHead
    rw [head]
    refine Eq.trans (b := (writeEntry 0 (passbookDraft st (tellerAt st u) (jobReservation j) (j.cause.getD .complete)
      (j.outcome.getD .notDue)) v).sda) (by simp [v]) (writeEntry_sda (k := 0)
      (d := passbookDraft st (tellerAt st u) (jobReservation j) (j.cause.getD .complete) (j.outcome.getD .notDue)) rfl v)
  rw [run, ← sda, ← number]
  rfl

/-- A job that its placement ends at its start, as it was created, leaves with its advice and its entry. -/
theorem jobAdded_ends (h : atPrinter st (placementBegun s k [] b c0) (addReservation (createdReservation j) s) u)
    (ref : k.ref = j.ref) (alike : jobReservation (metBook k b) = jobReservation (metBook j b)) (ends : endsAtStart k b s cause) (away : ∀ y, QueueEntry.reservation y ∈ s.sda.queue → y.ref ≠ j.ref) (n : Nat) :
    printerOf st (advanceQueue (n + 1) st u) = some (endedAtStart [] cause s c0) ∧
      jobStatusWords st j.ref (advanceQueue (n + 1) st u) = screenWords (endCauseName cause) ∧
      (advanceQueue (n + 1) st u).sda = { s.sda with
        queue := s.sda.queue ++ [.advice { number := adviceNumber s
                                           body := .passbookUpdate (jobReservation (metBook j b)) cause
                                           sent := none }]
        nextAdvice := wrapNext 65535 (adviceNumber s) } ∧
      (canWrite 0 (passbookDraft st (tellerAt st s) (jobReservation (metBook j b)) cause .notDue) s →
        wrote 0 (passbookDraft st (tellerAt st s) (jobReservation (metBook j b)) cause .notDue) s (advanceQueue (n + 1) st u)) := by
  obtain ⟨q, begun, ended, known, caused, same, named⟩ := placementBegun_ends (rest := []) (c := c0) ends
  replace same := same.trans alike
  replace ref := named.trans ref
  rw [begun] at h
  obtain ⟨-, printer, report⟩ := finishHead_leaves h rfl
  have sda := finishHead_sda h rfl
  rw [caused, known, same] at report
  rw [caused, same, ref] at sda
  have run : advanceQueue (n + 1) st u = finishHead st (tellerAt st u) u :=
    (advanceQueue_finish h.2.2.2 rfl ended (by simp [known]) n).trans
      (advanceQueue_rests printer (fun k hk => by cases hk) n)
  have queued : (finishHead st (tellerAt st u) u).sda = { s.sda with
      queue := s.sda.queue ++ [.advice { number := adviceNumber s
                                         body := .passbookUpdate (jobReservation (metBook j b)) cause
                                         sent := none }]
      nextAdvice := wrapNext 65535 (adviceNumber s) } := by
    rw [sda, adviceNumber_addReservation]
    exact congrArg (fun queue => { s.sda with queue := queue, nextAdvice := wrapNext 65535 (adviceNumber s) })
      (convertFirst_last (r := createdReservation j) (ref := j.ref) rfl away)
  rw [run]
  refine ⟨?_, ?_, queued, fun room => ?_⟩
  · rw [printer]
    simp only [endedAtStart, nextWaits, withJobs, withPrompt, promptAtEnd_eq]
  · exact jobStatusWords_left (r := jobReservation (metBook j b)) printer rfl (by rw [queued])
  · exact (jobReported_alike (j := metBook j b) (report room) same ref).1

theorem owedFor_owes (owed : owedFor c b = true) : ∃ o, c.owed = some o := by
  unfold owedFor at owed
  cases held : c.owed with
  | none => rw [held] at owed; cases owed
  | some o => exact ⟨o, rfl⟩

/-- Whether an owed write stands for a book or has been cleared does not turn on the queue. -/
theorem owedDealt_withJobs (jobs : List Job)
    (deal : (owedFor c b = false ∧ c0 = c) ∨
      (∃ o, owedFor c b = true ∧ c.owed = some o ∧ placeBefore (bookPlace b) o.place = false ∧ c0 = { c with owed := none })) :
    (owedFor (withJobs jobs c) b = false ∧ withJobs jobs c0 = withJobs jobs c) ∨
      (∃ o, owedFor (withJobs jobs c) b = true ∧ (withJobs jobs c).owed = some o ∧ placeBefore (bookPlace b) o.place = false ∧
        withJobs jobs c0 = { withJobs jobs c with owed := none }) := by
  rcases deal with ⟨none, rfl⟩ | ⟨o, owed, held, before, rfl⟩
  · exact .inl ⟨none, rfl⟩
  · exact .inr ⟨o, owed, held, before, rfl⟩

/-- A job that joins an empty queue of a printer that is not PRINTING begins. -/
theorem jobAdded_begins (h : printerOf st s = some c) (queue : c.queue = []) (fresh : j.state = .queued)
    (free : c.state ≠ .printing) : headBegins st j [] (withJobs [j] c) (jobAdded st j c s) (goOn st (jobAdded st j c s)) := by
  have at' := jobAdded_at (j := j) h
  rw [queue] at at'
  exact headBegins_goesOn at'.2.2.2 rfl fresh free 6

/-- A job that joins an empty queue, and whose placement ends it at its start. -/
theorem jobAdded_leaves (h : printerOf st s = some c) (queue : c.queue = []) (fresh : j.state = .queued)
    (book : c.book = some b) (own : bookMatches j b = true) (ready : c.state = .ready)
    (deal : (owedFor c b = false ∧ c0 = c) ∨
      (∃ o, owedFor c b = true ∧ c.owed = some o ∧ placeBefore (bookPlace b) o.place = false ∧ c0 = { c with owed := none }))
    (ends : endsAtStart j b s cause) (away : ∀ y, QueueEntry.reservation y ∈ s.sda.queue → y.ref ≠ j.ref) :
    printerOf st (goOn st (jobAdded st j c s)) = some (endedAtStart [] cause s c0) ∧
      jobStatusWords st j.ref (goOn st (jobAdded st j c s)) = screenWords (endCauseName cause) ∧
      (goOn st (jobAdded st j c s)).sda = { s.sda with
        queue := s.sda.queue ++ [.advice { number := adviceNumber s
                                           body := .passbookUpdate (jobReservation (metBook j b)) cause
                                           sent := none }]
        nextAdvice := wrapNext 65535 (adviceNumber s) } ∧
      (canWrite 0 (passbookDraft st (tellerAt st s) (jobReservation (metBook j b)) cause .notDue) s →
        wrote 0 (passbookDraft st (tellerAt st s) (jobReservation (metBook j b)) cause .notDue) s
          (goOn st (jobAdded st j c s))) := by
  have at' := jobAdded_at (j := j) h
  rw [queue, List.nil_append] at at'
  have began := at'.afterBegin rfl
  obtain ⟨q, begun, -, -, which⟩ := headBegun_placed (s := addReservation (createdReservation j) s) (more := [])
    (c := withJobs [j] c) book own ready (owedDealt_withJobs [j] deal)
  have run : goOn st (jobAdded st j c s) = advanceQueue (7 + 1) st (beginHead st (jobAdded st j c s)) :=
    advanceQueue_begin at'.2.2.2 rfl fresh (by simp [withJobs, ready]) 8
  rw [begun] at began
  rw [run]
  rcases which with rfl | rfl
  · exact jobAdded_ends began rfl rfl ends away 7
  · exact jobAdded_ends began rfl rfl ends away 7

/-- A job created joins its queue, and begins where it is its head. -/
theorem jobAdded_joins (h : printerOf st s = some c) (fresh : j.state = .queued) (going : j.cause = none)
    (final : printerOf st (goOn st (jobAdded st j c s)) = some c') :
    jobJoins j s c c' (jobStatusWords st j.ref (goOn st (jobAdded st j c s))) := by
  have at' := jobAdded_at (j := j) h
  have words : ∀ k jobs, c'.queue = jobs ++ [k] → k.ref = j.ref → k.cause = none →
      jobStatusWords st j.ref (goOn st (jobAdded st j c s)) = jobStateWords k.state := fun k jobs queue ref cause =>
    ref ▸ jobStatusWords_last final queue cause
  have rests : queueAtRest (withJobs (c.queue ++ [j]) c) → c' = { c with queue := c.queue ++ [j] } ∧
      jobStatusWords st j.ref (goOn st (jobAdded st j c s)) = "QUEUED".toList := fun rests => by
    have same : c' = withJobs (c.queue ++ [j]) c := by
      rw [goOn, advanceQueue_rests at'.2.2.2 rests] at final
      exact Option.some.inj (final.symm.trans at'.2.2.2)
    refine ⟨same, (words j c.queue (by rw [same]; rfl) rfl going).trans ?_⟩
    rw [fresh]
    rfl
  refine ⟨fun k rest queue queued ended => ?_, fun none printing => ?_, fun none free away => ?_, fun b none ready book own => ?_⟩
  · exact rests (queueAtRest_cons (k := k) (rest := rest ++ [j]) (by simp [withJobs, queue]) ⟨ended, queued⟩)
  · have := rests (queueAtRest_cons (k := j) (rest := []) (by simp [withJobs, none]) ⟨by simp [fresh], fun _ => printing⟩)
    rw [none] at this
    exact this
  · obtain ⟨d, final', waits, -⟩ := jobAdded_begins h none fresh free
    have same : c' = d := Option.some.inj (final.symm.trans final')
    subst same
    have away' : (∀ b, (withJobs [j] c).book = some b → bookMatches j b = false) ∨ (withJobs [j] c).state ≠ .ready := by
      by_cases ready : c.state = .ready
      · exact .inl fun b book => (away b book).resolve_right (fun no => no ready)
      · exact .inr ready
    obtain ⟨same, -⟩ := waits away'
    exact ⟨same, words (waitsForBook j s) [] (by rw [same]; rfl) rfl going⟩
  · obtain ⟨d, final', -, begins⟩ := jobAdded_begins h none fresh (by simp [ready])
    have same : c' = d := Option.some.inj (final.symm.trans final')
    subst same
    obtain ⟨handed, placed⟩ := begins b book own ready
    refine ⟨fun o owed held behind => ?_, fun c0 deal => ⟨fun layout l line starts => ?_, fun layout turns => ?_,
      fun cause ends away => ?_⟩⟩
    · obtain ⟨same, -⟩ := handed o owed held behind
      exact ⟨same, words (waitsForBook (metBook j b) s) [] (by rw [same]; rfl) rfl going⟩
    · obtain ⟨lines, -⟩ := placed (withJobs [j] c0) (owedDealt_withJobs [j] deal)
      obtain ⟨same, -⟩ := lines layout l line starts
      exact ⟨same, words { metBook j b with layout := some layout, place := some ⟨b.page, line⟩, state := .printing } []
        (by rw [same]; rfl) rfl going⟩
    · obtain ⟨-, -, turned, -⟩ := placed (withJobs [j] c0) (owedDealt_withJobs [j] deal)
      obtain ⟨same, -⟩ := turned layout turns
      exact ⟨same, words { metBook j b with
        layout := some layout, place := some ⟨b.page + 1, 1⟩, state := .turnWait,
        timer := some (s.uptime + 1000 * s.mrs.settings.pageTurn) } [] (by rw [same]; rfl) rfl going⟩
    · obtain ⟨final', shown, -⟩ := jobAdded_leaves h none fresh book own ready deal ends away
      refine ⟨Option.some.inj (final.symm.trans final'), shown.trans ?_⟩
      rcases ends with ⟨-, -, -, rfl⟩ | ⟨_, _, -, ⟨-, rfl⟩ | ⟨-, -, -, -, rfl⟩⟩ <;> rfl

end
end Sys2Proof.Machine
end

section
/-! SUPPORT. The posting of a leg, the pulse of the drawer release, and the end of an entry with what they leave (R44 to R47, R175). -/

namespace Sys2Proof.Machine
open Sys2Proof

section
variable {st : Station} {n : Nat} {s s' t t' u : State} {g : Leg} {leg : Option Leg} {counts : Leg → Position → Position}

/-! ## The pulse (R175) -/

theorem requestPulse_pulsed (st : Station) (s : State) : drawerPulsed st s (requestPulse st s) := by
  have kept : (requestPulse st s).slc.samples = s.slc.samples := by simp
  have stands : (¬ ((lineOf st s).pulse = none ∧
      ∃ w, lineWith .drawerRelease (lineOf st s).setup = some w ∧ (lineOf st s).latches.get w = false)) →
      requestPulse st s = s → drawerPulsed st s (requestPulse st s) := fun no same => by
    rw [same]
    exact ⟨false, by simpa using no, rfl, rfl, fun _ _ => rfl⟩
  cases wire : lineWith .drawerRelease (lineOf st s).setup with
  | none => exact stands (by simp [wire]) (by simp only [requestPulse, wire])
  | some w =>
    cases latch : (lineOf st s).latches.get w with
    | true => exact stands (by simp [wire, latch]) (by simp only [requestPulse, wire, latch, if_true])
    | false =>
      cases pulse : (lineOf st s).pulse with
      | some x => exact stands (by simp [pulse]) (by simp [requestPulse, wire, latch, pulse])
      | none =>
        have run : requestPulse st s = onLine st (fun l => { l with pulse := some (millisAhead Config.pulseTime s) }) s := by
          simp [requestPulse, wire, latch, pulse]
        rw [run] at kept ⊢
        exact ⟨true, by simp [pulse, wire, latch], kept, by simp [millisAhead, Config.pulseTime],
          fun x hx => by simp [hx]⟩

theorem drawerPulsed_congr (h : drawerPulsed st s t) (slc : s'.slc = s.slc) (time : s'.uptime = s.uptime) (same : t'.slc = t.slc) :
    drawerPulsed st s' t' := by
  unfold drawerPulsed lineBecomes otherLines lineOf at *
  rw [slc, time, same]
  exact h

theorem drawerPulsed_others (h : drawerPulsed st s t) : otherLines st s t := by
  obtain ⟨-, -, -, -, others⟩ := h
  exact others

/-! ## The posting (R44, R45, R47) -/

theorem excessFollows_after (h : excessFollows st n s t) (csh : u.csh = t.csh)
    (flag : flagSet .excessCash u.mrs.flags = flagSet .excessCash t.mrs.flags) : excessFollows st n s u := by
  unfold excessFollows drawerOf at *
  rw [csh, flag]
  exact h

/-- A leg, if there is one, has been posted at a station's drawer for a teller. -/
def legPosted (st : Station) (n : Nat) (leg : Option Leg) (counts : Leg → Position → Position) (s t : State) : Prop :=
  keeps [.csh, .scm, .blc, .mrs] s t ∧ otherScreens st s t ∧ raisedOnly cashFlags s t ∧
    (∀ p, p ≠ some st → positionOf p t = positionOf p s) ∧
    sameButExcess (drawerOf st t)
      (afterLeg (fun g p => postedFigures g (retotal (facesOf s) (counts g p))) leg (drawerOf st s)) ∧
    (leg = none → excessStands st s t) ∧ (leg ≠ none → excessFollows st n s t)

theorem legPosted_none : legPosted st n none counts s s :=
  ⟨keeps_refl _ s, otherScreens_refl st s, raisedOnly_refl _ s, fun _ _ => rfl, rfl, fun _ => ⟨rfl, rfl⟩, fun no => absurd rfl no⟩

theorem legPosted_some (same : ∀ p, (counts g p).excess = p.excess) :
    legPosted st n (some g) counts s (postAt st n g counts s) := by
  let posted := setPosition (some st) (postedFigures g (retotal (facesOf s) (counts g (drawerOf st s)))) s
  let raised := raiseIf (postingSaturates g (drawerOf st s)) .counterSaturated posted
  have run : postAt st n g counts s = evaluateExcess st n raised := rfl
  have csh : raised.csh = posted.csh := by simp [raised]
  have figures : ∀ p, positionOf p raised = positionOf p posted := fun p => by
    unfold positionOf drawerOf
    rw [csh]
  obtain ⟨drawer, others⟩ := evaluateExcess_positions st n raised
  obtain ⟨follows, -⟩ := postAt_follows (st := st) (n := n) (g := g) (s := s) same rfl
  have raises : raisedOnly cashFlags s raised := by
    have quiet : raised.blc = s.blc := (blc_raiseIf rfl _ posted).trans (by simp [posted])
    exact raisedOnly_from (raisedOnly_raiseIf (by decide) _ posted) (by simp [posted]) (by simp [posted])
  refine ⟨by simp [keeps], ?_, ?_, fun p hp => ?_, ?_, (fun no => by cases no), fun _ => follows⟩
  · rw [run]
    exact otherScreens_trans (t := raised) (otherScreens_of (by simp [raised, posted])) (otherScreens_evaluateExcess st n raised)
  · rw [run]
    exact raisedOnly_trans raises (raisedOnly_evaluateExcess (by decide) st n raised)
  · rw [run, others p hp, figures]
    simp [posted, positionOf_setPosition, hp]
  · rw [run]
    have placed : drawerOf st raised = postedFigures g (retotal (facesOf s) (counts g (drawerOf st s))) := by
      have := figures (some st)
      rw [positionOf_setPosition, if_pos rfl] at this
      exact this
    rw [placed] at drawer
    exact drawer

theorem legPosted_postApproved (e : OttEntry) (s : State) :
    ∃ v, legPosted e.ref.station e.teller e.leg postedCounts s v ∧
      ((∀ g, e.leg = some g → g.rounded = 0) → postApproved e s = v) ∧
      (∀ g, e.leg = some g → g.rounded ≠ 0 → postApproved e s = requestPulse e.ref.station v) := by
  unfold postApproved
  cases e.leg with
  | none => exact ⟨s, legPosted_none, fun _ => rfl, fun g hg => by cases hg⟩
  | some g =>
    refine ⟨postLeg e.ref.station e.teller g s, legPosted_some fun p => (legCounts_excess g p).1, fun zero => ?_, fun k hk some => ?_⟩
    · exact if_pos (zero g rfl)
    · cases hk
      exact if_neg some

/-! ## The end of an entry (R22), and the result that is shown (R65, R68) -/

theorem endEntry_writes {e : OttEntry} {o : TxnOutcome} {b : Breakdown} (room : canWrite 4 (txnDraft e o b) s) :
    wrote 4 (txnDraft e o b) s (endEntry e o b s) ∧ countedFor (some e.teller) s (endEntry e o b s) := by
  refine ⟨wrote_congr (writeEntry_wrote room) rfl rfl rfl (by simp [endEntry, Config.ottSlots]), ?_⟩
  have counted := writeEntry_counted room
  simpa [countedFor, endEntry, Config.ottSlots, countedTeller, txnDraft] using counted

/-- What the sources of a result read stands while the tables, the date and the sign-on state do. -/
theorem sourceText_shown {info : ResultInfo} (tbl : t.tbl = s.tbl) (date : t.day.date = s.day.date)
    (teller : tellerAt st t = tellerAt st s) : sourceText st info t =
      shownText st (fun tag => (info.reply.bind fun r => fieldText r.fields tag).getD []) info.breakdown
        (positionOf info.position t).total info.passbook info.ref info.reason s := by
  funext f
  have faces : facesOf t = facesOf s := by unfold facesOf; rw [tbl]
  have decimals : decimalsOf t = decimalsOf s := by unfold decimalsOf; rw [tbl]
  unfold sourceText shownText
  rw [faces, decimals, date, teller]
  cases f.source with
  | replyTag => cases info.reply <;> rfl
  | breakdown => rfl
  | positionTotal => rfl
  | passbookStatus => rfl
  | businessDate => cases s.day.date <;> rfl
  | teller => cases tellerAt st s <;> rfl
  | reference => rfl
  | reason => rfl

/-- The result that a composition shows, told of a state with the same tables, date and sign-on state. -/
theorem resultShows_composeResult {info : ResultInfo} {number : Nat} {message : Text} (some : (contextOf st t).isSome = true)
    (tbl : t.tbl = s.tbl) (date : t.day.date = s.day.date) (teller : tellerAt st t = tellerAt st s) :
    resultShows st number
      (shownText st (fun tag => (info.reply.bind fun r => fieldText r.fields tag).getD []) info.breakdown
        (positionOf info.position t).total info.passbook info.ref info.reason s) s
      (composeResult st number info message t) := by
  obtain ⟨c, hc⟩ := Option.isSome_iff_exists.1 some
  have shown := contextOf_composeResult st st number info message t
  rw [if_pos rfl, hc] at shown
  have format : formatOf number t = formatOf number s := by unfold formatOf; rw [tbl]
  have decimals : decimalsOf t = decimalsOf s := by unfold decimalsOf; rw [tbl]
  refine ⟨_, shown, rfl, format, rfl, fun fmt i f active output field => ?_⟩
  rw [← sourceText_shown tbl date teller, ← decimals, ← resultTexts_getElem (st := st) (info := info) (s := t) output field]
  show (((formatOf number t).map (resultTexts st info t)).getD [])[i]? = _
  rw [format, active]
  rfl

end
end Sys2Proof.Machine
end

section
/-! SUPPORT. An APPROVED reply (R22). -/

namespace Sys2Proof.Machine
open Sys2Proof

section
variable {st : Station} {e : OttEntry} {r : Reply} {s t : State} {c : PrinterContext} {account : Text}

/-- The frame of a message leaves EXCESS_CASH as it was. -/
theorem flagSet_arrive {f : EventFlag} (other : f ≠ .linkRestored) (s : State) :
    flagSet f (arrive s).mrs.flags = flagSet f s.mrs.flags := by
  have part : (arrive s).mrs = (validFrame s).mrs := by
    unfold arrive discardPart
    cases (validFrame s).blc.reassembly <;> simp
  rw [part]
  unfold validFrame
  split
  · have run : (restoreLink s).mrs =
        (raise .linkRestored (restartSilence (onBlc (fun b => { b with link := restoredState s }) s))).mrs := by simp [restoreLink]
    rw [run, flagSet_raise_eq]
    simp [other, restartSilence]
  · simp [restartSilence]

/-! ## The lines of an approval (R84) -/

theorem takeLines_none (h : r.lines = [] ∨ e.passbookUse = .notUsed) : takeLines e r s = (s, "NO LINES".toList) := if_pos h

theorem takeLines_full (some : r.lines ≠ []) (used : e.passbookUse ≠ .notUsed)
    (full : ∀ c, printerOf e.ref.station s = .some c →
      4 ≤ c.queue.length ∨ linesAccount e = none ∨ 72 ≤ queueCount isGeneral s) :
    takeLines e r s = (s, "QUEUE FULL".toList) := by
  refine (if_neg (by simp [some, used])).trans ?_
  unfold createJob
  dsimp only
  cases printer : printerOf e.ref.station s with
  | none => rfl
  | some c =>
    dsimp only
    by_cases queue : Config.printQueueCapacity ≤ c.queue.length
    · rw [if_pos queue]
    · rw [if_neg queue]
      cases account : jobAccount e.account e.snapshot with
      | none => rfl
      | some account' =>
        refine if_pos ?_
        rcases full c printer with long | none | general
        · exact absurd long queue
        · have same : linesAccount e = jobAccount e.account e.snapshot := rfl
          rw [same, account] at none
          cases none
        · have away : ¬ queueCount isGeneral s < Config.generalCapacity := Nat.not_lt.2 general
          simp [generalRoom, away]

theorem takeLines_made (some : r.lines ≠ []) (used : e.passbookUse ≠ .notUsed) (printer : printerOf e.ref.station s = .some c)
    (short : c.queue.length < 4) (known : linesAccount e = .some account) (room : queueCount isGeneral s < 72) :
    takeLines e r s = (goOn e.ref.station (jobAdded e.ref.station (askedJob e r account) c s),
      jobStatusWords e.ref.station e.ref (goOn e.ref.station (jobAdded e.ref.station (askedJob e r account) c s))) := by
  have same : jobAccount e.account e.snapshot = .some account := known
  have added : onPrinter e.ref.station (fun c => { c with queue := c.queue ++ [askedJob e r account] })
      (addReservation (createdReservation (askedJob e r account)) s) = jobAdded e.ref.station (askedJob e r account) c s :=
    onPrinter_of (s := addReservation (createdReservation (askedJob e r account)) s)
      ((printerOf_congr e.ref.station rfl).trans printer) _
  refine (if_neg (by simp [some, used])).trans ?_
  unfold createJob
  dsimp only
  rw [printer]
  dsimp only
  rw [if_neg (show ¬ Config.printQueueCapacity ≤ c.queue.length from Nat.not_le.2 short), same]
  dsimp only
  rw [if_neg (by simp [generalRoom, Config.generalCapacity, room]), ← added]
  rfl

/-- The lines of an approval reach one printer, with the queue and the journal its job's end writes to. -/
theorem takeLines_reach (e : OttEntry) (r : Reply) (s : State) : ofPrinter e.ref.station s (takeLines e r s).1 := by
  by_cases none : r.lines = [] ∨ e.passbookUse = .notUsed
  · rw [takeLines_none none]
    exact ofPrinter_refl _ s
  · rw [not_or] at none
    by_cases full : ∀ c, printerOf e.ref.station s = .some c →
        4 ≤ c.queue.length ∨ linesAccount e = Option.none ∨ 72 ≤ queueCount isGeneral s
    · rw [takeLines_full none.1 none.2 full]
      exact ofPrinter_refl _ s
    · push Not at full
      obtain ⟨c, printer, short, known, room⟩ := full
      obtain ⟨account, known⟩ := Option.ne_none_iff_exists'.1 known
      rw [takeLines_made none.1 none.2 printer short known room]
      have at' := jobAdded_at (j := askedJob e r account) printer
      have granted : ofPrinter e.ref.station s (addReservation (createdReservation (askedJob e r account)) s) :=
        ⟨by simp [keeps, printerBlocks], fun _ _ => rfl, otherScreens_of rfl, raisedOnly_of_eq (raisedOnly_refl _ s) rfl rfl⟩
      exact ofPrinter_trans granted (ofPrinter_trans (ofPrinter_of_at at') (advanceQueue_goesOn queueTurns at'.2.2.2).1)

/-- An APPROVED reply that finds its entry AWAITING. -/
theorem takeReply_approved {deadline : Nat} (station : r.station = st.num) (outcome : r.outcome = 1)
    (lines : r.lines.length ≤ 24) (found : ottEntry ⟨st, r.seq⟩ s = some e) (awaiting : e.state = .awaiting deadline) :
    takeReply st (some r) s = approve e r s := by
  have fits : ¬ Config.jobLines < r.lines.length := Nat.not_lt.2 lines
  simp [takeReply, replyApproved, replyRef, station, outcome, fits, found, awaiting]

/-- What the posting of an approved leg and its pulse leave. -/
theorem postApproved_reach (e : OttEntry) (s : State) :
    keeps [.csh, .scm, .slc, .blc, .mrs] s (postApproved e s) ∧ otherScreens e.ref.station s (postApproved e s) ∧
      raisedOnly cashFlags s (postApproved e s) ∧ otherLines e.ref.station s (postApproved e s) ∧
      ((∀ g, e.leg = some g → g.rounded = 0) → (postApproved e s).slc = s.slc) ∧
      (∀ g, e.leg = some g → g.rounded ≠ 0 → drawerPulsed e.ref.station s (postApproved e s)) ∧
      (∀ p, p ≠ some e.ref.station → positionOf p (postApproved e s) = positionOf p s) ∧
      sameButExcess (drawerOf e.ref.station (postApproved e s))
        (afterLeg (fun g p => postedFigures g (retotal (facesOf s) (postedCounts g p))) e.leg (drawerOf e.ref.station s)) ∧
      (e.leg = none → excessStands e.ref.station s (postApproved e s)) ∧
      (e.leg ≠ none → excessFollows e.ref.station e.teller s (postApproved e s)) := by
  obtain ⟨v, ⟨kept, screens, raised, others, drawer, stands, follows⟩, still, pulsed⟩ := legPosted_postApproved e s
  by_cases zero : ∀ g, e.leg = some g → g.rounded = 0
  · have slc : v.slc = s.slc := by
      obtain ⟨-, -, -, -, -, -, -, -, -, -, slc, -⟩ := kept
      exact slc (by simp)
    rw [still zero]
    refine ⟨keeps_mono kept (by simp), screens, raised, fun x _ => by unfold lineOf; rw [slc], fun _ => slc,
      fun g hg some => absurd (zero g hg) some, others, drawer, stands, follows⟩
  · push Not at zero
    obtain ⟨g, leg, some⟩ := zero
    have time : v.uptime = s.uptime := kept.2.1
    have slc : v.slc = s.slc := by
      obtain ⟨-, -, -, -, -, -, -, -, -, -, slc, -⟩ := kept
      exact slc (by simp)
    have pulse := drawerPulsed_congr (requestPulse_pulsed e.ref.station v) (s' := s)
      (t' := requestPulse e.ref.station v) slc.symm time.symm rfl
    rw [pulsed g leg some]
    refine ⟨keeps_trans (keeps_mono kept (by simp)) (by simp [keeps]), otherScreens_trans screens (otherScreens_of (by simp)),
      raisedOnly_of_eq raised (by simp) (by simp), drawerPulsed_others pulse, fun all => absurd (all g leg) some,
      fun _ _ _ => pulse, fun p hp => ?_, ?_, fun none => ?_, fun any => excessFollows_after (follows any) (by simp) (by simp)⟩
    · rw [← others p hp]
      cases p <;> simp [positionOf, drawerOf]
    · have same : drawerOf e.ref.station (requestPulse e.ref.station v) = drawerOf e.ref.station v := by simp [drawerOf]
      rw [same]
      exact drawer
    · rw [none] at leg
      cases leg

theorem postedBreakdown_eq (e : OttEntry) : postedBreakdown e = (e.leg.map Leg.breakdown).getD [] := by
  unfold postedBreakdown
  cases e.leg <;> rfl

/-- The end of an entry, with its result, leaves the rest of the SDA's record. -/
theorem sda_tellerDays {s t : State} (queue : t.sda.queue = s.sda.queue) (next : t.sda.nextAdvice = s.sda.nextAdvice)
    (map : t.sda.accountMap = s.sda.accountMap) (acks : t.sda.unmatchedAcks = s.sda.unmatchedAcks) :
    { t.sda with tellerDays := s.sda.tellerDays } = s.sda := by
  dsimp only
  rw [queue, next, map, acks]

/-- What a job's creation reads of a state stands while the time, the settings, the tables and the queue do. -/
theorem jobJoins_congr {j : Job} {c c' : PrinterContext} {words : Text} (h : jobJoins j t c c' words) (time : t.uptime = s.uptime)
    (settings : t.mrs.settings = s.mrs.settings) (tbl : t.tbl = s.tbl) (queue : t.sda.queue = s.sda.queue) :
    jobJoins j s c c' words := by
  simp only [jobJoins, waitsForBook, lineStarts, layoutOf, lineHanded, decimalsOf, turnsAtStart, startsAt, turnedAtStart,
    endsAtStart, endedAtStart, nextWaits, time, settings, tbl, queue] at h ⊢
  exact h

theorem endsAtStart_congr {j : Job} {b : Book} {cause : EndCause} (h : endsAtStart j b s cause) (tbl : t.tbl = s.tbl) :
    endsAtStart j b t cause := by
  simp only [endsAtStart, startsAt, layoutOf, tbl] at h ⊢
  exact h

/-- A job that has left the queue it joined has begun its placement there. -/
theorem jobJoins_left {j : Job} {c c' : PrinterContext} {words : Text} {b : Book} (h : jobJoins j s c c' words)
    (empty : c.queue = []) (gone : c'.queue = []) (book : c.book = some b) :
    bookMatches j b = true ∧ c.state = .ready ∧ ∃ c0, (owedFor c b = false ∧ c0 = c) ∨
      (∃ o, owedFor c b = true ∧ c.owed = some o ∧ placeBefore (bookPlace b) o.place = false ∧
        c0 = { c with owed := none }) := by
  obtain ⟨-, busy, waits, begins⟩ := h
  have free : c.state ≠ .printing := fun printing => by
    obtain ⟨same, -⟩ := busy empty printing
    rw [same] at gone
    cases gone
  by_cases own : bookMatches j b = true ∧ c.state = .ready
  · refine ⟨own.1, own.2, ?_⟩
    by_cases owed : owedFor c b = true
    · obtain ⟨o, held⟩ := owedFor_owes owed
      by_cases behind : placeBefore (bookPlace b) o.place = true
      · obtain ⟨same, -⟩ := (begins b empty own.2 book own.1).1 o owed held behind
        rw [same] at gone
        cases gone
      · exact ⟨_, .inr ⟨o, owed, held, by simpa using behind, rfl⟩⟩
    · exact ⟨c, .inl ⟨by simpa using owed, rfl⟩⟩
  · obtain ⟨same, -⟩ := waits empty free fun x hx => by
      have same : x = b := Option.some.inj (hx.symm.trans book)
      subst same
      rw [not_and_or] at own
      exact own.imp_left fun no => by simpa using no
    rw [same] at gone
    cases gone

/-- Settles O25: the posting, the lines, the entry and the result, each by its own rule. -/
theorem approvedReplyPostsTheLeg : Obligations.ApprovedReplyPostsTheLeg := by
  intro dest r s e deadline d station outcome lines found awaiting draft
  have named := ottEntry_ref found
  have here : dest = e.ref.station := by rw [named]
  have seq : r.seq = e.ref.seq := by rw [named]
  subst here
  have taken : takeReply e.ref.station (some r) (arrive s) = approve e r (arrive s) :=
    takeReply_approved station outcome lines ((ottEntry_congr (s := s) (by simp)).trans found) awaiting
  have same : txnDraft e .approved (postedBreakdown e) = d := by
    rw [draft, postedBreakdown_eq, seq]
    rfl
  rw [← named]
  let w0 := arrive s
  let w1 := postApproved e w0
  let w2 := (takeLines e r w1).1
  let words := (takeLines e r w1).2
  let w3 := endEntry e .approved (postedBreakdown e) w2
  let info : ResultInfo :=
    { reply := some r, breakdown := postedBreakdown e, position := some e.ref.station, passbook := words, ref := e.ref,
      reason := r.reason }
  let u := composeResult e.ref.station e.approveFormat info (refMessage "APPROVED".toList e.ref) w3
  have run : exec (.reply e.ref.station (some r)) s = .next (judgeSettle u) :=
    (exec_reply e.ref.station r s).trans (congrArg (fun t => Host.Outcome.next (judgeSettle t)) taken)
  obtain ⟨kept, screens, raised, others, still, pulsed, positions, drawer, stands, follows⟩ := postApproved_reach e w0
  have reach : ofPrinter e.ref.station w1 w2 := takeLines_reach e r w1
  obtain ⟨kept2, printers, screens2, raised2⟩ := reach
  have kept0 : keeps [.scm, .blc, .mrs] s w0 := by simp [keeps, w0]
  have ends : keeps [.ttr, .scm, .sda, .jrn, .blc, .mrs] w2 u := by simp [keeps, u, w3]
  have kept02 : keeps [.csh, .scm, .pbk, .sda, .jrn, .slc, .blc, .mrs] s w2 :=
    keeps_trans (keeps_mono (keeps_trans (keeps_mono kept0 (by decide)) kept) (by decide)) (keeps_mono kept2 (by decide))
  obtain ⟨ttr, -, -, -, -, -, day, tbl, -⟩ := keeps_stands kept02
  obtain ⟨-, csh, -, -, -, -, -, -, slc, -⟩ := keeps_stands kept2
  obtain ⟨-, -, -, pbk1, sda1, jrn1, -, tbl1, -⟩ := keeps_stands (keeps_trans (keeps_mono kept0 (by decide)) kept)
  have money : u.csh = w1.csh := (by simp [u, w3] : u.csh = w2.csh).trans (csh (by decide))
  have wires : u.slc = w1.slc := (by simp [u, w3] : u.slc = w2.slc).trans (slc (by decide))
  have place : ∀ p, positionOf p u = positionOf p w1 := fun p => by
    unfold positionOf drawerOf
    rw [money]
  have clock : w2.mrs.clock = s.mrs.clock := by
    have later : w2.mrs.clock = w1.mrs.clock := (congrArg Mrs.clock raised2.1 : _)
    have posted : w1.mrs.clock = w0.mrs.clock := (congrArg Mrs.clock raised.1 : _)
    exact later.trans (posted.trans (by simp [w0]))
  have entry : canWrite 4 d w2 → wrote 4 d w2 u ∧ countedFor (some e.teller) w2 u := fun room => by
    obtain ⟨written, counted⟩ := endEntry_writes (e := e) (o := .approved) (b := postedBreakdown e) (s := w2) (by rw [same]; exact room)
    rw [same] at written
    exact ⟨wrote_congr written rfl rfl rfl (by simp [u, w3]), by simpa [countedFor, u, w3] using counted⟩
  have sda : { u.sda with tellerDays := w2.sda.tellerDays } = w2.sda :=
    sda_tellerDays (by simp [u, w3]) (by simp [u, w3]) (by simp [u, w3]) (by simp [u, w3])
  have flags : raisedOnly cashFlags w0 u := by
    refine raisedOnly_trans raised (raisedOnly_trans (raisedOnly_mono raised2 fun _ h => List.mem_cons_of_mem _ h) ?_)
    refine raisedOnly_mono (raisedOnly_of_eq (raisedOnly_endEntry e .approved (postedBreakdown e) w2) ?_ ?_)
      fun _ h => List.mem_cons_of_mem _ h
    · simp [u, w3]
    · simp [u, w3]
  have excess : flagSet .excessCash u.mrs.flags = flagSet .excessCash w1.mrs.flags := by
    have last : flagSet .excessCash u.mrs.flags = flagSet .excessCash w2.mrs.flags := by
      have := (raisedOnly_endEntry e .approved (postedBreakdown e) w2).2.2.1 .excessCash (by decide)
      simpa [u, w3] using this
    exact last.trans (raised2.2.2.1 .excessCash (by decide))
  have arrived : flagSet .excessCash w0.mrs.flags = flagSet .excessCash s.mrs.flags := flagSet_arrive (by decide) s
  have quiet : w2.sda.tellerDays = s.sda.tellerDays → w2.jrn = s.jrn → canWrite 4 d s →
      wrote 4 d s u ∧ countedFor (some e.teller) s u ∧ { u.sda with tellerDays := s.sda.tellerDays } = w2.sda := fun days jrn room => by
    obtain ⟨written, counted⟩ := entry (by unfold canWrite; rw [jrn]; exact room)
    refine ⟨wrote_congr written jrn (by rw [day (by decide)]) clock rfl, ?_, ?_⟩
    · unfold countedFor at counted ⊢
      rw [counted, days]
    · rw [← days]
      exact sda
  have noJob : w2 = w1 → canWrite 4 d s → wrote 4 d s u ∧ u.pbk = s.pbk ∧ countedFor (some e.teller) s u ∧
      { u.sda with tellerDays := s.sda.tellerDays } = s.sda ∧ raisedOnly cashFlags (arrive s) u := fun none room => by
    have queue : w2.sda = s.sda := by rw [none]; exact sda1 (by decide)
    obtain ⟨written, counted, rest⟩ := quiet (by rw [queue]) (by rw [none]; exact jrn1 (by decide)) room
    rw [queue] at rest
    exact ⟨written, (by simp [u, w3] : u.pbk = w2.pbk).trans (by rw [none]; exact pbk1 (by decide)), counted, rest, flags⟩
  refine ⟨u, words, run, ?_, ?_, fun p hp => ?_, ?_, fun x hx => ?_, fun zero => ?_, fun g leg some => ?_, fun x hx => ?_,
    fun none => ?_, fun some used full => ?_, fun c account j some used printer short known room job => ?_, fun none => ?_,
    fun any => ?_, fun shown => ?_⟩
  · exact keeps_trans (keeps_mono kept02 (by decide)) (keeps_mono ends (by decide))
  · rw [← ttr (by decide)]
    exact (by simp [u] : u.ttr = w3.ttr).trans (endEntry_ttr ..)
  · exact (place p).trans ((positions p hp).trans (positionOf_arrive p s))
  · have same : drawerOf e.ref.station w0 = drawerOf e.ref.station s := positionOf_arrive (some e.ref.station) s
    have faces : facesOf w0 = facesOf s := by simp [facesOf, w0]
    rw [same, faces] at drawer
    have there : drawerOf e.ref.station u = drawerOf e.ref.station w1 := place (some e.ref.station)
    rw [there]
    exact drawer
  · unfold lineOf
    rw [wires]
    exact (others x hx).trans (by simp [lineOf, w0])
  · exact wires.trans ((still zero).trans (by simp [w0]))
  · exact drawerPulsed_congr (pulsed g leg some) (by simp [w0]) (by simp [w0]) wires
  · have last : printerOf x u = printerOf x w2 := printerOf_congr x (by simp [u, w3])
    exact last.trans ((printers x hx).trans (printerOf_congr x (pbk1 (by decide))))
  · have taken := takeLines_none (s := w1) none
    exact ⟨congrArg Prod.snd taken, noJob (congrArg Prod.fst taken)⟩
  · have taken := takeLines_full (s := w1) some used fun c hc => by
      have general : queueCount isGeneral w1 = queueCount isGeneral s := by unfold queueCount; rw [sda1 (by decide)]
      rw [general]
      exact full c ((printerOf_congr e.ref.station (pbk1 (by decide))).symm.trans hc)
    exact ⟨congrArg Prod.snd taken, noJob (congrArg Prod.fst taken)⟩
  · have printer1 : printerOf e.ref.station w1 = .some c := (printerOf_congr e.ref.station (pbk1 (by decide))).trans printer
    have sda1 := sda1 (by decide)
    have settings : w1.mrs.settings = s.mrs.settings := by
      have posted : w1.mrs.settings = w0.mrs.settings := (congrArg Mrs.settings raised.1 : _)
      exact posted.trans (by simp [w0])
    have time : w1.uptime = s.uptime := kept.2.1.trans (by simp [w0])
    have general : queueCount isGeneral w1 = queueCount isGeneral s := by unfold queueCount; rw [sda1]
    have made := takeLines_made some used printer1 short known (by rw [general]; exact room)
    rw [← job] at made
    have joined : w2 = goOn e.ref.station (jobAdded e.ref.station j c w1) := congrArg Prod.fst made
    have shown : words = jobStatusWords e.ref.station e.ref (goOn e.ref.station (jobAdded e.ref.station j c w1)) :=
      congrArg Prod.snd made
    obtain ⟨c', final, -, long⟩ := advanceQueue_lengths queueTurns (jobAdded_at (j := j) printer1)
    have joins : jobJoins j s c c' words := by
      rw [shown]
      refine jobJoins_congr ?_ time settings (tbl1 (by decide)) (by rw [sda1])
      have := jobAdded_joins printer1 (j := j) (by rw [job]; rfl) (by rw [job]; rfl) final
      rw [job] at this ⊢
      exact this
    refine ⟨c', ?_, joins, fun length room => ?_, fun b cause k p empty gone book ends met away passbook fits both sequence => ?_⟩
    · have last : printerOf e.ref.station u = printerOf e.ref.station w2 := printerOf_congr e.ref.station (by simp [u, w3])
      rw [last, joined]
      exact final
    · have at' := long (by rw [length]; simp [withJobs])
      obtain ⟨-, sda2, jrn2, -⟩ := at'.stands
      have sda2 : w2.sda = { s.sda with queue := s.sda.queue ++ [grantedReservation j] } := by
        rw [joined, ← sda1]
        exact sda2
      have jrn2 : w2.jrn = s.jrn := by
        rw [joined, ← jrn1 (by decide)]
        exact jrn2
      obtain ⟨written, counted, rest⟩ := quiet (by rw [sda2]) jrn2 room
      exact ⟨written, counted, rest.trans sda2, flags⟩
    · obtain ⟨own, ready, c0, deal⟩ := jobJoins_left joins empty gone book
      have teller : tellerAt e.ref.station w1 = tellerAt e.ref.station s :=
        tellerAt_congr e.ref.station (screens.1.trans (by simp [w0]))
      obtain ⟨-, -, sda2, report⟩ := jobAdded_leaves (j := j) printer1 empty (by rw [job]; rfl) book own ready deal
        (endsAtStart_congr ends (tbl1 (by decide))) (by rw [sda1]; exact away)
      rw [teller, ← met, ← passbook] at report
      have wrote1 : wrote 0 p s w2 := by
        rw [joined]
        refine wrote_congr (report ?_) (jrn1 (by decide)) ?_ ?_ rfl
        · unfold canWrite
          rw [jrn1 (by decide)]
          exact ⟨fits, (Nat.le_succ _).trans sequence⟩
        · have date : w1.day = s.day := (keeps_stands (keeps_trans (keeps_mono kept0 (by decide)) kept)).2.2.2.2.2.2.1 (by decide)
          rw [date]
        · exact (congrArg Mrs.clock raised.1 : _).trans (by simp [w0])
      have jrn2 := journalAfter_one wrote1
      have number : adviceNumber w1 = adviceNumber s := by unfold adviceNumber; rw [sda1]
      have queue2 : w2.sda = { s.sda with
          queue := s.sda.queue ++ [.advice { number := adviceNumber s
                                             body := .passbookUpdate (jobReservation k) cause
                                             sent := none }]
          nextAdvice := wrapNext 65535 (adviceNumber s) } := by
        rw [joined, sda2, sda1, number, met]
      obtain ⟨written, counted⟩ := entry (by
        unfold wrote at wrote1
        unfold canWrite
        rw [wrote1]
        exact ⟨by dsimp only; omega, sequence⟩)
      refine ⟨?_, ?_, ?_, flags⟩
      · have := journalAfter_snoc written jrn2 (by simpa using fits) (by rw [day (by decide)]) clock
        simpa using this
      · unfold countedFor at counted ⊢
        rw [counted, queue2]
      · rw [queue2] at sda
        exact sda
  · obtain ⟨same, flag⟩ := stands none
    have there : drawerOf e.ref.station u = drawerOf e.ref.station w1 := place (some e.ref.station)
    refine ⟨?_, excess.trans (flag.trans arrived)⟩
    rw [there, same]
    exact congrArg Position.excess (positionOf_arrive (some e.ref.station) s)
  · refine excessFollows_from (excessFollows_after (follows any) money excess) (by simp [tellerRecord, w0]) ?_ arrived
    exact congrArg Position.excess (positionOf_arrive (some e.ref.station) s)
  · have moved : Moves (fun _ => False) w0 w2 := takeLines_moves (postApproved_moves .refl)
    have there : (contextOf e.ref.station w3).isSome = true := by
      obtain ⟨-, -, contexts, -⟩ := sameShape_moves (st := e.ref.station) id id id moved
      have arrived : (contextOf e.ref.station w0).isSome = true := by simpa [w0] using shown
      have last : contextOf e.ref.station w3 = contextOf e.ref.station w2 := contextOf_congr e.ref.station (by simp [w3])
      rw [last, contexts]
      exact arrived
    refine ⟨screenShows_composeResult there, ?_⟩
    have result := resultShows_composeResult (s := s) (t := w3) (number := e.approveFormat) (info := info)
      (message := refMessage "APPROVED".toList e.ref) there
      ((by simp [w3] : w3.tbl = w2.tbl).trans (tbl (by decide)))
      (by rw [(by simp [w3] : w3.day = w2.day), day (by decide)])
      (tellerAt_congr e.ref.station ?_)
    · have total : (positionOf info.position w3).total = (drawerOf e.ref.station u).total := by
        have same : u.csh = w3.csh := by simp [u]
        show (drawerOf e.ref.station w3).total = _
        unfold drawerOf
        rw [same]
      rw [total] at result
      have breakdown : info.breakdown = (e.leg.map Leg.breakdown).getD [] := postedBreakdown_eq e
      rw [breakdown] at result
      exact result
    · have sign2 : w2.scm.signOn = w1.scm.signOn := screens2.1
      have sign1 : w1.scm.signOn = w0.scm.signOn := screens.1
      exact (by simp [w3] : w3.scm.signOn = w2.scm.signOn).trans (sign2.trans (sign1.trans (by simp [w0])))

end
end Sys2Proof.Machine
end

section
/-! SUPPORT. Intake past its checks (R5 to R9), and an accepted request (R17). -/

namespace Sys2Proof.Machine
open Sys2Proof

section
variable {st : Station} {r : KeyRequest} {rec : TctRec} {fmt : SftFormat} {found : Found} {s t : State} {teller : Nat}
  {buffer : List (Drop × DropFrame)}

/-! ## Checks 1 to 6 passed -/

/-- A key request taken from its buffer, with its number given. -/
def numberedRequest (st : Station) (buffer : List (Drop × DropFrame)) (s : State) : State :=
  giveNumber st (rebuffered st buffer s)

/-- A request that passes checks 1 to 4 has its number given. -/
theorem takeKeyRequest_numbered (passes : passesIntake st r rec fmt found s) :
    takeKeyRequest st r (rebuffered st buffer s) =
      admitRequest st rec r (usableFields fmt (sentFields r.fields)) found ⟨st, nextNumber st s⟩
        (numberedRequest st buffer s) := by
  obtain ⟨code, signed, form, format, fields, -, -⟩ := passes
  have coded : checkCode st r.code (rebuffered st buffer s) = .ok rec := by
    unfold checkCode
    have code' : codeRecord r.code (rebuffered st buffer s) = some rec := code
    rw [code']
    refine if_neg ?_
    rintro ⟨off, other⟩
    rcases signed with on | sign
    · exact on off
    · rw [sign] at other
      cases other
  have formed : checkForm rec r.form (rebuffered st buffer s) = .ok fmt := by
    have format' : formatOf r.form (rebuffered st buffer s) = some fmt := format
    unfold checkForm
    rw [if_neg (by simp [form]), format']
  have filled : checkFields (decimalsOf (rebuffered st buffer s)) rec fmt (sentFields r.fields) = .ok found := fields
  unfold takeKeyRequest
  simp only [coded, formed, filled]
  rfl

/-- A request of a LOCAL code that passes checks 5 and 6 goes to its owner. -/
theorem takeKeyRequest_local (passes : passesIntake st r rec fmt found s) (routing : rec.routing = .localCode)
    {action : LocalAction} (owner : rec.localAction = some action) (room : 4 ≤ s.jrn.free) :
    takeKeyRequest st r (rebuffered st buffer s) =
      handLocal { st := st, tct := rec, action := action, request := r, fields := usableFields fmt (sentFields r.fields),
                  ref := ⟨st, nextNumber st s⟩ } (numberedRequest st buffer s) := by
  rw [takeKeyRequest_numbered passes]
  obtain ⟨-, -, -, -, -, day, authority⟩ := passes
  have day' : dayRefusal (numberedRequest st buffer s).day.state rec.dayClass = none := day
  have authority' : authorityReaches st rec (numberedRequest st buffer s) = true := authority
  have free : ¬ (numberedRequest st buffer s).jrn.free < Config.ottSlots := Nat.not_lt.2 room
  unfold admitRequest
  simp only [day', authority', routing, owner, Bool.not_true, Bool.false_eq_true, if_false]
  unfold routeLocal
  exact if_neg free

/-- A request of another code that passes checks 5 to 11 goes on by its link. -/
theorem takeKeyRequest_routed (passes : passesIntake st r rec fmt found s) (routing : rec.routing ≠ .localCode)
    (signed : tellerAt st s = some teller) (room : journalRoom rec.dayClass s = true) (depth : depthRefusal st s = none)
    {book : Option Book} (passbook : passbookCheck st rec.passbookUse s = .ok book) {q : Admitted}
    (asked : q = { st := st, teller := teller, tct := rec, request := r, fields := usableFields fmt (sentFields r.fields),
                   found := found, ref := ⟨st, nextNumber st s⟩, snapshot := book }) :
    takeKeyRequest st r (rebuffered st buffer s) =
      if s.blc.link = .lost then
        (if rec.routing = .onlineStandin then standinPath q (numberedRequest st buffer s)
          else refuse st r .linkDown (numberedRequest st buffer s))
      else onlinePath q (numberedRequest st buffer s) := by
  rw [takeKeyRequest_numbered passes]
  obtain ⟨-, -, -, -, -, day, authority⟩ := passes
  have day' : dayRefusal (numberedRequest st buffer s).day.state rec.dayClass = none := day
  have authority' : authorityReaches st rec (numberedRequest st buffer s) = true := authority
  have signed' : tellerAt st (numberedRequest st buffer s) = some teller := signed
  have room' : journalRoom rec.dayClass (numberedRequest st buffer s) = true := room
  have setup : (lineOf st (numberedRequest st buffer s)).setup = (lineOf st s).setup := by
    have line : lineOf st (numberedRequest st buffer s) = lineOf st (rebuffered st buffer s) := rfl
    rw [line, lineOf_rebuffered, if_pos rfl]
  have depth' : depthRefusal st (numberedRequest st buffer s) = none := by
    unfold depthRefusal at depth ⊢
    rw [setup]
    exact depth
  have passbook' : passbookCheck st rec.passbookUse (numberedRequest st buffer s) = .ok book := passbook
  have routed : admitRequest st rec r (usableFields fmt (sentFields r.fields)) found ⟨st, nextNumber st s⟩
      (numberedRequest st buffer s) = routeRequest st teller rec r (usableFields fmt (sentFields r.fields)) found
        ⟨st, nextNumber st s⟩ (numberedRequest st buffer s) := by
    unfold admitRequest
    simp only [day', authority', signed', Bool.not_true, Bool.false_eq_true, if_false]
    cases route : rec.routing with
    | localCode => exact absurd route routing
    | online => rfl
    | onlineStandin => rfl
  rw [routed]
  unfold routeRequest
  simp only [room', depth', passbook', Bool.not_true, Bool.false_eq_true, if_false, asked]
  rfl

/-- The cash checks read the drawer of the line, the position and the tables alone. -/
theorem legOf_numbered (q : Admitted) : q.st = st → legOf q (numberedRequest st buffer s) = legOf q s := fun here => by
  subst here
  have drawer : drawerReadsOpen (lineOf q.st (numberedRequest q.st buffer s)) = drawerReadsOpen (lineOf q.st s) := by
    have line : lineOf q.st (numberedRequest q.st buffer s) = lineOf q.st (rebuffered q.st buffer s) := rfl
    rw [line, lineOf_rebuffered, if_pos rfl]
    rfl
  unfold legOf cashChecks
  rw [drawer]
  rfl

/-! ## An accepted request (R17) -/

/-- The first number of a station that no transaction holds (R3). -/
theorem nextNumber_first (st : Station) (transactions : transactionsOk s) (counters : countersOk s) :
    firstFree 65535 (s.ttr.seqs.get st) (fun n => ⟨st, n⟩ ∈ heldRefs s) (nextNumber st s) := by
  obtain ⟨-, ott, late⟩ := transactions
  obtain ⟨low, high⟩ := counters.1 st
  have few : (heldSequences st s).length < 65535 := by
    have fits : (heldSequences st s).length ≤ (heldRefs s).length := by
      unfold heldSequences heldRefs
      rw [List.length_map]
      exact List.length_filter_le ..
    have total : (heldRefs s).length ≤ 32 + 16 := by
      unfold heldRefs
      rw [List.length_append, List.length_map, List.length_map]
      exact Nat.add_le_add ott late
    omega
  have same : (fun n => (⟨st, n⟩ : Ref) ∈ heldRefs s) = (· ∈ heldSequences st s) := by
    funext n
    unfold heldSequences heldRefs
    refine propext ⟨fun held => List.mem_map.2 ⟨⟨st, n⟩, List.mem_filter.2 ⟨held, by simp⟩, rfl⟩, fun held => ?_⟩
    obtain ⟨x, inside, seq⟩ := List.mem_map.1 held
    obtain ⟨there, station⟩ := List.mem_filter.1 inside
    have named : x = ⟨st, n⟩ := by
      cases x
      simp only [decide_eq_true_eq] at station seq
      rw [station, seq]
    exact named ▸ there
  rw [same]
  exact passOver_first low high few

theorem flagSet_reserveSlots (f : EventFlag) (n : Nat) (s : State) : flagSet f (reserveSlots n s).mrs.flags =
    (flagSet f s.mrs.flags || (decide (68 ≤ s.jrn.free) && decide (s.jrn.free - n < 68) && decide (f = .journalFull))) := by
  unfold reserveSlots noteFree
  exact flagSet_raiseIf_eq ..

/-- Settles O20: the request passes every check, and each unit takes its part of it. -/
theorem acceptedRequestIsQueued : Obligations.AcceptedRequestIsQueued := by
  refine ⟨fun st s => nextNumber_first st, ?_⟩
  intro st r s s1 teller rec fmt found book leg delivered passes signed routing link room depth passbook reversals legs
  obtain ⟨buffer, rfl⟩ := delivered_rebuffered delivered
  let q : Admitted :=
    { st := st, teller := teller, tct := rec, request := r, fields := usableFields fmt (sentFields r.fields),
      found := found, ref := ⟨st, nextNumber st s⟩, snapshot := book }
  let w := numberedRequest st buffer s
  let t := acceptRequest q leg w
  have accepted : takeKeyRequest st r (rebuffered st buffer s) = t := by
    rw [takeKeyRequest_routed passes routing signed room depth passbook (q := q) rfl, if_neg link]
    unfold onlinePath
    have below : ¬ Config.reversalCommitment ≤ reversalSum (numberedRequest st buffer s) := Nat.not_le.2 reversals
    rw [if_neg below, legOf_numbered q rfl, legs]
  have ott : t.ttr = { s.ttr with seqs := numberGiven st s, ott := s.ttr.ott ++ [acceptedEntry q leg] } := by
    have run : t.ttr = { w.ttr with ott := w.ttr.ott ++ [acceptedEntry q leg] } := by simp [t, acceptRequest, onTtr]
    rw [run]
    rfl
  have run : exec (.keyRequest st r) s = .next t := by
    show execKeyRequest st r s = _
    rw [execKeyRequest, delivered]
    dsimp only
    rw [accepted, judgeSettle_of_not (.inr (Bool.eq_false_iff.2 fun holds => ?_))]
    obtain ⟨empty, -⟩ := (settleCondition_iff t).1 holds
    rw [ott] at empty
    simp at empty
  let x := onTtr (fun t => { t with ott := t.ott ++ [acceptedEntry q leg] }) w
  let v := reserveSlots 4 x
  have raised : raisedOnly [.journalFull] s v := raisedOnly_from (raisedOnly_reserveSlots (by decide) 4 x) rfl rfl
  have built : t = composeInput st .awaiting (some r.form) (sentFields r.fields) none
      (refMessage "AWAITING".toList ⟨st, nextNumber st s⟩)
      (onBlc (fun b => { b with requests := b.requests ++ [requestMsg q leg] }) (reserveLeg st leg v)) := rfl
  have money : t.csh = (reserveLeg st leg v).csh := by simp [built]
  have flags : t.mrs = v.mrs := by simp [built]
  have frames : t.blc = { v.blc with requests := v.blc.requests ++ [requestMsg q leg] } := by simp [built]
  refine ⟨t, run, ?_, by simp [t, w, numberedRequest], ott, ?_, fun p => ?_, ?_, ?_, ?_, fun shown => ?_⟩
  · simp [keeps, t, w, numberedRequest]
  · have journal : t.jrn = v.jrn := by simp [built]
    exact journal.trans (reserveSlots_jrn 4 x)
  · have place : positionOf p t = positionOf p (reserveLeg st leg v) := by
      unfold positionOf drawerOf
      rw [money]
    have same : ∀ p, positionOf p v = positionOf p s := fun p => by
      have csh : v.csh = s.csh := (by simp [v] : v.csh = x.csh)
      unfold positionOf drawerOf
      rw [csh]
    rw [place]
    cases leg with
    | none => simp [reserveLeg, afterLeg, same]
    | some g =>
      have drawer : drawerOf st v = drawerOf st s := same (some st)
      simp only [reserveLeg, positionOf_setPosition, afterLeg, drawer]
      split
      · next here => rw [here]; rfl
      · exact same p
  · obtain ⟨mrs, flagsKept, flagsOnly, blc, new, events, noticed⟩ := raised
    have requests : v.blc.requests = s.blc.requests := (congrArg Blc.requests blc : _)
    refine ⟨by rw [flags]; exact mrs, fun f => by rw [flags]; exact flagsKept f, fun f hf => by rw [flags]; exact flagsOnly f hf,
      ?_, new, by rw [frames]; exact events, noticed⟩
    rw [frames, requests]
    exact congrArg (fun b : Blc => { b with requests := s.blc.requests ++ [requestMsg q leg] }) blc
  · rw [flags, flagSet_reserveSlots]
    simp only [Bool.or_eq_true, Bool.and_eq_true, decide_eq_true_eq, and_true]
    rfl
  · exact otherScreens_trans (t := onBlc (fun b => { b with requests := b.requests ++ [requestMsg q leg] }) (reserveLeg st leg v))
      (otherScreens_of (by simp [v, x, w, numberedRequest])) (otherScreens_composeInput ..)
  · rw [built]
    refine screenShows_composeInput ?_
    rw [contextOf_congr (s := s) st (by simp [v, x, w, numberedRequest])]
    exact shown

end
end Sys2Proof.Machine
end

section
/-! SUPPORT. A stand-in approval (R101 to R104). -/

namespace Sys2Proof.Machine
open Sys2Proof

section
variable {st : Station} {q : Admitted} {leg : Option Leg} {s t v : State} {teller : Nat}

theorem legPosted_standin (st : Station) (n : Nat) (leg : Option Leg) (s : State) :
    legPosted st n leg standinCounts s (postStandinLeg st n leg s) := by
  cases leg with
  | none => exact legPosted_none
  | some g => exact legPosted_some fun p => (legCounts_excess g p).2

theorem standinDraft_eq (q : Admitted) (leg : Option Leg) : standinDraft q leg =
    { station := some q.st, teller := some q.teller, body := .txn q.ref.seq q.tct.code .standinApproved,
      account := q.found.account, amounts := leg.map fun g => ((g.exact : Int), (g.rounded : Int)),
      breakdown := (leg.map Leg.breakdown).getD [] } := by
  cases leg <;> rfl

/-- The debit reaches the teller's total and the account map alone. -/
theorem standinDebit_reach (q : Admitted) (leg : Option Leg) (s : State) :
    keeps [.sda] s (standinDebit q leg s) ∧ (standinDebit q leg s).sda.queue = s.sda.queue ∧
      (standinDebit q leg s).sda.nextAdvice = s.sda.nextAdvice ∧
      (standinDebit q leg s).sda.unmatchedAcks = s.sda.unmatchedAcks := by
  unfold standinDebit
  cases leg with
  | none => exact ⟨keeps_refl _ s, rfl, rfl, rfl⟩
  | some g =>
    cases q.found.account with
    | none => exact ⟨keeps_refl _ s, rfl, rfl, rfl⟩
    | some acc =>
      dsimp only
      split
      · exact ⟨by simp [keeps], rfl, rfl, rfl⟩
      · exact ⟨keeps_refl _ s, rfl, rfl, rfl⟩

/-- A leg that pays nothing out, or a code without an account, is no debit. -/
theorem standinDebit_none (none : ∀ g, leg = some g → g.dir ≠ .cashOut ∨ q.found.account = none) (s : State) :
    standinDebit q leg s = s := by
  unfold standinDebit
  cases leg with
  | none => rfl
  | some g =>
    cases account : q.found.account with
    | none => rfl
    | some acc => exact if_neg fun out => (none g rfl).elim (fun no => no out) (by simp [account])

theorem standinDebit_some {g : Leg} {acc : Text} (out : g.dir = .cashOut) (account : q.found.account = some acc) (s : State) :
    standinDebit q (some g) s = recordDebit q.teller acc g.exact s := by
  unfold standinDebit
  rw [account]
  exact if_pos out

/-- What the pulse of a leg leaves. -/
theorem pulseFor_reach (st : Station) (leg : Option Leg) (s : State) :
    keeps [.slc] s (pulseFor st leg s) ∧ otherLines st s (pulseFor st leg s) ∧
      ((∀ g, leg = some g → g.rounded = 0) → pulseFor st leg s = s) ∧
      (∀ g, leg = some g → g.rounded ≠ 0 → drawerPulsed st s (pulseFor st leg s)) := by
  unfold pulseFor
  cases leg with
  | none => exact ⟨keeps_refl _ s, fun _ _ => rfl, fun _ => rfl, fun g hg => by cases hg⟩
  | some g =>
    dsimp only
    by_cases zero : g.rounded = 0
    · rw [if_pos zero]
      exact ⟨keeps_refl _ s, fun _ _ => rfl, fun _ => rfl, fun k hk some => by cases hk; exact absurd zero some⟩
    · rw [if_neg zero]
      have pulse := requestPulse_pulsed st s
      exact ⟨by simp [keeps], drawerPulsed_others pulse, fun all => absurd (all g rfl) zero, fun _ _ _ => pulse⟩

theorem queueAdvice_sda (body : AdviceBody) (s : State) : (queueAdvice body s).sda = { s.sda with
    queue := s.sda.queue ++ [.advice { number := adviceNumber s, body := body, sent := none }]
    nextAdvice := wrapNext 65535 (adviceNumber s) } := rfl

/-- Settles O21: the posting, the debit, the advice, the entry and the pulse, each by its own rule. -/
theorem standinApprovalIsRecorded : Obligations.StandinApprovalIsRecorded := by
  intro st r s s1 teller rec fmt found book leg asked d taken passes signed routing link room depth passbook named admitted legs
    draft fits
  subst named
  obtain ⟨buffer, rfl⟩ := delivered_rebuffered taken
  let q : Admitted :=
    { st := st, teller := teller, tct := rec, request := r, fields := usableFields fmt (sentFields r.fields),
      found := found, ref := ⟨st, nextNumber st s⟩, snapshot := book }
  have same : standinDraft q leg = d := by rw [standinDraft_eq, draft]
  let w := numberedRequest st buffer s
  let v := postStandinLeg st teller leg w
  let x := standinDebit q leg v
  let y := queueAdvice (standinBody q leg w.mrs.clock) x
  let z := writeEntry 0 d y
  let p := pulseFor st leg z
  let info : ResultInfo :=
    { reply := none, breakdown := (standinDraft q leg).breakdown, position := some st, passbook := [], ref := q.ref,
      reason := "STAND-IN".toList }
  let t := composeResult st rec.approveFormat info (refMessage "STAND-IN".toList q.ref) p
  have approved : takeKeyRequest st r (rebuffered st buffer s) = t := by
    rw [takeKeyRequest_routed passes (by rw [routing]; simp) signed room depth passbook (q := q) rfl, if_pos link, if_pos routing]
    unfold standinPath
    have admitted' : standinRefusal q (numberedRequest st buffer s) = none := admitted
    have legs' : legOf q s = .ok leg := legs
    rw [admitted', legOf_numbered q rfl, legs']
    show composeResult st rec.approveFormat info _ (pulseFor st leg (writeEntry 0 (standinDraft q leg) y)) = t
    rw [same]
  obtain ⟨kept, screens, raised, others, drawer, stands, follows⟩ := legPosted_standin st teller leg w
  obtain ⟨debit, queue, next, acks⟩ := standinDebit_reach q leg v
  obtain ⟨pulse, lines, still, pulsed⟩ := pulseFor_reach st leg z
  obtain ⟨-, -, -, -, vsda, vjrn, vday, vtbl, vslc, -⟩ := keeps_stands kept
  obtain ⟨-, xcsh, xscm, -, -, xjrn, xday, xtbl, xslc, xblc, xmrs⟩ := keeps_stands debit
  obtain ⟨-, pcsh, pscm, -, psda, pjrn, -, -, -, pblc, pmrs⟩ := keeps_stands pulse
  have vsda : v.sda = s.sda := vsda (by decide)
  have number : adviceNumber x = adviceNumber s := by
    unfold adviceNumber
    rw [queue, next, vsda]
  have advised : t.sda.queue = s.sda.queue ++ [.advice { number := adviceNumber s
                                                         body := .standin ⟨st, nextNumber st s⟩ teller rec.code found.account
                                                           (leg.map fun g => (g.exact, g.rounded)) s.mrs.clock
                                                         sent := none }] := by
    have part : t.sda.queue = y.sda.queue := by
      rw [(by simp [t] : t.sda = p.sda), psda (by decide)]
      simp [z]
    rw [part, queueAdvice_sda, number, queue, vsda]
    rfl
  have run : exec (.keyRequest st r) s = .next t := by
    show execKeyRequest st r s = _
    rw [execKeyRequest, taken]
    dsimp only
    rw [approved, judgeSettle_of_not (.inr (Bool.eq_false_iff.2 fun holds => ?_))]
    obtain ⟨-, empty, -⟩ := (settleCondition_iff t).1 holds
    rw [advised] at empty
    simp at empty
  have journal : y.jrn = s.jrn := (by simp [y] : y.jrn = x.jrn).trans ((xjrn (by decide)).trans (vjrn (by decide)))
  have fits' : canWrite 0 d y := by
    unfold canWrite
    rw [journal]
    exact fits
  have written : wrote 0 d s t := by
    refine wrote_congr (writeEntry_wrote fits') journal ?_ ?_ ?_
    · have day : y.day = s.day := (by simp [y] : y.day = x.day).trans ((xday (by decide)).trans (vday (by decide)))
      rw [day]
    · have clock : v.mrs.clock = s.mrs.clock := (congrArg Mrs.clock raised.1 : _)
      exact (by simp [y] : y.mrs.clock = x.mrs.clock).trans ((congrArg Mrs.clock (xmrs (by decide))).trans clock)
    · exact (by simp [t] : t.jrn = p.jrn).trans (pjrn (by decide))
  have counted : countedFor (some teller) x t := by
    have days := writeEntry_counted fits'
    have teller' : countedTeller d = some teller := by rw [draft]; rfl
    rw [teller'] at days
    unfold countedFor at days ⊢
    rw [(by simp [t] : t.sda = p.sda), psda (by decide)]
    exact days.trans (by simp [y])
  have map : t.sda.accountMap = x.sda.accountMap := by
    rw [(by simp [t] : t.sda = p.sda), psda (by decide)]
    simp [z, y]
  have money : t.csh = v.csh := by
    rw [(by simp [t] : t.csh = p.csh), pcsh (by decide), (by simp [z, y] : z.csh = x.csh)]
    exact xcsh (by decide)
  have place : ∀ a, positionOf a t = positionOf a v := fun a => by
    unfold positionOf drawerOf
    rw [money]
  have entry : raisedOnly journalFlags v t := by
    have base : raisedOnly journalFlags v z := raisedOnly_from (raisedOnly_writeEntry 0 d y)
      ((by simp [y] : y.mrs = x.mrs).trans (xmrs (by decide))) ((by simp [y] : y.blc = x.blc).trans (xblc (by decide)))
    exact raisedOnly_of_eq base ((by simp [t] : t.mrs = p.mrs).trans (pmrs (by decide)))
      ((by simp [t] : t.blc = p.blc).trans (pblc (by decide)))
  have excess : flagSet .excessCash t.mrs.flags = flagSet .excessCash v.mrs.flags := entry.2.2.1 .excessCash (by decide)
  have wires : t.slc = p.slc := by simp [t]
  have before : z.slc = (rebuffered st buffer s).slc := by
    rw [(by simp [z, y] : z.slc = x.slc), xslc (by decide), vslc (by decide)]
    rfl
  have time : z.uptime = s.uptime := by
    rw [(by simp [z, y] : z.uptime = x.uptime), debit.2.1, kept.2.1]
    rfl
  have there : drawerOf st t = drawerOf st v := place (some st)
  refine ⟨t, run, ?_, ?_, written, advised, ?_, fun a ha => (place a).trans (others a ha), ?_, fun g acc pays out account => ?_,
    fun none => ?_, ?_, fun g pays some => ?_, fun zero => ?_, ?_, fun none => ?_, fun any => ?_, fun a ha => ?_, ?_, fun shown => ?_⟩
  · have first : keeps [.ttr, .slc] s w := by simp [keeps, w, numberedRequest]
    have middle : keeps [.sda, .jrn, .blc, .mrs] x z := by simp [keeps, z, y]
    have last : keeps [.scm] p t := by simp [keeps, t]
    exact keeps_trans (keeps_mono first (by decide)) (keeps_trans (keeps_mono kept (by decide)) (keeps_trans (keeps_mono debit (by decide))
      (keeps_trans (keeps_mono middle (by decide)) (keeps_trans (keeps_mono pulse (by decide)) (keeps_mono last (by decide))))))
  · have run : t.ttr = w.ttr := by simp [t, p, z, y, x, v]
    exact run
  · rw [(by simp [t] : t.sda = p.sda), psda (by decide), (by simp [z] : z.sda.nextAdvice = y.sda.nextAdvice), queueAdvice_sda, number]
  · rw [there]
    exact drawer
  · have debited : x = recordDebit teller acc g.exact v := by
      show standinDebit q leg v = _
      rw [pays]
      exact standinDebit_some out account v
    have entries : mapEntry acc v = mapEntry acc s := by unfold mapEntry; rw [vsda]
    rw [map, debited]
    refine ⟨fun none => ?_, fun some => ?_, ?_⟩
    · simp only [recordDebit, onSda_sda, entries, none, vsda]
    · obtain ⟨e, held⟩ := Option.ne_none_iff_exists'.1 some
      simp only [recordDebit, onSda_sda, entries, held, vsda]
      rfl
    · unfold countedFor at counted
      rw [counted, debited]
      simp only [recordDebit, onSda_sda, vsda, List.map_map]
      refine List.map_congr_left fun y _ => ?_
      simp only [Function.comp_apply]
      by_cases own : y.teller = teller
      · simp [own, Config.topCounter]
      · have other : teller ≠ y.teller := fun h => own h.symm
        simp [own, other]
  · have same : x = v := standinDebit_none none v
    rw [map]
    unfold countedFor at counted ⊢
    rw [counted, same, vsda]
    exact ⟨rfl, rfl⟩
  · rw [(by simp [t] : t.sda = p.sda), psda (by decide), (by simp [z, y] : z.sda.unmatchedAcks = x.sda.unmatchedAcks), acks, vsda]
  · exact drawerPulsed_congr (pulsed g pays some) before.symm time.symm wires
  · rw [wires, show p = z from still zero]
    exact before
  · exact raisedOnly_trans (raisedOnly_from raised rfl rfl) (raisedOnly_mono entry fun _ h => List.mem_cons_of_mem _ h)
  · obtain ⟨same, flag⟩ := stands none
    exact ⟨by rw [there, same]; rfl, excess.trans flag⟩
  · exact excessFollows_from (excessFollows_after (follows any) money excess) rfl rfl rfl
  · have other := lines a ha
    unfold lineOf at other ⊢
    rw [wires, other, before]
  · have compose : otherScreens st p t := otherScreens_composeResult ..
    refine otherScreens_trans (t := v) (otherScreens_trans (otherScreens_of rfl) screens) (otherScreens_trans (otherScreens_of ?_) compose)
    rw [pscm (by decide), (by simp [z, y] : z.scm = x.scm)]
    exact xscm (by decide)
  · refine screenShows_composeResult ?_
    have scm : p.scm = v.scm := by
      rw [pscm (by decide), (by simp [z, y] : z.scm = x.scm)]
      exact xscm (by decide)
    have moved : Moves (fun _ => False) w v := by
      show Moves _ w (postStandinLeg st teller leg w)
      cases leg with
      | none => exact .refl
      | some g => exact postStandin_moves .refl
    obtain ⟨-, -, contexts, -⟩ := sameShape_moves (st := st) id id id moved
    rw [contextOf_congr (s := v) st (by rw [scm]), contexts]
    exact shown

end
end Sys2Proof.Machine
end

section
/-! SUPPORT. Sign-on and sign-off, carried out or refused (R59 to R62). -/

namespace Sys2Proof.Machine
open Sys2Proof

section
variable {st : Station} {q : LocalRequest} {s t : State} {n : Nat} {why : Reason} {d : Draft}

/-! ## The checks of a sign-on (R59) -/

theorem signedOnElsewhere_iff : signedOnElsewhere st n s = true ↔ ∃ a, a ≠ st ∧ tellerAt a s = some n := by
  unfold signedOnElsewhere
  rw [List.any_eq_true]
  constructor
  · rintro ⟨a, -, there⟩
    simp only [Bool.and_eq_true, decide_eq_true_eq] at there
    exact ⟨a, there⟩
  · rintro ⟨a, there⟩
    exact ⟨a, Station.mem_all a, by simpa using there⟩

/-- The number keyed is not signed on at another station. -/
theorem notElsewhere (none : ∀ x n a, fieldText q.fields 1 = some x → readDecimal x = some n → a ≠ q.st → tellerAt a s ≠ some n) :
    ((keyedNumber q.fields).map fun n => signedOnElsewhere q.st n s).getD false = false := by
  unfold keyedNumber
  cases text : fieldText q.fields 1 with
  | none => rfl
  | some x =>
    cases number : readDecimal x with
    | none => simp [number]
    | some n =>
      simp only [Option.bind_some, number, Option.map_some, Option.getD_some]
      refine Bool.eq_false_iff.2 fun there => ?_
      obtain ⟨a, away, signed⟩ := signedOnElsewhere_iff.1 there
      exact none x n a text number away signed

theorem keyedTeller_some {x : Text} (text : fieldText q.fields 1 = some x) (length : x.length ≤ 4) (number : readDecimal x = some n)
    (low : 1 ≤ n) (high : n ≤ 9999) : keyedTeller q.fields = some n := by
  unfold keyedTeller
  rw [text]
  simp [length, number, Option.filter, low, high]

theorem keyedTeller_of {n : Nat} (h : keyedTeller q.fields = some n) :
    ∃ x, fieldText q.fields 1 = some x ∧ readDecimal x = some n ∧ x.length ≤ 4 ∧ 1 ≤ n ∧ n ≤ 9999 := by
  unfold keyedTeller at h
  cases text : fieldText q.fields 1 with
  | none => rw [text] at h; cases h
  | some x =>
    rw [text] at h
    dsimp only at h
    split at h
    · next short =>
      obtain ⟨number, range⟩ := Option.filter_eq_some_iff.1 h
      simp only [Bool.and_eq_true, decide_eq_true_eq] at range
      exact ⟨x, rfl, number, short, range⟩
    · cases h

/-- A sign-on that fails a check is refused by its reason. -/
theorem checkSignOn_fails (fails : signOnFails q.st q.tct q.fields s why) : checkSignOn q s = .error why := by
  unfold checkSignOn
  rcases fails with ⟨inUse, rfl⟩ | ⟨free, active | ⟨idle, unknown | named⟩⟩
  · exact if_pos (Option.isSome_iff_ne_none.2 inUse)
  · obtain ⟨x, n, a, text, number, away, signed, rfl⟩ := active
    rw [if_neg (by simp [free]), if_pos]
    have there : signedOnElsewhere q.st n s = true := signedOnElsewhere_iff.2 ⟨a, away, signed⟩
    simp [keyedNumber, text, number, there]
  · obtain ⟨missing, rfl⟩ := unknown
    rw [if_neg (by simp [free]), notElsewhere idle]
    cases keyed : keyedTeller q.fields with
    | none => rfl
    | some n =>
      obtain ⟨x, text, number, short, low, high⟩ := keyedTeller_of keyed
      simp [missing x n text number short low high]
  · obtain ⟨x, n, l, text, number, short, low, high, record, reason⟩ := named
    rw [if_neg (by simp [free]), notElsewhere idle, keyedTeller_some text short number low high]
    rcases reason with ⟨authority, rfl⟩ | ⟨authority, none, full, rfl⟩
    · simp [record, authority]
    · simp [record, authority, none, Config.tellerDayCapacity, full]

theorem checkSignOn_passes {x : Text} {l : TltRec} (free : tellerAt q.st s = none) (text : fieldText q.fields 1 = some x)
    (length : x.length ≤ 4) (number : readDecimal x = some n) (low : 1 ≤ n) (high : n ≤ 9999)
    (idle : ∀ a, tellerAt a s ≠ some n) (record : tellerRecord n s = some l) (authority : reaches l.authority q.tct.minAuthority = true)
    (room : tellerDay n s ≠ none ∨ s.sda.tellerDays.length < 64) : checkSignOn q s = .ok n := by
  have away := notElsewhere (q := q) (s := s) fun y m a text' number' _ => by
    have same : x = y := Option.some.inj (text.symm.trans text')
    subst same
    have same : n = m := Option.some.inj (number.symm.trans number')
    subst same
    exact idle a
  unfold checkSignOn
  rw [if_neg (by simp [free]), away, keyedTeller_some text length number low high]
  have full : ¬ ((tellerDay n s).isNone = true ∧ 64 ≤ s.sda.tellerDays.length) := by
    rintro ⟨none, long⟩
    rcases room with some | short
    · exact some (Option.isNone_iff_eq_none.1 none)
    · exact absurd long (Nat.not_le.2 short)
  have full : ¬ ((tellerDay n s).isNone = true ∧ Config.tellerDayCapacity ≤ s.sda.tellerDays.length) := full
  simp only [record, authority, if_neg full]
  rfl

/-! ## Refused by the owner (R4, R10) -/

/-- A LOCAL entry without an amount part or a breakdown takes one slot. -/
theorem localDraft_slots (q : LocalRequest) (teller : Option Nat) (refusal : Option Reason) (target : Nat) :
    draftSlots (localDraft q teller refusal target none []) = 1 := by
  simp [draftSlots, draftBytes, localDraft]

/-- A request that its owner refuses, taken from its buffer with its number. -/
theorem refuseLocal_refused {buffer : List (Drop × DropFrame)} {teller : Option Nat} {target : Nat} (here : q.st = st)
    (draft : localDraft q teller (some why) target none [] = d) :
    localRefused st d why s (rebuffered st buffer s) (refuseLocal q teller target why (numberedRequest st buffer s)) := by
  subst here draft
  let d := localDraft q teller (some why) target none []
  let w := numberedRequest q.st buffer s
  let v := writeEntry 0 d w
  have uncounted : v.sda = w.sda := writeEntry_sda rfl w
  have built : refuseLocal q teller target why w = refusalScreen q.st q.request why v := rfl
  refine ⟨?_, ?_, ?_, ?_, fun room => ⟨?_, ?_⟩, fun c shown => ?_⟩
  · have sda : (refuseLocal q teller target why w).sda = s.sda := by
      rw [built]
      exact (by simp : (refusalScreen q.st q.request why v).sda = v.sda).trans uncounted
    simp [keeps, sda, numberedRequest]
    exact sda
  · simp [numberedRequest]
    rfl
  · simp [numberedRequest]
  · rw [built]
    exact otherScreens_trans (t := v) (otherScreens_of (by simp [v, w, numberedRequest])) (otherScreens_refusalScreen ..)
  · rw [built]
    exact wrote_congr (writeEntry_wrote (s := w) room) rfl rfl rfl (by simp [v, d])
  · rw [built]
    exact raisedOnly_of_eq (raisedOnly_from (raisedOnly_writeEntry 0 d w) rfl rfl) (by simp [v]) (by simp [v])
  · rw [built]
    obtain ⟨c', shown', words⟩ := refusalScreen_shows (st := q.st) (r := q.request) (why := why) (s := v) (c := c) <| by
      rw [contextOf_congr (s := s) q.st (by simp [v, w, numberedRequest])]
      exact shown
    exact ⟨c', shown', words.1⟩

/-! ## The Teller Day Record (R60, R61) -/

theorem tellerDayOn_days (n : Nat) (st : Station) (s : State) : (tellerDayOn n st s).sda = { s.sda with
    tellerDays := if (tellerDay n s).isSome = true then
        s.sda.tellerDays.map fun r => if r.teller = n then { r with station := some st } else r
      else s.sda.tellerDays ++
        [{ teller := n, station := some st, standinTotal := 0, txCount := 0, firstOn := s.mrs.clock, lastOff := none }] } := by
  unfold tellerDayOn
  cases tellerDay n s <;> rfl

/-! ## Carried out (R60, R62) -/

/-- The parts of a sign-on carried out: the sign-on state, the record, EXCESS_CASH, the result and the entry. -/
def signedOnAt (q : LocalRequest) (n : Nat) (s : State) : State :=
  evaluateExcess q.st n (tellerDayOn n q.st (setSignOn q.st (some n) s))

theorem localSignOn_passes (passes : checkSignOn q s = .ok n) : localSignOn q s =
    localDone q (some n) 0 none [] [] (some q.st) "SIGNED ON".toList (signedOnAt q n s) := by
  unfold localSignOn
  rw [passes]
  rfl

/-- Settles O22: the checks of each owner, then each unit's part. -/
theorem signOnAndSignOff : Obligations.SignOnAndSignOff := by
  intro st r s s1 rec fmt found n taken passes routing room sequence
  obtain ⟨buffer, rfl⟩ := delivered_rebuffered taken
  have run : ∀ u, takeKeyRequest st r (rebuffered st buffer s) = u → exec (.keyRequest st r) s = .next (judgeSettle u) :=
    fun u same => by
      show execKeyRequest st r s = _
      rw [execKeyRequest, taken]
      dsimp only
      rw [same]
  let fields := usableFields fmt (sentFields r.fields)
  let w := numberedRequest st buffer s
  let owner : LocalAction → LocalRequest := fun action =>
    { st := st, tct := rec, action := action, request := r, fields := fields, ref := ⟨st, nextNumber st s⟩ }
  have routed : ∀ action, rec.localAction = some action → takeKeyRequest st r (rebuffered st buffer s) = handLocal (owner action) w :=
    fun action acts => takeKeyRequest_local passes routing acts room
  have signsOff : tellerAt st s = some n → handLocal (owner .signOff) w = localSignOff (owner .signOff) n w := fun signed => by
    have there : tellerAt st w = some n := signed
    unfold handLocal
    simp only [owner, there]
  refine ⟨fun x limits acts free text length number low high idle record authority space => ?_, fun acts signed none => ?_,
    fun why keyed acts fails key => ?_, fun acts signed some => ?_⟩
  · let q := owner .signOn
    let d := localDraft q (some n) none 0 none []
    let a := tellerDayOn n st (setSignOn st (some n) w)
    let b := evaluateExcess st n a
    let info : ResultInfo :=
      { reply := none, breakdown := [], position := some st, passbook := [], ref := ⟨st, nextNumber st s⟩,
        reason := "SIGNED ON".toList }
    let c := composeResult st rec.approveFormat info "SIGNED ON".toList b
    let t := writeEntry 0 d c
    have ok : checkSignOn q w = .ok n := checkSignOn_passes free text length number low high idle record authority space
    have done : takeKeyRequest st r (rebuffered st buffer s) = t :=
      (routed .signOn acts).trans (localSignOn_passes ok)
    have signOn : t.scm.signOn = (setSignOn st (some n) w).scm.signOn := by simp [t, c, b, a]
    have tellers : ∀ x, tellerAt x t = if x = st then some n else tellerAt x s := fun x => by
      rw [tellerAt_congr (s := setSignOn st (some n) w) x signOn, tellerAt_setSignOn]
      rfl
    have settled : judgeSettle t = t := judgeSettle_of_not <| .inr <| Bool.eq_false_iff.2 fun holds => by
      obtain ⟨-, -, off, -⟩ := (settleCondition_iff t).1 holds
      have here := off st
      rw [tellers st, if_pos rfl] at here
      cases here
    have journal : c.jrn = s.jrn := by simp [c, b, a, w, numberedRequest]
    have fits : canWrite 0 d c := by
      unfold canWrite
      rw [journal, localDraft_slots]
      exact ⟨by omega, sequence⟩
    have counted : countedFor (some n) a t := by
      have := writeEntry_counted fits
      rw [show countedTeller d = some n from rfl] at this
      unfold countedFor at this ⊢
      exact this.trans (by simp [c, b])
    have days : a.sda = _ := tellerDayOn_days n st (setSignOn st (some n) w)
    have days : a.sda = { s.sda with
        tellerDays := if (tellerDay n s).isSome = true then
            s.sda.tellerDays.map fun r => if r.teller = n then { r with station := some st } else r
          else s.sda.tellerDays ++
            [{ teller := n, station := some st, standinTotal := 0, txCount := 0, firstOn := s.mrs.clock, lastOff := none }] } :=
      days
    obtain ⟨drawer, others⟩ := evaluateExcess_positions st n a
    have money : t.csh = b.csh := by simp [t, c]
    have cash : a.csh = s.csh := by simp [a, w, numberedRequest]
    have place : ∀ p, positionOf p t = positionOf p b := fun p => by
      unfold positionOf drawerOf
      rw [money]
    have before : ∀ p, positionOf p a = positionOf p s := fun p => by
      unfold positionOf drawerOf
      rw [cash]
    have entry : raisedOnly journalFlags b t := raisedOnly_from (raisedOnly_writeEntry 0 d c) (by simp [c]) (by simp [c])
    have sda : { t.sda with tellerDays := s.sda.tellerDays } = s.sda := by
      refine sda_tellerDays ?_ ?_ ?_ ?_
      · rw [(by simp [t, c, b] : t.sda.queue = a.sda.queue), days]
      · rw [(by simp [t, c, b] : t.sda.nextAdvice = a.sda.nextAdvice), days]
      · rw [(by simp [t, c, b] : t.sda.accountMap = a.sda.accountMap), days]
      · rw [(by simp [t, c, b] : t.sda.unmatchedAcks = a.sda.unmatchedAcks), days]
    refine ⟨t, by rw [run t done, settled], ?_, by simp [t, c, b, a, w, numberedRequest], ?_, tellers, sda, fun known => ?_,
      fun none => ?_, ?_, fun p => ?_, ?_, ?_, fun p hp => ?_, fun shown => ?_⟩
    · simp [keeps, t, c, b, a, w, numberedRequest]
    · have same : t.ttr = w.ttr := by simp [t, c, b, a]
      exact same
    · have there : (tellerDay n s).isSome = true := Option.isSome_iff_ne_none.2 known
      unfold countedFor at counted
      rw [counted, days, if_pos there]
      dsimp only
      rw [List.map_map]
      refine List.map_congr_left fun y _ => ?_
      simp only [Function.comp_apply]
      by_cases own : y.teller = n
      · simp [own, Config.topCounter]
      · have other : n ≠ y.teller := fun h => own h.symm
        simp [own, other]
    · have absent : ¬ (tellerDay n s).isSome = true := by simp [none]
      unfold countedFor at counted
      rw [counted, days, if_neg absent]
      dsimp only
      rw [List.map_append]
      have others : ∀ y ∈ s.sda.tellerDays, (if some n = some y.teller then { y with txCount := satCount Config.topCounter y.txCount } else y) = y :=
        fun y held => if_neg fun same => tellerDay_none none (List.mem_map.2 ⟨y, held, (Option.some.inj same).symm⟩)
      rw [List.map_congr_left others, List.map_id']
      simp [satCount, Config.topCounter]
    · refine wrote_congr (writeEntry_wrote fits) journal ?_ ?_ rfl
      · simp [c, b, a, w, numberedRequest]
      · simp [c, b, a, w, numberedRequest]
    · rw [place p, ← before p]
      by_cases here : p = some st
      · rw [here]
        exact drawer
      · rw [others p here]
        rfl
    · exact raisedOnly_trans (raisedOnly_from (raisedOnly_evaluateExcess (by decide) st n a) (by simp [a, w, numberedRequest])
        (by simp [a, w, numberedRequest])) (raisedOnly_mono entry fun _ h => List.mem_cons_of_mem _ h)
    · refine excessFollows_from (excessFollows_after (excessFollows_evaluateExcess st n a) money
        (entry.2.2.1 .excessCash (by decide))) (by simp [tellerRecord, a, w, numberedRequest]) ?_ (by simp [a, w, numberedRequest])
      exact congrArg Position.excess (before (some st))
    · exact (place p).trans ((others p hp).trans (before p))
    · have moved : Moves (fun _ => False) a b := evaluateExcess_moves .refl
      obtain ⟨-, -, contexts, -⟩ := sameShape_moves (st := st) id id id moved
      refine screenShows_congr (screenShows_composeResult (st := st) (number := rec.approveFormat) (info := info)
        (message := "SIGNED ON".toList) (s := b) ?_) (contextOf_congr st (by simp [t, c]))
      rw [contexts, contextOf_congr (s := s) st (by simp [a, w, numberedRequest, setSignOn])]
      exact shown
  · let d := localDraft (owner .signOff) (some n) Option.none 0 Option.none []
    let a := signOff st n w
    let b := composePrompt st "SIGNED OFF".toList a
    let u := writeEntry 0 d b
    have clear : stationInFlight st w = false := Bool.eq_false_iff.2 fun inFlight => by
      obtain ⟨e, held, here⟩ := List.any_eq_true.1 inFlight
      exact none e held (by simpa using here)
    have done : takeKeyRequest st r (rebuffered st buffer s) = u := by
      rw [routed .signOff acts, signsOff signed]
      exact if_neg (by simp [owner, clear])
    have journal : b.jrn = s.jrn := by simp [b, a, signOff, w, numberedRequest]
    have fits : canWrite 0 d b := by
      unfold canWrite
      rw [journal, localDraft_slots]
      exact ⟨by omega, sequence⟩
    have days : a.sda = { s.sda with tellerDays := s.sda.tellerDays.map fun y => if y.teller = n then
        { y with station := Option.none, lastOff := some s.mrs.clock } else y } := rfl
    refine ⟨u, run u done, ?_, ?_, ?_, fun x => ?_, ?_, ?_, ?_, fun shown => ?_⟩
    · simp [keeps, u, b, a, signOff, w, numberedRequest]
    · simp [u, b, a, signOff, w, numberedRequest]
    · have same : u.ttr = w.ttr := by simp [u, b, a, signOff]
      exact same
    · have signOn : u.scm.signOn = (setSignOn st Option.none w).scm.signOn := by simp [u, b, a, signOff]
      rw [tellerAt_congr (s := setSignOn st Option.none w) x signOn, tellerAt_setSignOn]
      rfl
    · have counted := writeEntry_counted fits
      rw [show countedTeller d = some n from rfl] at counted
      have rest : { u.sda with tellerDays := s.sda.tellerDays } = s.sda := sda_tellerDays
        (by simp [u, b, a, signOff, w, numberedRequest]) (by simp [u, b, a, signOff, w, numberedRequest])
        (by simp [u, b, a, signOff, w, numberedRequest]) (by simp [u, b, a, signOff, w, numberedRequest])
      have all : u.sda.tellerDays = s.sda.tellerDays.map fun y => if y.teller = n then
          { y with station := Option.none, lastOff := some s.mrs.clock, txCount := satCount 65535 y.txCount } else y := by
        unfold countedFor at counted
        rw [counted, (by simp [b] : b.sda = a.sda), days]
        dsimp only
        rw [List.map_map]
        refine List.map_congr_left fun y _ => ?_
        simp only [Function.comp_apply]
        by_cases own : y.teller = n
        · simp [own, Config.topCounter]
        · have other : n ≠ y.teller := fun h => own h.symm
          simp [own, other]
      rw [← all, ← rest]
    · refine wrote_congr (writeEntry_wrote fits) journal ?_ ?_ rfl
      · simp [b, a, signOff, w, numberedRequest]
      · simp [b, a, signOff, w, numberedRequest]
    · exact raisedOnly_from (raisedOnly_writeEntry 0 d b) (by simp [b, a, signOff, w, numberedRequest])
        (by simp [b, a, signOff, w, numberedRequest])
    · refine screenShows_congr (screenShows_composeInput (st := st) (mode := .signOnPrompt) (number := signOnPrompt a) (fields := [])
        (err := Option.none) (message := "SIGNED OFF".toList) (s := a) ?_) (contextOf_congr st (by simp [u, b, composePrompt]))
      rw [contextOf_congr (s := s) st (by simp [a, signOff, w, numberedRequest, setSignOn])]
      exact shown
  · refine ⟨_, run _ (routed .signOn acts), ?_⟩
    have refused : checkSignOn (owner .signOn) w = .error why := checkSignOn_fails fails
    have same : handLocal (owner .signOn) w = refuseLocal (owner .signOn) keyed 0 why w := by
      show localSignOn (owner .signOn) w = _
      unfold localSignOn
      rw [refused, key]
      rfl
    rw [same]
    exact refuseLocal_refused rfl rfl
  · refine ⟨_, run _ (routed .signOff acts), ?_⟩
    have inFlight : stationInFlight st w = true := by
      obtain ⟨e, held, here⟩ := some
      exact List.any_eq_true.2 ⟨e, held, by simpa using here⟩
    have same : handLocal (owner .signOff) w = refuseLocal (owner .signOff) (Option.some n) 0 .inFlight w := by
      rw [signsOff signed]
      exact if_pos inFlight
    rw [same]
    exact refuseLocal_refused rfl rfl

end
end Sys2Proof.Machine
end

section
/-! SUPPORT. What every command leaves of the written entries, and what a write and a reservation do to the store and its
space flags (O15). -/

namespace Sys2Proof.Machine
open Sys2Proof

variable {K : Wide → Prop} {s t u : State}

/-! ## Writes and reservations (R118 to R122) -/

/-- Counting a teller's transaction raises no flag but COUNTER_SATURATED. -/
theorem flagSet_countTeller {f : EventFlag} (hf : f ≠ .counterSaturated) (n : Option Nat) (s : State) :
    flagSet f (countTeller n s).mrs.flags = flagSet f s.mrs.flags := by
  unfold countTeller
  split
  · rfl
  · rw [flagSet_raiseIf_eq]
    simp [hf]

/-- The space flags after a write that is stored (R121, R122). -/
theorem flagSet_writeEntry {f : EventFlag} {k : Nat} {d : Draft} (hw : canWrite k d s) (hf : f ≠ .counterSaturated) :
    flagSet f (writeEntry k d s).mrs.flags = (flagSet f s.mrs.flags ||
      (decide (s.jrn.used ≤ highWaterSlots s) && decide (highWaterSlots s < s.jrn.used + draftSlots d) &&
        decide (f = .journalHighWater)) ||
      (decide (Config.journalFullMark ≤ s.jrn.free) &&
        decide (s.jrn.free + k - draftSlots d < Config.journalFullMark) && decide (f = .journalFull))) := by
  obtain ⟨room, sequence⟩ := hw
  unfold writeEntry
  rw [if_neg (by omega), flagSet_countTeller hf]
  unfold noteFree noteUsed
  rw [flagSet_raiseIf_eq, flagSet_raiseIf_eq]
  simp only [noteUsed, storeEntry, highWaterSlots, raiseIf_keeps, onJrn_jrn, onJrn_mrs]
  rfl

/-- A write that is stored (R118, R121, R122). -/
theorem writeEntry_stored {k : Nat} {d : Draft} (hw : canWrite k d s) :
    keeps [.sda, .jrn, .blc, .mrs] s (writeEntry k d s) ∧ wrote k d s (writeEntry k d s) ∧
      raisedOnly journalFlags s (writeEntry k d s) ∧
      (flagSet .journalHighWater (writeEntry k d s).mrs.flags = true ↔ flagSet .journalHighWater s.mrs.flags = true ∨
        (s.jrn.used ≤ 16384 * s.mrs.settings.highWater / 100 ∧
          16384 * s.mrs.settings.highWater / 100 < (writeEntry k d s).jrn.used)) ∧
      (flagSet .journalFull (writeEntry k d s).mrs.flags = true ↔ flagSet .journalFull s.mrs.flags = true ∨
        (68 ≤ s.jrn.free ∧ (writeEntry k d s).jrn.free < 68)) := by
  have w := writeEntry_wrote hw
  refine ⟨by simp [keeps], w, raisedOnly_writeEntry k d s, ?_, ?_⟩
  · rw [flagSet_writeEntry hw (by decide), w]
    simp
    exact Iff.rfl
  · rw [flagSet_writeEntry hw (by decide), w]
    simp
    exact Iff.rfl

/-- A write that finds too few slots or no sequence is not stored (R120). -/
theorem writeEntry_lost {k : Nat} {d : Draft} (hl : s.jrn.free + k < draftSlots d ∨ 4294967295 < s.jrn.nextSeq) :
    keeps [.jrn, .blc, .mrs] s (writeEntry k d s) ∧
      (writeEntry k d s).jrn = { s.jrn with
        reserved := s.jrn.reserved - k, free := s.jrn.free + k, notStored := satCount 65535 s.jrn.notStored } ∧
      raisedOnly [.journalFull] s (writeEntry k d s) ∧ flagSet .journalFull (writeEntry k d s).mrs.flags = true := by
  have lost : writeEntry k d s = loseEntry k s := if_pos hl
  rw [lost]
  exact ⟨by simp [keeps, loseEntry], by simp [loseEntry, Config.topCounter],
    raisedOnly_from (raisedOnly_raise (by decide) _) rfl rfl, flagSet_raise _ _⟩

/-- A reservation of slots raises JOURNAL_FULL where it carries the free slots below the mark (R119, R122). -/
theorem reserveSlots_judged (n : Nat) (s : State) :
    keeps [.jrn, .blc, .mrs] s (reserveSlots n s) ∧
      (reserveSlots n s).jrn = { s.jrn with reserved := s.jrn.reserved + n, free := s.jrn.free - n } ∧
      raisedOnly [.journalFull] s (reserveSlots n s) ∧
      (flagSet .journalFull (reserveSlots n s).mrs.flags = true ↔ flagSet .journalFull s.mrs.flags = true ∨
        (68 ≤ s.jrn.free ∧ s.jrn.free - n < 68)) := by
  refine ⟨by simp [keeps], reserveSlots_jrn n s, raisedOnly_reserveSlots (by decide) n s, ?_⟩
  rw [flagSet_reserveSlots]
  simp

/-! ## What stands of the entries (R116, R118, R128) -/

/-- The entries of one state stand in another: some of the oldest are gone, all accepted there, and new ones stand behind the
rest under higher sequences. -/
def entriesStand (s t : State) : Prop :=
  (∃ k new, t.jrn.entries = s.jrn.entries.drop k ++ new ∧ (∀ e ∈ new, s.jrn.nextSeq ≤ e.seq) ∧
    ∀ e ∈ s.jrn.entries.take k, e.seq ≤ t.jrn.lastAccepted) ∧ s.jrn.nextSeq ≤ t.jrn.nextSeq

theorem entriesStand_refl (s : State) : entriesStand s s := ⟨⟨0, [], by simp⟩, le_rfl⟩

theorem entriesStand_congr (h : entriesStand s t) (he : u.jrn.entries = t.jrn.entries)
    (hl : u.jrn.lastAccepted = t.jrn.lastAccepted) (hn : u.jrn.nextSeq = t.jrn.nextSeq) : entriesStand s u := by
  unfold entriesStand at *
  rw [he, hl, hn]
  exact h

/-- Entries that still stand whole may lose any that are accepted. -/
theorem entriesStand_whole (he : t.jrn.entries = s.jrn.entries) (hn : t.jrn.nextSeq = s.jrn.nextSeq) : entriesStand s t :=
  ⟨⟨0, [], by simp [he]⟩, hn.ge⟩

theorem entriesStand_write (k : Nat) (d : Draft) (t : State) (h : entriesStand s t) : entriesStand s (writeEntry k d t) := by
  obtain ⟨⟨m, new, held, later, gone⟩, next⟩ := h
  by_cases hw : canWrite k d t
  · have w : wrote k d t (writeEntry k d t) := writeEntry_wrote hw
    unfold entriesStand
    rw [w]
    refine ⟨⟨m, new ++ [⟨t.jrn.nextSeq, t.day.date, t.mrs.clock, d⟩], by simp [held], fun e he => ?_, gone⟩,
      next.trans (Nat.le_succ _)⟩
    rcases List.mem_append.1 he with he | he
    · exact later e he
    · rw [List.mem_singleton.1 he]; exact next
  · obtain ⟨-, lost, -⟩ := writeEntry_lost (k := k) (d := d) (s := t) (by
      unfold canWrite Config.topJournal at hw
      omega)
    unfold entriesStand
    rw [lost]
    exact ⟨⟨m, new, held, later, gone⟩, next⟩

/-- Freeing takes entries of the oldest end that are accepted. -/
theorem entriesStand_free (t : State) (h : entriesStand s t) : entriesStand s (freeEntries t) := by
  obtain ⟨⟨m, new, held, later, gone⟩, next⟩ := h
  have freed : ∀ e ∈ t.jrn.entries.takeWhile (freeable t), e.seq ≤ t.jrn.lastAccepted := fun e he => by
    have := List.mem_takeWhile_imp he
    simp only [freeable, Bool.and_eq_true, decide_eq_true_eq] at this
    exact this.1
  set n := (t.jrn.entries.takeWhile (freeable t)).length with hn
  have left : (freeEntries t).jrn.entries = t.jrn.entries.drop n := by
    show t.jrn.entries.dropWhile (freeable t) = _
    conv_rhs => rw [← List.takeWhile_append_dropWhile (p := freeable t) (l := t.jrn.entries), hn, List.drop_left]
  have taken : t.jrn.entries.takeWhile (freeable t) = t.jrn.entries.take n := by
    conv_rhs => rw [← List.takeWhile_append_dropWhile (p := freeable t) (l := t.jrn.entries), hn, List.take_left]
  refine ⟨⟨m + n, new.drop (n - (s.jrn.entries.drop m).length), ?_, fun e he => later e (List.mem_of_mem_drop he),
    fun e he => ?_⟩, by simpa using next⟩
  · rw [left, held, List.drop_append, List.drop_drop]
  · show e.seq ≤ t.jrn.lastAccepted
    rw [List.take_add] at he
    rcases List.mem_append.1 he with he | he
    · exact gone e he
    · refine freed e ?_
      rw [taken, held, List.take_append]
      exact List.mem_append_left _ he

theorem entriesStand_parts (s : State) : TxnParts (entriesStand s) where
  ttr _ _ _ h := h
  write := entriesStand_write
  hold _ _ h := entriesStand_congr h (by simp) (by simp) (by simp)
  reversal _ _ _ _ _ h := entriesStand_congr h (by simp) (by simp) (by simp)
  compose _ _ _ h := entriesStand_congr h (by simp) (by simp) (by simp)

/-- An elementary move that accepts no entry and does not roll the day leaves the entries standing. -/
theorem entriesStand_move (ha : ¬ K .accept) (hr : ¬ K .roll) (t u : State) (m : Move K t u) (h : entriesStand s t) :
    entriesStand s u := by
  have parts := entriesStand_parts s
  cases m
  case write d => exact entriesStand_write 0 d t h
  case free => exact entriesStand_free t h
  case accept n hk => exact absurd hk ha
  case rollJrn hk => exact absurd hk hr
  case jrn f he hu hr hf hn hl hb => exact entriesStand_congr h he hl hn
  case enter e _ _ _ _ _ => exact parts.hold _ _ h
  case leave => exact parts.endEntry h
  case abandon => exact parts.endEntry (parts.reversal _ _ _ _ _ h)
  case late => exact parts.endLate h
  case lateApproval => exact parts.endLate (parts.reversal _ _ _ _ _ h)
  case timedOut => exact parts.timedOut h
  all_goals exact entriesStand_congr h (by simp) (by simp) (by simp)

theorem entriesStand_moves (ha : ¬ K .accept) (hr : ¬ K .roll) (h : entriesStand s t) (m : Moves K t u) : entriesStand s u :=
  m.keep (entriesStand_move ha hr) h

/-- A chain of plain moves leaves the entries standing. -/
theorem entriesStand_plain (h : entriesStand s t) (m : Moves (fun _ => False) t u) : entriesStand s u :=
  entriesStand_moves id id h m

/-! ## Acknowledgements of batches (R125, R128) -/

theorem acceptSequence_stand {last : Nat} (he : t.jrn.entries = s.jrn.entries) (hn : t.jrn.nextSeq = s.jrn.nextSeq) :
    entriesStand s (acceptSequence last t) :=
  entriesStand_free _ (entriesStand_whole he hn)

theorem settlementAccepted_stand {b : Batch} (he : t.jrn.entries = s.jrn.entries) (hn : t.jrn.nextSeq = s.jrn.nextSeq) :
    entriesStand s (settlementAccepted b t) := by
  unfold settlementAccepted
  split
  · next j _ =>
    exact entriesStand_plain (acceptSequence_stand he hn) (phaseAfterAcceptance_moves (onSettlement_moves .refl))
  · dsimp only
    have parts := onSettlement_moves (K := fun _ => False) (s := t)
      (f := fun c => { clearCurrent c with parts := c.parts.tail }) .refl
    split
    · split
      · exact entriesStand_plain (entriesStand_whole he hn) (endSettlement_moves parts)
      · exact entriesStand_plain (entriesStand_whole he hn) parts
    · exact entriesStand_plain (entriesStand_whole he hn) parts

theorem takeBatchAck_stand {a : Option Ack} (he : t.jrn.entries = s.jrn.entries) (hn : t.jrn.nextSeq = s.jrn.nextSeq) :
    entriesStand s (takeBatchAck a t) := by
  have whole := entriesStand_whole he hn
  have unmatched := entriesStand_plain whole (unmatchedBatchAck_moves (s := t) .refl)
  unfold takeBatchAck
  split
  · exact unmatched
  · split
    · exact unmatched
    · split
      · unfold answerTrickle
        split
        · exact entriesStand_plain (acceptSequence_stand (by exact he) (by exact hn)) (phaseAfterAcceptance_moves .refl)
        · exact entriesStand_whole he hn
      · split
        · exact settlementAccepted_stand he hn
        · exact entriesStand_plain whole (settlementFails_moves .refl)
      · exact unmatched

theorem dispatch_stand {k : InboundKind} {dest : Nat} {payload : Bytes} (he : t.jrn.entries = s.jrn.entries)
    (hn : t.jrn.nextSeq = s.jrn.nextSeq) : entriesStand s (dispatch k dest payload t) := by
  have whole := entriesStand_whole he hn
  unfold dispatch
  cases k with
  | reply =>
    dsimp only
    split
    · exact entriesStand_plain whole (judgeSettle_moves (takeReply_moves .refl))
    · exact whole
  | mgmtReq =>
    dsimp only
    split
    · exact entriesStand_plain whole (placeRequest_moves .refl)
    · exact entriesStand_plain whole (countFrameForm_moves .refl)
  | adviceAck => exact entriesStand_plain whole (judgeSettle_moves (takeAdviceAck_moves .refl))
  | batchAck => exact takeBatchAck_stand he hn
  | linkCheck => exact entriesStand_plain whole (takeLinkCheck_moves .refl)

theorem takeFirstSegment_stand {k : InboundKind} {dest segment : Nat} {last : Bool} {payload : Bytes}
    (he : t.jrn.entries = s.jrn.entries) (hn : t.jrn.nextSeq = s.jrn.nextSeq) :
    entriesStand s (takeFirstSegment k dest segment last payload t) := by
  unfold takeFirstSegment
  split
  · split
    · exact dispatch_stand he hn
    · exact entriesStand_whole he hn
  · exact entriesStand_whole he hn

/-- Gathering a frame leaves the entries standing, also where it completes the acknowledgement of a batch. -/
theorem gather_stand {k : InboundKind} {dest segment : Nat} {last : Bool} {payload : Bytes}
    (he : t.jrn.entries = s.jrn.entries) (hn : t.jrn.nextSeq = s.jrn.nextSeq) :
    entriesStand s (gather k dest segment last payload t) := by
  unfold gather
  split
  · exact takeFirstSegment_stand he hn
  · split
    · unfold takeNextSegment
      split
      · exact dispatch_stand (by exact he) (by exact hn)
      · split
        · exact entriesStand_whole he hn
        · exact entriesStand_whole he hn
    · exact takeFirstSegment_stand (by simpa using he) (by simpa using hn)

/-! ## Every command -/

/-- A warm start frees no entry, and writes its own behind those held. -/
theorem warmStart_stand (s : State) : entriesStand s (warmStart s) := by
  have reset : entriesStand s (volatileReset s) := entriesStand_whole rfl rfl
  have ended : entriesStand s (abandoned s) :=
    entriesStand_moves (K := startKinds) id id reset (abandoned_moves (.inl trivial))
  exact entriesStand_moves (K := startKinds) (t := returnReserved (abandoned s)) id id (entriesStand_congr ended rfl rfl rfl)
    (warmStart_moves (fun _ => trivial) (fun _ => trivial))

/-- Every command but a date roll and a cold start leaves the entries standing. -/
theorem exec_stand {c : Instr} (hd : ∀ id d, c ≠ .dateRoll id d) (hm : s.rts.marker = true) (h : exec c s = .next t) :
    entriesStand s t := by
  have plain : c ≠ .start → ¬ wideOf (¬ transactionsOk s) c .accept → entriesStand s t := fun hc ha =>
    entriesStand_moves ha (by cases c <;> first | exact id | exact absurd rfl (hd _ _)) (entriesStand_refl s) (exec_moves hc h)
  cases c
  case start =>
    simp only [exec, execStart, hm, if_true] at h
    rw [← Host.Outcome.next.inj h]
    exact warmStart_stand s
  case inboundFrame bytes =>
    simp only [exec, execInboundFrame] at h
    split at h <;> cases h
    · exact entriesStand_whole rfl rfl
    · exact entriesStand_whole rfl rfl
    · exact gather_stand (by simp) (by simp)
  case batchAck a =>
    rw [← Host.Outcome.next.inj h]
    exact takeBatchAck_stand (by simp) (by simp)
  all_goals exact plain (by simp) id

/-- Settles O15: the writes and reservations by the model's own branches, and the entries held by the elementary moves of a
command, of which only an accepted batch changes the last accepted sequence, before anything is freed. -/
theorem writtenEntriesStand : Obligations.WrittenEntriesStand := by
  refine ⟨?_, ?_, fun c s t hd hm h => ?_⟩
  · rintro k d s t rfl
    exact ⟨writeEntry_stored, writeEntry_lost⟩
  · rintro n s t rfl
    exact reserveSlots_judged n s
  · obtain ⟨stand, -⟩ := exec_stand hd hm h
    exact stand

end Sys2Proof.Machine
end

section
/-! SUPPORT. The flags stand, and each rise of a flag of the notify set has its notice: both by the elementary moves of a
command (O16). -/

namespace Sys2Proof.Machine
open Sys2Proof

variable {K : Wide → Prop} {s t u : State}

/-! ## Flags stand (R194) -/

/-- Every flag set in one state is set in another. -/
def flagsStand (s t : State) : Prop := ∀ f, flagSet f s.mrs.flags = true → flagSet f t.mrs.flags = true

theorem flagsStand_refl (s : State) : flagsStand s s := fun _ h => h

theorem flagsStand_congr (h : flagsStand s t) (hf : u.mrs.flags = t.mrs.flags) : flagsStand s u := fun f k => hf ▸ h f k

theorem flagsStand_raised {fs : List EventFlag} (h : flagsStand s t) (hr : raisedOnly fs t u) : flagsStand s u := by
  obtain ⟨-, rises, -⟩ := hr
  exact fun f k => rises f (h f k)

theorem flagsStand_parts (s : State) : TxnParts (flagsStand s) where
  ttr _ _ _ h := h
  write k d _ h := flagsStand_raised h (raisedOnly_writeEntry k d _)
  hold n _ h := flagsStand_raised h (raisedOnly_reserveSlots (fs := [.journalFull]) (by decide) n _)
  reversal _ _ _ _ _ h := flagsStand_congr h (by simp)
  compose _ _ _ h := flagsStand_congr h (by simp)

theorem flagsStand_move (hr : ¬ K .reads) (t u : State) (m : Move K t u) (h : flagsStand s t) : flagsStand s u := by
  have parts := flagsStand_parts s
  cases m
  case reads f hk hf hc hs => exact absurd hk hr
  case mrs f hf hc hs => exact flagsStand_congr h hf
  case raise f hf => exact flagsStand_raised h (raisedOnly_raise (fs := [f]) (by simp) _)
  case alarm st hk => exact flagsStand_raised h (raisedOnly_raiseWith (fs := [.alarm]) (by simp) _ _)
  case write d => exact parts.write 0 d _ h
  case enter e _ _ _ _ _ => exact parts.hold _ _ h
  case leave => exact parts.endEntry h
  case abandon => exact parts.endEntry (parts.reversal _ _ _ _ _ h)
  case late => exact parts.endLate h
  case lateApproval => exact parts.endLate (parts.reversal _ _ _ _ _ h)
  case timedOut => exact parts.timedOut h
  all_goals exact flagsStand_congr h (by simp)

/-! ## Notices (R195) -/

/-- The notices of a flag that wait. -/
def noticesOf (f : EventFlag) (s : State) : List EventNotice := s.blc.events.filter fun n => n.flag = f

/-- The notices of a flag that wait after its rise: those that waited, or its one notice, with the station for ALARM alone. -/
def noticesRisen (f : EventFlag) (st : Option Station) (s : State) : List EventNotice :=
  if ∃ n ∈ s.blc.events, n.flag = f then noticesOf f s
  else [{ flag := f, time := s.mrs.clock, station := if f = .alarm then st else none }]

theorem noticesOf_nil {f : EventFlag} : noticesOf f s = [] ↔ ¬ ∃ n ∈ s.blc.events, n.flag = f := by
  simp [noticesOf]

/-- Placing the notice of a flag leaves the notices of every other flag. -/
theorem noticesOf_placeNotice_other {f g : EventFlag} (hg : g ≠ f) (st : Option Station) (s : State) :
    noticesOf g (placeNotice f st s) = noticesOf g s := by
  unfold placeNotice
  split
  · rfl
  · simp [noticesOf, Ne.symm hg]

theorem noticesOf_placeNotice (f : EventFlag) (st : Option Station) (s : State) :
    noticesOf f (placeNotice f st s) =
      if noticesOf f s = [] then [{ flag := f, time := s.mrs.clock, station := st }] else noticesOf f s := by
  unfold placeNotice
  split
  · next waits => rw [if_neg (by simpa [noticesOf] using waits)]
  · next waits =>
    have none : noticesOf f s = [] := by simpa [noticesOf] using waits
    rw [if_pos none]
    simpa [noticesOf] using none

/-- Raising a flag leaves the notices of every other flag. -/
theorem noticesOf_raiseWith_other {f g : EventFlag} (hg : g ≠ f) (st : Option Station) (s : State) :
    noticesOf g (raiseWith f st s) = noticesOf g s := by
  unfold raiseWith
  dsimp only
  split
  · rw [noticesOf_placeNotice_other hg]; rfl
  · rfl

/-- A flag raised while it is set places no notice. -/
theorem noticesOf_raiseWith_set {f : EventFlag} (hf : flagSet f s.mrs.flags = true) (st : Option Station) :
    noticesOf f (raiseWith f st s) = noticesOf f s := by
  simp [raiseWith, hf, noticesOf]

/-- A flag of the notify set that rises places its notice, unless one waits. -/
theorem noticesOf_raiseWith {f : EventFlag} (hn : notifies f = true) (hf : flagSet f s.mrs.flags = false) (st : Option Station) :
    noticesOf f (raiseWith f st s) =
      if noticesOf f s = [] then [{ flag := f, time := s.mrs.clock, station := st }] else noticesOf f s := by
  unfold raiseWith
  simp only [hn, hf, Bool.not_false, Bool.and_self, if_true]
  exact noticesOf_placeNotice f st _

/-- From one state to another the time of day stands, ALARM rises for a station alone, and each flag of the notify set that was
clear has the notices that follow from its standing clear or its rise. -/
def noticed (st : Option Station) (s t : State) : Prop :=
  t.mrs.clock = s.mrs.clock ∧ (st = none → flagSet .alarm t.mrs.flags = flagSet .alarm s.mrs.flags) ∧
    ∀ f, notifies f = true → flagSet f s.mrs.flags = false →
      noticesOf f t = if flagSet f t.mrs.flags = true then noticesRisen f st s else noticesOf f s

variable {st : Option Station}

theorem noticed_refl (st : Option Station) (s : State) : noticed st s s :=
  ⟨rfl, fun _ => rfl, fun f _ hf => by rw [if_neg (by simp [hf])]⟩

theorem noticed_congr (h : noticed st s t) (hf : u.mrs.flags = t.mrs.flags) (hc : u.mrs.clock = t.mrs.clock)
    (he : u.blc.events = t.blc.events) : noticed st s u := by
  unfold noticed noticesOf at *
  rw [hf, hc, he]
  exact h

/-- Raising a flag keeps each rise noticed; ALARM carries its station. -/
theorem noticed_raiseWith {g : EventFlag} {a : Option Station} (ha : a = if g = .alarm then st else none)
    (hg : st = none → g ≠ .alarm) (h : noticed st s t) : noticed st s (raiseWith g a t) := by
  obtain ⟨clock, alarm, rises⟩ := h
  refine ⟨by simpa using clock, fun hs => ?_, fun f hn hf => ?_⟩
  · rw [flagSet_raiseWith_eq, decide_eq_false (hg hs).symm, Bool.or_false, alarm hs]
  · have before := rises f hn hf
    rw [flagSet_raiseWith_eq]
    by_cases hfg : f = g
    · subst hfg
      rw [if_pos (by simp)]
      cases hset : flagSet f t.mrs.flags with
      | true => rw [noticesOf_raiseWith_set hset, before, if_pos hset]
      | false =>
        have unraised : noticesOf f t = noticesOf f s := by rw [before, if_neg (by simp [hset])]
        rw [noticesOf_raiseWith hn hset, unraised, clock, ha]
        unfold noticesRisen
        by_cases waits : ∃ n ∈ s.blc.events, n.flag = f
        · rw [if_neg (fun none => noticesOf_nil.1 none waits), if_pos waits]
        · rw [if_pos (noticesOf_nil.2 waits), if_neg waits]
    · rw [noticesOf_raiseWith_other hfg, before, decide_eq_false hfg, Bool.or_false]

theorem noticed_raiseIf {g : EventFlag} (b : Bool) (hg : g ≠ .alarm) (h : noticed st s t) : noticed st s (raiseIf b g t) := by
  unfold raiseIf
  split
  · exact noticed_raiseWith (by rw [if_neg hg]) (fun _ => hg) h
  · exact h

theorem noticed_write (k : Nat) (d : Draft) (t : State) (h : noticed st s t) : noticed st s (writeEntry k d t) := by
  unfold writeEntry
  split
  · exact noticed_raiseWith rfl (fun _ => by decide) (noticed_congr h rfl rfl rfl)
  · unfold countTeller
    split
    · exact noticed_raiseIf _ (by decide) (noticed_raiseIf _ (by decide) (noticed_congr h rfl rfl rfl))
    · refine noticed_raiseIf _ (by decide) (noticed_congr (t := noteFree t.jrn.free (noteUsed t.jrn.used (storeEntry k d t)))
        ?_ rfl rfl rfl)
      exact noticed_raiseIf _ (by decide) (noticed_raiseIf _ (by decide) (noticed_congr h rfl rfl rfl))

theorem noticed_parts (st : Option Station) (s : State) : TxnParts (noticed st s) where
  ttr _ _ _ h := h
  write := noticed_write
  hold _ _ h := noticed_raiseIf _ (by decide) (noticed_congr h rfl rfl rfl)
  reversal _ _ _ _ _ h := noticed_congr h (by simp) (by simp) (by simp)
  compose _ _ _ h := noticed_congr h (by simp) (by simp) (by simp)

/-- The kinds of moves that no command outside STATUS-READ, CLOCK-SET, TRANSMIT and a rising ALARM_IN makes. -/
def unheard (K : Wide → Prop) : Prop := ¬ K .reads ∧ ¬ K .clock ∧ ¬ K .notice ∧ ¬ K .alarm

theorem noticed_move (hq : unheard K) (t u : State) (m : Move K t u) (h : noticed st s t) : noticed st s u := by
  obtain ⟨noReads, noClock, noNotice, noAlarm⟩ := hq
  have parts := noticed_parts st s
  cases m
  case reads f hk hf hc hs => exact absurd hk noReads
  case clock n hk hn => exact absurd hk noClock
  case notice hk => exact absurd hk noNotice
  case alarm a hk => exact absurd hk noAlarm
  case mrs f hf hc hs => exact noticed_congr h hf hc rfl
  case blc f he => exact noticed_congr h rfl rfl he
  case raise f hf => exact noticed_raiseWith (by rw [if_neg hf]) (fun _ => hf) h
  case write d => exact noticed_write 0 d _ h
  case enter e _ _ _ _ _ => exact parts.hold _ _ h
  case leave => exact parts.endEntry h
  case abandon => exact parts.endEntry (parts.reversal _ _ _ _ _ h)
  case late => exact parts.endLate h
  case lateApproval => exact parts.endLate (parts.reversal _ _ _ _ _ h)
  case timedOut => exact parts.timedOut h
  all_goals exact noticed_congr h (by simp) (by simp) (by simp)

theorem noticed_moves (hq : unheard K) (h : noticed st s t) (m : Moves K t u) : noticed st s u := m.keep (noticed_move hq) h

/-- A rising ALARM_IN raises ALARM with its station. -/
theorem noticed_raiseAlarm (a : Station) (s : State) : noticed (some a) s (raiseAlarm a s) := by
  unfold raiseAlarm
  extract_lets s1 s2
  have queued : noticed (some a) s s1 := by
    refine noticed_congr (noticed_refl _ s) ?_ ?_ ?_ <;> (simp only [s1]; split <;> simp)
  have raised : noticed (some a) s s2 := noticed_raiseWith (by simp) (fun h => by cases h) queued
  split
  · exact noticed_write _ _ _ raised
  · exact raised

/-! ## Requests that raise no flag of the notify set -/

/-- A request raises no flag but MGMT_OVERRUN that its own part does not raise. -/
theorem withRequest_quiet {id : Nat} {r : MgmtRequest} {act : State → State} {f : EventFlag} (hf : f ≠ .mgmtOverrun)
    (ha : ∀ u, flagSet f (act u).mrs.flags = true → flagSet f u.mrs.flags = true)
    (h : flagSet f (withRequest id r act s).mrs.flags = true) : flagSet f s.mrs.flags = true := by
  unfold withRequest at h
  split at h
  · exact h
  · split at h
    · split at h
      · have before := ha _ h
        exact before
      · exact h
    · split at h
      · have before := ha _ h
        exact before
      · unfold countOverrun at h
        rw [flagSet_raise_eq, decide_eq_false hf, Bool.or_false] at h
        exact h

theorem takeStatusRead_quiet {id : Nat} {lines : List Nat} {f : EventFlag} (u : State)
    (h : flagSet f (takeStatusRead id lines u).mrs.flags = true) : flagSet f u.mrs.flags = true := by
  unfold takeStatusRead at h
  split at h
  · have clear : flagSet f EventFlags.clear = true := by simpa [answer, clearRead] using h
    cases f <;> simp [flagSet, EventFlags.clear] at clear
  · exact h

theorem takeClockSet_quiet {id secs : Nat} {f : EventFlag} (u : State)
    (h : flagSet f (takeClockSet id secs u).mrs.flags = true) : flagSet f u.mrs.flags = true := by
  unfold takeClockSet at h
  split at h <;> exact h

theorem transmit_quiet {f : EventFlag} (h : execTransmit s = .next t) (ht : flagSet f t.mrs.flags = true) :
    flagSet f s.mrs.flags = true := by
  unfold execTransmit at h
  split at h
  · rwa [Host.Outcome.next.inj h]
  · split at h
    · rw [← Host.Outcome.next.inj h] at ht
      simpa using ht
    · rwa [Host.Outcome.next.inj h]

/-- Every command but a start has each rise noticed: it raises no flag of the notify set, or its moves notice each rise. -/
theorem exec_noticed {c : Instr} {f : EventFlag} (hc : c ≠ .start) (h : exec c s = .next t) (hn : notifies f = true)
    (hs : flagSet f s.mrs.flags = false) (ht : flagSet f t.mrs.flags = true) :
    ∃ st, (f = .alarm → ∃ a, c = .alarmInRising a ∧ st = some a) ∧ noticesOf f t = noticesRisen f st s := by
  have overrun : f ≠ .mgmtOverrun := by rintro rfl; cases hn
  have unraised : flagSet f s.mrs.flags = true → False := fun k => by rw [hs] at k; cases k
  have risen : ∀ {st}, noticed st s t → noticesOf f t = noticesRisen f st s := fun hq => by
    obtain ⟨-, -, rises⟩ := hq
    rw [rises f hn hs, if_pos ht]
  have plain : unheard (wideOf (¬ transactionsOk s) c) →
      ∃ st, (f = .alarm → ∃ a, c = .alarmInRising a ∧ st = some a) ∧ noticesOf f t = noticesRisen f st s := fun hq => by
    have all := noticed_moves hq (noticed_refl none s) (exec_moves hc h)
    refine ⟨none, fun hf => ?_, risen all⟩
    obtain ⟨-, alarm, -⟩ := all
    subst hf
    exact (unraised (alarm rfl ▸ ht)).elim
  cases c
  case statusRead id lines =>
    rw [← Host.Outcome.next.inj h] at ht
    exact (unraised (withRequest_quiet overrun takeStatusRead_quiet ht)).elim
  case clockSet id secs =>
    rw [← Host.Outcome.next.inj h] at ht
    exact (unraised (withRequest_quiet overrun takeClockSet_quiet ht)).elim
  case transmit => exact (unraised (transmit_quiet h ht)).elim
  case alarmInRising a =>
    refine ⟨some a, fun _ => ⟨a, rfl, rfl⟩, risen ?_⟩
    simp only [exec, execAlarmInRising] at h
    split at h <;> rw [← Host.Outcome.next.inj h]
    · exact noticed_raiseAlarm a s
    · exact noticed_refl _ s
  case start => exact absurd rfl hc
  all_goals exact plain ⟨id, id, id, id⟩

/-- Settles O16: the elementary moves of a command clear no flag, and place one notice where a flag of the notify set rises. -/
theorem flagsStandUntilRead : Obligations.FlagsStandUntilRead := by
  refine ⟨fun c s t f hr hc h hs => ?_, fun c s t f hc h hf hs ht => ?_⟩
  · refine (exec_moves hc h).keep (flagsStand_move ?_) (flagsStand_refl s) f hs
    cases c
    case statusRead id lines => exact absurd rfl (hr id lines)
    all_goals exact id
  · have hn : notifies f = true := by
      simp only [List.mem_cons, List.not_mem_nil, or_false] at hf
      rcases hf with rfl | rfl | rfl | rfl | rfl <;> rfl
    obtain ⟨st, alarm, risen⟩ := exec_noticed hc h hn hs ht
    by_cases hfa : f = .alarm
    · refine ⟨st, alarm, absurd hfa, risen.trans ?_⟩
      simp [noticesRisen, noticesOf, hfa]
    · refine ⟨none, fun k => absurd k hfa, fun _ => rfl, risen.trans ?_⟩
      simp [noticesRisen, noticesOf, hfa]

end Sys2Proof.Machine
end

section
/-! SUPPORT. The frame check as a register that takes in one bit after another, and the parts of a frame (O50). -/

namespace Sys2Proof.Machine
open Sys2Proof

/-! ## The register (R202) -/

/-- The bit that a shift of the register takes in may be put into the register before it. -/
theorem crcShift_xor (r x : BitVec 16) : crcShift (r ^^^ x) = checkAfter r x.msb ^^^ (x <<< 1) := by
  have shifted : (r ^^^ x) <<< 1 = r <<< 1 ^^^ x <<< 1 := BitVec.shiftLeft_xor_distrib r x 1
  unfold crcShift checkAfter
  rw [BitVec.msb_xor, shifted]
  cases r.msb <;> cases x.msb <;> simp [BitVec.xor_assoc, BitVec.xor_comm (x <<< 1) 0x8005#16]

/-- The bits that leave a word at its top in so many shifts. -/
def topBits (k : Nat) (x : BitVec 16) : List Bool := (List.range k).map fun i => (x <<< i).msb

theorem topBits_succ (k : Nat) (x : BitVec 16) : topBits (k + 1) x = x.msb :: topBits k (x <<< 1) := by
  simp only [topBits, List.range_succ_eq_map, List.map_cons, List.map_map, BitVec.shiftLeft_zero, List.cons.injEq, true_and]
  refine List.map_congr_left fun i _ => ?_
  show (x <<< (i + 1)).msb = _
  rw [Nat.add_comm, BitVec.shiftLeft_add]

/-- Shifts of a register with a word put into it: the top bits of the word enter one by one, and the rest of it moves up. -/
theorem crcShifts_xor (k : Nat) (r x : BitVec 16) :
    crcShifts k (r ^^^ x) = (topBits k x).foldl checkAfter r ^^^ (x <<< k) := by
  induction k generalizing r x with
  | zero => simp [crcShifts, topBits]
  | succ k ih => rw [crcShifts, crcShift_xor, ih, topBits_succ, List.foldl_cons, Nat.add_comm, BitVec.shiftLeft_add]

/-- The top bits of a byte at the top of a word are the bits of the byte. -/
theorem topBits_byte (b : Byte) : topBits 8 (b.zeroExtend 16 <<< 8) = bitsOf b := by
  simp [topBits, bitsOf, List.range_succ, BitVec.msb_eq_getLsbD_last]

theorem crcByte_bits (r : BitVec 16) (b : Byte) : crcByte r b = (bitsOf b).foldl checkAfter r := by
  have out : (b.zeroExtend 16 <<< 8) <<< 8 = 0#16 := by
    ext i hi
    simp
  unfold crcByte
  rw [crcShifts_xor, topBits_byte, out, BitVec.xor_zero]

theorem frameCheck_bits (bs : Bytes) : frameCheck bs = (bs.flatMap bitsOf).foldl checkAfter 0xFFFF#16 := by
  rw [List.foldl_flatMap]
  exact congrArg (fun f => bs.foldl f 0xFFFF#16) (funext fun r => funext fun b => crcByte_bits r b)

/-! ## The check bytes (R202) -/

/-- A word whose top bits are clear moves up unchanged by the generator. -/
theorem crcShifts_clear {k : Nat} {x : BitVec 16} (h : ∀ b ∈ topBits k x, b = false) : crcShifts k x = x <<< k := by
  have rests : ∀ bits : List Bool, (∀ b ∈ bits, b = false) → bits.foldl checkAfter 0#16 = 0#16 := fun bits hb => by
    induction bits with
    | nil => rfl
    | cons b rest ih =>
      obtain ⟨hb, hrest⟩ := List.forall_mem_cons.1 hb
      rw [List.foldl_cons, hb, show checkAfter 0#16 false = 0#16 by decide, ih hrest]
  have run := crcShifts_xor k 0#16 x
  rwa [BitVec.zero_xor, rests _ h, BitVec.zero_xor] at run

/-- The check bytes of a register bring it to 0. -/
theorem crcByte_check (r : BitVec 16) : crcByte (crcByte r (r.extractLsb' 8 8)) (r.extractLsb' 0 8) = 0#16 := by
  have high : crcByte r (r.extractLsb' 8 8) = (r.extractLsb' 0 8).zeroExtend 16 <<< 8 := by
    have low : r ^^^ ((r.extractLsb' 8 8).zeroExtend 16 <<< 8) = (r.extractLsb' 0 8).zeroExtend 16 := by
      ext i hi
      by_cases h8 : i < 8
      · simp [h8, BitVec.getLsbD_eq_getElem hi]
      · have back : 8 + (i - 8) = i := Nat.add_sub_cancel' (Nat.le_of_not_lt h8)
        have within : i - 8 < 8 := by omega
        simp [h8, back, within, BitVec.getLsbD_eq_getElem hi]
    unfold crcByte
    rw [low]
    refine crcShifts_clear fun b hb => ?_
    simp only [topBits, List.mem_map, List.mem_range] at hb
    obtain ⟨i, hi, rfl⟩ := hb
    simp [BitVec.msb_eq_getLsbD_last]
    omega
  rw [high]
  unfold crcByte
  rw [BitVec.xor_self, crcShifts_clear (by decide)]
  rfl

theorem frameCheck_withCheck (bs : Bytes) : frameCheck (withCheck bs) = 0#16 := by
  simp only [frameCheck, withCheck, checkBytes, List.foldl_append, List.foldl_cons, List.foldl_nil]
  exact crcByte_check _

/-! ## The parts of a frame (section 12.1) -/

/-- The length of a payload as its two bytes give it. -/
theorem lengthBytes_value {n : Nat} (h : n ≤ 1024) : beValue [BitVec.ofNat 8 (n / 256), BitVec.ofNat 8 (n % 256)] = n := by
  simp only [beValue, List.foldl_cons, List.foldl_nil, BitVec.toNat_ofNat]
  omega

/-- A frame within the bound of its payload is judged by its check, and then by its form. -/
theorem judgeFrame_frameWith {dest source kind segment : Byte} {payload : Bytes} {high low : Byte}
    (h : payload.length ≤ 1024) :
    judgeFrame (frameWith dest source kind segment payload high low) =
      if frameCheck (frameWith dest source kind segment payload high low) ≠ 0#16 then .frameCheck
      else judgeForm dest source kind segment payload := by
  have length := lengthBytes_value h
  have within : ¬ (Config.payloadBytes < payload.length ∨ (payload ++ [high, low]).length ≠ payload.length + 2) := by
    simpa [Config.payloadBytes] using h
  simp only [frameWith, judgeFrame, List.cons_append, List.nil_append, length]
  rw [if_neg within, List.take_left]
  rfl

/-- The bytes of a frame are those of its parts with its check bytes. -/
theorem frameBytes_frameWith (f : LinkFrame) : ∃ high low,
    frameBytes f = frameWith f.dest f.source f.kind f.segment f.payload high low := by
  have low : byteOf f.payload.length = BitVec.ofNat 8 (f.payload.length % 256) := by
    apply BitVec.eq_of_toNat_eq
    simp [byteOf]
  have length : beBytes 2 f.payload.length =
      [BitVec.ofNat 8 (f.payload.length / 256), BitVec.ofNat 8 (f.payload.length % 256)] := by
    rw [beBytes, beBytes, beBytes, pow_one, pow_zero, Nat.div_one, low]
    rfl
  refine ⟨(frameCheck ([f.dest, f.source, f.kind, f.segment] ++ beBytes 2 f.payload.length ++ f.payload)).extractLsb' 8 8,
    (frameCheck ([f.dest, f.source, f.kind, f.segment] ++ beBytes 2 f.payload.length ++ f.payload)).extractLsb' 0 8, ?_⟩
  rw [frameBytes, withCheck, length]
  rfl

/-- Bytes that are no complete frame fail as frame check. -/
theorem judgeFrame_incomplete {bytes : Bytes}
    (h : ∀ dest source kind segment payload high low, payload.length ≤ 1024 →
      bytes ≠ frameWith dest source kind segment payload high low) : judgeFrame bytes = .frameCheck := by
  unfold judgeFrame
  split
  · next dest source kind segment l1 l0 rest =>
    dsimp only
    split
    · rfl
    · next fits =>
      exfalso
      simp only [Config.payloadBytes, not_or, not_lt, not_not] at fits
      obtain ⟨bound, length⟩ := fits
      have value : beValue [l1, l0] = 256 * l1.toNat + l0.toNat := by simp [beValue]
      rw [value] at bound length
      have hl : (rest.take (256 * l1.toNat + l0.toNat)).length = 256 * l1.toNat + l0.toNat := by
        rw [List.length_take]
        omega
      obtain ⟨high, low, hcheck⟩ : ∃ high low, rest.drop (256 * l1.toNat + l0.toNat) = [high, low] :=
        List.length_eq_two.1 (by rw [List.length_drop]; omega)
      refine h dest source kind segment (rest.take (256 * l1.toNat + l0.toNat)) high low (by omega) ?_
      have b1 := l1.isLt
      have b0 := l0.isLt
      have e1 : BitVec.ofNat 8 ((256 * l1.toNat + l0.toNat) / 256) = l1 := by
        apply BitVec.eq_of_toNat_eq
        rw [BitVec.toNat_ofNat]
        omega
      have e0 : BitVec.ofNat 8 ((256 * l1.toNat + l0.toNat) % 256) = l0 := by
        apply BitVec.eq_of_toNat_eq
        rw [BitVec.toNat_ofNat]
        omega
      simp only [frameWith, hl, e1, e0, List.cons_append, List.nil_append]
      rw [← hcheck, List.take_append_drop]
  · rfl

/-! ## The form of a frame (R181) -/

theorem inboundKind_iff {n : Nat} {k : InboundKind} : inboundKind n = some k ↔ n = inboundCode k := by
  unfold inboundKind
  split <;> cases k <;> simp_all [inboundCode]

theorem destSuits_iff {k : InboundKind} {n : Nat} :
    destSuits k n = true ↔ (k = .reply → 1 ≤ n ∧ n ≤ 8) ∧ (k ≠ .reply → n = 0) := by
  cases k <;> simp [destSuits]

/-- Bits 6 to 4 of a byte are 0. -/
theorem middleBits_clear (b : Byte) : (b.toNat / 16) % 8 = 0 ↔
    (b.getLsbD 6 = false ∧ b.getLsbD 5 = false ∧ b.getLsbD 4 = false) := by
  have bits : ∀ i, b.getLsbD i = decide (b.toNat / 2 ^ i % 2 = 1) := fun i => Nat.testBit_eq_decide_div_mod_eq
  simp only [bits, decide_eq_false_iff_not]
  omega

/-- The form of a frame is judged valid exactly where its kind, source, destination and segment byte are in form. -/
theorem judgeForm_valid {dest source kind segment : Byte} {payload p : Bytes} {k : InboundKind} {n m : Nat} {last : Bool} :
    judgeForm dest source kind segment payload = .valid k n m last p ↔
      kind.toNat = inboundCode k ∧ source.toNat = 255 ∧ (k = .reply → 1 ≤ dest.toNat ∧ dest.toNat ≤ 8) ∧
        (k ≠ .reply → dest.toNat = 0) ∧
        (segment.getLsbD 6 = false ∧ segment.getLsbD 5 = false ∧ segment.getLsbD 4 = false) ∧
        n = dest.toNat ∧ m = segment.toNat % 16 ∧ last = segment.getLsbD 7 ∧ p = payload := by
  rw [← inboundKind_iff, ← middleBits_clear]
  unfold judgeForm
  cases inboundKind kind.toNat with
  | none => simp
  | some j =>
    have suits := destSuits_iff (k := j) (n := dest.toNat)
    dsimp only
    split
    · next hs => exact ⟨fun h => (by cases h), fun ⟨_, h, _⟩ => absurd h hs⟩
    · next hs =>
      split
      · next hd =>
        have unsuited : destSuits j dest.toNat ≠ true := by simpa using hd
        refine ⟨fun h => (by cases h), fun ⟨hk, _, h1, h2, _⟩ => ?_⟩
        cases hk
        exact absurd (suits.2 ⟨h1, h2⟩) unsuited
      · next hd =>
        have suited : destSuits j dest.toNat = true := by simpa using hd
        split
        · next hm => exact ⟨fun h => (by cases h), fun ⟨_, _, _, _, h, _⟩ => absurd h hm⟩
        · next hm =>
          constructor
          · intro h
            cases h
            obtain ⟨h1, h2⟩ := suits.1 suited
            exact ⟨rfl, not_not.1 hs, h1, h2, not_not.1 hm, rfl, rfl, rfl, rfl⟩
          · rintro ⟨hk, -, -, -, -, rfl, rfl, rfl, rfl⟩
            cases hk
            rfl

theorem judgeForm_ne_frameCheck (dest source kind segment : Byte) (payload : Bytes) :
    judgeForm dest source kind segment payload ≠ .frameCheck := by
  unfold judgeForm
  repeat' split
  all_goals nofun

theorem judgeForm_else {dest source kind segment : Byte} {payload : Bytes}
    (h : ∀ k n m last p, judgeForm dest source kind segment payload ≠ .valid k n m last p) :
    judgeForm dest source kind segment payload = .frameForm := by
  cases judged : judgeForm dest source kind segment payload with
  | frameCheck => exact absurd judged (judgeForm_ne_frameCheck dest source kind segment payload)
  | frameForm => rfl
  | valid k n m last p => exact absurd judged (h k n m last p)

/-- Settles O50: the register takes in the bits one by one, so that its own bytes clear it; and a frame's parts are those its
length bytes cut out. -/
theorem frameIsReadBack : Obligations.FrameIsReadBack := by
  refine ⟨frameCheck_bits, fun f hl => ?_, fun bytes h => judgeFrame_incomplete h, ?_,
    fun dest source kind segment payload => ⟨judgeForm_else, fun k n m last p => judgeForm_valid⟩⟩
  · have check : frameCheck (frameBytes f) = 0#16 := frameCheck_withCheck _
    obtain ⟨high, low, hf⟩ := frameBytes_frameWith f
    refine ⟨check, by rw [hf]; simp [frameWith], ?_⟩
    rw [hf] at check ⊢
    rw [judgeFrame_frameWith hl, if_neg (not_not.2 check)]
  · rintro bytes payload dest source kind segment high low hl rfl
    rw [judgeFrame_frameWith hl]
    exact ⟨fun h => if_pos h, fun h => if_neg (not_not.2 h)⟩

end Sys2Proof.Machine
end

section
/-! SUPPORT. The setups of lines: what a LINE-SETUP carries, the drawer watch as the wires change, and a screen made afresh
(O45). -/

namespace Sys2Proof.Machine
open Sys2Proof

variable {s t u v : State} {st a : Station}

/-! ## The drawer watch (R176) -/

theorem lineOf_endDrawerWatch (st a : Station) (s : State) : lineOf a (endDrawerWatch st s) =
    if a = st then { lineOf st s with openTimer := none, leftOpen := false } else lineOf a s := by
  have line : lineOf a (endDrawerWatch st s) = lineOf a (onLine st (fun l => { l with openTimer := none, leftOpen := false }) s) := by
    unfold endDrawerWatch
    dsimp only
    split
    · exact lineOf_congr a (by simp)
    · rfl
  rw [line, lineOf_onLine]

/-- The watch of one station's drawer ends beside the screens of the others. -/
theorem contextOf_endDrawerWatch (ha : a ≠ st) (s : State) : contextOf a (endDrawerWatch st s) = contextOf a s := by
  unfold endDrawerWatch
  dsimp only
  split
  · rw [contextOf_refresh, if_neg ha]; rfl
  · rfl

theorem contextOf_endDrawerWatch_none (h : contextOf st s = none) : contextOf st (endDrawerWatch st s) = none := by
  unfold endDrawerWatch
  dsimp only
  split
  · rw [contextOf_refresh, if_pos rfl]
    exact congrArg _ h
  · exact h

theorem lineOf_nextSample (a : Station) (s : State) : lineOf a (nextSample s) = lineOf a s := rfl

/-- A station's line after its DRAWER_SENSE function has left its wire, or has come to one. -/
structure watchBegins (new : Option DiscreteLine) (l v : Line) (s : State) : Prop where
  line : v = { l with drawerOpen := v.drawerOpen, openTimer := v.openTimer, leftOpen := v.leftOpen }
  leftOpen : v.leftOpen = false
  timer : v.openTimer = if new ≠ none ∧ v.drawerOpen = true then some (s.uptime + 1000 * s.mrs.settings.drawerOpen) else none

theorem rewatchDrawer_begins {old new : Option DiscreteLine} (h : old ≠ new) (st : Station) (s : State) :
    watchBegins new (lineOf st s) (lineOf st (rewatchDrawer st old new s)) s := by
  have ended := (lineOf_endDrawerWatch st st s).trans (if_pos rfl)
  unfold rewatchDrawer
  rw [if_neg h]
  cases new with
  | none =>
    dsimp only
    rw [ended]
    exact ⟨rfl, rfl, by simp⟩
  | some d =>
    let s1 := nextSample (onLine st (fun l => { l with drawerOpen := sampledLevel d s }) (endDrawerWatch st s))
    have found : lineOf st s1 =
        { lineOf st s with openTimer := none, leftOpen := false, drawerOpen := sampledLevel d s } := by
      have own : lineOf st s1 = { lineOf st (endDrawerWatch st s) with drawerOpen := sampledLevel d s } :=
        (lineOf_nextSample ..).trans ((lineOf_onLine ..).trans (if_pos rfl))
      rw [own, ended]
    show watchBegins _ _ (lineOf st (if sampledLevel d s = true then startDrawerTimer st s1 else s1)) s
    by_cases opened : sampledLevel d s = true
    · have started : lineOf st (startDrawerTimer st s1) = { lineOf st s1 with
          openTimer := some (secondsAhead s1.mrs.settings.drawerOpen s1) } := (lineOf_onLine ..).trans (if_pos rfl)
      have moment : secondsAhead s1.mrs.settings.drawerOpen s1 = s.uptime + 1000 * s.mrs.settings.drawerOpen := by
        simp [s1, secondsAhead, nextSample]
      rw [if_pos opened, started, moment, found]
      exact ⟨rfl, rfl, by simp [opened]⟩
    · rw [if_neg opened, found]
      exact ⟨rfl, rfl, by simp [opened]⟩

theorem lineOf_rewatchDrawer_other {old new : Option DiscreteLine} (ha : a ≠ st) (s : State) :
    lineOf a (rewatchDrawer st old new s) = lineOf a s := by
  have ended := (lineOf_endDrawerWatch st a s).trans (if_neg ha)
  unfold rewatchDrawer
  split
  · rfl
  · split
    · exact ended
    · next d =>
      dsimp only
      split
      · rw [startDrawerTimer, lineOf_onLine, if_neg ha, lineOf_nextSample, lineOf_onLine, if_neg ha, ended]
      · rw [lineOf_nextSample, lineOf_onLine, if_neg ha, ended]

theorem contextOf_rewatchDrawer {old new : Option DiscreteLine}
    (h : contextOf a (endDrawerWatch st s) = contextOf a s) : contextOf a (rewatchDrawer st old new s) = contextOf a s := by
  unfold rewatchDrawer
  split
  · rfl
  · split
    · exact h
    · dsimp only
      split <;> exact h

/-! ## A setup replaced (R165) -/

theorem lineOf_replaceSetup_other (x : LineSetup) (ha : a ≠ st) (s : State) : lineOf a (replaceSetup st x s) = lineOf a s :=
  (lineOf_rewatchDrawer_other ha _).trans ((lineOf_onLine ..).trans (if_neg ha))

theorem contextOf_replaceSetup_other (x : LineSetup) (ha : a ≠ st) (s : State) :
    contextOf a (replaceSetup st x s) = contextOf a s :=
  contextOf_rewatchDrawer (s := onLine st (fun l => { l with setup := x }) s) (contextOf_endDrawerWatch ha _)

theorem contextOf_replaceSetup_none (x : LineSetup) (h : contextOf st s = none) : contextOf st (replaceSetup st x s) = none := by
  have ended : contextOf st (endDrawerWatch st (onLine st (fun l => { l with setup := x }) s)) = none :=
    contextOf_endDrawerWatch_none h
  exact (contextOf_rewatchDrawer (s := onLine st (fun l => { l with setup := x }) s) (ended.trans (Eq.symm h))).trans h

/-- A setup replaced at a line that stands, but for its role and its traffic, as it was. -/
theorem setUpAs_replaceSetup {x z : LineSetup} {l y : Line} (hv : lineOf st v = { y with setup := z })
    (hz : lineWith .drawerSense z = lineWith .drawerSense l.setup)
    (hy : y.drawerOpen = l.drawerOpen ∧ y.openTimer = l.openTimer ∧ y.leftOpen = l.leftOpen)
    (time : v.uptime = s.uptime) (settings : v.mrs.settings = s.mrs.settings) :
    setUpAs x l y (lineOf st (replaceSetup st x v)) s := by
  let w := onLine st (fun l => { l with setup := x }) v
  have hw : lineOf st w = { y with setup := x } := by
    have own : lineOf st w = { lineOf st v with setup := x } := (lineOf_onLine ..).trans (if_pos rfl)
    rw [own, hv]
  have old : lineWith .drawerSense (lineOf st v).setup = lineWith .drawerSense l.setup := by rw [hv]; exact hz
  have run : replaceSetup st x v = rewatchDrawer st (lineWith .drawerSense l.setup) (lineWith .drawerSense x) w := by
    rw [← old]; rfl
  rw [run]
  by_cases same : lineWith .drawerSense l.setup = lineWith .drawerSense x
  · have stands : rewatchDrawer st (lineWith .drawerSense l.setup) (lineWith .drawerSense x) w = w := if_pos same
    rw [stands, hw]
    exact ⟨rfl, fun _ => hy, fun k => absurd same.symm k⟩
  · obtain ⟨line, left, timer⟩ := rewatchDrawer_begins same st w
    rw [hw] at line
    refine ⟨line, fun k => absurd k.symm same, fun _ => ⟨left, timer.trans ?_⟩⟩
    have moment : w.uptime + 1000 * w.mrs.settings.drawerOpen = s.uptime + 1000 * s.mrs.settings.drawerOpen := by
      have hu : w.uptime = s.uptime := time
      have hs : w.mrs.settings = s.mrs.settings := settings
      rw [hu, hs]
    rw [moment]

/-- A line that takes a role, its setup replaced. -/
theorem setUpAs_freshLine {x : LineSetup} {l v : Line} (h : setUpAs x l l v s) : setUpAs x l (roleBegins x l) (freshLine v) s := by
  obtain ⟨line, stands, watch⟩ := h
  refine ⟨?_, stands, watch⟩
  have setup : v.setup = x := by rw [line]
  have drops : freshDrops v.setup = (roleBegins x l).drops := by rw [setup]; rfl
  unfold freshLine
  rw [drops, line]
  rfl

/-! ## What a LINE-SETUP carries (R164, R165) -/

theorem exclusive_iff (f : LineFunction) : exclusive f = false ↔ f = .spareIn ∨ f = .spareOut := by
  cases f <;> simp [exclusive]

theorem functionsDistinct_iff (v : Four LineFunction) : functionsDistinct v = true ↔
    ∀ a b, a ≠ b → v.get a = v.get b → v.get a = .spareIn ∨ v.get a = .spareOut := by
  have all : ∀ d : DiscreteLine, d ∈ DiscreteLine.all := fun d => by cases d <;> decide
  unfold functionsDistinct
  simp only [List.all_eq_true, all, true_implies, Bool.or_eq_true, decide_eq_true_eq, Bool.not_eq_true', ← exclusive_iff]
  constructor
  · intro h a b hab same
    rcases h a b with (k | k) | k
    · exact absurd k hab
    · exact k
    · exact absurd same k
  · intro h a b
    by_cases hab : a = b
    · exact .inl (.inl hab)
    · by_cases same : v.get a = v.get b
      · exact .inl (.inr (h a b hab same))
      · exact .inr same

theorem readFunctions_iff (v : Four Nat) (x : Four LineFunction) :
    readFunctions v = some x ↔ ∀ d, lineFunctionOfCode (v.get d) = some (x.get d) := by
  have four : (∀ d, lineFunctionOfCode (v.get d) = some (x.get d)) ↔
      lineFunctionOfCode v.d1 = some x.d1 ∧ lineFunctionOfCode v.d2 = some x.d2 ∧
        lineFunctionOfCode v.d3 = some x.d3 ∧ lineFunctionOfCode v.d4 = some x.d4 :=
    ⟨fun h => ⟨h .dl1, h .dl2, h .dl3, h .dl4⟩, fun ⟨h1, h2, h3, h4⟩ d => by cases d <;> assumption⟩
  rw [four]
  obtain ⟨x1, x2, x3, x4⟩ := x
  unfold readFunctions
  cases lineFunctionOfCode v.d1 <;> cases lineFunctionOfCode v.d2 <;> cases lineFunctionOfCode v.d3 <;>
    cases lineFunctionOfCode v.d4 <;> simp

/-- A request is read exactly as the setup it carries, where every item lies within its values. -/
theorem readSetup_iff (r : LineSetupRequest) (x : LineSetup) : readSetup r = some x ↔ setupCarried r x := by
  unfold readSetup setupCarried
  cases hr : roleOfCode r.role with
  | none => simp
  | some role =>
    cases hf : readFunctions r.functions with
    | none =>
      have none_read : ¬ ∀ d, lineFunctionOfCode (r.functions.get d) = some (x.functions.get d) := fun h => by
        rw [← readFunctions_iff, hf] at h
        cases h
      simp [none_read]
    | some fs =>
      have read : ∀ z, (∀ d, lineFunctionOfCode (r.functions.get d) = some (z.get d)) ↔ fs = z := fun z => by
        rw [← readFunctions_iff, hf, Option.some.injEq]
      rw [read]
      obtain ⟨xr, xp, xm, xf, xd, xk, xa, xc⟩ := x
      constructor
      · intro h
        dsimp only at h
        split at h
        · next ok =>
          cases h
          simp only [Bool.and_eq_true, Bool.or_eq_true, decide_eq_true_eq, printableCode, Bool.not_eq_true',
            functionsDistinct_iff] at ok
          obtain ⟨⟨⟨⟨⟨⟨⟨one, distinct⟩, low⟩, high⟩, key⟩, mask⟩, fill⟩, alone⟩ := ok
          refine ⟨rfl, rfl, one, rfl, rfl, fun journal => ?_, distinct, ⟨low, high, rfl⟩, ⟨key, rfl⟩, ⟨mask, rfl⟩, fill.1, fill.2, rfl⟩
          exact alone.resolve_left (not_not.2 journal)
        · cases h
      · rintro ⟨role_eq, rfl, one, printer, mirror, alone, distinct, ⟨low, high, depth⟩, ⟨key, keyed⟩, ⟨mask, masked⟩, fill⟩
        dsimp only at *
        obtain ⟨fill1, fill2, filled⟩ := fill
        cases role_eq
        subst printer mirror depth keyed masked filled
        rw [if_pos]
        have distinct' := (functionsDistinct_iff fs).2 distinct
        have alone' : role ≠ .journalPrinter ∨ r.drop2 = false ∧ r.drop3 = false := by
          by_cases journal : role = .journalPrinter
          · exact .inr (alone journal)
          · exact .inl journal
        simp [one, distinct', low, high, key, mask, printableCode, fill1, fill2]
        simpa using alone'

/-- A setup is refused by the first check it fails. -/
theorem setupRefusal_of_fails {x : LineSetup} {why : MgmtStatus} (h : setupFails st x s why) : setupRefusal st x s = some why := by
  obtain ⟨role, h⟩ := h
  unfold setupRefusal
  dsimp only
  rcases h with ⟨other, rfl⟩ | ⟨idle, off, journal, held, rfl⟩ | ⟨idle, same, changed, rfl⟩
  · rw [if_pos ⟨role, other⟩]
  · have first : ¬ (x.role ≠ .off ∧ ((lineOf st s).setup.role ≠ .off ∧ x.role ≠ (lineOf st s).setup.role ∨
        testRuns (lineOf st s) = true)) := by simp [off, idle]
    obtain ⟨a, held⟩ := held
    rw [if_neg first, if_pos ⟨journal, off, printerRoleHeld_of held⟩]
  · have first : ¬ (x.role ≠ .off ∧ ((lineOf st s).setup.role ≠ .off ∧ x.role ≠ (lineOf st s).setup.role ∨
        testRuns (lineOf st s) = true)) := by simp [same, idle]
    have second : ¬ (x.role = .journalPrinter ∧ (lineOf st s).setup.role = .off ∧ printerRoleHeld s = true) := by
      rintro ⟨-, off, -⟩
      exact role (same.trans off)
    rw [if_neg first, if_neg second, if_pos ⟨role, same, changed⟩]

/-- A setup that passes checks 2 to 4 is carried out. -/
theorem takeLineSetup_carried {id : Nat} {r : LineSetupRequest} {x : LineSetup} (hl : r.line = st.num)
    (hx : readSetup r = some x) (hn : setupRefusal st x s = none) :
    takeLineSetup id r s = answer id .done (.role x.role) (carrySetup st x s) := by
  unfold takeLineSetup
  simp only [hl, stationOf_num, hx, hn]

theorem takeLineSetup_refused {id : Nat} {r : LineSetupRequest} {x : LineSetup} {why : MgmtStatus} (hl : r.line = st.num)
    (hx : readSetup r = some x) (hn : setupRefusal st x s = some why) : takeLineSetup id r s = refuseRequest id why s := by
  unfold takeLineSetup
  simp only [hl, stationOf_num, hx, hn]

/-! ## A screen made afresh (R64) -/

/-- Of the records of an action, the one with the lowest code is found. -/
theorem foldl_lowest {r : TctRec} (xs : List TctRec) (acc : Option TctRec)
    (least : ∀ y ∈ xs, y = r ∨ r.code < y.code)
    (found : acc = some r ∨ (r ∈ xs ∧ ∀ b, acc = some b → r.code < b.code)) :
    xs.foldl (fun acc r => match acc with
      | none => some r
      | some a => if r.code < a.code then some r else some a) acc = some r := by
  induction xs generalizing acc with
  | nil => exact found.resolve_right fun ⟨h, _⟩ => by cases h
  | cons y rest ih =>
    obtain ⟨hy, hrest⟩ := List.forall_mem_cons.1 least
    rw [List.foldl_cons]
    refine ih _ hrest ?_
    rcases found with rfl | ⟨mem, higher⟩
    · refine .inl ?_
      rcases hy with rfl | hy
      · simp
      · simp [Nat.not_lt.2 hy.le]
    · rcases hy with rfl | hy
      · refine .inl ?_
        cases acc with
        | none => rfl
        | some b => simp [higher b rfl]
      · have behind : r ∈ rest := (List.mem_cons.1 mem).resolve_left fun h => by
          rw [h] at hy
          exact lt_irrefl _ hy
        refine .inr ⟨behind, fun b hb => ?_⟩
        cases acc with
        | none => cases hb; exact hy
        | some c =>
          have hc := higher c rfl
          dsimp only at hb
          split at hb <;> cases hb
          · exact hy
          · exact hc

theorem promptFormat_signOnPrompt (s : State) : promptFormat s (signOnPrompt s) := by
  refine ⟨rfl, fun none => ?_, fun r hr action least => ?_⟩
  · have empty : (s.tbl.tct.filter fun r => r.localAction = some .signOn) = [] :=
      List.filter_eq_nil_iff.2 fun r hr => by simpa using none r hr
    rw [signOnPrompt, signOnRecord, empty]
    rfl
  · have found : signOnRecord s = some r := by
      unfold signOnRecord
      refine foldl_lowest _ none (fun y hy => ?_) (.inr ⟨List.mem_filter.2 ⟨hr, by simpa using action⟩, fun b hb => by cases hb⟩)
      obtain ⟨mem, same⟩ := List.mem_filter.1 hy
      exact least y mem (by simpa using same)
    rw [signOnPrompt, found]
    rfl

theorem promptFormat_congr {n : Option Nat} (h : promptFormat s n) (hu : u.tbl = s.tbl) : promptFormat u n := by
  unfold promptFormat signOnPrompt signOnRecord at *
  rw [hu]
  exact h

/-- The field texts of a format to which nothing was keyed. -/
theorem keyedTexts_nil (decimals : Nat) (f : SftFormat) : keyedTexts decimals f [] = f.fields.map fun _ => [] := by
  unfold keyedTexts
  refine List.map_congr_left fun x _ => ?_
  split <;> rfl

theorem freshScreen_freshContext (st : Station) (s : State) : freshScreen st s (freshContext st s) := by
  have stays : ∀ {w : State} (c : ScreenContext), w.scm.signOn = s.scm.signOn → w.scm.broadcast = s.scm.broadcast →
      w.blc = s.blc → w.day = s.day → w.csh = s.csh → w.slc = s.slc → w.pbk = s.pbk →
      recomposed st (freshContext st s) c = recomposed st w c := fun c signOn broadcast blc day csh slc pbk => by
    apply recomposed_congr <;> simp [signOn, broadcast, blc, day, csh, slc, pbk, drawerOf, lineOf, printerOf]
  cases teller : tellerAt st s with
  | none =>
    let w := setContext st (some (emptyContext .signOnPrompt)) s
    let c : ScreenContext := { emptyContext .signOnPrompt with
      format := signOnPrompt s
      shown := (signOnPrompt s).bind fun n => formatOf n s
      texts := ((((signOnPrompt s).bind fun n => formatOf n s).map SftFormat.fields).getD []).map fun _ => [] }
    have made : contextOf st (freshContext st s) = some (recomposed st w c) := by
      have texts : (match (signOnPrompt s).bind fun n => formatOf n s with
          | some f => keyedTexts (decimalsOf s) f []
          | none => []) = c.texts := by
        show _ = ((((signOnPrompt s).bind fun n => formatOf n s).map SftFormat.fields).getD []).map fun _ => []
        cases (signOnPrompt s).bind fun n => formatOf n s with
        | none => rfl
        | some f => exact keyedTexts_nil _ f
      have tag : shownErrorTag ((signOnPrompt s).bind fun n => formatOf n s) none = none := by
        cases (signOnPrompt s).bind fun n => formatOf n s <;> rfl
      unfold freshContext
      simp only [teller, composePrompt, composeInput]
      refine (contextOf_composeWith ..).trans ((if_pos rfl).trans ?_)
      rw [contextOf_setContext, if_pos rfl]
      show some _ = some _
      refine congrArg (fun c => some (recomposed st w c)) ?_
      have same : ∀ texts' tag', texts' = c.texts → tag' = none → { emptyContext .signOnPrompt with
        mode := .signOnPrompt
        format := signOnPrompt s
        shown := (signOnPrompt s).bind fun n => formatOf n s
        texts := texts'
        errorTag := tag'
        message := [] } = c := by
        rintro _ _ rfl rfl
        rfl
      exact same _ _ texts tag
    exact ⟨_, made, (stays _ rfl rfl rfl rfl rfl rfl rfl).symm ▸ rfl, rfl, rfl, rfl, rfl, (if_pos teller).symm ▸ rfl,
      fun _ => promptFormat_signOnPrompt s, fun h => absurd teller h, rfl, rfl⟩
  | some n =>
    let w := setContext st (some (emptyContext .form)) s
    have made : contextOf st (freshContext st s) = some (recomposed st w (emptyContext .form)) := by
      unfold freshContext
      simp only [teller]
      refine (contextOf_refresh ..).trans ((if_pos rfl).trans ?_)
      rw [contextOf_setContext, if_pos rfl]
      rfl
    have signed : tellerAt st s ≠ none := by rw [teller]; nofun
    exact ⟨_, made, (stays _ rfl rfl rfl rfl rfl rfl rfl).symm ▸ rfl, rfl, rfl, rfl, rfl, (if_neg signed).symm ▸ rfl,
      fun h => absurd h signed, fun _ => rfl, rfl, rfl⟩

theorem contextOf_freshContext_other (ha : a ≠ st) (s : State) : contextOf a (freshContext st s) = contextOf a s := by
  unfold freshContext
  split
  · refine (contextOf_composeWith ..).trans ((if_neg ha).trans ?_)
    rw [contextOf_setContext, if_neg ha]
  · refine (contextOf_refresh ..).trans ((if_neg ha).trans ?_)
    rw [contextOf_setContext, if_neg ha]

/-! ## A LINE-SETUP carried out (R165, R166) -/

/-- A line that takes role TELLER has its screen and its printer made afresh. -/
theorem takeRole_teller (hr : (lineOf st s).setup.role = .teller) :
    takeRole st s = freshContext st (makePrinter st (onLine st freshLine s)) := by
  simp only [takeRole, hr]

theorem takeRole_journalPrinter (hr : (lineOf st s).setup.role = .journalPrinter) :
    takeRole st s = onJrn (fun j => { j with printedCursor := startCursor s }) (onLine st freshLine s) := by
  simp only [takeRole, hr]

theorem startCursor_eq (s : State) : startCursor s = match s.jrn.entries with
    | [] => s.jrn.nextSeq - 1
    | e :: _ => e.seq - 1 := by
  unfold startCursor oldestHeld
  cases s.jrn.entries <;> rfl

theorem printerOf_makePrinter (a st : Station) (s : State) : printerOf a (makePrinter st s) =
    if a = st then (if (lineOf st s).setup.printerPresent = true then some PrinterContext.fresh else none)
    else printerOf a s := by
  unfold makePrinter
  exact Eight.get_set ..

theorem replaceSetup_reach (st : Station) (x : LineSetup) (s : State) : keeps [.scm, .slc] s (replaceSetup st x s) := by
  simp [keeps, replaceSetup]

theorem replaceSetup_screens (st : Station) (x : LineSetup) (s : State) : otherScreens st s (replaceSetup st x s) :=
  ⟨by simp [replaceSetup], by simp [replaceSetup], fun _ ha => contextOf_replaceSetup_other x ha s⟩

/-- The setup of a line that stands as it was is replaced. -/
theorem replaceSetup_setUpAs {x : LineSetup} (time : v.uptime = s.uptime) (settings : v.mrs.settings = s.mrs.settings)
    (slc : v.slc = s.slc) : setUpAs x (lineOf st s) (lineOf st s) (lineOf st (replaceSetup st x v)) s :=
  setUpAs_replaceSetup (z := (lineOf st s).setup) (by rw [lineOf_congr st slc]) rfl ⟨rfl, rfl, rfl⟩ time settings

theorem setup_replaceSetup (st : Station) (x : LineSetup) (s : State) : (lineOf st (replaceSetup st x s)).setup = x := by
  obtain ⟨line, -, -⟩ := replaceSetup_setUpAs (st := st) (x := x) (v := s) (s := s) rfl rfl rfl
  rw [line]

/-- A setup that fails no check of the line it is for. -/
theorem setupRefusal_off {x : LineSetup} (hx : x.role = .off) : setupRefusal st x s = none := by
  simp [setupRefusal, hx]

/-- The holder of the journal printer role. -/
theorem holder_of_printerRoleHeld (h : printerRoleHeld s = true) : ∃ a, (lineOf a s).setup.role = .journalPrinter := by
  obtain ⟨l, hl, role⟩ := List.any_eq_true.1 h
  obtain ⟨a, rfl⟩ := (Eight.mem_toList _ _).1 hl
  exact ⟨a, by simpa [lineOf] using role⟩

theorem setupRefusal_free {x : LineSetup} (off : (lineOf st s).setup.role = .off) (idle : testRuns (lineOf st s) = false)
    (printer : x.role = .journalPrinter → ∀ a, (lineOf a s).setup.role ≠ .journalPrinter) (hx : x.role ≠ .off) :
    setupRefusal st x s = none := by
  have second : ¬ (x.role = .journalPrinter ∧ (lineOf st s).setup.role = .off ∧ printerRoleHeld s = true) := by
    rintro ⟨journal, -, held⟩
    obtain ⟨a, ha⟩ := holder_of_printerRoleHeld held
    exact printer journal a ha
  unfold setupRefusal
  dsimp only
  rw [if_neg (by simp [off, idle]), if_neg second, if_neg (by simp [off, hx])]

theorem setupRefusal_same {x : LineSetup} (idle : testRuns (lineOf st s) = false) (role : (lineOf st s).setup.role ≠ .off)
    (same : x.role = (lineOf st s).setup.role) (printer : x.printerPresent = (lineOf st s).setup.printerPresent)
    (mirror : x.mirrorPresent = (lineOf st s).setup.mirrorPresent)
    (functions : x.functions = (lineOf st s).setup.functions) : setupRefusal st x s = none := by
  unfold setupRefusal
  dsimp only
  rw [if_neg (by simp [same, idle]), if_neg (by simp [role]), if_neg (by simp [printer, mirror, functions])]

end Sys2Proof.Machine
end

section
/-! SUPPORT. A LINE-SETUP that gives a role, replaces the items of an OFF line, or changes those of the role a line has (O45). -/

namespace Sys2Proof.Machine
open Sys2Proof

variable {s s1 : State} {st a : Station} {id : Nat} {r : LineSetupRequest} {x : LineSetup}

/-- A number that names a station is its number. -/
theorem num_of_ofNat? {n : Nat} (h : Station.ofNat? n = some st) : n = st.num := by
  unfold Station.ofNat? at h
  split at h <;> cases h <;> rfl

/-- The lines of a state whose request has been taken. -/
theorem lineOf_taken {q : MgmtRequest} (h : mgmtTaken id q s s1) (a : Station) : lineOf a s1 = lineOf a s := by
  obtain ⟨-, -, -, -, -, -, slc, -⟩ := taken_stands h
  exact lineOf_congr a slc

/-- A setup of an OFF line as OFF (R165). -/
theorem carrySetup_off (off : (lineOf st s).setup.role = .off) (hx : x.role = .off) : carrySetup st x s = replaceSetup st x s := by
  simp only [carrySetup, off, hx]

/-- A setup that gives an OFF line a role (R165, R166). -/
theorem carrySetup_begins (off : (lineOf st s).setup.role = .off) (hx : x.role ≠ .off) :
    carrySetup st x s = takeRole st (replaceSetup st x s) := by
  cases hr : x.role with
  | off => exact absurd hr hx
  | teller | journalPrinter => simp only [carrySetup, off, hr]

/-- A setup of the role a line has (R165). -/
theorem carrySetup_same (role : (lineOf st s).setup.role ≠ .off) (same : x.role = (lineOf st s).setup.role)
    (printer : x.printerPresent = (lineOf st s).setup.printerPresent)
    (mirror : x.mirrorPresent = (lineOf st s).setup.mirrorPresent)
    (functions : x.functions = (lineOf st s).setup.functions) :
    carrySetup st x s = onLine st (fun l => { l with setup := x }) s := by
  have run : carrySetup st x s = onLine st (fun l => { l with setup := { l.setup with
      depth := x.depth, mirrorKey := x.mirrorKey, mirrorMask := x.mirrorMask, mirrorFill := x.mirrorFill } }) s := by
    cases hr : (lineOf st s).setup.role with
    | off => exact absurd hr role
    | teller | journalPrinter => rw [hr] at same; simp only [carrySetup, hr, same]
  rw [run]
  have setup : { (lineOf st s).setup with
      depth := x.depth, mirrorKey := x.mirrorKey, mirrorMask := x.mirrorMask, mirrorFill := x.mirrorFill } = x := by
    cases x
    simp_all
  exact congrArg (fun y => setLine st { lineOf st s with setup := y } s) setup

theorem roleTaken_lines (x : LineSetup) (s : State) : otherLines st s (takeRole st (replaceSetup st x s)) := fun a ha => by
  rw [lineOf_takeRole, lineOf_onLine, if_neg ha, lineOf_replaceSetup_other x ha]

theorem roleTaken_setUpAs (same : lineOf st s1 = lineOf st s) (time : s1.uptime = s.uptime)
    (settings : s1.mrs.settings = s.mrs.settings) :
    setUpAs x (lineOf st s) (roleBegins x (lineOf st s)) (lineOf st (takeRole st (replaceSetup st x s1))) s := by
  rw [lineOf_takeRole, lineOf_onLine, if_pos rfl]
  exact setUpAs_freshLine (setUpAs_replaceSetup (z := (lineOf st s).setup) same rfl ⟨rfl, rfl, rfl⟩ time settings)

/-- A line takes role TELLER: its screen and its printer are made afresh. -/
theorem tellerBegins (hx : x.role = .teller) (s : State) :
    keeps [.scm, .pbk, .slc] s (takeRole st (replaceSetup st x s)) ∧
      otherScreens st s (takeRole st (replaceSetup st x s)) ∧ otherPrinters st s (takeRole st (replaceSetup st x s)) ∧
      freshScreen st s (takeRole st (replaceSetup st x s)) ∧
      printerOf st (takeRole st (replaceSetup st x s)) =
        if x.printerPresent = true then some PrinterContext.fresh else none := by
  let v := replaceSetup st x s
  let w := makePrinter st (onLine st freshLine v)
  have setup : (lineOf st v).setup = x := setup_replaceSetup st x s
  have run : takeRole st v = freshContext st w := takeRole_teller (by rw [setup]; exact hx)
  obtain ⟨signOn, broadcast, contexts⟩ := replaceSetup_screens st x s
  have printers : ∀ a, printerOf a (freshContext st w) = printerOf a w := fun a => printerOf_congr a (by simp)
  have made : (lineOf st (onLine st freshLine v)).setup = x := by
    rw [lineOf_onLine, if_pos rfl]
    exact setup
  rw [run]
  refine ⟨keeps_trans (t := v) (keeps_mono (replaceSetup_reach st x s) (by decide)) (by simp [keeps, w]),
    ⟨Eq.trans (b := v.scm.signOn) (by simp [w]) signOn,
      Eq.trans (b := v.scm.broadcast) (by simp [w]) broadcast, fun a ha => ?_⟩, fun a ha => ?_, ?_, ?_⟩
  · exact (contextOf_freshContext_other ha w).trans (contexts a ha)
  · rw [printers, printerOf_makePrinter, if_neg ha]
    exact printerOf_congr a (by simp [v, replaceSetup])
  · obtain ⟨c, hc, composed, p1, p2, message, tag, mode, prompt, form, shown, texts⟩ := freshScreen_freshContext st w
    have teller : tellerAt st w = tellerAt st s := tellerAt_congr st (by simp [w, v, replaceSetup])
    have tbl : w.tbl = s.tbl := by simp [w, v, replaceSetup]
    have formats : (fun n => formatOf n w) = fun n => formatOf n s := funext fun n => by simp [formatOf, tbl]
    rw [teller] at mode prompt form
    rw [formats] at shown
    exact ⟨c, hc, composed, p1, p2, message, tag, mode, fun h => promptFormat_congr (prompt h) tbl.symm, form, shown, texts⟩
  · rw [printers, printerOf_makePrinter, if_pos rfl, made]

/-- A line takes role JOURNAL PRINTER: the printed cursor stands before the oldest entry held. -/
theorem journalPrinterBegins (hx : x.role = .journalPrinter) (s : State) :
    keeps [.scm, .jrn, .slc] s (takeRole st (replaceSetup st x s)) ∧
      otherScreens st s (takeRole st (replaceSetup st x s)) ∧
      (takeRole st (replaceSetup st x s)).jrn = { s.jrn with printedCursor := match s.jrn.entries with
        | [] => s.jrn.nextSeq - 1
        | e :: _ => e.seq - 1 } := by
  let v := replaceSetup st x s
  have setup : (lineOf st v).setup = x := setup_replaceSetup st x s
  have run : takeRole st v = onJrn (fun j => { j with printedCursor := startCursor v }) (onLine st freshLine v) :=
    takeRole_journalPrinter (by rw [setup]; exact hx)
  have jrn : v.jrn = s.jrn := by simp [v, replaceSetup]
  obtain ⟨signOn, broadcast, contexts⟩ := replaceSetup_screens st x s
  rw [run]
  refine ⟨keeps_trans (t := v) (keeps_mono (replaceSetup_reach st x s) (by decide)) (by simp [keeps]),
    ⟨signOn, broadcast, contexts⟩, ?_⟩
  have cursor := startCursor_eq v
  rw [jrn] at cursor
  show { v.jrn with printedCursor := startCursor v } = _
  rw [jrn]
  exact congrArg (fun n => { s.jrn with printedCursor := n }) cursor

/-- Settles O45: a request is read as the setup it carries, and refused by the first check it fails or carried out by the
roles of the line and of the setup. -/
theorem lineSetupGivesTheRole : Obligations.LineSetupGivesTheRole := by
  intro id r s s1 taken
  refine ⟨takeLineSetup id r s1, taken_run taken _, fun bad => ?_, fun x => readSetup_iff r x, fun st x l hl hx hs => ?_⟩
  · have refused : takeLineSetup id r s1 = refuseRequest id .badRequest s1 := by
      unfold takeLineSetup
      split
      · next st x hst hx =>
        rcases bad with bad | bad
        · exact absurd (num_of_ofNat? hst) (bad st)
        · exact absurd ((readSetup_iff r x).1 hx) (bad x)
      · rfl
    rw [refused]
    exact requestRefused_of taken
  · subst hs
    have read := (readSetup_iff r x).2 hx
    have line := lineOf_taken taken
    have role : ∀ a, (lineOf a s1).setup.role = (lineOf a s).setup.role := fun a => by rw [line]
    obtain ⟨-, -, jrn, scm, -, -, slc, -⟩ := taken_stands taken
    obtain ⟨places, hs1⟩ := taken_buffer taken
    have time : s1.uptime = s.uptime := by rw [hs1]; rfl
    have settings : s1.mrs.settings = s.mrs.settings := by rw [hs1]; rfl
    have screens : ∀ {u}, otherScreens st s1 u → otherScreens st s u := by
      rw [hs1]
      exact fun h => h
    refine ⟨fun why fails => ?_, fun off hoff => ?_, fun off idle => ⟨fun teller => ?_, fun journal alone => ?_⟩,
      fun held same idle printer mirror functions => ?_⟩
    · have fails1 : setupFails st x s1 why := by
        simpa only [setupFails, line] using fails
      rw [takeLineSetup_refused hl read (setupRefusal_of_fails fails1)]
      exact requestRefused_of taken
    · rw [takeLineSetup_carried hl read (setupRefusal_off hoff), carrySetup_off ((role st).trans off) hoff, hoff]
      refine ⟨requestDone_of taken (replaceSetup_reach st x s1) (by simp [replaceSetup]) (by simp [replaceSetup]),
        fun a ha => (lineOf_replaceSetup_other x ha s1).trans (line a), replaceSetup_setUpAs time settings slc,
        screens (replaceSetup_screens st x s1)⟩
    · have begins : x.role ≠ .off := by rw [teller]; nofun
      have free : setupRefusal st x s1 = none := setupRefusal_free ((role st).trans off) (by rw [line]; exact idle)
        (fun k => by rw [teller] at k; cases k) begins
      rw [takeLineSetup_carried hl read free, carrySetup_begins ((role st).trans off) begins, teller]
      obtain ⟨reach, others, printers, fresh, made⟩ := tellerBegins (st := st) teller s1
      refine ⟨requestDone_of taken reach (by simp [replaceSetup]) (by simp [replaceSetup]),
        fun a ha => (roleTaken_lines x s1 a ha).trans (line a), screens others, ?_, roleTaken_setUpAs (line st) time settings, ?_, made⟩
      · rw [hs1] at printers ⊢
        exact printers
      · rw [hs1] at fresh ⊢
        exact fresh
    · have begins : x.role ≠ .off := by rw [journal]; nofun
      have free : setupRefusal st x s1 = none := setupRefusal_free ((role st).trans off) (by rw [line]; exact idle)
        (fun _ a k => alone a ((role a).symm.trans k)) begins
      rw [takeLineSetup_carried hl read free, carrySetup_begins ((role st).trans off) begins, journal]
      obtain ⟨reach, others, cursor⟩ := journalPrinterBegins (st := st) journal s1
      refine ⟨requestDone_of taken reach (by simp [replaceSetup]) (by simp [replaceSetup]),
        fun a ha => (roleTaken_lines x s1 a ha).trans (line a), screens others, roleTaken_setUpAs (line st) time settings, ?_⟩
      rw [jrn] at cursor
      exact cursor
    · have passes : setupRefusal st x s1 = none :=
        setupRefusal_same (by rw [line]; exact idle) (by rw [role]; exact held) (by rw [line]; exact same)
          (by rw [line]; exact printer) (by rw [line]; exact mirror) (by rw [line]; exact functions)
      rw [takeLineSetup_carried hl read passes, carrySetup_same (by rw [role]; exact held) (by rw [line]; exact same)
        (by rw [line]; exact printer) (by rw [line]; exact mirror) (by rw [line]; exact functions)]
      refine ⟨requestDone_of taken (by simp [keeps]) rfl rfl, ?_⟩
      have becomes := lineBecomes_setLine st { lineOf st s with setup := x } s1
      have written : onLine st (fun l => { l with setup := x }) s1 = setLine st { lineOf st s with setup := x } s1 := by
        rw [onLine, line]
      rw [written]
      rw [hs1] at becomes ⊢
      exact becomes

end Sys2Proof.Machine
end

section
/-! SUPPORT. Transactions abandoned in order of their acceptance with their REVERSAL advices (R28), and print jobs that end in
turn, their reservations becoming advices with their PASSBOOK entries (R93, R96, R97). -/

namespace Sys2Proof.Machine
open Sys2Proof

variable {s t u v w : State} {st : Station}

/-! ## Abandonment (R28) -/

theorem endedOne_abandon (cause : ReversalCause) (e : OttEntry) (s : State) : endedOne .abandoned e s (abandon cause e s) := by
  refine endedOne_endEntry .abandoned e
    (v := queueReversal e.ref cause e.cashDirection (entryRounded e) (releaseLeg e.ref.station e.leg (withdrawRequest e.ref s)))
    (by simp) (by simp) (by simp) (by simp) (by simp [queueReversal_sda]) ?_ ?_ (keeps_refl _ _)
  · cases e.leg <;> rfl
  · simp [withdrawRequest]

theorem endedInTurn_abandonAll (cause : ReversalCause) (p : OttEntry → Bool) (s : State) :
    endedInTurn .abandoned (s.ttr.ott.filter p) s (abandonAll cause p s) := endedInTurn_foldl (endedOne_abandon cause) _ s

theorem abandon_queue (cause : ReversalCause) (e : OttEntry) (s : State) : ∃ q, reverses cause e q ∧
    (abandon cause e s).sda.queue = s.sda.queue ++ [q] := by
  let v := releaseLeg e.ref.station e.leg (withdrawRequest e.ref s)
  refine ⟨.advice { number := adviceNumber v, body := .reversal e.ref cause e.cashDirection (entryRounded e), sent := none },
    ⟨adviceNumber v, rfl⟩, ?_⟩
  simp [abandon, queueReversal_sda, v]

theorem abandon_foldl_queue (cause : ReversalCause) (es : List OttEntry) (s : State) : ∃ reversals,
    (es.foldl (fun acc e => abandon cause e acc) s).sda.queue = s.sda.queue ++ reversals ∧
      List.Forall₂ (reverses cause) es reversals := by
  induction es generalizing s with
  | nil => exact ⟨[], by simp, .nil⟩
  | cons e rest ih =>
    obtain ⟨q, reversed, one⟩ := abandon_queue cause e s
    obtain ⟨reversals, all, each⟩ := ih (abandon cause e s)
    exact ⟨q :: reversals, by rw [List.foldl_cons, all, one, List.append_assoc]; rfl, .cons reversed each⟩

/-- The REVERSAL advices of the entries abandoned stand behind the other entries of the queue. -/
theorem abandonAll_queue (cause : ReversalCause) (p : OttEntry → Bool) (s : State) : ∃ reversals,
    (abandonAll cause p s).sda.queue = s.sda.queue ++ reversals ∧
      List.Forall₂ (reverses cause) (s.ttr.ott.filter p) reversals := abandon_foldl_queue cause _ s

/-! ## One reservation becomes an advice (R93, R97) -/

/-- A reservation becomes its PASSBOOK_UPDATE advice, and a PASSBOOK entry is written. -/
def passbookReported (ref : Ref) (f : Reservation → Reservation) (cause : EndCause) (d : Draft) (s : State) : State :=
  writeEntry 0 d (convertReservation ref f cause s)

/-- A draft counts for no teller and takes at most 2 slots, as that of a PASSBOOK entry. -/
def passbookSized (d : Draft) : Prop := countedTeller d = none ∧ draftSlots d ≤ 2

theorem passbookSized_draft (st : Station) (teller : Option Nat) (r : Reservation) (cause : EndCause) (outcome : StripeOutcome) :
    passbookSized (passbookDraft st teller r cause outcome) := ⟨rfl, by simp [draftSlots, draftBytes, passbookDraft]⟩

theorem passbookReported_sda {ref : Ref} {f : Reservation → Reservation} {cause : EndCause} {d : Draft}
    (hd : passbookSized d) (s : State) : (passbookReported ref f cause d s).sda = { s.sda with
      queue := convertFirst ref (fun r => { number := adviceNumber s, body := .passbookUpdate (f r) cause, sent := none })
        s.sda.queue
      nextAdvice := wrapNext 65535 (adviceNumber s) } := writeEntry_sda hd.1 _

/-! ## One report after another -/

/-- From s to w PASSBOOK entries have been written one after another, with the advices of their jobs. -/
structure reportRun (ds : List Draft) (s w : State) : Prop where
  reach : keeps [.pbk, .sda, .jrn, .blc, .mrs] s w
  raised : raisedOnly journalFlags s w
  records : w.sda = { s.sda with queue := w.sda.queue, nextAdvice := w.sda.nextAdvice }
  slots : (ds.map draftSlots).sum ≤ 2 * ds.length
  written : ∀ {o : State} {k : Nat} {es : List Draft}, s.jrn = journalAfter k s.mrs.clock es o → s.day.date = o.day.date →
    (es.map draftSlots).sum + 2 * ds.length ≤ o.jrn.free + k → s.jrn.nextSeq + ds.length ≤ 4294967296 →
    w.jrn = journalAfter k s.mrs.clock (es ++ ds) o

/-- Nothing has been reported between states that differ in a printer alone. -/
theorem reportRun_nil (h : keeps [.pbk] s w) : reportRun [] s w := by
  obtain ⟨-, -, -, -, sda, jrn, -, -, -, blc, mrs⟩ := keeps_stands h
  replace sda := sda (by decide)
  replace jrn := jrn (by decide)
  replace blc := blc (by decide)
  replace mrs := mrs (by decide)
  refine ⟨keeps_mono h (by decide), raisedOnly_of_eq (raisedOnly_refl _ s) mrs blc, by rw [sda], by simp, ?_⟩
  intro o k es hs _ _ _
  rw [jrn, hs, List.append_nil]

theorem reportRun_keeps {ds : List Draft} (h : reportRun ds s u) (hw : keeps [.pbk] u w) : reportRun ds s w := by
  obtain ⟨-, -, -, -, sda, jrn, -, -, -, blc, mrs⟩ := keeps_stands hw
  replace sda := sda (by decide)
  replace jrn := jrn (by decide)
  replace blc := blc (by decide)
  replace mrs := mrs (by decide)
  refine ⟨keeps_trans h.reach (keeps_mono hw (by decide)), raisedOnly_of_eq h.raised mrs blc, ?_, h.slots, ?_⟩
  · rw [sda]; exact h.records
  · intro o k es hs date room sequence
    rw [jrn]
    exact h.written hs date room sequence

theorem reportRun_snoc {ref : Ref} {f : Reservation → Reservation} {cause : EndCause} {ds : List Draft} {d : Draft}
    (h : reportRun ds s u) (hd : passbookSized d) (hv : keeps [.pbk] (passbookReported ref f cause d u) v) :
    reportRun (ds ++ [d]) s v := by
  obtain ⟨-, -, -, -, vsda, vjrn, -, -, -, vblc, vmrs⟩ := keeps_stands hv
  replace vsda := vsda (by decide)
  replace vjrn := vjrn (by decide)
  replace vblc := vblc (by decide)
  replace vmrs := vmrs (by decide)
  have clock : u.mrs.clock = s.mrs.clock := (congrArg Mrs.clock h.raised.1 :)
  have day : u.day = s.day := (keeps_stands h.reach).2.2.2.2.2.2.1 (by decide)
  let m := convertReservation ref f cause u
  have raised : raisedOnly journalFlags u v :=
    raisedOnly_of_eq (raisedOnly_from (raisedOnly_writeEntry 0 d m) (by simp [m]) (by simp [m])) vmrs vblc
  have sda := passbookReported_sda (ref := ref) (f := f) (cause := cause) hd u
  refine ⟨?_, raisedOnly_trans h.raised raised, ?_, ?_, ?_⟩
  · exact keeps_trans h.reach (keeps_trans (t := passbookReported ref f cause d u) (by simp [keeps, passbookReported])
      (keeps_mono hv (by decide)))
  · rw [vsda, sda]
    exact congrArg (fun x : Sda => { x with
      queue := convertFirst ref (fun r => { number := adviceNumber u, body := .passbookUpdate (f r) cause, sent := none }) u.sda.queue
      nextAdvice := wrapNext 65535 (adviceNumber u) }) h.records
  · have one := hd.2
    have all := h.slots
    simp only [List.map_append, List.sum_append, List.length_append, List.map_cons, List.map_nil, List.sum_cons, List.sum_nil,
      List.length_singleton]
    omega
  · intro o k es hs date room sequence
    rw [List.length_append, List.length_singleton] at room sequence
    have before := h.written hs date (by omega) (by omega)
    have one := hd.2
    have all := h.slots
    have sum : ((es ++ ds).map draftSlots).sum = (es.map draftSlots).sum + (ds.map draftSlots).sum := by simp
    have free : u.jrn.free = o.jrn.free + k - ((es ++ ds).map draftSlots).sum := by rw [before]; rfl
    have next : u.jrn.nextSeq = s.jrn.nextSeq + ds.length := by
      rw [before, hs]
      simp [journalAfter, Nat.add_assoc]
    have jrn : m.jrn = u.jrn := by simp [m]
    have can : canWrite 0 d m := by
      refine ⟨?_, ?_⟩
      · rw [jrn, free]; omega
      · rw [jrn, next]
        show _ ≤ 4294967295
        omega
    have wrote_m := writeEntry_wrote can
    have after := journalAfter_snoc wrote_m (jrn.trans before) (by omega) (by simp [m, day, date]) (by simp [m, clock])
    rw [vjrn, ← List.append_assoc]
    exact after

/-! ## The jobs of a line set OFF (R96) -/

theorem jobReservation_lineOff (j : Job) : jobReservation (lineOffJob j) = jobReservation j := by
  unfold lineOffJob jobReservation
  split <;> rfl

theorem ref_lineOff (j : Job) : (lineOffJob j).ref = j.ref := by
  unfold lineOffJob
  split <;> rfl

theorem cause_lineOff (j : Job) : (lineOffJob j).cause.getD .complete = offCause j := by
  unfold lineOffJob offCause
  split <;> rfl

theorem outcome_lineOff (j : Job) : (lineOffJob j).outcome.getD .notDue = offOutcome j := by
  unfold lineOffJob offOutcome lineOffOutcome
  by_cases ended : j.state = .ended
  · simp [ended]
  · by_cases none : j.printed = 0 <;> simp [ended, none]

/-- The PASSBOOK entry of a job whose line is set OFF. -/
def offDraft (st : Station) (teller : Option Nat) (j : Job) : Draft :=
  passbookDraft st teller (jobReservation j) (offCause j) (offOutcome j)

/-- The head job of a line set OFF leaves its queue, its end reported. -/
theorem finishHead_lineOff {c : PrinterContext} {j : Job} {rest : List Job} (teller : Option Nat)
    (hc : printerOf st w = some c) (queue : c.queue = j :: rest) :
    ∃ m, keeps [.pbk] w m ∧ otherPrinters st w m ∧
      finishHead st teller (setHead st (lineOffJob j) w) = setPrinter st (some (withJobs rest c))
        (passbookReported j.ref (fun _ => jobReservation j) (offCause j) (offDraft st teller j) m) := by
  let m := setPrinter st (some { c with queue := lineOffJob j :: rest }) w
  have set : setHead st (lineOffJob j) w = m := by simp [setHead, onPrinter, hc, queue, m]
  have own : printerOf st m = some { c with queue := lineOffJob j :: rest } := by simp [m]
  refine ⟨m, by simp [keeps, m], fun a ha => by simp [m, ha], ?_⟩
  rw [set]
  have head : headJob st m = some (lineOffJob j) := by simp [headJob, own]
  have kept : printerOf st (passbookReported j.ref (fun _ => jobReservation j) (offCause j) (offDraft st teller j) m) =
      some { c with queue := lineOffJob j :: rest } := (printerOf_congr st (by simp [passbookReported])).trans own
  unfold finishHead
  simp only [head, cause_lineOff, outcome_lineOff, jobReservation_lineOff, ref_lineOff]
  unfold onPrinter
  rw [show writeEntry 0 (passbookDraft st teller (jobReservation j) (offCause j) (offOutcome j))
      (convertReservation j.ref (fun _ => jobReservation j) (offCause j) m) =
    passbookReported j.ref (fun _ => jobReservation j) (offCause j) (offDraft st teller j) m from rfl, kept]
  rfl

/-- The references of the reservations of a queue. -/
def reservedRefs (q : List QueueEntry) : List Ref :=
  q.filterMap fun q => match q with
    | .reservation y => some y.ref
    | .advice _ => none

/-- One job more of a line set OFF has its reservation turned into its advice. -/
theorem afterLineOff_snoc {done : List Job} {j : Job} {n : Nat} {q p : List QueueEntry} (once : (reservedRefs q).Nodup)
    (h : List.Forall₂ (afterLineOff done) q p) : List.Forall₂ (afterLineOff (done ++ [j])) q
      (convertFirst j.ref (fun _ => { number := n, body := .passbookUpdate (jobReservation j) (offCause j), sent := none }) p) := by
  have more : ∀ {b a}, (∀ r, b = .reservation r → j.ref ≠ r.ref) → afterLineOff done b a → afterLineOff (done ++ [j]) b a := by
    intro b a apart hb
    cases b with
    | advice x => exact hb
    | reservation r =>
      rcases hb with ⟨none, ha⟩ | ⟨k, hk, same⟩
      · refine .inl ⟨fun k hk => ?_, ha⟩
        rcases List.mem_append.1 hk with hk | hk
        · exact none k hk
        · rw [List.mem_singleton.1 hk]; exact apart r rfl
      · exact .inr ⟨k, List.mem_append_left _ hk, same⟩
  induction h with
  | nil => exact .nil
  | @cons b a q p hb tail ih =>
    cases b with
    | advice x =>
      cases hb
      exact .cons rfl (ih once)
    | reservation r =>
      obtain ⟨first, rest⟩ := List.nodup_cons.1 (show (r.ref :: reservedRefs q).Nodup from once)
      rcases hb with ⟨none, rfl⟩ | ⟨k, hk, number, same, rfl⟩
      · by_cases own : r.ref = j.ref
        · have stand : List.Forall₂ (afterLineOff (done ++ [j])) q p := by
            refine List.Forall₂.imp (fun b a ⟨apart, hb⟩ => more apart hb)
              ((List.forall₂_and_left (p := fun b => ∀ y, b = .reservation y → j.ref ≠ y.ref) q p).2 ⟨fun b hb y hy same => ?_, tail⟩)
            subst hy
            exact first (own.trans same ▸ List.mem_filterMap.2 ⟨_, hb, rfl⟩)
          show List.Forall₂ _ _ (if r.ref = j.ref then _ else _)
          rw [if_pos own]
          exact .cons (.inr ⟨j, by simp, n, own.symm, rfl⟩) stand
        · show List.Forall₂ _ _ (if r.ref = j.ref then _ else _)
          rw [if_neg own]
          exact .cons (more (fun y hy => by cases hy; exact Ne.symm own) (.inl ⟨none, rfl⟩)) (ih rest)
      · exact .cons (.inr ⟨k, List.mem_append_left _ hk, number, same, rfl⟩) (ih rest)

/-- A reservation is turned into its advice ahead of advices that stand behind it. -/
theorem convertFirst_append {ref : Ref} {mk : Reservation → Advice} {back : List QueueEntry}
    (settled : ∀ r, .reservation r ∉ back) : ∀ q, convertFirst ref mk (q ++ back) = convertFirst ref mk q ++ back
  | .advice a :: rest => by
    have ih := convertFirst_append (mk := mk) (ref := ref) settled rest
    simp [convertFirst, ih]
  | .reservation r :: rest => by
    have ih := convertFirst_append (mk := mk) (ref := ref) settled rest
    simp only [List.cons_append, convertFirst, ih]
    split <;> rfl
  | [] => by
    induction back with
    | nil => rfl
    | cons b rest ih =>
      cases b with
      | advice a =>
        have behind := ih fun r hr => settled r (List.mem_cons_of_mem _ hr)
        simp only [List.nil_append, convertFirst] at behind ⊢
        rw [behind]
      | reservation r => exact absurd List.mem_cons_self (settled r)

/-- The queue of advices and reservations once some jobs of a line set OFF have ended, ahead of the advices behind it. -/
def jobsOff (done : List Job) (q back p : List QueueEntry) : Prop :=
  ∃ kept, p = kept ++ back ∧ (done = [] → kept = q) ∧
    ((reservedRefs q).Nodup → List.Forall₂ (afterLineOff done) q kept)

theorem jobsOff_nil (q back : List QueueEntry) : jobsOff [] q back (q ++ back) := by
  refine ⟨q, rfl, fun _ => rfl, fun _ => ?_⟩
  refine List.forall₂_same.2 fun b _ => ?_
  cases b with
  | advice a => rfl
  | reservation r => exact .inl ⟨fun _ h => (by cases h), rfl⟩

theorem jobsOff_snoc {done : List Job} {j : Job} {n : Nat} {q back p : List QueueEntry}
    (settled : ∀ r, .reservation r ∉ back) (h : jobsOff done q back p) : jobsOff (done ++ [j]) q back
      (convertFirst j.ref (fun _ => { number := n, body := .passbookUpdate (jobReservation j) (offCause j), sent := none }) p) := by
  obtain ⟨kept, rfl, -, each⟩ := h
  exact ⟨_, convertFirst_append settled kept, fun none => absurd none (by simp), fun once => afterLineOff_snoc once (each once)⟩

/-- The jobs of a line set OFF end in turn, the head job first. -/
theorem endQueueOff_run {s : State} {q back : List QueueEntry} (teller : Option Nat) (settled : ∀ r, .reservation r ∉ back) :
    ∀ (jobs done : List Job) (w : State) (c : PrinterContext), printerOf st w = some c → c.queue = jobs →
      reportRun (done.map (offDraft st teller)) s w → otherPrinters st s w →
      jobsOff done q back w.sda.queue →
      reportRun ((done ++ jobs).map (offDraft st teller)) s (endQueueOff jobs.length st teller w) ∧
        otherPrinters st s (endQueueOff jobs.length st teller w) ∧
        jobsOff (done ++ jobs) q back (endQueueOff jobs.length st teller w).sda.queue
  | [], done, w, c, _, _, run, others, after => by
    rw [List.append_nil]
    exact ⟨run, others, after⟩
  | j :: rest, done, w, c, hc, queue, run, others, after => by
    obtain ⟨m, same, apart, finish⟩ := finishHead_lineOff teller hc queue
    let v := finishHead st teller (setHead st (lineOffJob j) w)
    have head : headJob st w = some j := by simp [headJob, hc, queue]
    have turn : endQueueOff (j :: rest).length st teller w = endQueueOff rest.length st teller v := by
      simp only [List.length_cons, endQueueOff, head]
      rfl
    obtain ⟨-, -, -, -, sda, -⟩ := keeps_stands same
    have left : printerOf st v = some (withJobs rest c) := by
      show printerOf st (finishHead st teller (setHead st (lineOffJob j) w)) = _
      rw [finish, printerOf_setPrinter, if_pos rfl]
    have sized : passbookSized (offDraft st teller j) := passbookSized_draft ..
    have reported : keeps [.pbk] (passbookReported j.ref (fun _ => jobReservation j) (offCause j) (offDraft st teller j) m) v := by
      show keeps _ _ (finishHead st teller (setHead st (lineOffJob j) w))
      rw [finish]
      simp [keeps]
    have started := reportRun_keeps run same
    have next : reportRun ((done ++ [j]).map (offDraft st teller)) s v := by
      rw [List.map_append]
      exact reportRun_snoc started sized reported
    have nextOthers : otherPrinters st s v := fun a ha => by
      show printerOf a (finishHead st teller (setHead st (lineOffJob j) w)) = _
      rw [finish, printerOf_setPrinter, if_neg ha]
      exact (printerOf_congr a (by simp [passbookReported])).trans ((apart a ha).trans (others a ha))
    have queued : v.sda.queue = convertFirst j.ref
        (fun _ => { number := adviceNumber m, body := .passbookUpdate (jobReservation j) (offCause j), sent := none })
        w.sda.queue := by
      show (finishHead st teller (setHead st (lineOffJob j) w)).sda.queue = _
      rw [finish, ← sda (by decide)]
      exact congrArg Sda.queue (passbookReported_sda sized m)
    have nextAfter : jobsOff (done ++ [j]) q back v.sda.queue := by
      rw [queued]
      exact jobsOff_snoc settled after
    have joined : done ++ j :: rest = (done ++ [j]) ++ rest := by simp
    rw [turn, joined]
    exact endQueueOff_run teller settled rest (done ++ [j]) v (withJobs rest c) left rfl next nextOthers nextAfter

/-- The print jobs of a station. -/
def jobsOf (st : Station) (s : State) : List Job := ((printerOf st s).map PrinterContext.queue).getD []

/-- The printer of a line set OFF is removed, its jobs ended. -/
theorem removePrinter_run {q back : List QueueEntry} (teller : Option Nat) (settled : ∀ r, .reservation r ∉ back)
    (queue : w.sda.queue = q ++ back) :
    reportRun ((jobsOf st w).map (offDraft st teller)) w (removePrinter st teller w) ∧
      otherPrinters st w (removePrinter st teller w) ∧ jobsOff (jobsOf st w) q back (removePrinter st teller w).sda.queue := by
  have start : jobsOff [] q back w.sda.queue := queue ▸ jobsOff_nil q back
  unfold removePrinter jobsOf
  cases hc : printerOf st w with
  | none => exact ⟨reportRun_nil (keeps_refl _ w), fun _ _ => rfl, start⟩
  | some c =>
    let m := setPrinter st (some { c with item := none }) w
    have own : printerOf st m = some { c with item := none } := by simp [m]
    obtain ⟨run, others, ended⟩ := endQueueOff_run (s := w) teller settled c.queue [] m { c with item := none } own rfl
      (reportRun_nil (by simp [keeps, m])) (fun a ha => by simp [m, ha]) start
    let u := endQueueOff c.queue.length st teller m
    have removed : keeps [.pbk] u (setPrinter st none u) := by simp [keeps]
    refine ⟨reportRun_keeps run removed, fun a ha => ?_, ended⟩
    exact ((printerOf_setPrinter ..).trans (if_neg ha)).trans (others a ha)

end Sys2Proof.Machine
end

section
/-! SUPPORT. A line set OFF from each role, and LINE-RESET (O46). -/

namespace Sys2Proof.Machine
open Sys2Proof

variable {s s1 t u w : State} {st a : Station} {id : Nat} {r : LineSetupRequest} {x : LineSetup}

/-! ## A line in role TELLER set OFF (R28, R96, R167) -/

/-- The teller's record as the teller is signed off with the line. -/
def offRecord (teller : Option Nat) (now : Stamp) (y : TellerDay) : TellerDay :=
  { y with
    station := if teller = some y.teller then none else y.station
    lastOff := if teller = some y.teller then some now else y.lastOff }

/-- The state of a line set OFF, its teller signed off and its screen cleared. -/
def tellerGone (st : Station) (s : State) : State := clearContext st (signOffAt st s)

theorem tellerGone_scm (st : Station) (s : State) : (∀ a, tellerAt a (tellerGone st s) = if a = st then none else tellerAt a s) ∧
    (tellerGone st s).scm.broadcast = s.scm.broadcast ∧
    ∀ a, contextOf a (tellerGone st s) = if a = st then none else contextOf a s := by
  unfold tellerGone signOffAt clearContext
  cases teller : tellerAt st s with
  | none =>
    refine ⟨fun a => ?_, rfl, fun a => contextOf_setContext ..⟩
    by_cases ha : a = st
    · subst ha; rw [if_pos rfl]; exact teller
    · rw [if_neg ha]; rfl
  | some n =>
    refine ⟨fun a => tellerAt_setSignOn .., rfl, fun a => ?_⟩
    exact contextOf_setContext ..

theorem tellerGone_sda (st : Station) (s : State) : (tellerGone st s).sda = { s.sda with
    tellerDays := s.sda.tellerDays.map (offRecord (tellerAt st s) s.mrs.clock) } := by
  unfold tellerGone signOffAt
  cases teller : tellerAt st s with
  | none =>
    have same : s.sda.tellerDays.map (offRecord none s.mrs.clock) = s.sda.tellerDays :=
      (List.map_congr_left fun y _ => rfl).trans (List.map_id _)
    rw [same]
    rfl
  | some n =>
    have run : (clearContext st (signOff st n s)).sda = { s.sda with
        tellerDays := s.sda.tellerDays.map fun r =>
          if r.teller = n then { r with station := none, lastOff := some s.mrs.clock } else r } := rfl
    refine run.trans ?_
    refine congrArg (fun d => { s.sda with tellerDays := d }) (List.map_congr_left fun y _ => ?_)
    by_cases own : y.teller = n
    · simp [offRecord, own]
    · simp [offRecord, own, Ne.symm own]

theorem tellerGone_reach (st : Station) (s : State) : keeps [.scm, .sda] s (tellerGone st s) := by
  unfold tellerGone signOffAt clearContext
  split <;> simp [keeps, signOff]

/-- The state of a line set OFF, its transactions abandoned. -/
def abandonedHere (st : Station) (s : State) : State :=
  abandonAll .abandonedOnLineOff (fun e => e.ref.station = st) (tellerGone st s)

theorem setTellerOff_eq (st : Station) (s : State) :
    setTellerOff st s = onLine st offLine (removePrinter st (tellerAt st s) (abandonedHere st s)) := rfl

theorem raisedOnly_replies {fs : List EventFlag} (h : raisedOnly fs s t) (q : List MgmtReply) :
    raisedOnly fs (onBlc (fun b => { b with replies := q }) s) (onBlc (fun b => { b with replies := q }) t) := by
  obtain ⟨mrs, set, others, blc, new, events, among⟩ := h
  exact ⟨mrs, set, others, congrArg (fun b : Blc => { b with replies := q }) blc, new, events, among⟩

theorem positionOf_money (p : Option Station) (h : t.csh = s.csh) : positionOf p t = positionOf p s := by
  cases p <;> simp [positionOf, drawerOf, h]

/-- Of the entries abandoned, those of one station, none belongs to another. -/
theorem gone_elsewhere {gone : List OttEntry} (hg : gone = s.ttr.ott.filter fun e => e.ref.station = st) (ha : a ≠ st) :
    ∀ e ∈ gone, e.ref.station ≠ a := by
  subst hg
  intro e he same
  have here := (List.mem_filter.1 he).2
  exact ha (same.symm.trans (by simpa using here))

/-- Of the entries of the OTT, those of a station are those whose references its entries hold. -/
theorem ref_gone {e : OttEntry} (he : e ∈ s.ttr.ott) :
    e.ref ∈ (s.ttr.ott.filter fun e => e.ref.station = st).map OttEntry.ref ↔ e.ref.station = st := by
  constructor
  · intro h
    obtain ⟨y, hy, same⟩ := List.mem_map.1 h
    have here := (List.mem_filter.1 hy).2
    rw [← same]
    simpa using here
  · exact fun here => List.mem_map.2 ⟨e, List.mem_filter.2 ⟨he, by simpa using here⟩, rfl⟩

/-- A line in role TELLER set OFF: its transactions and its jobs end in turn. -/
structure lineOffDone (st : Station) (s w : State) (gone : List OttEntry) : Prop where
  reach : keeps [.ttr, .csh, .scm, .pbk, .sda, .jrn, .slc, .blc, .mrs] s w
  tellers : ∀ a, tellerAt a w = if a = st then none else tellerAt a s
  contexts : ∀ a, contextOf a w = if a = st then none else contextOf a s
  printer : printerOf st w = none
  printers : otherPrinters st s w
  lines : ∀ a, lineOf a w = if a = st then offLine (lineOf st s) else lineOf a s
  settings : w.mrs.settings = s.mrs.settings
  ttr : w.ttr = { s.ttr with ott := s.ttr.ott.filter fun e => e.ref.station ≠ st }
  positions : ∀ p, p ≠ some st → positionOf p w = positionOf p s
  drawer : drawerOf st w = gone.foldl (fun p e => afterLeg releasedPosition e.leg p) (drawerOf st s)
  requests : w.blc.requests = s.blc.requests.filter fun m =>
    !(s.ttr.ott.any fun e => decide (e.ref.station = st) && decide (e.ref = m.ref))
  raised : raisedOnly journalFlags (onBlc (fun b => { b with requests := w.blc.requests }) s) w
  queue : ∃ back, List.Forall₂ (reverses .abandonedOnLineOff) gone back ∧ jobsOff (jobsOf st s) s.sda.queue back w.sda.queue
  map : w.sda.accountMap = s.sda.accountMap
  acks : w.sda.unmatchedAcks = s.sda.unmatchedAcks
  written : 2 * (jobsOf st s).length ≤ s.jrn.free →
    s.jrn.nextSeq + (gone.map abandonedDraft ++ (jobsOf st s).map (offDraft st (tellerAt st s))).length ≤ 4294967296 →
    w.jrn = journalAfter (4 * gone.length) s.mrs.clock
        (gone.map abandonedDraft ++ (jobsOf st s).map (offDraft st (tellerAt st s))) s ∧
      w.sda.tellerDays = s.sda.tellerDays.map fun y =>
        { offRecord (tellerAt st s) s.mrs.clock y with txCount := countedTxns gone y }

theorem reversals_settled {cause : ReversalCause} {es : List OttEntry} {back : List QueueEntry}
    (h : List.Forall₂ (reverses cause) es back) : ∀ r, QueueEntry.reservation r ∉ back := by
  induction h with
  | nil => nofun
  | @cons e q es back one _ ih =>
    obtain ⟨n, rfl⟩ := one
    intro r hr
    rcases List.mem_cons.1 hr with hr | hr
    · cases hr
    · exact ih r hr

theorem setTellerOff_done (st : Station) (s : State) :
    lineOffDone st s (setTellerOff st s) (s.ttr.ott.filter fun e => e.ref.station = st) := by
  let gone := s.ttr.ott.filter fun e => e.ref.station = st
  let m := tellerGone st s
  let v := abandonedHere st s
  let w := removePrinter st (tellerAt st s) v
  obtain ⟨mtime, _⟩ := tellerGone_reach st s
  obtain ⟨mttr, mcsh, -, mpbk, -, mjrn, mday, mtbl, mslc, mblc, mmrs⟩ := keeps_stands (tellerGone_reach st s)
  replace mttr := mttr (by decide)
  replace mcsh := mcsh (by decide)
  replace mpbk := mpbk (by decide)
  replace mjrn := mjrn (by decide)
  replace mday := mday (by decide)
  replace mslc := mslc (by decide)
  replace mblc := mblc (by decide)
  replace mmrs := mmrs (by decide)
  obtain ⟨tellers, broadcast, contexts⟩ := tellerGone_scm st s
  have msda := tellerGone_sda st s
  have goneIs : m.ttr.ott.filter (fun e => e.ref.station = st) = gone := by rw [mttr]
  have ended : endedInTurn .abandoned gone m v := goneIs ▸ endedInTurn_abandonAll .abandonedOnLineOff _ m
  obtain ⟨back, queue, reversals⟩ := abandonAll_queue .abandonedOnLineOff (fun e => e.ref.station = st) m
  rw [goneIs] at reversals
  have vqueue : v.sda.queue = s.sda.queue ++ back := by
    have same : m.sda.queue = s.sda.queue := by rw [msda]
    rw [← same]
    exact queue
  have vpbk : v.pbk = s.pbk := Eq.trans (by simp [v, abandonedHere]) mpbk
  have jobs : jobsOf st v = jobsOf st s := by rw [jobsOf, jobsOf, printerOf_congr st vpbk]
  obtain ⟨run, others, off⟩ := removePrinter_run (tellerAt st s) (reversals_settled reversals) vqueue
  rw [jobs] at run off
  obtain ⟨wttr, wcsh, wscm, -, -, -, wday, -, wslc, -⟩ := keeps_stands run.reach
  replace wttr := wttr (by decide)
  replace wcsh := wcsh (by decide)
  replace wscm := wscm (by decide)
  replace wslc := wslc (by decide)
  have vscm : v.scm = m.scm := by simp [v, abandonedHere, m]
  have vslc : v.slc = m.slc := by simp [v, abandonedHere, m]
  have lines : ∀ a, lineOf a w = lineOf a s := fun a => lineOf_congr a (wslc.trans (vslc.trans mslc))
  have clock : v.mrs.clock = s.mrs.clock := (congrArg Mrs.clock ended.raised.1 :).trans (congrArg Mrs.clock mmrs)
  have positionW : ∀ p, positionOf p w = positionOf p v := fun p => positionOf_money p wcsh
  have positionM : ∀ p, positionOf p m = positionOf p s := fun p => positionOf_money p mcsh
  rw [setTellerOff_eq]
  show lineOffDone st s (onLine st offLine w) gone
  refine ⟨?_, fun a => ?_, fun a => ?_, ?_, fun a ha => ?_, fun a => ?_, ?_, ?_, fun p hp => ?_, ?_, ?_, ?_, ⟨back, reversals, off⟩,
    ?_, ?_, fun room sequence => ?_⟩
  · have first := keeps_mono (tellerGone_reach st s) (cs := [.ttr, .csh, .scm, .pbk, .sda, .jrn, .slc, .blc, .mrs]) (by decide)
    have second : keeps [.ttr, .csh, .scm, .pbk, .sda, .jrn, .slc, .blc, .mrs] m v := by simp [keeps, v, abandonedHere, m]
    have third := keeps_mono run.reach (cs := [.ttr, .csh, .scm, .pbk, .sda, .jrn, .slc, .blc, .mrs]) (by decide)
    have fourth : keeps [.ttr, .csh, .scm, .pbk, .sda, .jrn, .slc, .blc, .mrs] w (onLine st offLine w) := by simp [keeps]
    exact keeps_trans first (keeps_trans second (keeps_trans third fourth))
  · have same : tellerAt a (onLine st offLine w) = tellerAt a m :=
      tellerAt_congr a (congrArg Scm.signOn (wscm.trans vscm))
    exact same.trans (tellers a)
  · have same : contextOf a (onLine st offLine w) = contextOf a m :=
      contextOf_congr a (congrArg Scm.contexts (wscm.trans vscm))
    exact same.trans (contexts a)
  · exact printerOf_removePrinter st (tellerAt st s) v
  · exact (others a ha).trans (printerOf_congr a vpbk)
  · rw [lineOf_onLine, lines, lines]
  · have same : w.mrs.settings = v.mrs.settings := (congrArg Mrs.settings run.raised.1 :)
    have before : v.mrs.settings = m.mrs.settings := (congrArg Mrs.settings ended.raised.1 :)
    exact same.trans (before.trans (congrArg Mrs.settings mmrs))
  · have left : (onLine st offLine w).ttr = v.ttr := wttr
    have stay : (s.ttr.ott.filter fun x => x.ref ∉ gone.map OttEntry.ref) = s.ttr.ott.filter fun e => e.ref.station ≠ st :=
      List.filter_congr fun e he => by rw [decide_eq_decide, not_iff_not]; exact ref_gone he
    rw [left, ended.ttr, mttr, stay]
  · have same : positionOf p (onLine st offLine w) = positionOf p w := by cases p <;> rfl
    rw [same, positionW]
    cases p with
    | none => exact ended.reserve.trans (positionM none)
    | some a =>
      have apart : a ≠ st := fun h => hp (congrArg some h)
      exact (ended.position (gone_elsewhere rfl apart)).trans (positionM (some a))
  · have only : (gone.filter fun e => e.ref.station = st) = gone :=
      List.filter_eq_self.2 fun e he => (List.mem_filter.1 he).2
    have drawer : drawerOf st (onLine st offLine w) = drawerOf st v := positionW (some st)
    have start : drawerOf st m = drawerOf st s := positionM (some st)
    rw [drawer, ended.drawers st, only, start]
  · have same : (onLine st offLine w).blc.requests = v.blc.requests := (congrArg Blc.requests run.raised.2.2.2.1 :)
    rw [same, ended.requests, mblc]
    refine List.filter_congr fun q _ => ?_
    rw [decide_not]
    refine congrArg _ ?_
    rw [Bool.eq_iff_iff, decide_eq_true_eq, List.any_eq_true]
    simp [gone, and_assoc]
  · have same : (onLine st offLine w).blc.requests = v.blc.requests := (congrArg Blc.requests run.raised.2.2.2.1 :)
    rw [same]
    have first : raisedOnly journalFlags (onBlc (fun b => { b with requests := v.blc.requests }) s) v := by
      refine raisedOnly_from ended.raised ?_ ?_
      · exact mmrs
      · exact congrArg (fun b : Blc => { b with requests := v.blc.requests }) mblc
    exact raisedOnly_of_eq (raisedOnly_trans first run.raised) rfl rfl
  · have same : w.sda.accountMap = v.sda.accountMap := (congrArg Sda.accountMap run.records :)
    have before : v.sda.accountMap = m.sda.accountMap := by simp [v, abandonedHere, m]
    exact same.trans (before.trans (congrArg Sda.accountMap msda :))
  · have same : w.sda.unmatchedAcks = v.sda.unmatchedAcks := (congrArg Sda.unmatchedAcks run.records :)
    have before : v.sda.unmatchedAcks = m.sda.unmatchedAcks := by simp [v, abandonedHere, m]
    exact same.trans (before.trans (congrArg Sda.unmatchedAcks msda :))
  · rw [List.length_append, List.length_map, List.length_map] at sequence
    have mclock : m.mrs.clock = s.mrs.clock := congrArg Mrs.clock mmrs
    obtain ⟨jrn, days⟩ := ended.written (by rw [mjrn]; omega)
    have origin : journalAfter (4 * gone.length) m.mrs.clock (gone.map fun e => txnDraft e .abandoned []) m =
        journalAfter (4 * gone.length) s.mrs.clock (gone.map abandonedDraft) s := by
      rw [mclock]
      unfold journalAfter
      rw [mjrn, mday]
      rfl
    have slots := txnDrafts_slots .abandoned gone
    have sum : ((gone.map abandonedDraft).map draftSlots).sum ≤ 4 * gone.length := slots
    have date : v.day.date = s.day.date := congrArg Day.date (ended.day.trans mday)
    have begun : v.jrn = journalAfter (4 * gone.length) v.mrs.clock (gone.map abandonedDraft) s := by
      rw [jrn, origin, clock]
    refine ⟨?_, ?_⟩
    · have next : v.jrn.nextSeq = s.jrn.nextSeq + gone.length := by
        rw [begun]
        simp [journalAfter]
      have all := run.written begun date (by rw [List.length_map]; omega) (by rw [next, List.length_map]; omega)
      rw [clock] at all
      exact all
    · have told : w.sda.tellerDays = v.sda.tellerDays := (congrArg Sda.tellerDays run.records :)
      refine told.trans (days.trans ?_)
      rw [msda, List.map_map]
      rfl

/-- A setup to OFF is carried out by the role that the line had. -/
theorem carrySetup_ends (held : (lineOf st s).setup.role ≠ .off) (hx : x.role = .off) :
    carrySetup st x s = replaceSetup st x (setOff st s) := by
  cases hr : (lineOf st s).setup.role with
  | off => exact absurd hr held
  | teller | journalPrinter => simp only [carrySetup, hr, hx]

/-- A line that has been set OFF, and its setup replaced. -/
theorem setUpAs_off {v : State} (line : lineOf st v = offLine (lineOf st s)) (time : v.uptime = s.uptime)
    (settings : v.mrs.settings = s.mrs.settings) :
    setUpAs x (lineOf st s) (roleEnds (lineOf st s)) (lineOf st (replaceSetup st x v)) s :=
  setUpAs_replaceSetup (z := { (lineOf st s).setup with role := .off }) line rfl ⟨rfl, rfl, rfl⟩ time settings

/-! ## A journal printer set OFF (R127, R128) -/

/-- With the only journal printer OFF, the freeable entries are those accepted. -/
theorem freeable_unprinted {v : State} (none_held : printerRoleHeld v = false) (e : Entry) :
    freeable v e = decide (e.seq ≤ v.jrn.lastAccepted) := by
  simp [freeable, none_held]

theorem printerRoleHeld_off (ok : linesOk s) (role : (lineOf st s).setup.role = .journalPrinter) :
    printerRoleHeld (onLine st offLine s) = false := by
  obtain ⟨-, single⟩ := ok
  rw [Bool.eq_false_iff]
  intro held
  obtain ⟨a, ha⟩ := holder_of_printerRoleHeld held
  by_cases own : a = st
  · subst own
    rw [lineOf_onLine, if_pos rfl] at ha
    cases ha
  · rw [lineOf_onLine, if_neg own] at ha
    exact own (single a st ha role)

/-- A line in role TELLER is set OFF by a setup. -/
theorem carrySetup_tellerOff (hx : x.role = .off) (role : (lineOf st s).setup.role = .teller) :
    carrySetup st x s = replaceSetup st x (setTellerOff st s) := by
  have run : setOff st s = setTellerOff st s := by simp only [setOff, role]
  rw [carrySetup_ends (by rw [role]; nofun) hx, run]

/-- A line in role JOURNAL PRINTER is set OFF by a setup. -/
theorem carrySetup_printerOff (hx : x.role = .off) (role : (lineOf st s).setup.role = .journalPrinter) :
    carrySetup st x s = replaceSetup st x (freeEntries (onLine st offLine s)) := by
  have run : setOff st s = freeEntries (onLine st offLine s) := by simp only [setOff, role]
  rw [carrySetup_ends (by rw [role]; nofun) hx, run]

/-- What the reply and the new setup leave of a line set OFF from role TELLER. -/
theorem tellerSetOff {d : State} {gone : List OttEntry} (off : lineOffDone st s d gone) :
    ∃ u, u = answer id .done (.role .off) (replaceSetup st x d) ∧
      keeps [.ttr, .csh, .scm, .pbk, .sda, .jrn, .slc, .blc, .mrs] s u ∧
      (∀ a, tellerAt a u = if a = st then none else tellerAt a s) ∧ contextOf st u = none ∧
      otherLines st s u ∧ (∀ a, a ≠ st → contextOf a u = contextOf a s) ∧
      setUpAs x (lineOf st s) (roleEnds (lineOf st s)) (lineOf st u) s ∧
      u.blc.requests = d.blc.requests ∧
      u.blc.replies = s.blc.replies ++ [{ id := id, status := .done, content := .role .off }] ∧
      raisedOnly journalFlags (onBlc (fun b => { b with requests := u.blc.requests, replies := u.blc.replies }) s) u ∧
      (u.ttr = d.ttr ∧ u.csh = d.csh ∧ u.pbk = d.pbk ∧ u.sda = d.sda ∧ u.jrn = d.jrn) := by
  let w := replaceSetup st x d
  have reach := replaceSetup_reach st x d
  obtain ⟨wttr, wcsh, -, wpbk, wsda, wjrn, -, -, -, wblc, wmrs⟩ := keeps_stands reach
  replace wttr := wttr (by decide)
  replace wcsh := wcsh (by decide)
  replace wpbk := wpbk (by decide)
  replace wsda := wsda (by decide)
  replace wjrn := wjrn (by decide)
  replace wblc := wblc (by decide)
  replace wmrs := wmrs (by decide)
  obtain ⟨signOn, -, contexts⟩ := replaceSetup_screens st x d
  have replies : d.blc.replies = s.blc.replies := (congrArg Blc.replies off.raised.2.2.2.1 :)
  refine ⟨_, rfl, ?_, fun a => ?_, ?_, fun a ha => ?_, fun a ha => ?_, ?_, (congrArg Blc.requests wblc : w.blc.requests = _), ?_, ?_, wttr, wcsh, wpbk,
    wsda, wjrn⟩
  · have second := keeps_mono reach (cs := [.ttr, .csh, .scm, .pbk, .sda, .jrn, .slc, .blc, .mrs]) (by decide)
    have third : keeps [.ttr, .csh, .scm, .pbk, .sda, .jrn, .slc, .blc, .mrs] w (answer id .done (.role .off) w) := by
      simp [keeps]
    exact keeps_trans off.reach (keeps_trans second third)
  · exact (tellerAt_congr a signOn).trans (off.tellers a)
  · exact contextOf_replaceSetup_none x ((off.contexts st).trans (if_pos rfl))
  · exact (lineOf_replaceSetup_other x ha d).trans ((off.lines a).trans (if_neg ha))
  · exact (contexts a ha).trans ((off.contexts a).trans (if_neg ha))
  · obtain ⟨-, time, -⟩ := off.reach
    exact setUpAs_off ((off.lines st).trans (if_pos rfl)) time off.settings
  · show w.blc.replies ++ _ = _
    rw [wblc, replies]
  · have all := raisedOnly_replies off.raised (answer id .done (.role .off) w).blc.replies
    refine raisedOnly_of_eq (raisedOnly_from all rfl ?_) wmrs ?_
    · exact congrArg (fun q : List RequestMsg => { s.blc with
        requests := q, replies := (answer id .done (.role .off) w).blc.replies }) (congrArg Blc.requests wblc :).symm
    · exact congrArg (fun b : Blc => { b with replies := (answer id .done (.role .off) w).blc.replies }) wblc

/-- The setting of the only journal printer to OFF frees the entries accepted, printed or not. -/
theorem printerSetOff (ok : linesOk s) (role : (lineOf st s).setup.role = .journalPrinter) :
    (freeEntries (onLine st offLine s)).jrn = { s.jrn with
      entries := s.jrn.entries.dropWhile fun e => decide (e.seq ≤ s.jrn.lastAccepted)
      used := (freeEntries (onLine st offLine s)).jrn.used
      free := (freeEntries (onLine st offLine s)).jrn.free } := by
  have unprinted : freeable (onLine st offLine s) = fun e => decide (e.seq ≤ s.jrn.lastAccepted) :=
    funext fun e => freeable_unprinted (printerRoleHeld_off ok role) e
  have entries : (freeEntries (onLine st offLine s)).jrn.entries =
      s.jrn.entries.dropWhile fun e => decide (e.seq ≤ s.jrn.lastAccepted) := by
    rw [← unprinted]
    rfl
  rw [← entries]
  rfl

/-! ## LINE-RESET (R179) -/

theorem contextOf_pendBoth (a st : Station) (s : State) : contextOf a (pendBoth st s) = if a = st then
    (contextOf st s).map fun c => { c with terminalPending := true, mirrorPending := true } else contextOf a s := by
  unfold pendBoth
  split
  · next c hc => rw [contextOf_setContext, hc]; rfl
  · next hc =>
    by_cases ha : a = st
    · subst ha; rw [if_pos rfl, hc]; rfl
    · rw [if_neg ha]

theorem pendBoth_screens (st : Station) (s : State) :
    (pendBoth st s).scm.signOn = s.scm.signOn ∧ (pendBoth st s).scm.broadcast = s.scm.broadcast := by
  unfold pendBoth
  split <;> exact ⟨rfl, rfl⟩

/-- Settles O46: the transactions and the jobs of a line set OFF end in turn; a journal printer's print condition leaves with
it; and a reset begins the drops of its line anew. -/
theorem lineSetOffAndReset : Obligations.LineSetOffAndReset := by
  refine ⟨?_, ?_, ?_⟩
  · rintro id r s s1 st x gone taken hl read hoff role rfl
    obtain ⟨places, rfl⟩ := taken_buffer taken
    let s1 := onMrs (fun m => { m with places := places }) s
    have off := setTellerOff_done st s1
    have carried := takeLineSetup_carried (id := id) (s := s1) hl read (setupRefusal_off hoff)
    rw [carrySetup_tellerOff (s := s1) hoff role, hoff] at carried
    obtain ⟨u, hu, reach, tellers, context, lines, contexts, setUp, requests, replies, raised, ttr, csh, pbk, sda, jrn⟩ :=
      tellerSetOff (x := x) (id := id) off
    have position : ∀ p, positionOf p u = positionOf p (setTellerOff st s1) := fun p => positionOf_money p csh
    refine ⟨u, ?_, keeps_trans (t := s1) (by simp [keeps, s1]) reach, tellers, context, ?_, fun a ha => ?_, lines, contexts,
      setUp, ttr.trans off.ttr, fun p hp => (position p).trans (off.positions p hp), ?_, ?_, requests.trans off.requests, replies,
      raised, ?_, ?_, ?_, ?_⟩
    · exact (taken_run taken _).trans (congrArg (fun v => Host.Outcome.next (judgeSettle v)) (carried.trans hu.symm))
    · exact (printerOf_congr st pbk).trans off.printer
    · exact (printerOf_congr a pbk).trans (off.printers a ha)
    · have drawer := (position (some st)).trans off.drawer
      exact (congrArg Position.total drawer).trans (released_total _ _)
    · exact (position (some st)).trans off.drawer
    · obtain ⟨back, reversals, kept, queue, whole, each⟩ := off.queue
      refine ⟨kept, back, (congrArg Sda.queue sda).trans queue, reversals, fun none => whole ?_, fun c hc once => ?_⟩
      · show ((printerOf st s).map PrinterContext.queue).getD [] = []
        rw [none]
        rfl
      · have jobs : jobsOf st s1 = c.queue := by
          show ((printerOf st s).map PrinterContext.queue).getD [] = c.queue
          rw [hc]
          rfl
        have all := each once
        rw [jobs] at all
        exact all
    · rw [sda]; exact off.map
    · rw [sda]; exact off.acks
    · rintro jobs drafts rfl rfl - room sequence
      rw [jrn, sda]
      exact off.written room sequence
  · intro id r s s1 st x taken hl read hoff role ok
    obtain ⟨places, rfl⟩ := taken_buffer taken
    let s1 := onMrs (fun m => { m with places := places }) s
    let v := onLine st offLine s1
    let d := freeEntries v
    have carried := takeLineSetup_carried (id := id) (s := s1) hl read (setupRefusal_off hoff)
    rw [carrySetup_printerOff (s := s1) hoff role, hoff] at carried
    have line : ∀ a, lineOf a d = if a = st then offLine (lineOf st s) else lineOf a s := fun a =>
      (lineOf_congr a (show d.slc = v.slc by simp [d])).trans (lineOf_onLine ..)
    have reach : keeps [.scm, .jrn, .slc] s1 (replaceSetup st x d) :=
      keeps_trans (t := d) (by simp [keeps, d, v]) (keeps_mono (replaceSetup_reach st x d) (by decide))
    obtain ⟨signOn, broadcast, contexts⟩ := replaceSetup_screens st x d
    have scm : d.scm = s.scm := by simp [d, v, s1]
    have jrn : (replaceSetup st x d).jrn = d.jrn := by simp [replaceSetup]
    have mrs : (replaceSetup st x d).mrs = s1.mrs := by simp [replaceSetup, d, v]
    have blc : (replaceSetup st x d).blc = s1.blc := by simp [replaceSetup, d, v]
    have ttr : (replaceSetup st x d).ttr = s1.ttr := by simp [replaceSetup, d, v]
    refine ⟨_, (taken_run taken _).trans (congrArg (fun v => Host.Outcome.next (judgeSettle v)) carried),
      requestDone_of taken reach mrs blc, fun a ha => ?_,
      ⟨?_, ?_, fun a ha => ?_⟩, ?_, ?_, fun accounted => ?_⟩
    · exact (lineOf_replaceSetup_other x ha d).trans ((line a).trans (if_neg ha))
    · exact signOn.trans (congrArg Scm.signOn scm)
    · exact broadcast.trans (congrArg Scm.broadcast scm)
    · exact (contexts a ha).trans (contextOf_congr a (congrArg Scm.contexts scm))
    · exact setUpAs_off ((line st).trans (if_pos rfl)) (by simp [d, v, s1]) (by simp [d, v, s1])
    · exact jrn.trans ((printerSetOff (s := s1) ok role).trans (congrArg (fun j : Jrn => { s.jrn with
        entries := s.jrn.entries.dropWhile fun e => decide (e.seq ≤ s.jrn.lastAccepted)
        used := j.used, free := j.free }) jrn.symm))
    · have before : slotsAccounted v := accounted
      exact slotsAccounted_congr (slotsAccounted_freeEntries before) jrn ttr
  · intro id line s s1 taken
    refine ⟨_, taken_run taken _, fun bad => ?_, fun st hl => ?_⟩
    · simp only [takeLineReset, bad]
      exact requestRefused_of taken
    · obtain ⟨places, rfl⟩ := taken_buffer taken
      let s1 := onMrs (fun m => { m with places := places }) s
      let v := onLine st resetLine s1
      have run : takeLineReset id line s1 = answer id .done .nothing (pendBoth st v) := by
        simp only [takeLineReset, hl, stationOf_num, v]
      rw [run]
      have reach : keeps [.scm, .slc] s1 (pendBoth st v) := by simp [keeps, v]
      obtain ⟨signOn, broadcast⟩ := pendBoth_screens st v
      have mrs : (pendBoth st v).mrs = s1.mrs := by simp [v]
      have blc : (pendBoth st v).blc = s1.blc := by simp [v]
      refine ⟨requestDone_of taken reach mrs blc, ⟨signOn, broadcast, fun a ha => ?_⟩, ?_,
        fun c hc => ?_⟩
      · exact (contextOf_pendBoth a st v).trans (if_neg ha)
      · have becomes := lineBecomes_setLine st (resetLine (lineOf st s)) s
        exact lineBecomes_congr becomes (by simp [v, s1]; rfl)
      · refine (contextOf_pendBoth st st v).trans ((if_pos rfl).trans ?_)
        have same : contextOf st v = some c := hc
        rw [same]
        rfl

end Sys2Proof.Machine
end

section
/-! SUPPORT. The parts of a warm start in their order: the abandonment of the open transactions, the return of the reserved slots,
the advices, and the check of the positions (R28, R32, R97, R119, R200). -/

namespace Sys2Proof.Machine
open Sys2Proof

variable {s t u v w : State} {st : Station}

/-! ## A journal that only grows -/

/-- The JRN has only written entries, or lost some: its cursors and counters stand, and no slot has been reserved. -/
def journalGrew (s t : State) : Prop := t.jrn.reserved ≤ s.jrn.reserved ∧ ∃ new, t.jrn = { s.jrn with
  entries := s.jrn.entries ++ new, used := t.jrn.used, reserved := t.jrn.reserved, free := t.jrn.free,
  nextSeq := s.jrn.nextSeq + new.length, notStored := t.jrn.notStored }

theorem journalGrew_refl (s : State) : journalGrew s s := ⟨le_rfl, [], by simp⟩

theorem journalGrew_congr (h : journalGrew s t) (hu : u.jrn = t.jrn) : journalGrew s u := by
  unfold journalGrew at *
  rw [hu]
  exact h

theorem journalGrew_write (k : Nat) (d : Draft) (h : journalGrew s t) : journalGrew s (writeEntry k d t) := by
  obtain ⟨fewer, new, grew⟩ := h
  by_cases room : canWrite k d t
  · have written := writeEntry_wrote room
    refine ⟨?_, new ++ [{ seq := t.jrn.nextSeq, date := t.day.date, time := t.mrs.clock, draft := d }], ?_⟩
    · rw [written]
      exact le_trans (Nat.sub_le ..) fewer
    · rw [written, grew]
      simp [Nat.add_assoc]
  · have lost : t.jrn.free + k < draftSlots d ∨ 4294967295 < t.jrn.nextSeq := by
      rcases not_and_or.1 room with h | h
      · exact .inl (not_le.1 h)
      · exact .inr (not_le.1 h)
    obtain ⟨-, jrn, -⟩ := writeEntry_lost lost
    refine ⟨?_, new, ?_⟩
    · rw [jrn]
      exact le_trans (Nat.sub_le ..) fewer
    · rw [jrn, grew]

theorem journalGrew_abandon (cause : ReversalCause) (e : OttEntry) (h : journalGrew s t) : journalGrew s (abandon cause e t) := by
  let v := queueReversal e.ref cause e.cashDirection (entryRounded e) (releaseLeg e.ref.station e.leg (withdrawRequest e.ref t))
  have before : journalGrew s v := journalGrew_congr h (by simp [v])
  exact journalGrew_congr (journalGrew_write 4 (txnDraft e .abandoned []) before) rfl

theorem journalGrew_foldl {α : Type} {f : State → α → State} (one : ∀ {t} a, journalGrew s t → journalGrew s (f t a)) :
    ∀ (xs : List α) {t : State}, journalGrew s t → journalGrew s (xs.foldl f t)
  | [], _, h => h
  | a :: rest, _, h => journalGrew_foldl one rest (one a h)

/-! ## Notices of the notify set alone (R195) -/

/-- Every notice that waits is of a flag of the notify set. -/
def onlyNotified (s : State) : Prop := ∀ n ∈ s.blc.events, notifies n.flag = true

theorem onlyNotified_congr (h : onlyNotified s) (he : t.blc.events = s.blc.events) : onlyNotified t := by
  unfold onlyNotified
  rw [he]
  exact h

theorem onlyNotified_raiseWith (f : EventFlag) (a : Option Station) (h : onlyNotified s) : onlyNotified (raiseWith f a s) := by
  unfold raiseWith
  dsimp only
  split
  · next rises =>
    rw [Bool.and_eq_true] at rises
    unfold placeNotice
    split
    · exact h
    · intro n hn
      rcases List.mem_append.1 hn with hn | hn
      · exact h n hn
      · rw [List.mem_singleton.1 hn]
        exact rises.1
  · exact h

theorem onlyNotified_raiseIf (b : Bool) (f : EventFlag) (h : onlyNotified s) : onlyNotified (raiseIf b f s) := by
  unfold raiseIf
  split
  · exact onlyNotified_raiseWith f none h
  · exact h

theorem onlyNotified_write (k : Nat) (d : Draft) (s : State) (h : onlyNotified s) : onlyNotified (writeEntry k d s) := by
  unfold writeEntry
  split
  · exact onlyNotified_raiseWith _ _ h
  · unfold countTeller
    have stored : onlyNotified (noteFree s.jrn.free (noteUsed s.jrn.used (storeEntry k d s))) :=
      onlyNotified_raiseIf _ _ (onlyNotified_raiseIf _ _ h)
    split
    · exact stored
    · exact onlyNotified_raiseIf _ _ stored

theorem onlyNotified_parts : TxnParts onlyNotified where
  ttr _ _ _ h := h
  write := onlyNotified_write
  hold _ _ h := onlyNotified_raiseIf _ _ h
  reversal _ _ _ _ _ h := onlyNotified_congr h (by simp)
  compose _ _ _ h := onlyNotified_congr h (by simp)

theorem onlyNotified_move {K : Wide → Prop} (hq : unheard K) (t u : State) (m : Move K t u) (h : onlyNotified t) : onlyNotified u := by
  obtain ⟨-, -, noNotice, -⟩ := hq
  have parts := onlyNotified_parts
  cases m
  case notice hk => exact absurd hk noNotice
  case alarm a hk => exact onlyNotified_raiseWith _ _ h
  case blc f he => exact onlyNotified_congr h he
  case raise f hf => exact onlyNotified_raiseWith _ _ h
  case write d => exact onlyNotified_write 0 d _ h
  case enter e _ _ _ _ _ => exact parts.hold _ _ h
  case leave => exact parts.endEntry h
  case abandon => exact parts.endEntry (parts.reversal _ _ _ _ _ h)
  case late => exact parts.endLate h
  case lateApproval => exact parts.endLate (parts.reversal _ _ _ _ _ h)
  case timedOut => exact parts.timedOut h
  all_goals exact onlyNotified_congr h (by simp)

theorem onlyNotified_warmStart (s : State) : onlyNotified (warmStart s) := by
  have quiet : unheard startKinds := ⟨id, id, id, id⟩
  have ended : onlyNotified (abandoned s) :=
    (abandoned_moves (K := startKinds) (.inl trivial)).keep (onlyNotified_move quiet) (fun _ hn => by cases hn)
  exact (warmStart_moves (K := startKinds) (fun _ => trivial) (fun _ => trivial)).keep (onlyNotified_move quiet)
    (onlyNotified_congr ended rfl)

/-! ## Reservations of cash cleared (R32) -/

theorem clearReservations_movePairs {f : Counts → Nat → Counts} (hf : ∀ c n, (f c n).committed = c.committed) (b : Breakdown)
    (p : Position) : clearReservations (movePairs f b p) = clearReservations p := by
  have all : ∀ (cs : List Counts) (i : Nat), ((applyPairs f b i cs).map fun c => ({ c with reservedOut := 0, pendingIn := 0 } : Counts)) =
      cs.map fun c => { c with reservedOut := 0, pendingIn := 0 } := by
    intro cs
    induction cs with
    | nil => intro _; rfl
    | cons c rest ih =>
      intro i
      rw [applyPairs, List.map_cons, List.map_cons, ih, hf]
  show ({ p with counts := (applyPairs f b 1 p.counts).map _ } : Position) = _
  rw [all]
  rfl

theorem clearReservations_released (leg : Option Leg) (p : Position) :
    clearReservations (afterLeg releasedPosition leg p) = clearReservations p := by
  cases leg with
  | none => rfl
  | some g =>
    show clearReservations (releasedPosition g p) = _
    unfold releasedPosition
    split
    · exact clearReservations_movePairs (fun _ _ => by rfl) _ _
    · exact clearReservations_movePairs (fun _ _ => by rfl) _ _
    · rfl

theorem clearReservations_releases (es : List OttEntry) (p : Position) :
    clearReservations (es.foldl (fun p e => afterLeg releasedPosition e.leg p) p) = clearReservations p := by
  induction es generalizing p with
  | nil => rfl
  | cons e rest ih => exact (ih _).trans (clearReservations_released e.leg p)

theorem committedCounts_clearReservations (p : Position) : committedCounts (clearReservations p) = committedCounts p := by
  simp [committedCounts, clearReservations, Function.comp_def]

/-- A position is checked at a start as it would have been without its reservations. -/
theorem checkedPosition_cleared {faces : List Nat} {p q : Position} (h : clearReservations q = clearReservations p) :
    checkedPosition faces q = { p with
      counts := p.counts.map fun c => { c with reservedOut := 0, pendingIn := 0 }
      state := if p.total = countsValue faces (committedCounts p) then p.state else .suspect } := by
  have total : q.total = p.total := (congrArg Position.total h : (clearReservations q).total = (clearReservations p).total)
  have counts : committedCounts q = committedCounts p := by
    rw [← committedCounts_clearReservations q, h, committedCounts_clearReservations]
  have same : totalAgrees faces q = totalAgrees faces p := by rw [totalAgrees, total, counts]; rfl
  unfold checkedPosition
  rw [same, h]
  by_cases agrees : p.total = countsValue faces (committedCounts p)
  · rw [if_pos (show totalAgrees faces p = true from decide_eq_true agrees), if_pos agrees]
    rfl
  · rw [if_neg (by simp [totalAgrees, agrees]), if_neg agrees]
    rfl

/-! ## The open transactions of a warm start (R28, R119) -/

theorem filter_all {α : Type} (xs : List α) : xs.filter (fun _ => true) = xs := List.filter_eq_self.2 fun _ _ => rfl

/-- What the abandonment of all transactions at a warm start leaves. -/
structure warmAbandoned (s w : State) : Prop where
  reach : keeps [.ttr, .csh, .sda, .jrn, .blc, .mrs] (volatileReset s) w
  ttr : w.ttr = { s.ttr with ott := [], late := [] }
  positions : ∀ p, clearReservations (positionOf p w) = clearReservations (positionOf p s)
  raised : raisedOnly journalFlags (volatileReset s) w
  queue : ∃ reversals, w.sda.queue = s.sda.queue ++ reversals ∧ List.Forall₂ (reverses .abandonedOnRestart) s.ttr.ott reversals
  map : w.sda.accountMap = s.sda.accountMap
  acks : w.sda.unmatchedAcks = 0
  idle : s.ttr.ott = [] → w = volatileReset s
  grew : journalGrew (volatileReset s) w
  written : s.jrn.nextSeq + s.ttr.ott.length ≤ 4294967296 →
    w.jrn = journalAfter (4 * s.ttr.ott.length) ⟨0, true⟩ (s.ttr.ott.map abandonedDraft) (volatileReset s) ∧
      w.sda.tellerDays = s.sda.tellerDays.map fun r => { r with txCount := countedTxns s.ttr.ott r }

theorem abandoned_run (s : State) : warmAbandoned s (abandoned s) := by
  let s0 := volatileReset s
  have everyone : s0.ttr.ott.filter (fun _ => true) = s.ttr.ott := filter_all _
  have ended : endedInTurn .abandoned s.ttr.ott s0 (abandoned s) :=
    everyone ▸ endedInTurn_abandonAll .abandonedOnRestart (fun _ => true) s0
  obtain ⟨reversals, queue, each⟩ := abandonAll_queue .abandonedOnRestart (fun _ => true) s0
  rw [everyone] at each
  have requests : (abandoned s).blc.requests = [] := ended.requests
  refine ⟨by simp [keeps, abandoned], ?_, fun p => ?_, ?_, ⟨reversals, queue, each⟩, by simp [abandoned, volatileReset],
    by simp [abandoned, volatileReset], fun none => ?_, ?_, fun room => ?_⟩
  · have left := ended.ttr
    rw [List.filter_eq_nil_iff.2 fun x hx => by simpa using ⟨x, hx, rfl⟩] at left
    exact left
  · cases p with
    | none => exact congrArg clearReservations ended.reserve
    | some a => exact (congrArg clearReservations (ended.drawers a)).trans (clearReservations_releases _ _)
  · refine raisedOnly_from ended.raised rfl ?_
    show { s0.blc with requests := (abandoned s).blc.requests } = s0.blc
    rw [requests]
    rfl
  · show (s0.ttr.ott.filter fun _ => true).foldl _ _ = _
    rw [everyone, none]
    rfl
  · exact journalGrew_foldl (fun e h => journalGrew_abandon _ e h) _ (journalGrew_refl s0)
  · exact ended.written room

/-- The journal of a warm start once the slots reserved have returned. -/
theorem returnReserved_written (reserved : s.jrn.reserved = reservedSlots s)
    (h : w.jrn = journalAfter (4 * s.ttr.ott.length) ⟨0, true⟩ (s.ttr.ott.map abandonedDraft) (volatileReset s)) :
    (returnReserved w).jrn = journalAfter s.jrn.reserved ⟨0, true⟩ (s.ttr.ott.map abandonedDraft) (volatileReset s) := by
  have slots : ((s.ttr.ott.map abandonedDraft).map draftSlots).sum ≤ 4 * s.ttr.ott.length := txnDrafts_slots .abandoned _
  have held : s.jrn.reserved = 4 * s.ttr.ott.length + 2 * s.ttr.late.length := reserved
  have same : (volatileReset s).jrn.reserved = s.jrn.reserved := rfl
  show { w.jrn with reserved := 0, free := w.jrn.free + w.jrn.reserved } = _
  rw [h]
  unfold journalAfter
  simp only [Jrn.mk.injEq, true_and, and_true]
  exact ⟨by omega, by omega⟩

/-! ## The advices of a warm start (R97, R105) -/

/-- The reservations of a queue, in its order. -/
def reservationsIn (q : List QueueEntry) : List Reservation :=
  q.filterMap fun q => match q with
    | .reservation r => some r
    | .advice _ => none

/-- The PASSBOOK entry of a reservation at a warm start. -/
def restartDraft (s : State) (r : Reservation) : Draft :=
  passbookDraft r.ref.station (tellerAt r.ref.station s) r .restart (restartOutcome r)

theorem restartReservation_eq (r : Reservation) (s : State) :
    restartReservation s r = passbookReported r.ref id .restart (restartDraft s r) s := rfl

theorem restartOutcome_eq (r : Reservation) : restartOutcome r = if r.printed = 0 then .notDue else .owed := by
  unfold restartOutcome
  by_cases none : r.printed = 0
  · rw [if_pos none, if_neg (by omega)]
  · rw [if_neg none, if_pos (by omega)]

/-- The PASSBOOK entries of the reservations of a queue. -/
theorem filterMap_reservations {f : QueueEntry → Option Draft} (reserved : ∀ r, f (.reservation r) = some (restartDraft s r))
    (advices : ∀ a, f (.advice a) = none) (q : List QueueEntry) : q.filterMap f = (reservationsIn q).map (restartDraft s) := by
  induction q with
  | nil => rfl
  | cons x rest ih =>
    cases x with
    | advice a => exact (List.filterMap_cons_none (advices a)).trans ih
    | reservation r => exact (List.filterMap_cons_some (reserved r)).trans (congrArg _ ih)

theorem length_reservationsIn (q : List QueueEntry) : (reservationsIn q).length = q.countP isReservation := by
  induction q with
  | nil => rfl
  | cons x rest ih =>
    cases x with
    | advice a => exact ih.trans (List.countP_cons_of_neg (by simp [isReservation])).symm
    | reservation r => exact (congrArg (· + 1) ih).trans (List.countP_cons_of_pos rfl).symm

theorem reservationsIn_append (p q : List QueueEntry) : reservationsIn (p ++ q) = reservationsIn p ++ reservationsIn q :=
  List.filterMap_append ..

theorem reservationsIn_unsend (q : List QueueEntry) : reservationsIn (q.map unsend) = reservationsIn q := by
  induction q with
  | nil => rfl
  | cons x rest ih =>
    cases x with
    | advice a => exact ih
    | reservation r => exact congrArg (r :: ·) ih

/-- Behind entries that are no reservations the first reservation of its reference becomes the advice. -/
theorem convertFirst_first {r : Reservation} {mk : Reservation → Advice} {rest : List QueueEntry} :
    ∀ {pre : List QueueEntry}, reservationsIn pre = [] →
      convertFirst r.ref mk (pre ++ .reservation r :: rest) = pre ++ .advice (mk r) :: rest
  | [], _ => if_pos rfl
  | .advice a :: pre, clear => congrArg (QueueEntry.advice a :: ·) (convertFirst_first (pre := pre) clear)
  | .reservation _ :: _, clear => by cases clear

/-- The reservations of a queue become advices in turn, each in its place. -/
theorem restartReservations_queue {back : List QueueEntry} : ∀ (q pre : List QueueEntry) (w : State),
    reservationsIn pre = [] → w.sda.queue = pre ++ q.map unsend ++ back →
      ∃ out, ((reservationsIn q).foldl restartReservation w).sda.queue = pre ++ out ++ back ∧ List.Forall₂ afterRestart q out
  | [], pre, w, _, queue => ⟨[], queue, .nil⟩
  | .advice a :: q, pre, w, clear, queue => by
    obtain ⟨out, all, each⟩ := restartReservations_queue (back := back) q (pre ++ [.advice { a with sent := none }]) w
      (by rw [reservationsIn_append, clear]; rfl) (by simpa [unsend] using queue)
    exact ⟨.advice { a with sent := none } :: out, all.trans (by simp), .cons rfl each⟩
  | .reservation r :: q, pre, w, clear, queue => by
    have one : (restartReservation w r).sda.queue = pre ++
        .advice { number := adviceNumber w, body := .passbookUpdate r .restart, sent := none } :: (q.map unsend ++ back) := by
      rw [restartReservation_eq, passbookReported_sda (d := restartDraft w r) (passbookSized_draft ..)]
      dsimp only
      rw [queue, List.append_assoc]
      exact convertFirst_first clear
    obtain ⟨out, all, each⟩ := restartReservations_queue (back := back) q
      (pre ++ [.advice { number := adviceNumber w, body := .passbookUpdate r .restart, sent := none }]) (restartReservation w r)
      (by rw [reservationsIn_append, clear]; rfl) (by simpa using one)
    exact ⟨.advice { number := adviceNumber w, body := .passbookUpdate r .restart, sent := none } :: out, all.trans (by simp),
      .cons ⟨_, rfl⟩ each⟩

/-- The reservations are reported in turn. -/
theorem restartReservations_run (rs : List Reservation) (s : State) :
    reportRun (rs.map (restartDraft s)) s (rs.foldl restartReservation s) := by
  induction rs using List.reverseRecOn with
  | nil => exact reportRun_nil (keeps_refl _ s)
  | append_singleton rs r ih =>
    have teller : tellerAt r.ref.station (rs.foldl restartReservation s) = tellerAt r.ref.station s :=
      tellerAt_congr _ (congrArg Scm.signOn ((keeps_stands ih.reach).2.2.1 (by decide)))
    have draft : restartDraft (rs.foldl restartReservation s) r = restartDraft s r := by
      rw [restartDraft, restartDraft, teller]
    rw [List.foldl_append, List.map_append, List.map_singleton, ← draft]
    exact reportRun_snoc ih (passbookSized_draft ..) (keeps_refl _ _)

theorem unsend_reversals {cause : ReversalCause} {es : List OttEntry} {back : List QueueEntry}
    (h : List.Forall₂ (reverses cause) es back) : back.map unsend = back ∧ reservationsIn back = [] := by
  induction h with
  | nil => exact ⟨rfl, rfl⟩
  | @cons e q es back one _ ih =>
    obtain ⟨n, rfl⟩ := one
    exact ⟨congrArg _ ih.1, ih.2⟩

theorem journalGrew_restartReservation (r : Reservation) (h : journalGrew s t) : journalGrew s (restartReservation t r) :=
  journalGrew_write 0 _ (journalGrew_congr h (by simp))

theorem restartAdvices_grew (h : journalGrew s w) : journalGrew s (restartAdvices w) :=
  journalGrew_foldl (fun r k => journalGrew_restartReservation r k) _ (journalGrew_congr h rfl)

/-- The advices of a warm start, where REVERSAL advices stand behind the queue. -/
theorem restartAdvices_eq {cause : ReversalCause} {es : List OttEntry} {q back : List QueueEntry}
    (queue : w.sda.queue = q ++ back) (reversed : List.Forall₂ (reverses cause) es back) :
    (returnAllUnsent w).sda.queue = q.map unsend ++ back ∧
      restartAdvices w = (reservationsIn q).foldl restartReservation (returnAllUnsent w) := by
  obtain ⟨unsent, settled⟩ := unsend_reversals reversed
  have queued : (returnAllUnsent w).sda.queue = q.map unsend ++ back := by
    show w.sda.queue.map unsend = _
    rw [queue, List.map_append, unsent]
  have reservations : reservationsOf (returnAllUnsent w) = reservationsIn q := by
    show reservationsIn (returnAllUnsent w).sda.queue = _
    rw [queued, reservationsIn_append, reservationsIn_unsend, settled, List.append_nil]
  rw [← reservations]
  exact ⟨queued, rfl⟩

/-! ## The positions of a warm start (R32) -/

theorem positionOf_restartPositions (p : Option Station) (s : State) :
    positionOf p (restartPositions s) = checkedPosition (facesOf s) (positionOf p s) := by
  have csh : (restartPositions s).csh = onPositions (checkedPosition (facesOf s)) s.csh := by simp [restartPositions]
  cases p with
  | none => simp [positionOf, csh, onPositions]
  | some a => simp [positionOf, drawerOf, csh, onPositions]

theorem restartPositions_raised (s : State) : raisedOnly [.suspectPosition] s (restartPositions s) :=
  raisedOnly_from (raisedOnly_raiseIf (by simp) _ _) rfl rfl

theorem restartPositions_suspect (s : State) : flagSet .suspectPosition (restartPositions s).mrs.flags = true ↔
    flagSet .suspectPosition s.mrs.flags = true ∨
      ∃ p, (positionOf p s).total ≠ countsValue (facesOf s) (committedCounts (positionOf p s)) := by
  have differs : ∀ p : Position, disagrees (facesOf s) p = true ↔ p.total ≠ countsValue (facesOf s) (committedCounts p) := fun p => by
    simp [disagrees, totalAgrees]
  unfold restartPositions
  rw [flagSet_raiseIf_eq, decide_eq_true rfl, Bool.and_true, Bool.or_eq_true, Bool.or_eq_true, List.any_eq_true, differs]
  refine or_congr Iff.rfl ⟨?_, ?_⟩
  · rintro (⟨x, hx, h⟩ | h)
    · obtain ⟨a, rfl⟩ := (Eight.mem_toList _ _).1 hx
      exact ⟨some a, (differs _).1 h⟩
    · exact ⟨none, h⟩
  · rintro ⟨p, h⟩
    cases p with
    | none => exact .inr h
    | some a => exact .inl ⟨_, (Eight.mem_toList _ _).2 ⟨a, rfl⟩, (differs _).2 h⟩

end Sys2Proof.Machine
end

section
/-! SUPPORT. The day, the screens and the printers of a warm start, and the warm start as a whole (R64, R77, R147, R200). -/

namespace Sys2Proof.Machine
open Sys2Proof

variable {s t u v w : State} {st : Station}

/-! ## The day (R147) -/

/-- A context just set up, as phase JOURNAL begins. -/
theorem beginJournalPhase_context (s : State) : ∃ c, (beginJournalPhase s).day = { s.day with settlement := some c } ∧
    c.current = none ∧ c.outstanding = none ∧ c.attempts = 0 ∧ c.pause = none ∧
    c.phase = (if (∀ e ∈ s.jrn.entries, e.seq ≤ s.jrn.lastAccepted) then .totals else .journal) ∧
    c.parts = if c.phase = .totals then totalsParts (beginJournalPhase s) else [] := by
  obtain ⟨c, day, current, outstanding, attempts, pause, phase⟩ := beginJournalPhase_day s
  refine ⟨c, day, current, outstanding, attempts, pause, ?_⟩
  by_cases all : ∀ e ∈ s.jrn.entries, e.seq ≤ s.jrn.lastAccepted
  · rw [if_pos all] at phase ⊢
    obtain ⟨totals, parts, -⟩ := phase
    exact ⟨totals, by rw [if_pos totals]; exact parts⟩
  · rw [if_neg all] at phase ⊢
    obtain ⟨journal, parts⟩ := phase
    exact ⟨journal, by rw [journal]; exact parts⟩

theorem settleCondition_congr (ttr : t.ttr.ott = s.ttr.ott) (queue : t.sda.queue = s.sda.queue)
    (signOn : t.scm.signOn = s.scm.signOn) (csh : t.csh = s.csh) (marks : ∀ p, marked p t = marked p s) :
    settleCondition t = settleCondition s := by
  rw [Bool.eq_iff_iff, settleCondition_iff, settleCondition_iff, ttr, queue]
  simp only [tellerAt_congr _ signOn, positionOf_money _ csh, marks]

/-- The day goes on after a warm start, from v to w, by its retained state. -/
structure dayRestarted (v w : State) : Prop where
  reach : keeps [.scm, .jrn, .day, .blc, .mrs] v w
  screens : w.scm.signOn = v.scm.signOn ∧ w.scm.broadcast = v.scm.broadcast
  blank : ∀ a, contextOf a v = none → contextOf a w = none
  raised : raisedOnly journalFlags v w
  grew : ∀ {s : State}, journalGrew s v → journalGrew s w
  written : v.day.state = .cutoff ∧ settleCondition v = true → canWrite 0 (dayDraft .settling v.day.date) v →
    wrote 0 (dayDraft .settling v.day.date) v w
  stands : ¬ (v.day.state = .cutoff ∧ settleCondition v = true) → w.jrn = v.jrn
  day : w.day = { v.day with
    state := if v.day.state = .cutoff ∧ settleCondition v = true then .settling else v.day.state
    settlement := w.day.settlement }
  closed : w.day.settlement = none ↔ w.day.state = .noDate ∨ w.day.state = .opened ∨ w.day.state = .cutoff
  context : ∀ c, w.day.settlement = some c → c.current = none ∧ c.outstanding = none ∧ c.attempts = 0 ∧ c.pause = none ∧
    c.phase = (if v.day.state = .settled then .trailing
      else if (∀ e ∈ w.jrn.entries, e.seq ≤ v.jrn.lastAccepted) then .totals else .journal) ∧
    c.parts = if c.phase = .totals then totalsParts w else []

/-- An open day without a settlement goes on as it is. -/
theorem dayRestarted_same (none : v.day.settlement = none) (hs : ¬ (v.day.state = .cutoff ∧ settleCondition v = true))
    (shut : v.day.state = .noDate ∨ v.day.state = .opened ∨ v.day.state = .cutoff) : dayRestarted v v where
  reach := keeps_refl _ v
  screens := ⟨rfl, rfl⟩
  blank _ h := h
  raised := raisedOnly_refl _ v
  grew h := h
  written h := absurd h hs
  stands _ := rfl
  day := by rw [if_neg hs]
  closed := iff_of_true none shut
  context c hc := by rw [none] at hc; cases hc

/-- A settlement that had begun begins again with phase JOURNAL. -/
theorem dayRestarted_again (state : v.day.state = .settling ∨ v.day.state = .settleFailed) : dayRestarted v (beginJournalPhase v) := by
  obtain ⟨c, day, current, outstanding, attempts, pause, phase, parts⟩ := beginJournalPhase_context v
  have open' : ¬ (v.day.state = .cutoff ∧ settleCondition v = true) := by rcases state with h | h <;> simp [h]
  have unsettled : v.day.state ≠ .settled := by rcases state with h | h <;> simp [h]
  refine ⟨by simp [keeps], by simp, fun a ha => (contextOf_congr a (by simp)).trans ha,
    raisedOnly_of_eq (raisedOnly_refl _ v) (by simp) (by simp), fun h => journalGrew_congr h (by simp), fun h => absurd h open',
    fun _ => by simp, ?_, ?_, fun x hx => ?_⟩
  · rw [day, if_neg open']
  · rw [day]
    rcases state with h | h <;> simp [h]
  · rw [day] at hx
    obtain rfl := Option.some.inj hx
    rw [if_neg unsettled]
    exact ⟨current, outstanding, attempts, pause, by simpa using phase, parts⟩

/-- A CUTOFF day that meets the settle condition begins to settle. -/
theorem dayRestarted_settles (cutoff : v.day.state = .cutoff) (holds : settleCondition v = true) :
    dayRestarted v (beginJournalPhase (changeDay .settling v)) := by
  let m := changeDay .settling v
  obtain ⟨follow, raised, entered⟩ := changeDay_entered .settling v
  obtain ⟨c, day, current, outstanding, attempts, pause, phase, parts⟩ := beginJournalPhase_context m
  have state : m.day = { v.day with state := .settling } := changeDay_day ..
  have both : v.day.state = .cutoff ∧ settleCondition v = true := ⟨cutoff, holds⟩
  have jrn : (beginJournalPhase m).jrn = m.jrn := by simp
  have accepted : m.jrn.lastAccepted = v.jrn.lastAccepted := by simp [m]
  refine ⟨by simp [keeps], by simp, fun a ha => ?_, raisedOnly_of_eq raised (by simp) (by simp), fun {o} h => ?_, fun _ room => ?_,
    fun h => absurd both h, ?_, ?_, fun x hx => ?_⟩
  · refine (contextOf_congr a (by simp)).trans ((follow.2 a).trans ?_)
    rw [ha]
    rfl
  · refine journalGrew_congr (journalGrew_write 0 (dayDraft .settling v.day.date)
      (t := onDay (fun d => { d with state := .settling }) v) (journalGrew_congr h rfl)) ?_
    rw [jrn]
    simp [m, changeDay]
  · have k := entered room
    unfold wrote at k ⊢
    exact jrn.trans k
  · rw [day, state, if_pos both]
  · rw [day, state]
    simp
  · rw [day] at hx
    obtain rfl := Option.some.inj hx
    rw [if_neg (by rw [cutoff]; nofun), jrn, ← accepted]
    exact ⟨current, outstanding, attempts, pause, phase, parts⟩

theorem dayRestarted_restartDay (none : v.day.settlement = none) : dayRestarted v (restartDay v) := by
  have later : v.day.state ≠ .cutoff → ¬ (v.day.state = .cutoff ∧ settleCondition v = true) := fun h k => h k.1
  cases state : v.day.state with
  | noDate =>
    simp only [restartDay, state]
    exact dayRestarted_same none (later (by rw [state]; nofun)) (.inl state)
  | opened =>
    simp only [restartDay, state]
    exact dayRestarted_same none (later (by rw [state]; nofun)) (.inr (.inl state))
  | cutoff =>
    simp only [restartDay, state]
    cases holds : settleCondition v with
    | true =>
      rw [show judgeSettle v = beginJournalPhase (changeDay .settling v) from if_pos ⟨state, holds⟩]
      exact dayRestarted_settles state holds
    | false =>
      rw [judgeSettle_of_not (.inr holds)]
      exact dayRestarted_same none (by simp [holds]) (.inr (.inr state))
  | settling =>
    simp only [restartDay, state]
    exact dayRestarted_again (.inl state)
  | settleFailed =>
    simp only [restartDay, state]
    exact dayRestarted_again (.inr state)
  | settled =>
    simp only [restartDay, state]
    have open' := later (by rw [state]; nofun)
    refine ⟨by simp [keeps], ⟨rfl, rfl⟩, fun a ha => ha, raisedOnly_of_eq (raisedOnly_refl _ v) rfl rfl,
      fun h => journalGrew_congr h rfl, fun h => absurd h open', fun _ => rfl, ?_, ?_, fun x hx => ?_⟩
    · rw [if_neg open']
      rfl
    · simp [state]
    · obtain rfl := Option.some.inj hx
      rw [if_pos state]
      exact ⟨rfl, rfl, rfl, rfl, rfl, rfl⟩

/-! ## The screens and the printers (R64, R77) -/

theorem freshScreen_congr {m n : State} (h : freshScreen st m n) (context : contextOf st t = contextOf st n)
    (shows : ∀ c, recomposed st t c = recomposed st n c) (teller : tellerAt st s = tellerAt st m)
    (tct : s.tbl.tct = m.tbl.tct) (sft : s.tbl.sft = m.tbl.sft) : freshScreen st s t := by
  obtain ⟨c, hc, whole, terminal, mirror, message, tag, mode, prompt, form, shown, texts⟩ := h
  have format : ∀ k, formatOf k s = formatOf k m := fun k => by unfold formatOf; rw [sft]
  have prompts : ∀ k, promptFormat m k → promptFormat s k := fun k hk => by
    unfold promptFormat signOnPrompt signOnRecord at *
    rw [tct]
    exact hk
  refine ⟨c, context.trans hc, whole.trans (shows c).symm, terminal, mirror, message, tag, by rw [teller]; exact mode,
    fun k => prompts _ (prompt (teller ▸ k)), fun k => form (teller ▸ k), ?_, texts⟩
  rw [shown]
  exact congrArg _ (funext fun k => (format k).symm)

theorem restartStation_other {a : Station} (ha : a ≠ st) (s : State) :
    contextOf a (restartStation st s) = contextOf a s ∧ printerOf a (restartStation st s) = printerOf a s := by
  unfold restartStation
  split
  · refine ⟨(contextOf_freshContext_other ha _).trans (contextOf_congr a (by simp)), ?_⟩
    exact (printerOf_congr a (by simp)).trans ((printerOf_makePrinter a st s).trans (if_neg ha))
  · exact ⟨rfl, rfl⟩

/-- The screens and printers made at a warm start, where none stood. -/
theorem restartStations_screens (blank : ∀ a, contextOf a s = none) (bare : ∀ a, printerOf a s = none) (st : Station) :
    ((contextOf st (forStations restartStation s)).isSome = true ↔ (lineOf st s).setup.role = .teller) ∧
      ((lineOf st s).setup.role = .teller → freshScreen st s (forStations restartStation s)) ∧
      printerOf st (forStations restartStation s) =
        if (lineOf st s).setup.role = .teller ∧ (lineOf st s).setup.printerPresent = true then some PrinterContext.fresh else none := by
  obtain ⟨u, ⟨signOn, broadcast, link, day, csh, slc, tbl⟩, before, after⟩ := forStations_reaches
    (fun u => (contextOf st u, printerOf st u))
    (fun u => u.scm.signOn = s.scm.signOn ∧ u.scm.broadcast = s.scm.broadcast ∧ u.blc = s.blc ∧ u.day = s.day ∧ u.csh = s.csh ∧
      u.slc = s.slc ∧ u.tbl = s.tbl) restartStation st (fun u h => by simpa using h)
    (fun a u ha h => ⟨by simpa using h, Prod.ext (restartStation_other (Ne.symm ha) u).1 (restartStation_other (Ne.symm ha) u).2⟩)
    (s := s) ⟨rfl, rfl, rfl, rfl, rfl, rfl, rfl⟩
  obtain ⟨context, printer⟩ := Prod.mk.inj after
  obtain ⟨noContext, noPrinter⟩ := Prod.mk.inj before
  have line : lineOf st u = lineOf st s := lineOf_congr st slc
  by_cases role : (lineOf st s).setup.role = .teller
  · let m := makePrinter st u
    have run : restartStation st u = freshContext st m := if_pos (by rw [line]; exact role)
    rw [run] at context printer
    have fresh := freshScreen_freshContext st m
    have made : freshScreen st s (forStations restartStation s) := by
      refine freshScreen_congr fresh context (fun c => ?_) (tellerAt_congr st (by simp [m, signOn])).symm (by simp [m, tbl])
        (by simp [m, tbl])
      apply recomposed_congr
      · simp [m, link]
      · simp [m, day]
      · simp [m, signOn]
      · simp [drawerOf, m, csh]
      · simp [lineOf, m, slc]
      · exact printer
      · simp [m, broadcast]
    have ⟨c, hc, _⟩ := made
    refine ⟨iff_of_true (by rw [hc]; rfl) role, fun _ => made, ?_⟩
    rw [printer]
    refine (printerOf_congr st (show (freshContext st m).pbk = m.pbk by simp)).trans ((printerOf_makePrinter st st u).trans ?_)
    rw [if_pos rfl, line]
    simp only [role, true_and]
  · have run : restartStation st u = u := if_neg (by rw [line]; exact role)
    rw [run] at context printer
    refine ⟨iff_of_false ?_ role, fun h => absurd h role, ?_⟩
    · rw [context, noContext, blank]
      nofun
    · rw [printer, noPrinter, bare, if_neg fun h => role h.1]

end Sys2Proof.Machine
end

section
/-! SUPPORT. The warm start as a whole (R200). -/

namespace Sys2Proof.Machine
open Sys2Proof

variable {s t u v w : State} {st : Station}

/-! ## The owners' steps in order -/

/-- A warm start once the advices are as they go on. -/
def advised (s : State) : State := restartAdvices (returnReserved (abandoned s))

/-- A warm start once the positions are checked. -/
def checked (s : State) : State := restartPositions (advised s)

/-- A warm start once DAY has acted. -/
def resumed (s : State) : State := restartDay (checked s)

theorem warmStart_eq (s : State) : warmStart s = forStations restartStation (forStations startWatch (resumed s)) := rfl

theorem warmStart_after (s : State) : keeps [.scm, .pbk, .slc] (resumed s) (warmStart s) := by
  rw [warmStart_eq]
  simp [keeps]

theorem restartDraft_congr (h : t.scm.signOn = s.scm.signOn) (r : Reservation) : restartDraft t r = restartDraft s r := by
  rw [restartDraft, restartDraft, tellerAt_congr _ h]

/-- The reports of the reservations, after the abandonment. -/
theorem advised_run (s : State) : reportRun ((reservationsIn s.sda.queue).map (restartDraft s))
    (returnAllUnsent (returnReserved (abandoned s))) (advised s) := by
  obtain ⟨back, queue, reversed⟩ := (abandoned_run s).queue
  obtain ⟨-, run⟩ := restartAdvices_eq (w := returnReserved (abandoned s)) queue reversed
  have signOn : (returnAllUnsent (returnReserved (abandoned s))).scm.signOn = s.scm.signOn := by simp [abandoned, volatileReset]
  have drafts : restartDraft (returnAllUnsent (returnReserved (abandoned s))) = restartDraft s :=
    funext (restartDraft_congr signOn)
  rw [advised, run, ← drafts]
  exact restartReservations_run _ _

theorem advised_queue (s : State) : ∃ kept reversals, (advised s).sda.queue = kept ++ reversals ∧
    List.Forall₂ afterRestart s.sda.queue kept ∧ List.Forall₂ (reverses .abandonedOnRestart) s.ttr.ott reversals := by
  obtain ⟨back, queue, reversed⟩ := (abandoned_run s).queue
  obtain ⟨queued, run⟩ := restartAdvices_eq (w := returnReserved (abandoned s)) queue reversed
  obtain ⟨kept, whole, each⟩ := restartReservations_queue s.sda.queue [] _ rfl queued
  exact ⟨kept, back, by rw [advised, run]; exact whole, each, reversed⟩

/-- A warm start that finds no transaction and no reservation queues no new advice. -/
theorem advised_idle (none : s.ttr.ott = []) (clear : s.sda.queue.all (fun q => !isReservation q) = true) :
    (advised s).sda = (returnAllUnsent (volatileReset s)).sda := by
  have same := (abandoned_run s).idle none
  have empty : reservationsIn s.sda.queue = [] := by
    rw [← List.length_eq_zero_iff, length_reservationsIn, List.countP_eq_zero]
    intro q hq
    simpa using List.all_eq_true.1 clear q hq
  obtain ⟨-, run⟩ := restartAdvices_eq (w := returnReserved (volatileReset s)) (cause := .abandonedOnRestart) (q := s.sda.queue)
    (List.append_nil _).symm .nil
  rw [advised, same, run, empty]
  rfl

theorem advised_raised (s : State) : raisedOnly journalFlags (volatileReset s) (advised s) :=
  raisedOnly_trans (raisedOnly_of_eq (abandoned_run s).raised rfl rfl) (advised_run s).raised

theorem advised_grew (s : State) : journalGrew (returnReserved (abandoned s)) (advised s) := restartAdvices_grew (journalGrew_refl _)

/-- The journal and the records of the tellers once every end and every advice has its entry. -/
theorem advised_written (reserved : s.jrn.reserved = reservedSlots s) (room : 2 * s.sda.queue.countP isReservation ≤ s.jrn.free)
    (sequence : s.jrn.nextSeq + s.ttr.ott.length + s.sda.queue.countP isReservation ≤ 4294967296) :
    (advised s).jrn = journalAfter s.jrn.reserved ⟨0, true⟩
        (s.ttr.ott.map abandonedDraft ++ (reservationsIn s.sda.queue).map (restartDraft s)) (volatileReset s) ∧
      (advised s).sda.tellerDays = s.sda.tellerDays.map fun r => { r with txCount := countedTxns s.ttr.ott r } := by
  have gone := abandoned_run s
  obtain ⟨jrn, days⟩ := gone.written (by omega)
  have returned := returnReserved_written reserved jrn
  have run := advised_run s
  let w := returnAllUnsent (returnReserved (abandoned s))
  have clock : w.mrs.clock = ⟨0, true⟩ := (congrArg Mrs.clock gone.raised.1 : _)
  have slots : ((s.ttr.ott.map abandonedDraft).map draftSlots).sum ≤ 4 * s.ttr.ott.length := txnDrafts_slots .abandoned _
  have held : s.jrn.reserved = 4 * s.ttr.ott.length + 2 * s.ttr.late.length := reserved
  have count := length_reservationsIn s.sda.queue
  have next : w.jrn.nextSeq = s.jrn.nextSeq + s.ttr.ott.length := by
    have same : w.jrn = _ := returned
    rw [same]
    simp [journalAfter, volatileReset]
  have date : w.day.date = (volatileReset s).day.date := by simp [w, abandoned]
  have begun : w.jrn = journalAfter s.jrn.reserved w.mrs.clock (s.ttr.ott.map abandonedDraft) (volatileReset s) := by
    rw [clock]
    exact returned
  have free : (volatileReset s).jrn.free = s.jrn.free := rfl
  have all := run.written begun date (by rw [List.length_map, count, free]; omega) (by rw [next, List.length_map, count]; omega)
  rw [clock] at all
  refine ⟨all, ?_⟩
  have told : (advised s).sda.tellerDays = w.sda.tellerDays := (congrArg Sda.tellerDays run.records :)
  exact told.trans days

/-! ## The day -/

theorem resumed_day (s : State) : dayRestarted (checked s) (resumed s) := by
  refine dayRestarted_restartDay ?_
  simp [checked, advised, abandoned, volatileReset]

theorem checked_day (s : State) : (checked s).day = { s.day with settlement := none } := by
  simp [checked, advised, abandoned, volatileReset]

theorem marked_congr (p : Option Station) (drawers : t.day.drawerMarks = s.day.drawerMarks) (reserve : t.day.reserveMark = s.day.reserveMark) :
    marked p t = marked p s := by
  cases p <;> simp [marked, drawers, reserve]

theorem warmStart_settles (s : State) : settleCondition (warmStart s) = settleCondition (checked s) :=
  settleCondition_congr (by simp [warmStart, checked, advised, abandoned]) (by simp [warmStart, checked, advised, abandoned])
    (by simp [warmStart, checked, advised, abandoned]) (by simp [warmStart, checked, advised, abandoned])
    fun p => marked_congr p (by simp [warmStart, checked, advised, abandoned]) (by simp [warmStart, checked, advised, abandoned])

theorem warmStart_day (s : State) : (warmStart s).day = { s.day with
    state := if s.day.state = .cutoff ∧ settleCondition (warmStart s) = true then .settling else s.day.state
    settlement := (warmStart s).day.settlement } := by
  have after := (keeps_stands (warmStart_after s)).2.2.2.2.2.2.1 (by decide)
  have day := (resumed_day s).day
  rw [after, warmStart_settles]
  rw [checked_day] at day
  exact day

/-! ## The journal -/

theorem warmStart_jrn (s : State) : (warmStart s).jrn = (resumed s).jrn := (keeps_stands (warmStart_after s)).2.2.2.2.2.1 (by decide)

theorem warmStart_grew (s : State) : ∃ new, (warmStart s).jrn = { s.jrn with
    entries := s.jrn.entries ++ new, used := (warmStart s).jrn.used, reserved := 0, free := (warmStart s).jrn.free,
    nextSeq := s.jrn.nextSeq + new.length, notStored := (warmStart s).jrn.notStored, trickle := none, pause := none,
    unmatchedAcks := 0 } := by
  have gone : journalGrew (volatileReset s) (abandoned s) := (abandoned_run s).grew
  have checks : journalGrew (returnReserved (abandoned s)) (checked s) := journalGrew_congr (advised_grew s) (by simp [checked])
  obtain ⟨fewer, later, grew⟩ := journalGrew_congr ((resumed_day s).grew checks) (warmStart_jrn s)
  obtain ⟨-, new, ended⟩ := gone
  have empty : (warmStart s).jrn.reserved = 0 := Nat.le_zero.1 fewer
  rw [empty] at grew
  refine ⟨new ++ later, grew.trans ?_⟩
  show ({ (abandoned s).jrn with
    entries := (abandoned s).jrn.entries ++ later, used := _, reserved := 0, free := _,
    nextSeq := (abandoned s).jrn.nextSeq + later.length, notStored := _ } : Jrn) = _
  rw [ended, List.length_append]
  simp [volatileReset, Nat.add_assoc]

theorem warmStart_written (reserved : s.jrn.reserved = reservedSlots s)
    (room : 2 * s.sda.queue.countP isReservation + 1 ≤ s.jrn.free) {ends : List Draft}
    (hd : ends = if s.day.state = .cutoff ∧ settleCondition (warmStart s) = true then [dayDraft .settling s.day.date] else [])
    (sequence : s.jrn.nextSeq +
      (s.ttr.ott.map abandonedDraft ++ (reservationsIn s.sda.queue).map (restartDraft s) ++ ends).length ≤ 4294967296) :
    (warmStart s).jrn = journalAfter s.jrn.reserved ⟨0, true⟩
      (s.ttr.ott.map abandonedDraft ++ (reservationsIn s.sda.queue).map (restartDraft s) ++ ends) (volatileReset s) := by
  let ds := s.ttr.ott.map abandonedDraft ++ (reservationsIn s.sda.queue).map (restartDraft s)
  have count := length_reservationsIn s.sda.queue
  simp only [List.length_append, List.length_map, count] at sequence
  obtain ⟨jrn, -⟩ := advised_written reserved (by omega) (by omega)
  have checks : (checked s).jrn = journalAfter s.jrn.reserved ⟨0, true⟩ ds (volatileReset s) :=
    Eq.trans (by simp [checked]) jrn
  have day := checked_day s
  rw [warmStart_settles] at hd
  rw [warmStart_jrn]
  by_cases settles : s.day.state = .cutoff ∧ settleCondition (checked s) = true
  · rw [if_pos settles] at hd
    subst hd
    have run := advised_run s
    have begun : ((s.ttr.ott.map abandonedDraft).map draftSlots).sum ≤ 4 * s.ttr.ott.length := txnDrafts_slots .abandoned _
    have reports := run.slots
    rw [List.length_map, count] at reports
    have held : s.jrn.reserved = 4 * s.ttr.ott.length + 2 * s.ttr.late.length := reserved
    have sum : (ds.map draftSlots).sum =
        ((s.ttr.ott.map abandonedDraft).map draftSlots).sum + (((reservationsIn s.sda.queue).map (restartDraft s)).map draftSlots).sum := by
      simp only [ds, List.map_append, List.sum_append]
    have free : (checked s).jrn.free = s.jrn.free + s.jrn.reserved - (ds.map draftSlots).sum := congrArg Jrn.free checks
    have next : (checked s).jrn.nextSeq = s.jrn.nextSeq + ds.length := congrArg Jrn.nextSeq checks
    have length : ds.length = s.ttr.ott.length + s.sda.queue.countP isReservation := by
      simp only [ds, List.length_append, List.length_map, count]
    rw [List.length_singleton] at sequence
    have date : (checked s).day.date = s.day.date := by rw [day]
    have can : canWrite 0 (dayDraft .settling (checked s).day.date) (checked s) := by
      refine ⟨?_, ?_⟩
      · rw [dayDraft_slots, free]; omega
      · rw [next, length]
        show _ ≤ 4294967295
        omega
    have entered := (resumed_day s).written (by rw [day]; exact settles) can
    have clock : (checked s).mrs.clock = ⟨0, true⟩ := by
      have same : (advised s).mrs.clock = _ := (congrArg Mrs.clock (advised_raised s).1 :)
      exact Eq.trans (by simp [checked]) same
    have fits : (ds.map draftSlots).sum ≤ s.jrn.free + s.jrn.reserved := by rw [sum]; omega
    rw [date] at entered
    exact journalAfter_snoc entered checks fits date clock
  · rw [if_neg settles] at hd
    subst hd
    rw [List.append_nil]
    exact ((resumed_day s).stands (by rw [day]; exact settles)).trans checks

/-! ## The positions -/

theorem warmStart_positions (s : State) (p : Option Station) : positionOf p (warmStart s) = { positionOf p s with
    counts := (positionOf p s).counts.map fun c => { c with reservedOut := 0, pendingIn := 0 }
    state := if (positionOf p s).total = countsValue (facesOf s) (committedCounts (positionOf p s)) then (positionOf p s).state
      else .suspect } := by
  have after : positionOf p (warmStart s) = positionOf p (checked s) := positionOf_money p (by simp [warmStart_eq, resumed])
  have before : positionOf p (advised s) = positionOf p (abandoned s) := positionOf_money p (by simp [advised])
  have faces : facesOf (advised s) = facesOf s := by simp [facesOf, advised, abandoned, volatileReset]
  have cleared := (abandoned_run s).positions p
  rw [after, checked, positionOf_restartPositions, before, faces]
  exact checkedPosition_cleared cleared

/-! ## The flags and the notices -/

theorem raisedOnly_settings {fs : List EventFlag} (h : raisedOnly fs s t) : t.mrs.settings = s.mrs.settings :=
  (congrArg Mrs.settings h.1 :)

theorem warmStart_raised (s : State) : raisedOnly (.suspectPosition :: journalFlags) (volatileReset s) (warmStart s) := by
  have journal : ∀ f ∈ journalFlags, f ∈ EventFlag.suspectPosition :: journalFlags := fun f hf => List.mem_cons_of_mem _ hf
  have first := raisedOnly_mono (advised_raised s) journal
  have second := raisedOnly_mono (restartPositions_raised (advised s)) (gs := .suspectPosition :: journalFlags) (by simp)
  have third := raisedOnly_mono (resumed_day s).raised journal
  exact raisedOnly_of_eq (raisedOnly_trans first (raisedOnly_trans second third)) (by simp [warmStart_eq]) (by simp [warmStart_eq])

theorem raisedOnly_blc {fs : List EventFlag} (h : raisedOnly fs s t) : t.blc = { s.blc with events := t.blc.events } := by
  obtain ⟨-, -, -, blc, -⟩ := h
  exact congrArg (fun b : Blc => { b with events := t.blc.events }) blc

theorem raisedOnly_mrs {fs : List EventFlag} (h : raisedOnly fs s t) : t.mrs = { s.mrs with flags := t.mrs.flags } := by
  obtain ⟨mrs, -⟩ := h
  exact congrArg (fun m : Mrs => { m with flags := t.mrs.flags }) mrs

/-- Of the flags that a warm start can raise only JOURNAL_FULL is of the notify set. -/
theorem journalFull_of_notified {f : EventFlag} (among : f ∈ EventFlag.suspectPosition :: journalFlags)
    (heard : notifies f = true) : f = .journalFull := by
  simp only [journalFlags, List.mem_cons, List.not_mem_nil, or_false] at among
  rcases among with rfl | rfl | rfl | rfl
  · cases heard
  · cases heard
  · rfl
  · cases heard

theorem flagSet_volatileReset (f : EventFlag) (s : State) : flagSet f (volatileReset s).mrs.flags = false := by
  cases f with
  | dropDown st => exact Eight.get_fill ..
  | _ => rfl

theorem warmStart_suspect (s : State) : flagSet .suspectPosition (warmStart s).mrs.flags = true ↔
    ∃ p, (positionOf p s).total ≠ countsValue (facesOf s) (committedCounts (positionOf p s)) := by
  have after : (warmStart s).mrs.flags = (resumed s).mrs.flags := by simp [warmStart_eq]
  have last : flagSet .suspectPosition (resumed s).mrs.flags = flagSet .suspectPosition (checked s).mrs.flags :=
    (resumed_day s).raised.2.2.1 _ (by decide)
  have clear : flagSet .suspectPosition (advised s).mrs.flags = false :=
    ((advised_raised s).2.2.1 _ (by decide)).trans (flagSet_volatileReset _ s)
  have faces : facesOf (advised s) = facesOf s := by simp [facesOf, advised, abandoned, volatileReset]
  rw [after, last, checked, restartPositions_suspect, clear, faces]
  simp only [Bool.false_eq_true, false_or]
  refine exists_congr fun p => ?_
  have before : positionOf p (advised s) = positionOf p (abandoned s) := positionOf_money p (by simp [advised])
  have cleared := (abandoned_run s).positions p
  have total : (positionOf p (abandoned s)).total = (positionOf p s).total := (congrArg Position.total cleared :)
  rw [before, total, ← committedCounts_clearReservations, cleared, committedCounts_clearReservations]

/-! ## The lines -/

theorem warmStart_lines (s : State) (st : Station) : lineOf st (warmStart s) = watchedLine s (restartedLine (lineOf st s)) := by
  have after : lineOf st (warmStart s) = lineOf st (forStations startWatch (resumed s)) := 
    lineOf_congr st (forStations_keeps State.slc restartStation (fun a u => by simp) _)
  have before : lineOf st (resumed s) = lineOf st (volatileReset s) :=
    lineOf_congr st (by rw [resumed, checked, advised, abandoned]; simp)
  have own : lineOf st (volatileReset s) = restartedLine (lineOf st s) := Eight.get_mapWith ..
  have time : (resumed s).uptime = s.uptime := by simp [resumed, checked, advised, abandoned, volatileReset]
  have settings : (resumed s).mrs.settings = s.mrs.settings := by
    have same : (warmStart s).mrs.settings = s.mrs.settings := (raisedOnly_settings (warmStart_raised s) :)
    exact Eq.trans (by simp [warmStart_eq]) same
  rw [after, lineOf_startWatches, before, own]
  simp only [watchedLine, time, settings]

/-! ## The statement -/

/-- Settles O18: each unit's part of a warm start, in the order of the units. -/
theorem warmStartKeepsTheRetained : Obligations.WarmStartKeepsTheRetained := by
  intro s marker
  have gone := abandoned_run s
  have resumes := resumed_day s
  have run := advised_run s
  have raised := warmStart_raised s
  have sda : (warmStart s).sda = (advised s).sda := by
    have after : (warmStart s).sda = (resumed s).sda := (keeps_stands (warmStart_after s)).2.2.2.2.1 (by decide)
    have day : (resumed s).sda = (checked s).sda := (keeps_stands resumes.reach).2.2.2.2.1 (by decide)
    exact after.trans (day.trans (by simp [checked]))
  have records : (advised s).sda = { (returnAllUnsent (returnReserved (abandoned s))).sda with
    queue := (advised s).sda.queue, nextAdvice := (advised s).sda.nextAdvice } := run.records
  have jrnDay : (warmStart s).day = (resumed s).day := (keeps_stands (warmStart_after s)).2.2.2.2.2.2.1 (by decide)
  have signOn : (warmStart s).scm.signOn = s.scm.signOn := by simp [warmStart_eq, resumed, checked, advised, abandoned, volatileReset]
  refine ⟨warmStart s, if_pos marker, ?_, ?_, ?_, ?_, ?_, ?_, ⟨?_, ?_, fun none clear => ?_⟩, warmStart_grew s, fun drafts hd reserved room sequence => ?_,
    warmStart_positions s, ⟨warmStart_day s, ?_, fun c hc => ?_⟩, ⟨signOn, ?_, fun st => ?_⟩, ⟨?_, fun st => ?_⟩, ⟨?_, fun n hn => ?_⟩, ?_,
    warmStart_suspect s, fun f hf => ?_⟩
  · simp [warmStart_eq, resumed, checked, advised, abandoned, volatileReset]
  · simp [warmStart_eq, resumed, checked, advised, abandoned, volatileReset]
  · simp [warmStart_eq, resumed, checked, advised, abandoned, volatileReset]
  · exact Eq.trans (by simp [warmStart_eq, resumed, checked, advised]) gone.ttr
  · simp [warmStart_eq, resumed, checked, advised, abandoned, volatileReset]
  · rw [sda]
    exact advised_queue s
  · rw [sda, records]
    exact gone.map
  · rw [sda, records]
    exact gone.acks
  · rw [sda, advised_idle none clear]
    exact ⟨rfl, rfl⟩
  · rw [filterMap_reservations (s := s) (fun r => congrArg (fun o => some (passbookDraft _ _ r .restart o)) (restartOutcome_eq r).symm)
      (fun _ => rfl)] at hd
    have count := length_reservationsIn s.sda.queue
    rw [hd] at sequence ⊢
    refine ⟨warmStart_written reserved room rfl sequence, ?_⟩
    simp only [List.length_append, List.length_map, count] at sequence
    rw [sda]
    exact (advised_written reserved (by omega) (by omega)).2
  · rw [jrnDay]
    exact resumes.closed
  · rw [jrnDay] at hc
    obtain ⟨current, outstanding, attempts, pause, phase, parts⟩ := resumes.context c hc
    have jrn := warmStart_jrn s
    have accepted : (checked s).jrn.lastAccepted = s.jrn.lastAccepted := by simp [checked, advised, abandoned, volatileReset]
    have same : totalsParts (warmStart s) = totalsParts (resumed s) := by
      refine totalsParts_congr (by simp [warmStart_eq]) (congrArg Day.date jrnDay)
        (fun p => marked_congr p (congrArg Day.drawerMarks jrnDay) (congrArg Day.reserveMark jrnDay))
        (congrArg Jrn.lastAccepted jrn) (by simp [warmStart_eq])
    rw [checked_day, accepted, ← jrn] at phase
    rw [← same] at parts
    exact ⟨current, outstanding, attempts, pause, phase, parts⟩
  · simp [warmStart_eq, resumed, checked, advised, abandoned, volatileReset]
  · let w := forStations startWatch (resumed s)
    have line : (lineOf st w).setup = (lineOf st s).setup := by
      have same : lineOf st (warmStart s) = lineOf st w := lineOf_congr st (forStations_keeps State.slc restartStation (fun a u => by simp) _)
      rw [← same, warmStart_lines]
      unfold watchedLine
      split <;> rfl
    have blank : ∀ a, contextOf a w = none := fun a => by
      have none : contextOf a (checked s) = none := by
        have same : contextOf a (checked s) = contextOf a (volatileReset s) := contextOf_congr a (by simp [checked, advised, abandoned])
        exact same.trans (Eight.get_fill ..)
      exact (contextOf_congr a (by simp [w])).trans (resumes.blank a none)
    have bare : ∀ a, printerOf a w = none := fun a => by
      have same : printerOf a w = printerOf a (volatileReset s) :=
        printerOf_congr a (by simp [w, resumed, checked, advised, abandoned])
      exact same.trans (Eight.get_fill ..)
    obtain ⟨screen, fresh, printer⟩ := restartStations_screens blank bare st
    rw [line] at screen fresh printer
    refine ⟨screen, fun role => ?_, printer⟩
    exact freshScreen_congr (fresh role) rfl (fun _ => rfl)
      (tellerAt_congr st (by simp [w, resumed, checked, advised, abandoned, volatileReset])).symm
      (by simp [w, resumed, checked, advised, abandoned, volatileReset])
      (by simp [w, resumed, checked, advised, abandoned, volatileReset])
  · simp [warmStart_eq, resumed, checked, advised, abandoned, volatileReset]
  · rw [warmStart_lines]
    have opened : drawerReadsOpen (restartedLine (lineOf st s)) = true ↔
        lineWith .drawerSense (lineOf st s).setup ≠ none ∧ (lineOf st s).drawerOpen = true := by
      show ((lineWith .drawerSense (lineOf st s).setup).isSome && (lineOf st s).drawerOpen) = true ↔ _
      rw [Bool.and_eq_true, Option.isSome_iff_ne_none]
    unfold watchedLine
    by_cases h : lineWith .drawerSense (lineOf st s).setup ≠ none ∧ (lineOf st s).drawerOpen = true
    · rw [if_pos (opened.2 h), if_pos h]
      rfl
    · rw [if_neg (fun k => h (opened.1 k)), if_neg h]
      rfl
  · exact raisedOnly_blc raised
  · obtain ⟨-, -, -, -, new, events, among⟩ := raised
    have flag : n.flag ∈ EventFlag.suspectPosition :: journalFlags := among n (by
      have all : (warmStart s).blc.events = [] ++ new := events
      rw [all] at hn
      exact hn)
    exact journalFull_of_notified flag (onlyNotified_warmStart s n hn)
  · exact raisedOnly_mrs raised
  · exact (raised.2.2.1 f hf).trans (flagSet_volatileReset f s)

end Sys2Proof.Machine
end

section
/-! SUPPORT. The commit check of the records of the tables: what is read of each as it was loaded, its ranges, and its rules against
the records before it (R150 to R154, R159, R201). -/

namespace Sys2Proof.Machine
open Sys2Proof

variable {α β ε : Type}

/-! ## Codes (R201) -/

/-- A function from codes that lists its values from 1 on. -/
theorem ofCode_iff {values : List α} {f : Nat → Option α} (zero : f 0 = none) (succ : ∀ k, f (k + 1) = values[k]?) (n : Nat) (x : α) :
    f n = some x ↔ coded values n x := by
  cases n with
  | zero => rw [zero]; exact iff_of_false nofun fun h => absurd h.1 (by omega)
  | succ k => rw [succ]; exact ⟨fun h => ⟨by omega, h⟩, fun h => h.2⟩

theorem routingOfCode_iff (n : Nat) (x : Routing) : routingOfCode n = some x ↔ coded [.online, .onlineStandin, .localCode] n x :=
  ofCode_iff rfl (fun k => by rcases k with _ | _ | _ | k <;> rfl) n x

theorem localActionOfCode_iff (n : Nat) (x : LocalAction) : localActionOfCode n = some x ↔
    coded [.signOn, .signOff, .toReserve, .fromReserve, .balance, .positionEnquiry] n x :=
  ofCode_iff rfl (fun k => by rcases k with _ | _ | _ | _ | _ | _ | k <;> rfl) n x

theorem dayClassOfCode_iff (n : Nat) (x : DayClass) : dayClassOfCode n = some x ↔ coded [.customer, .admin] n x :=
  ofCode_iff rfl (fun k => by rcases k with _ | _ | k <;> rfl) n x

theorem authorityOfCode_iff (n : Nat) (x : Authority) : authorityOfCode n = some x ↔ coded [.teller, .supervisor] n x :=
  ofCode_iff rfl (fun k => by rcases k with _ | _ | k <;> rfl) n x

theorem cashDirectionOfCode_iff (n : Nat) (x : CashDirection) : cashDirectionOfCode n = some x ↔
    coded [.noCash, .cashIn, .cashOut] n x :=
  ofCode_iff rfl (fun k => by rcases k with _ | _ | _ | k <;> rfl) n x

theorem passbookUseOfCode_iff (n : Nat) (x : PassbookUse) : passbookUseOfCode n = some x ↔
    coded [.notUsed, .optional, .required] n x :=
  ofCode_iff rfl (fun k => by rcases k with _ | _ | _ | k <;> rfl) n x

theorem fieldKindOfCode_iff (n : Nat) (x : FieldKind) : fieldKindOfCode n = some x ↔
    coded [.text, .numeric, .amount, .protectedField] n x :=
  ofCode_iff rfl (fun k => by rcases k with _ | _ | _ | _ | k <;> rfl) n x

theorem fieldSourceOfCode_iff (n : Nat) (x : FieldSource) : fieldSourceOfCode n = some x ↔
    coded [.replyTag, .breakdown, .positionTotal, .passbookStatus, .businessDate, .teller, .reference, .reason] n x :=
  ofCode_iff rfl (fun k => by rcases k with _ | _ | _ | _ | _ | _ | _ | _ | k <;> rfl) n x

theorem formatKindOfCode_iff (n : Nat) (x : FormatKind) : formatKindOfCode n = some x ↔ coded [.input, .output] n x :=
  ofCode_iff rfl (fun k => by rcases k with _ | _ | k <;> rfl) n x

theorem moneyKindOfCode_iff (n : Nat) (x : MoneyKind) : moneyKindOfCode n = some x ↔ coded [.note, .coin] n x :=
  ofCode_iff rfl (fun k => by rcases k with _ | _ | k <;> rfl) n x

theorem readAction_iff (n : Nat) (x : Option LocalAction) : readAction n = some x ↔ n = 0 ∧ x = none ∨
    ∃ a, coded [.signOn, .signOff, .toReserve, .fromReserve, .balance, .positionEnquiry] n a ∧ x = some a := by
  unfold readAction
  by_cases zero : n = 0
  · rw [if_pos zero, Option.some.injEq]
    constructor
    · exact fun h => .inl ⟨zero, h.symm⟩
    · rintro (⟨-, rfl⟩ | ⟨a, ⟨low, -⟩, -⟩)
      · rfl
      · omega
  · rw [if_neg zero, Option.map_eq_some_iff]
    simp only [localActionOfCode_iff, zero, false_and, false_or, eq_comm (b := x)]

/-! ## Records checked in order (R159) -/

/-- Each record of a list meets a condition on those before it. -/
def chained (A : List β → β → Prop) : List β → List β → Prop
  | _, [] => True
  | done, x :: rest => A done x ∧ chained A (done ++ [x]) rest

/-- A run of a check over records accepts them where each is read as it was loaded, meets its own rules, and meets those on the
records before it. -/
theorem run_ok {run : List β → List α → Except ε (List β)} {L : α → β → Prop} {R : β → Prop} {A : List β → β → Prop}
    (none : ∀ done, run done [] = .ok done)
    (one : ∀ done r rest xs, run done (r :: rest) = .ok xs ↔ ∃ x, (L r x ∧ R x ∧ A done x) ∧ run (done ++ [x]) rest = .ok xs) :
    ∀ (rs : List α) (done xs : List β), run done rs = .ok xs ↔
      ∃ new, xs = done ++ new ∧ List.Forall₂ L rs new ∧ (∀ x ∈ new, R x) ∧ chained A done new
  | [], done, xs => by
    rw [none]
    constructor
    · intro h
      cases h
      exact ⟨[], (List.append_nil _).symm, .nil, nofun, trivial⟩
    · rintro ⟨new, rfl, h, -⟩
      cases h
      rw [List.append_nil]
  | r :: rest, done, xs => by
    rw [one]
    constructor
    · rintro ⟨x, ⟨read, own, before⟩, later⟩
      obtain ⟨new, rfl, all, rules, chain⟩ := (run_ok none one rest _ _).1 later
      refine ⟨x :: new, by simp, .cons read all, fun y hy => ?_, before, chain⟩
      rcases List.mem_cons.1 hy with rfl | hy
      · exact own
      · exact rules y hy
    · rintro ⟨new, rfl, all, rules, chain⟩
      cases all with
      | @cons _ x _ new read all =>
        obtain ⟨before, chain⟩ := chain
        refine ⟨x, ⟨read, rules x List.mem_cons_self, before⟩, (run_ok none one rest _ _).2 ⟨new, by simp, all, fun y hy => ?_, chain⟩⟩
        exact rules y (List.mem_cons_of_mem _ hy)

theorem checkRecords_ok {check : List β → α → Except CheckFailure β} {L : α → β → Prop} {R : β → Prop} {A : List β → β → Prop}
    (one : ∀ done r x, check done r = .ok x ↔ L r x ∧ R x ∧ A done x) (rs : List α) (xs : List β) :
    checkRecords check [] rs = .ok xs ↔ List.Forall₂ L rs xs ∧ (∀ x ∈ xs, R x) ∧ chained A [] xs := by
  refine (run_ok (run := checkRecords check) (L := L) (R := R) (A := A) (fun _ => rfl) (fun done r rest xs => ?_) rs [] xs).trans ?_
  · simp only [← one]
    cases h : check done r with
    | error e => simp [checkRecords, h]
    | ok x => simp [checkRecords, h]
  · simp

/-- No key of a record repeats one before it. -/
def keyFree {κ : Type} (key : β → κ) (done : List β) (x : β) : Prop := ∀ d ∈ done, key d ≠ key x

theorem chained_keyFree {κ : Type} (key : β → κ) (xs : List β) : chained (keyFree key) [] xs ↔ (xs.map key).Nodup := by
  have all : ∀ (xs done : List β), chained (keyFree key) done xs ↔ (xs.map key).Nodup ∧ ∀ d ∈ done, ∀ x ∈ xs, key d ≠ key x := by
    intro xs
    induction xs with
    | nil => exact fun done => by simp [chained]
    | cons x rest ih =>
      intro done
      simp only [chained, ih, keyFree, List.map_cons, List.nodup_cons, List.mem_map, List.mem_append, List.mem_singleton,
        List.mem_cons, List.not_mem_nil, or_false]
      constructor
      · rintro ⟨own, fresh, apart⟩
        refine ⟨⟨?_, fresh⟩, ?_⟩
        · rintro ⟨y, hy, same⟩
          exact apart x (.inr rfl) y hy same.symm
        · rintro d hd y (rfl | hy)
          · exact own d hd
          · exact apart d (.inl hd) y hy
      · rintro ⟨⟨first, fresh⟩, apart⟩
        refine ⟨fun d hd => apart d hd x (.inl rfl), fresh, ?_⟩
        rintro d (hd | rfl) y hy
        · exact apart d hd y (.inr hy)
        · exact fun same => first ⟨y, hy, same.symm⟩
  simpa using all xs []

/-- A key is below that of the record before it. -/
def keyFalls (key : β → Nat) (done : List β) (x : β) : Prop := ∀ b, done.getLast? = some b → key x < key b

theorem chained_keyFalls (key : β → Nat) (xs : List β) : chained (keyFalls key) [] xs ↔ (xs.map key).Pairwise (· > ·) := by
  have all : ∀ (xs done : List β), chained (keyFalls key) done xs ↔
      (xs.map key).Pairwise (· > ·) ∧ ∀ b, done.getLast? = some b → ∀ x ∈ xs, key x < key b := by
    intro xs
    induction xs with
    | nil => exact fun done => by simp [chained]
    | cons x rest ih =>
      intro done
      have last : (done ++ [x]).getLast? = some x := by simp
      simp only [chained, ih, keyFalls, List.map_cons, List.pairwise_cons, List.mem_map, List.mem_cons, last, Option.some.injEq]
      constructor
      · rintro ⟨own, falls, below⟩
        refine ⟨⟨?_, falls⟩, ?_⟩
        · rintro _ ⟨y, hy, rfl⟩
          exact below x rfl y hy
        · rintro b hb y (rfl | hy)
          · exact own b hb
          · exact lt_trans (below x rfl y hy) (own b hb)
      · rintro ⟨⟨first, falls⟩, below⟩
        refine ⟨fun b hb => below b hb x (.inl rfl), falls, ?_⟩
        rintro _ rfl y hy
        exact first _ ⟨y, hy, rfl⟩
  simpa using all xs []

theorem any_key_iff {κ : Type} [DecidableEq κ] (key : β → κ) (done : List β) (x : β) :
    (done.any fun b => decide (key b = key x)) = false ↔ keyFree key done x := by
  simp [keyFree]

theorem within_iff (lo hi n : Nat) : within lo hi n = true ↔ lo ≤ n ∧ n ≤ hi := by simp [within]

/-! ## The TCT (R150) -/

/-- The numbers of a TCT record lie in their ranges. -/
def tctRanged (r : TctRec) : Prop := (1 ≤ r.code ∧ r.code ≤ 999) ∧ r.name.length ≤ 12 ∧ (1 ≤ r.requestFormat ∧ r.requestFormat ≤ 64) ∧
  (1 ≤ r.approveFormat ∧ r.approveFormat ≤ 64) ∧ (1 ≤ r.declineFormat ∧ r.declineFormat ≤ 64) ∧
  (5 ≤ r.replyTimeout ∧ r.replyTimeout ≤ 120) ∧ r.offlineCeiling ≤ 99999999999 ∧ r.accountTag ≤ 63 ∧ r.amountTag ≤ 63

/-- The rules of a TCT record on its own. -/
def tctRecordRules (r : TctRec) : Prop :=
  (r.routing = .localCode → r.localAction ≠ none ∧ r.cashDirection = .noCash ∧ r.passbookUse = .notUsed) ∧
    (r.routing ≠ .localCode → r.localAction = none) ∧ (r.routing = .onlineStandin → r.passbookUse ≠ .required)

theorem tctInRange_iff {r : RawTct} {x : TctRec} (h : tctLoaded r x) : tctInRange r = true ↔ tctRanged x := by
  obtain ⟨code, name, -, -, -, -, request, approve, decline, -, timeout, ceiling, -, account, amount⟩ := h
  unfold tctRanged
  rw [code, name, request, approve, decline, timeout, ceiling, account, amount]
  have top : decide (r.offlineCeiling ≤ Config.topAmount) = true ↔ r.offlineCeiling ≤ 99999999999 := decide_eq_true_iff
  simp only [tctInRange, Bool.and_eq_true, within_iff, top, decide_eq_true_iff, and_assoc]

theorem typedTct_iff (r : RawTct) (x : TctRec) : typedTct r = some x ↔ tctLoaded r x ∧ tctRanged x := by
  constructor
  · intro h
    unfold typedTct at h
    split at h
    · next routing action cls auth dir use h1 h2 h3 h4 h5 h6 =>
      split at h
      · next ranged =>
        obtain rfl := Option.some.inj h
        refine (fun read => ⟨read, (tctInRange_iff read).1 ranged⟩) ?_
        exact ⟨rfl, rfl, (routingOfCode_iff _ _).1 h1, (readAction_iff _ _).1 h2, (dayClassOfCode_iff _ _).1 h3,
          (authorityOfCode_iff _ _).1 h4, rfl, rfl, rfl, (cashDirectionOfCode_iff _ _).1 h5, rfl, rfl,
          (passbookUseOfCode_iff _ _).1 h6, rfl, rfl⟩
      · cases h
    · cases h
  · rintro ⟨read, ranged⟩
    have inRange := (tctInRange_iff read).2 ranged
    obtain ⟨code, name, h1, h2, h3, h4, request, approve, decline, h5, timeout, ceiling, h6, account, amount⟩ := read
    simp only [typedTct, (routingOfCode_iff _ _).2 h1, (readAction_iff _ _).2 h2, (dayClassOfCode_iff _ _).2 h3,
      (authorityOfCode_iff _ _).2 h4, (cashDirectionOfCode_iff _ _).2 h5, (passbookUseOfCode_iff _ _).2 h6, inRange, if_true,
      ← code, ← name, ← request, ← approve, ← decline, ← timeout, ← ceiling, ← account, ← amount]

theorem localFieldsOk_iff (r : TctRec) : localFieldsOk r = true ↔
    (r.routing = .localCode → r.localAction ≠ none ∧ r.cashDirection = .noCash ∧ r.passbookUse = .notUsed) ∧
      (r.routing ≠ .localCode → r.localAction = none) := by
  unfold localFieldsOk
  cases r.routing <;> simp [Option.isSome_iff_ne_none, and_assoc]

theorem standinPassbookOk_iff (r : TctRec) : standinPassbookOk r = true ↔ (r.routing = .onlineStandin → r.passbookUse ≠ .required) := by
  simp [standinPassbookOk, imp_iff_not_or]

theorem checkTct_iff (before : List TctRec) (r : RawTct) (x : TctRec) : checkTct before r = .ok x ↔
    tctLoaded r x ∧ (tctRanged x ∧ tctRecordRules x) ∧ keyFree TctRec.code before x := by
  unfold checkTct
  cases h : typedTct r with
  | none =>
    refine iff_of_false nofun ?_
    rintro ⟨read, ⟨ranged, -⟩, -⟩
    rw [(typedTct_iff r x).2 ⟨read, ranged⟩] at h
    cases h
  | some t =>
    obtain ⟨read, ranged⟩ := (typedTct_iff r t).1 h
    have once : (∀ {y}, tctLoaded r y ∧ (tctRanged y ∧ tctRecordRules y) ∧ keyFree TctRec.code before y → y = t) := by
      rintro y ⟨hy, ⟨hr, -⟩, -⟩
      have both := (typedTct_iff r y).2 ⟨hy, hr⟩
      rw [h] at both
      exact (Option.some.inj both).symm
    have rules : (localFieldsOk t = true ∧ standinPassbookOk t = true) ↔ tctRecordRules t := by
      rw [localFieldsOk_iff, standinPassbookOk_iff, and_assoc]
      rfl
    dsimp only
    constructor
    · intro ok
      split at ok
      · cases ok
      · next hl =>
        split at ok
        · cases ok
        · next hs =>
          split at ok
          · cases ok
          · next hd =>
            cases ok
            exact ⟨read, ⟨ranged, rules.1 ⟨by simpa using hl, by simpa using hs⟩⟩, (any_key_iff _ _ _).1 (by simpa using hd)⟩
    · intro all
      obtain rfl := once all
      obtain ⟨-, ⟨-, own⟩, free⟩ := all
      obtain ⟨hl, hs⟩ := rules.2 own
      have hd := (any_key_iff _ _ _).2 free
      rw [hl, hs, hd]
      rfl

theorem checkTct_records (rs : List RawTct) (xs : List TctRec) :
    checkRecords checkTct [] rs = .ok xs ↔ List.Forall₂ tctLoaded rs xs ∧ tctRules xs := by
  rw [checkRecords_ok checkTct_iff, chained_keyFree]
  refine and_congr_right fun _ => ?_
  rw [and_comm]
  refine and_congr_right fun _ => forall₂_congr fun r _ => ?_
  unfold tctRanged tctRecordRules
  simp only [and_assoc]

end Sys2Proof.Machine
end

section
/-! SUPPORT. The commit check of the SFT, the DNT, the TLT and the PLT, record by record (R151 to R154). -/

namespace Sys2Proof.Machine
open Sys2Proof

/-! ## The SFT (R151) -/

/-- A field of a format lies in its ranges. -/
def fieldRanged (f : SftField) : Prop := (1 ≤ f.tag ∧ f.tag ≤ 63) ∧ (1 ≤ f.row ∧ f.row ≤ 23) ∧ (1 ≤ f.column ∧ f.column ≤ 80) ∧
  (1 ≤ f.length ∧ f.length ≤ 40) ∧ f.column + f.length ≤ 81 ∧ f.cls ≤ 15

theorem typedField_iff (r : RawField) (x : SftField) : typedField r = some x ↔ fieldLoaded r x ∧ fieldRanged x := by
  have ranged : (within 1 63 r.tag && within 1 23 r.row && within 1 80 r.column && within 1 40 r.length &&
      decide (r.column + r.length - 1 ≤ 80) && decide (r.cls ≤ 15)) = true ↔ (1 ≤ r.tag ∧ r.tag ≤ 63) ∧ (1 ≤ r.row ∧ r.row ≤ 23) ∧
        (1 ≤ r.column ∧ r.column ≤ 80) ∧ (1 ≤ r.length ∧ r.length ≤ 40) ∧ r.column + r.length ≤ 81 ∧ r.cls ≤ 15 := by
    simp only [Bool.and_eq_true, within_iff, decide_eq_true_iff]
    omega
  unfold typedField fieldRanged fieldLoaded
  constructor
  · intro h
    split at h
    · next kind source h1 h2 =>
      split at h
      · next ok =>
        obtain rfl := Option.some.inj h
        exact ⟨⟨rfl, rfl, rfl, rfl, rfl, (fieldKindOfCode_iff _ _).1 h1, rfl, (fieldSourceOfCode_iff _ _).1 h2⟩, ranged.1 ok⟩
      · cases h
    · cases h
  · rintro ⟨⟨tag, row, column, length, cls, h1, required, h2⟩, ok⟩
    rw [tag, row, column, length, cls] at ok
    simp only [(fieldKindOfCode_iff _ _).2 h1, (fieldSourceOfCode_iff _ _).2 h2, ranged.2 ok, if_true]
    rw [← tag, ← row, ← column, ← length, ← cls, ← required]

theorem checkSftFields_ok (rs : List RawField) (xs : List SftField) : checkSftFields [] rs = .ok xs ↔
    List.Forall₂ fieldLoaded rs xs ∧ (∀ x ∈ xs, fieldRanged x) ∧ (xs.map SftField.tag).Nodup := by
  rw [← chained_keyFree]
  refine (run_ok (run := checkSftFields) (L := fieldLoaded) (R := fieldRanged) (A := keyFree SftField.tag) (fun _ => rfl)
    (fun done r rest ys => ?_) rs [] xs).trans (by simp)
  cases h : typedField r with
  | none =>
    refine iff_of_false (by simp [checkSftFields, h]) ?_
    rintro ⟨x, ⟨read, own, -⟩, -⟩
    rw [(typedField_iff r x).2 ⟨read, own⟩] at h
    cases h
  | some t =>
    have first := (typedField_iff r t).1 h
    simp only [checkSftFields, h]
    by_cases free : keyFree SftField.tag done t
    · have none : (done.any fun d => decide (d.tag = t.tag)) = false := (any_key_iff SftField.tag done t).2 free
      rw [if_neg (by rw [none]; nofun)]
      refine ⟨fun ok => ⟨t, ⟨first.1, first.2, free⟩, ok⟩, ?_⟩
      rintro ⟨x, ⟨read, own, -⟩, ok⟩
      have same := (typedField_iff r x).2 ⟨read, own⟩
      rw [h] at same
      rw [Option.some.inj same]
      exact ok
    · have some : (done.any fun d => decide (d.tag = t.tag)) = true := by
        rw [← Bool.not_eq_false]
        exact fun none => free ((any_key_iff SftField.tag done t).1 none)
      rw [if_pos some]
      refine iff_of_false nofun ?_
      rintro ⟨x, ⟨read, own, apart⟩, -⟩
      have same := (typedField_iff r x).2 ⟨read, own⟩
      rw [h] at same
      exact free (Option.some.inj same ▸ apart)

/-- The ranges and rules of a format on its own. -/
def formatRules (g : SftFormat) : Prop := (1 ≤ g.number ∧ g.number ≤ 64) ∧ g.title.length ≤ 30 ∧ g.fields.length ≤ 24 ∧
  (g.fields.map SftField.tag).Nodup ∧ ∀ f ∈ g.fields, fieldRanged f

theorem checkSft_iff (before : List SftFormat) (r : RawFormat) (x : SftFormat) : checkSft before r = .ok x ↔
    formatLoaded r x ∧ formatRules x ∧ keyFree SftFormat.number before x := by
  have head : (!within 1 64 r.number || decide (30 < r.title.length) || decide (24 < r.fields.length)) = false ↔
      (1 ≤ r.number ∧ r.number ≤ 64) ∧ r.title.length ≤ 30 ∧ r.fields.length ≤ 24 := by
    simp only [Bool.or_eq_false_iff, Bool.not_eq_false', within_iff, decide_eq_false_iff_not, not_lt, and_assoc]
  unfold checkSft
  constructor
  · intro ok
    split at ok
    · cases ok
    · next kind h1 =>
      split at ok
      · cases ok
      · next h2 =>
        obtain ⟨number, title, count⟩ := head.1 (Bool.eq_false_iff.2 h2)
        split at ok
        · cases ok
        · next fields h3 =>
          obtain ⟨all, ranged, tags⟩ := (checkSftFields_ok _ _).1 h3
          split at ok
          · cases ok
          · next h4 =>
            obtain rfl := Except.ok.inj ok
            refine ⟨⟨rfl, (formatKindOfCode_iff _ _).1 h1, rfl, all⟩, ⟨number, title, ?_, tags, ranged⟩,
              (any_key_iff SftFormat.number before _).1 (Bool.eq_false_iff.2 h4)⟩
            rw [← all.length_eq]
            exact count
  · rintro ⟨⟨number, kind, title, all⟩, ⟨low, short, few, tags, ranged⟩, free⟩
    have h2 := head.2 ⟨number ▸ low, title ▸ short, by rw [all.length_eq]; exact few⟩
    have h3 := (checkSftFields_ok r.fields x.fields).2 ⟨all, ranged, tags⟩
    have h4 := (any_key_iff SftFormat.number before x).2 free
    rw [number] at h4
    simp only [(formatKindOfCode_iff _ _).2 kind, h2, h3, h4, Bool.false_eq_true, if_false]
    rw [← number, ← title]

theorem checkSft_records (rs : List RawFormat) (xs : List SftFormat) :
    checkRecords checkSft [] rs = .ok xs ↔ List.Forall₂ formatLoaded rs xs ∧ sftRules xs := by
  rw [checkRecords_ok checkSft_iff, chained_keyFree]
  exact and_congr_right fun _ => and_comm

/-! ## The DNT (R152) -/

/-- The ranges and rules of a denomination on its own. -/
def faceRules (increment : Nat) (r : DntRec) : Prop :=
  (1 ≤ r.face ∧ r.face ≤ 1000000000) ∧ r.floor ≤ 65535 ∧ r.face % increment = 0

theorem lastFalls_iff (before : List DntRec) (n : Nat) :
    (before.getLast?.map fun b => decide (b.face ≤ n)).getD false = false ↔ ∀ b, before.getLast? = some b → n < b.face := by
  cases before.getLast? with
  | none => simp
  | some b => simp

theorem checkDnt_iff (increment : Nat) (before : List DntRec) (r : RawDnt) (x : DntRec) : checkDnt increment before r = .ok x ↔
    dntLoaded r x ∧ faceRules increment x ∧ keyFalls DntRec.face before x := by
  have range : (!within 1 1000000000 r.face || decide (Config.topCount < r.floor)) = false ↔
      (1 ≤ r.face ∧ r.face ≤ 1000000000) ∧ r.floor ≤ 65535 := by
    have top : decide (Config.topCount < r.floor) = false ↔ r.floor ≤ 65535 := decide_eq_false_iff_not.trans not_lt
    rw [Bool.or_eq_false_iff, Bool.not_eq_false', within_iff, top]
  unfold checkDnt
  dsimp only
  constructor
  · intro ok
    split at ok
    · cases ok
    · next kind h1 =>
      split at ok
      · cases ok
      · next h2 =>
        obtain ⟨face, floor⟩ := range.1 (Bool.eq_false_iff.2 h2)
        split at ok
        · cases ok
        · next h3 =>
          split at ok
          · cases ok
          · next h4 =>
            obtain rfl := Except.ok.inj ok
            exact ⟨⟨rfl, (moneyKindOfCode_iff _ _).1 h1, rfl⟩, ⟨face, floor, not_not.1 h3⟩,
              (lastFalls_iff before r.face).1 (Bool.eq_false_iff.2 h4)⟩
  · rintro ⟨⟨face, kind, floor⟩, ⟨ranged, low, whole⟩, falls⟩
    have h2 := range.2 ⟨face ▸ ranged, floor ▸ low⟩
    have h4 := (lastFalls_iff before r.face).2 (face ▸ falls)
    rw [face] at whole
    simp only [(moneyKindOfCode_iff _ _).2 kind, h2, whole, h4, Bool.false_eq_true, if_false, ne_eq, not_true_eq_false]
    rw [← face, ← floor]

theorem checkDnt_records (increment : Nat) (rs : List RawDnt) (xs : List DntRec) : checkRecords (checkDnt increment) [] rs = .ok xs ↔
    List.Forall₂ dntLoaded rs xs ∧ (xs.map DntRec.face).Pairwise (· > ·) ∧ ∀ r ∈ xs, faceRules increment r := by
  rw [checkRecords_ok (checkDnt_iff increment), chained_keyFalls]
  exact and_congr_right fun _ => and_comm

theorem dntHeaderOk_iff (h : DntHeader) : dntHeaderOk h = true ↔ h.decimals ≤ 3 ∧ h.increment ∈ [1, 5, 10, 25, 50, 100] := by
  rw [dntHeaderOk, Bool.and_eq_true, decide_eq_true_iff, List.contains_iff_mem]

/-! ## The TLT (R153) -/

/-- The ranges and rules of a TLT record on its own. -/
def limitRules (r : TltRec) : Prop := (1 ≤ r.teller ∧ r.teller ≤ 9999) ∧ r.softLimit ≤ r.hardLimit ∧ r.hardLimit ≤ 999999999999 ∧
  r.standinCeiling ≤ 999999999999

theorem checkTlt_iff (before : List TltRec) (r : RawTlt) (x : TltRec) : checkTlt before r = .ok x ↔
    tltLoaded r x ∧ limitRules x ∧ keyFree TltRec.teller before x := by
  have range : (!within 1 9999 r.teller || decide (Config.topTotal < r.softLimit) || decide (Config.topTotal < r.hardLimit) ||
      decide (Config.topTotal < r.standinCeiling)) = false ↔ (1 ≤ r.teller ∧ r.teller ≤ 9999) ∧ r.softLimit ≤ 999999999999 ∧
        r.hardLimit ≤ 999999999999 ∧ r.standinCeiling ≤ 999999999999 := by
    have top : ∀ n, decide (Config.topTotal < n) = false ↔ n ≤ 999999999999 := fun n => decide_eq_false_iff_not.trans not_lt
    rw [Bool.or_eq_false_iff, Bool.or_eq_false_iff, Bool.or_eq_false_iff, Bool.not_eq_false', within_iff, top, top, top, and_assoc, and_assoc]
  unfold checkTlt
  constructor
  · intro ok
    split at ok
    · cases ok
    · next auth h1 =>
      split at ok
      · cases ok
      · next h2 =>
        obtain ⟨teller, -, hard, ceiling⟩ := range.1 (Bool.eq_false_iff.2 h2)
        split at ok
        · cases ok
        · next h3 =>
          split at ok
          · cases ok
          · next h4 =>
            obtain rfl := Except.ok.inj ok
            exact ⟨⟨rfl, (authorityOfCode_iff _ _).1 h1, rfl, rfl, rfl⟩, ⟨teller, not_lt.1 h3, hard, ceiling⟩,
              (any_key_iff TltRec.teller before _).1 (Bool.eq_false_iff.2 h4)⟩
  · rintro ⟨⟨teller, auth, soft, hard, ceiling⟩, ⟨ranged, order, top, standin⟩, free⟩
    rw [soft, hard] at order
    rw [hard] at top
    have h2 := range.2 ⟨teller ▸ ranged, le_trans order top, top, ceiling ▸ standin⟩
    have h4 := (any_key_iff TltRec.teller before x).2 free
    rw [teller] at h4
    simp only [(authorityOfCode_iff _ _).2 auth, h2, not_lt.2 order, h4, Bool.false_eq_true, if_false]
    rw [← teller, ← soft, ← hard, ← ceiling]

theorem checkTlt_records (rs : List RawTlt) (xs : List TltRec) : checkRecords checkTlt [] rs = .ok xs ↔
    List.Forall₂ tltLoaded rs xs ∧ (xs.map TltRec.teller).Nodup ∧ ∀ r ∈ xs, limitRules r := by
  rw [checkRecords_ok checkTlt_iff, chained_keyFree]
  exact and_congr_right fun _ => and_comm

/-! ## The PLT (R154) -/

/-- The ranges and rules of a layout on its own. -/
def layoutRules (r : PltRec) : Prop :=
  (1 ≤ r.bookType ∧ r.bookType ≤ 8) ∧ (10 ≤ r.linesPerPage ∧ r.linesPerPage ≤ 30) ∧ (1 ≤ r.pages ∧ r.pages ≤ 32) ∧
    (1 ≤ r.firstLine ∧ r.firstLine ≤ 30) ∧ r.firstLine ≤ r.linesPerPage ∧
    (∀ x ∈ [r.date, r.code, r.amount, r.balance],
      (1 ≤ x.column ∧ x.column ≤ 80) ∧ (1 ≤ x.width ∧ x.width ≤ 40) ∧ x.column + x.width ≤ 81) ∧
    [r.date, r.code, r.amount, r.balance].Pairwise fun x y =>
      x.column + x.width ≤ y.column ∨ y.column + y.width ≤ x.column

/-- Two places of some width that share no column stand one behind the other. -/
theorem sharesColumn_iff {a b : FieldPlace} (ha : placeInRange a = true) (hb : placeInRange b = true) :
    sharesColumn a b = false ↔ a.column + a.width ≤ b.column ∨ b.column + b.width ≤ a.column := by
  simp only [placeInRange, Bool.and_eq_true, within_iff] at ha hb
  simp only [sharesColumn, Bool.and_eq_false_iff, decide_eq_false_iff_not]
  omega

theorem placeInRange_iff (x : FieldPlace) :
    placeInRange x = true ↔ (1 ≤ x.column ∧ x.column ≤ 80) ∧ (1 ≤ x.width ∧ x.width ≤ 40) := by
  simp only [placeInRange, Bool.and_eq_true, within_iff]

theorem layoutOk_iff {r : PltRec} (ranged : ∀ x ∈ layoutPlaces r, placeInRange x = true) : layoutOk r = true ↔
    r.firstLine ≤ r.linesPerPage ∧ (∀ x ∈ layoutPlaces r, x.column + x.width ≤ 81) ∧
      (layoutPlaces r).Pairwise fun x y => x.column + x.width ≤ y.column ∨ y.column + y.width ≤ x.column := by
  have h1 := ranged r.date (by simp [layoutPlaces])
  have h2 := ranged r.code (by simp [layoutPlaces])
  have h3 := ranged r.amount (by simp [layoutPlaces])
  have h4 := ranged r.balance (by simp [layoutPlaces])
  have edges : ((layoutPlaces r).all fun p => decide (p.column + p.width - 1 ≤ 80)) = true ↔
      ∀ x ∈ layoutPlaces r, x.column + x.width ≤ 81 := by
    rw [List.all_eq_true]
    refine forall₂_congr fun x hx => ?_
    have place := (placeInRange_iff x).1 (ranged x hx)
    rw [decide_eq_true_iff]
    omega
  have apart : (!(sharesColumn r.date r.code || sharesColumn r.date r.amount || sharesColumn r.date r.balance ||
      sharesColumn r.code r.amount || sharesColumn r.code r.balance || sharesColumn r.amount r.balance)) = true ↔
      (layoutPlaces r).Pairwise fun x y => x.column + x.width ≤ y.column ∨ y.column + y.width ≤ x.column := by
    simp only [Bool.not_eq_true', Bool.or_eq_false_iff, sharesColumn_iff h1 h2, sharesColumn_iff h1 h3, sharesColumn_iff h1 h4,
      sharesColumn_iff h2 h3, sharesColumn_iff h2 h4, sharesColumn_iff h3 h4]
    simp [layoutPlaces, and_assoc]
  rw [layoutOk, Bool.and_eq_true, Bool.and_eq_true, edges, apart, decide_eq_true_iff, and_assoc]

theorem layoutRules_iff (r : PltRec) : layoutRules r ↔
    (!within 1 8 r.bookType || !within 10 30 r.linesPerPage || !within 1 32 r.pages || !within 1 30 r.firstLine ||
      !(layoutPlaces r).all placeInRange) = false ∧ layoutOk r = true := by
  simp only [Bool.or_eq_false_iff, Bool.not_eq_false', within_iff, List.all_eq_true, and_assoc]
  unfold layoutRules
  constructor
  · rintro ⟨book, lines, pages, first, order, all, apart⟩
    have ranged : ∀ x ∈ layoutPlaces r, placeInRange x = true := fun x hx => by
      obtain ⟨column, width, -⟩ := all x hx
      exact (placeInRange_iff x).2 ⟨column, width⟩
    exact ⟨book.1, book.2, lines.1, lines.2, pages.1, pages.2, first.1, first.2, ranged,
      (layoutOk_iff ranged).2 ⟨order, fun x hx => (all x hx).2.2, apart⟩⟩
  · rintro ⟨b1, b2, l1, l2, p1, p2, f1, f2, ranged, ok⟩
    obtain ⟨order, edges, apart⟩ := (layoutOk_iff ranged).1 ok
    refine ⟨⟨b1, b2⟩, ⟨l1, l2⟩, ⟨p1, p2⟩, ⟨f1, f2⟩, order, fun x hx => ?_, apart⟩
    obtain ⟨column, width⟩ := (placeInRange_iff x).1 (ranged x hx)
    exact ⟨column, width, edges x hx⟩

theorem checkPlt_iff (before : List PltRec) (r x : PltRec) : checkPlt before r = .ok x ↔
    r = x ∧ layoutRules x ∧ keyFree PltRec.bookType before x := by
  unfold checkPlt
  constructor
  · intro ok
    split at ok
    · cases ok
    · next h1 =>
      split at ok
      · cases ok
      · next h2 =>
        split at ok
        · cases ok
        · next h3 =>
          obtain rfl := Except.ok.inj ok
          exact ⟨rfl, (layoutRules_iff r).2 ⟨Bool.eq_false_iff.2 h1, by simpa using h2⟩,
            (any_key_iff PltRec.bookType before r).1 (Bool.eq_false_iff.2 h3)⟩
  · rintro ⟨rfl, rules, free⟩
    obtain ⟨h1, h2⟩ := (layoutRules_iff r).1 rules
    have h3 := (any_key_iff PltRec.bookType before r).2 free
    simp only [h1, h2, h3, Bool.not_true, Bool.false_eq_true, if_false]

theorem checkPlt_records (rs xs : List PltRec) : checkRecords checkPlt [] rs = .ok xs ↔ xs = rs ∧ pltRules xs := by
  rw [checkRecords_ok checkPlt_iff, chained_keyFree, List.forall₂_eq_eq_eq, eq_comm]
  exact and_congr_right fun _ => and_comm

end Sys2Proof.Machine
end

section
/-! SUPPORT. The cross-references of the tables, what is in use, and the commit check of each table as a whole (R56, R159 to
R161). -/

namespace Sys2Proof.Machine
open Sys2Proof

/-! ## Cross-references (R160) -/

theorem firstFailure_none (xs : List (Option CheckFailure)) : firstFailure xs = none ↔ ∀ x ∈ xs, x = none := by
  induction xs with
  | nil => simp [firstFailure]
  | cons x rest ih =>
    cases x with
    | none => simp [firstFailure, ih]
    | some e => simp [firstFailure]

theorem formatMissing_none (sft : List SftFormat) (n : Nat) : formatMissing sft n = none ↔ ∃ g, findFormat sft n = some g := by
  unfold formatMissing
  rw [← Option.isSome_iff_exists]
  split
  · next h => exact iff_of_true rfl h
  · next h => exact iff_of_false nofun h

theorem formatKindWrong_none {sft : List SftFormat} {kind : FormatKind} {n : Nat} {g : SftFormat} (h : findFormat sft n = some g) :
    formatKindWrong sft kind n = none ↔ g.kind = kind := by
  unfold formatKindWrong
  rw [h]
  dsimp only
  split
  · next k => exact iff_of_true rfl k
  · next k => exact iff_of_false nofun k

theorem fieldTagWrong_none {sft : List SftFormat} {n tag : Nat} {kind : FieldKind} {g : SftFormat} (h : findFormat sft n = some g) :
    fieldTagWrong sft n tag kind = none ↔ (tag ≠ 0 → ∃ f, formatField g tag = some f ∧ f.kind = kind) := by
  unfold fieldTagWrong
  rw [h, Option.bind_some]
  by_cases zero : tag = 0
  · rw [if_pos zero]
    exact iff_of_true rfl fun k => absurd zero k
  · rw [if_neg zero]
    cases field : formatField g tag with
    | none => exact iff_of_false nofun fun k => by obtain ⟨f, hf, -⟩ := k zero; cases hf
    | some f =>
      dsimp only
      by_cases same : f.kind = kind
      · rw [if_pos same]
        exact iff_of_true rfl fun _ => ⟨f, rfl, same⟩
      · rw [if_neg same]
        refine iff_of_false nofun fun k => ?_
        obtain ⟨x, hx, hk⟩ := k zero
        cases hx
        exact same hk

/-- The formats and tags that one record of a TCT names suit an SFT. -/
theorem formatsSuit_none (sft : List SftFormat) (r : TctRec) : formatsSuit sft r = none ↔
    (∃ g, (sft.find? fun f => f.number = r.requestFormat) = some g ∧ g.kind = .input ∧
      (r.accountTag ≠ 0 → ∃ f, formatField g r.accountTag = some f ∧ f.kind = .numeric) ∧
      (r.amountTag ≠ 0 → ∃ f, formatField g r.amountTag = some f ∧ f.kind = .amount)) ∧
    (∃ g, (sft.find? fun f => f.number = r.approveFormat) = some g ∧ g.kind = .output) ∧
    ∃ g, (sft.find? fun f => f.number = r.declineFormat) = some g ∧ g.kind = .output := by
  unfold formatsSuit
  simp only [firstFailure_none, List.forall_mem_cons, List.not_mem_nil, false_implies, implies_true, and_true, formatMissing_none]
  constructor
  · rintro ⟨⟨q, hq⟩, ⟨a, ha⟩, ⟨d, hd⟩, k1, k2, k3, t1, t2⟩
    exact ⟨⟨q, hq, (formatKindWrong_none hq).1 k1, (fieldTagWrong_none hq).1 t1, (fieldTagWrong_none hq).1 t2⟩,
      ⟨a, ha, (formatKindWrong_none ha).1 k2⟩, d, hd, (formatKindWrong_none hd).1 k3⟩
  · rintro ⟨⟨q, hq, k1, t1, t2⟩, ⟨a, ha, k2⟩, d, hd, k3⟩
    exact ⟨⟨q, hq⟩, ⟨a, ha⟩, ⟨d, hd⟩, (formatKindWrong_none hq).2 k1, (formatKindWrong_none ha).2 k2, (formatKindWrong_none hd).2 k3,
      (fieldTagWrong_none hq).2 t1, (fieldTagWrong_none hq).2 t2⟩

theorem tctSuits_iff (sft : List SftFormat) (xs : List TctRec) : tctSuits sft xs ↔ ∀ r ∈ xs, formatsSuit sft r = none :=
  forall₂_congr fun r _ => (formatsSuit_none sft r).symm

theorem needsDenominations_iff (r : TctRec) : needsDenominations r = true ↔ r.cashDirection ≠ .noCash ∨
    r.localAction = some .toReserve ∨ r.localAction = some .fromReserve ∨ r.localAction = some .balance ∨
      r.localAction = some .positionEnquiry := by
  simp only [needsDenominations, Bool.or_eq_true, decide_eq_true_iff, or_assoc]

theorem crossTct_none (sft : List SftFormat) (dnt : List DntRec) : ∀ (xs : List TctRec) (i : Nat), crossTct sft dnt i xs = none ↔
    (∀ r ∈ xs, formatsSuit sft r = none) ∧ ((∃ r ∈ xs, needsDenominations r = true) → dnt ≠ [])
  | [], i => by simp [crossTct]
  | r :: rest, i => by
    have ih := crossTct_none sft dnt rest (i + 1)
    unfold crossTct
    cases suits : formatsSuit sft r with
    | some e =>
      refine iff_of_false nofun fun k => ?_
      have own := k.1 r List.mem_cons_self
      rw [suits] at own
      cases own
    | none =>
      dsimp only
      by_cases needs : needsDenominations r = true ∧ dnt = []
      · rw [if_pos needs]
        exact iff_of_false nofun fun k => k.2 ⟨r, List.mem_cons_self, needs.1⟩ needs.2
      · rw [if_neg needs, ih]
        constructor
        · rintro ⟨all, held⟩
          refine ⟨List.forall_mem_cons.2 ⟨suits, all⟩, ?_⟩
          rintro ⟨y, hy, own⟩ empty
          rcases List.mem_cons.1 hy with rfl | hy
          · exact needs ⟨own, empty⟩
          · exact held ⟨y, hy, own⟩ empty
        · rintro ⟨all, held⟩
          exact ⟨(List.forall_mem_cons.1 all).2, fun ⟨y, hy, own⟩ => held ⟨y, List.mem_cons_of_mem _ hy, own⟩⟩

theorem crossSft_none (tct : List TctRec) (sft : List SftFormat) : crossSft tct sft = none ↔ tctSuits sft tct := by
  rw [crossSft, Option.map_eq_none_iff, firstFailure_none, List.forall_mem_map, tctSuits_iff]

/-! ## In use (R161) -/

theorem tellerInUse_none (xs : List TltRec) (s : State) : tellerInUse xs s = none ↔
    ∀ st t, tellerAt st s = some t → ∃ r ∈ xs, r.teller = t := by
  unfold tellerInUse
  rw [List.findSome?_eq_none_iff]
  constructor
  · intro all st t teller
    have own := all st (Station.mem_all st)
    rw [teller] at own
    dsimp only at own
    split at own
    · next held => simpa using held
    · cases own
  · intro all st _
    cases teller : tellerAt st s with
    | none => rfl
    | some t =>
      have held : (xs.any fun r => decide (r.teller = t)) = true := by simpa using all st t teller
      exact if_pos held

theorem holdsAt_iff (i : Nat) (p : Position) : holdsAt i p = true ↔ countsAt p i ≠ ⟨0, 0, 0⟩ := by
  unfold holdsAt
  rcases countsAt p i with ⟨c, o, n⟩
  simp only [Bool.or_eq_true, decide_eq_true_iff, ne_eq, Counts.mk.injEq]
  omega

theorem mem_heldIndices (i : Nat) (s : State) : i ∈ heldIndices s ↔ ∃ p, countsHeld p i s := by
  have held : (s.csh.drawers.toList.any (holdsAt i) || holdsAt i s.csh.reserve) = true ↔ ∃ p, countsAt (positionOf p s) i ≠ ⟨0, 0, 0⟩ := by
    rw [Bool.or_eq_true, List.any_eq_true]
    constructor
    · rintro (⟨x, hx, h⟩ | h)
      · obtain ⟨a, rfl⟩ := (Eight.mem_toList _ _).1 hx
        exact ⟨some a, (holdsAt_iff _ _).1 h⟩
      · exact ⟨none, (holdsAt_iff _ _).1 h⟩
    · rintro ⟨p, h⟩
      cases p with
      | none => exact .inr ((holdsAt_iff _ _).2 h)
      | some a => exact .inl ⟨_, (Eight.mem_toList _ _).2 ⟨a, rfl⟩, (holdsAt_iff _ _).2 h⟩
  unfold heldIndices countsHeld
  rw [List.mem_filter, held]
  simp only [List.mem_map, List.mem_range]
  constructor
  · rintro ⟨⟨k, hk, rfl⟩, p, h⟩
    exact ⟨p, by omega, by omega, h⟩
  · rintro ⟨p, low, high, h⟩
    exact ⟨⟨i - 1, by omega, by omega⟩, p, h⟩

theorem dntInUse_none (xs : List DntRec) (s : State) : dntInUse xs s = none ↔
    ((∃ p i, countsHeld p i s) → xs.length = s.tbl.dnt.length ∧
      ∀ p i, countsHeld p i s → (xs[i - 1]?).map DntRec.face = (s.tbl.dnt[i - 1]?).map DntRec.face) := by
  have face : ∀ {i} (dnt : List DntRec), 1 ≤ i → faceAt dnt i = (dnt[i - 1]?).map DntRec.face := fun {i} dnt h => if_neg (by omega)
  unfold dntInUse
  dsimp only
  by_cases none : heldIndices s = []
  · rw [if_pos none]
    refine iff_of_true rfl ?_
    rintro ⟨p, i, h⟩
    have here := (mem_heldIndices i s).2 ⟨p, h⟩
    rw [none] at here
    cases here
  · rw [if_neg none]
    obtain ⟨i, hi⟩ := List.exists_mem_of_ne_nil _ none
    obtain ⟨p, hp⟩ := (mem_heldIndices i s).1 hi
    by_cases length : xs.length = s.tbl.dnt.length
    · rw [if_neg (not_not.2 length), Option.map_eq_none_iff, List.find?_eq_none]
      constructor
      · intro all _
        refine ⟨length, fun p i h => ?_⟩
        have same := all i ((mem_heldIndices i s).2 ⟨p, h⟩)
        rw [decide_eq_true_iff, ne_eq, not_not, face _ h.1, face _ h.1] at same
        exact same
      · intro all i h
        obtain ⟨p, h⟩ := (mem_heldIndices i s).1 h
        rw [decide_eq_true_iff, ne_eq, not_not, face _ h.1, face _ h.1]
        exact (all ⟨p, i, h⟩).2 p i h
    · rw [if_pos length]
      exact iff_of_false nofun fun k => length (k ⟨p, i, hp⟩).1

/-! ## The commit check (R159) -/

theorem unlessRefused_ok_iff (t x : CheckedTable) (why : Option MgmtStatus) : unlessRefused t why = .ok x ↔ x = t ∧ why = none := by
  cases why with
  | none => exact ⟨fun h => ⟨(Except.ok.inj h).symm, rfl⟩, fun h => congrArg _ h.1.symm⟩
  | some e => exact iff_of_false nofun fun h => by cases h.2

theorem commitCheck_tct (rs : List RawTct) (xs : List TctRec) (s : State) : commitCheck (.tct rs) s = .ok (.tct xs) ↔
    List.Forall₂ tctLoaded rs xs ∧ tctRules xs ∧ tctSuits s.tbl.sft xs ∧
      ((∃ r ∈ xs, r.cashDirection ≠ .noCash ∨ r.localAction = some .toReserve ∨ r.localAction = some .fromReserve ∨
        r.localAction = some .balance ∨ r.localAction = some .positionEnquiry) → s.tbl.dnt ≠ []) := by
  rw [← and_assoc, ← checkTct_records, tctSuits_iff]
  simp only [← needsDenominations_iff, ← crossTct_none s.tbl.sft s.tbl.dnt xs 1]
  unfold commitCheck
  dsimp only
  cases records : checkRecords checkTct [] rs with
  | error why => simp
  | ok ys =>
    dsimp only
    rw [unlessRefused_ok_iff]
    constructor
    · rintro ⟨h, cross⟩
      cases h
      exact ⟨rfl, cross⟩
    · rintro ⟨h, cross⟩
      cases h
      exact ⟨rfl, cross⟩

theorem commitCheck_sft (rs : List RawFormat) (xs : List SftFormat) (s : State) : commitCheck (.sft rs) s = .ok (.sft xs) ↔
    List.Forall₂ formatLoaded rs xs ∧ sftRules xs ∧ tctSuits xs s.tbl.tct := by
  rw [← and_assoc, ← checkSft_records, ← crossSft_none]
  unfold commitCheck
  dsimp only
  cases records : checkRecords checkSft [] rs with
  | error why => simp
  | ok ys =>
    dsimp only
    rw [unlessRefused_ok_iff]
    constructor
    · rintro ⟨h, cross⟩
      cases h
      exact ⟨rfl, cross⟩
    · rintro ⟨h, cross⟩
      cases h
      exact ⟨rfl, cross⟩

theorem commitCheck_tlt (h : Option Nat) (c : Nat) (rs : List RawTlt) (xs : List TltRec) (s : State) :
    commitCheck (.tlt h rs) s = .ok (.tlt c xs) ↔ c = h.getD 0 ∧ List.Forall₂ tltLoaded rs xs ∧ tltRules c xs ∧
      ∀ st t, tellerAt st s = some t → ∃ r ∈ xs, r.teller = t := by
  have records : (List.Forall₂ tltLoaded rs xs ∧ tltRules c xs) ↔ c ≤ 999999999999 ∧ checkRecords checkTlt [] rs = .ok xs := by
    rw [checkTlt_records]
    unfold tltRules limitRules
    tauto
  rw [← and_assoc (a := List.Forall₂ ..), records, ← tellerInUse_none]
  unfold commitCheck
  dsimp only
  by_cases top : Config.topTotal < h.getD 0
  · rw [if_pos top]
    refine iff_of_false nofun ?_
    rintro ⟨rfl, ⟨low, -⟩, -⟩
    exact absurd low (not_le.2 top)
  · rw [if_neg top]
    cases checked : checkRecords checkTlt [] rs with
    | error why => simp
    | ok ys =>
      dsimp only
      rw [unlessRefused_ok_iff]
      constructor
      · rintro ⟨h, held⟩
        cases h
        exact ⟨rfl, ⟨not_lt.1 top, rfl⟩, held⟩
      · rintro ⟨rfl, ⟨-, h⟩, held⟩
        cases h
        exact ⟨rfl, held⟩

theorem commitCheck_plt (rs xs : List PltRec) (s : State) : commitCheck (.plt rs) s = .ok (.plt xs) ↔ xs = rs ∧ pltRules xs := by
  rw [← checkPlt_records]
  unfold commitCheck
  dsimp only
  cases checkRecords checkPlt [] rs with
  | error why => simp
  | ok ys => simp

theorem commitCheck_dnt (h : Option DntHeader) (x : DntHeader) (rs : List RawDnt) (xs : List DntRec) (s : State) :
    commitCheck (.dnt h rs) s = .ok (.dnt x xs) ↔
    (s.day.state = .noDate ∨ s.day.state = .settled) ∧ h = some x ∧ List.Forall₂ dntLoaded rs xs ∧ dntRules x xs ∧
      ((∃ p i, countsHeld p i s) → xs.length = s.tbl.dnt.length ∧
        ∀ p i, countsHeld p i s → (xs[i - 1]?).map DntRec.face = (s.tbl.dnt[i - 1]?).map DntRec.face) := by
  rw [← dntInUse_none]
  have rules : (List.Forall₂ dntLoaded rs xs ∧ dntRules x xs) ↔
      dntHeaderOk x = true ∧ checkRecords (checkDnt x.increment) [] rs = .ok xs ∧ xs ≠ [] := by
    rw [dntHeaderOk_iff, checkDnt_records]
    unfold dntRules faceRules
    tauto
  rw [← and_assoc (a := List.Forall₂ ..), rules]
  show commitCheckDnt (h.getD ⟨0, 0⟩) rs s = _ ↔ _
  unfold commitCheckDnt
  by_cases closed : s.day.state ≠ .noDate ∧ s.day.state ≠ .settled
  · rw [if_pos closed]
    refine iff_of_false nofun fun k => ?_
    rcases k.1 with state | state
    · exact closed.1 state
    · exact closed.2 state
  · rw [if_neg closed]
    have state : s.day.state = .noDate ∨ s.day.state = .settled := by
      rcases not_and_or.1 closed with k | k
      · exact .inl (not_not.1 k)
      · exact .inr (not_not.1 k)
    cases h with
    | none => exact iff_of_false (by simp [dntHeaderOk]) fun k => by cases k.2.1
    | some y =>
      rw [Option.getD_some]
      cases header : dntHeaderOk y with
      | false =>
        refine iff_of_false (by simp) ?_
        rintro ⟨-, same, ⟨ok, -⟩, -⟩
        cases same
        rw [header] at ok
        cases ok
      | true =>
        simp only [Bool.not_true, Bool.false_eq_true, if_false, checkDntTable]
        cases checked : checkRecords (checkDnt y.increment) [] rs with
        | error why =>
          refine iff_of_false nofun ?_
          rintro ⟨-, same, ⟨-, ok, -⟩, -⟩
          cases same
          rw [checked] at ok
          cases ok
        | ok ys =>
          dsimp only
          by_cases empty : ys = []
          · rw [if_pos empty]
            refine iff_of_false nofun ?_
            rintro ⟨-, same, ⟨-, ok, some⟩, -⟩
            cases same
            rw [checked] at ok
            cases ok
            exact some empty
          · rw [if_neg empty, unlessRefused_ok_iff]
            constructor
            · rintro ⟨same, held⟩
              cases same
              exact ⟨state, rfl, ⟨header, checked, empty⟩, held⟩
            · rintro ⟨-, same, ⟨-, ok, -⟩, held⟩
              cases same
              rw [checked] at ok
              cases ok
              exact ⟨rfl, held⟩

end Sys2Proof.Machine
end

section
/-! SUPPORT. The capacity of a table, the counts of a new DNT, and a commit (R56, R157, R162). -/

namespace Sys2Proof.Machine
open Sys2Proof

variable {s t u v w : State} {st : Station}

theorem fits_iff (b : FragmentBody) : fits b = true ↔ match b with
    | .tct rs => rs.length ≤ 128
    | .sft rs => rs.length ≤ 64 ∧ (rs.map fun f => f.fields.length).sum ≤ 1024
    | .dnt _ rs => rs.length ≤ 16
    | .tlt _ rs => rs.length ≤ 64
    | .plt rs => rs.length ≤ 8 := by
  rw [fits, Bool.and_eq_true, decide_eq_true_iff, decide_eq_true_iff]
  cases b with
  | sft rs => exact Iff.rfl
  | tct | dnt | tlt | plt => exact and_iff_left (Nat.zero_le _)

/-- The counts at an index of a new DNT: those that stood there where the face stands, else none. -/
theorem recount_getElem (new old : List DntRec) (cs : List Counts) (i : Nat) (r : DntRec) (h : new[i]? = some r) :
    (recount new old cs)[i]? =
      some (if (old[i]?).map DntRec.face = some r.face then (cs[i]?).getD ⟨0, 0, 0⟩ else ⟨0, 0, 0⟩) := by
  induction new generalizing old cs i with
  | nil => cases h
  | cons n ns ih =>
    cases i with
    | zero =>
      obtain rfl := Option.some.inj h
      cases old with
      | nil => rfl
      | cons o os =>
        cases cs with
        | nil => simp [recount]
        | cons c cs => simp [recount, eq_comm]
    | succ i =>
      cases old with
      | nil => exact (ih [] [] i h).trans (by simp)
      | cons o os =>
        cases cs with
        | nil => exact (ih [] [] i h).trans (by simp)
        | cons c cs => exact ih os cs i h

/-- A table checked is of the kind loaded, with as many records. -/
theorem commitCheck_ok_shape {b : FragmentBody} {table : CheckedTable} (h : commitCheck b s = .ok table) :
    checkedId table = bodyTable b ∧ checkedCount table = recordCount b := by
  have length : ∀ {α β : Type} {L : α → β → Prop} {rs : List α} {xs : List β}, List.Forall₂ L rs xs → xs.length = rs.length :=
    fun all => all.length_eq.symm
  cases b with
  | tct rs =>
    unfold commitCheck at h
    dsimp only at h
    split at h
    · cases h
    · next xs hx =>
      obtain ⟨rfl, -⟩ := (unlessRefused_ok_iff _ _ _).1 h
      exact ⟨rfl, length ((checkTct_records rs xs).1 hx).1⟩
  | sft rs =>
    unfold commitCheck at h
    dsimp only at h
    split at h
    · cases h
    · next xs hx =>
      obtain ⟨rfl, -⟩ := (unlessRefused_ok_iff _ _ _).1 h
      exact ⟨rfl, length ((checkSft_records rs xs).1 hx).1⟩
  | dnt header rs =>
    unfold commitCheck commitCheckDnt checkDntTable at h
    dsimp only at h
    split at h
    · cases h
    · split at h
      · cases h
      · split at h
        · cases h
        · next xs hx =>
          split at h
          · cases h
          · obtain ⟨rfl, -⟩ := (unlessRefused_ok_iff _ _ _).1 h
            exact ⟨rfl, length ((checkDnt_records _ rs xs).1 hx).1⟩
  | tlt header rs =>
    unfold commitCheck at h
    dsimp only at h
    split at h
    · cases h
    · split at h
      · cases h
      · next xs hx =>
        obtain ⟨rfl, -⟩ := (unlessRefused_ok_iff _ _ _).1 h
        exact ⟨rfl, length ((checkTlt_records rs xs).1 hx).1⟩
  | plt rs =>
    unfold commitCheck at h
    dsimp only at h
    split at h
    · cases h
    · next xs hx =>
      cases h
      rw [((checkPlt_records rs xs).1 hx).1]
      exact ⟨rfl, rfl⟩

/-! ## The sign-on prompts of new tables (R162) -/

theorem contextOf_recomposePrompt_other {a : Station} (ha : a ≠ st) (s : State) : contextOf a (recomposePrompt st s) = contextOf a s := by
  unfold recomposePrompt
  split
  · split
    · exact (contextOf_composeInput ..).trans (if_neg ha)
    · rfl
  · rfl

/-- The texts of a prompt are empty. -/
theorem inputContext_texts (st : Station) (mode : ScreenMode) (number err : Option Nat) (message : Text) (s : State) (c : ScreenContext) :
    ∀ x ∈ (inputContext st mode number [] err message s c).texts, x = [] := by
  have texts : (inputContext st mode number [] err message s c).texts = match number.bind fun n => formatOf n s with
      | some f => keyedTexts (decimalsOf s) f []
      | none => [] := rfl
  rw [texts]
  split
  · rw [keyedTexts_nil]
    intro x hx
    obtain ⟨-, -, rfl⟩ := List.mem_map.1 hx
    rfl
  · nofun

theorem promptsFollow_recomposePrompt (s : State) : promptsFollow s (forStations recomposePrompt s) := by
  intro st c hc
  obtain ⟨u, ⟨signOn, broadcast, blc, day, csh, slc, pbk, tbl⟩, before, after⟩ := forStations_reaches (contextOf st)
    (fun u => u.scm.signOn = s.scm.signOn ∧ u.scm.broadcast = s.scm.broadcast ∧ u.blc = s.blc ∧ u.day = s.day ∧ u.csh = s.csh ∧
      u.slc = s.slc ∧ u.pbk = s.pbk ∧ u.tbl = s.tbl) recomposePrompt st (fun u h => by simpa using h)
    (fun a u ha h => ⟨by simpa using h, contextOf_recomposePrompt_other (Ne.symm ha) u⟩) (s := s) ⟨rfl, rfl, rfl, rfl, rfl, rfl, rfl, rfl⟩
  have own : contextOf st u = some c := before.trans hc
  have run : recomposePrompt st u = if c.mode = .signOnPrompt then composePrompt st c.message u else u := by
    unfold recomposePrompt
    rw [own]
  rw [run] at after
  refine ⟨fun other => ?_, fun prompt => ?_⟩
  · rw [if_neg other] at after
    exact after.trans own
  · rw [if_pos prompt] at after
    have made : contextOf st (composePrompt st c.message u) = some (inputContext st .signOnPrompt (signOnPrompt u) [] none c.message u c) := by
      refine (contextOf_composeInput ..).trans ((if_pos rfl).trans ?_)
      rw [own]
      rfl
    have prompts : signOnPrompt u = signOnPrompt (forStations recomposePrompt s) := by
      simp [signOnPrompt, signOnRecord, tbl]
    have formats : ∀ n, formatOf n u = formatOf n (forStations recomposePrompt s) := fun n => by simp [formatOf, tbl]
    have tag : shownErrorTag ((signOnPrompt u).bind fun n => formatOf n u) none = none := by
      cases (signOnPrompt u).bind fun n => formatOf n u <;> rfl
    have stays : recomposed st (forStations recomposePrompt s) (inputContext st .signOnPrompt (signOnPrompt u) [] none c.message u c) =
        recomposed st u (inputContext st .signOnPrompt (signOnPrompt u) [] none c.message u c) := by
      apply recomposed_congr <;> simp [signOn, broadcast, blc, day, csh, slc, pbk, drawerOf, lineOf, printerOf]
    have shown : ((signOnPrompt u).bind fun n => formatOf n u) =
        (signOnPrompt (forStations recomposePrompt s)).bind fun n => formatOf n (forStations recomposePrompt s) := by
      rw [prompts]
      exact congrArg _ (funext formats)
    exact ⟨_, after.trans made, stays.symm ▸ rfl, rfl, prompts, shown, fun x hx => inputContext_texts _ _ _ _ _ _ _ x hx, tag, rfl⟩

theorem promptsFollow_congr (h : promptsFollow u w) (before : s.scm.contexts = u.scm.contexts) (after : t.scm = w.scm)
    (tbl : t.tbl = w.tbl) (link : t.blc.link = w.blc.link) (day : t.day = w.day) (csh : t.csh = w.csh) (slc : t.slc = w.slc)
    (pbk : t.pbk = w.pbk) : promptsFollow s t := by
  intro st c hc
  have context : contextOf st t = contextOf st w := contextOf_congr st (congrArg Scm.contexts after)
  obtain ⟨stands, follows⟩ := h st c ((contextOf_congr st before).symm.trans hc)
  refine ⟨fun other => context.trans (stands other), fun prompt => ?_⟩
  obtain ⟨c', hc', whole, mode, format, shown, texts, tag, message⟩ := follows prompt
  have prompts : signOnPrompt t = signOnPrompt w := by simp only [signOnPrompt, signOnRecord, tbl]
  have formats : ∀ n, formatOf n t = formatOf n w := fun n => by simp only [formatOf, tbl]
  have stays : recomposed st t c' = recomposed st w c' := by
    apply recomposed_congr <;> simp [link, day, csh, slc, pbk, after, drawerOf, lineOf, printerOf]
  refine ⟨c', context.trans hc', whole.trans stays.symm, mode, format.trans prompts.symm, ?_, texts, tag, message⟩
  rw [shown, prompts]
  exact congrArg _ (funext fun n => (formats n).symm)

/-! ## A commit (R162) -/

/-- A state whose table has become active, its entry written, before the prompts follow. -/
def committed (table : CheckedTable) (loadId : Nat) (s : State) : State :=
  writeEntry 0 (tableDraft (checkedId table) loadId (checkedCount table)) (endLoad (activate table loadId s))

theorem commitTable_eq (table : CheckedTable) (loadId : Nat) (s : State) : commitTable table loadId s =
    if changesPrompt table then forStations recomposePrompt (committed table loadId s) else committed table loadId s := rfl

theorem commitTable_after (table : CheckedTable) (loadId : Nat) (s : State) :
    keeps [.scm] (committed table loadId s) (commitTable table loadId s) := by
  rw [commitTable_eq]
  split
  · simp [keeps]
  · exact keeps_refl _ _

theorem committed_reach (table : CheckedTable) (loadId : Nat) (s : State) :
    keeps [.csh, .jrn, .tbl, .blc, .mrs] s (committed table loadId s) := by
  have sda : (committed table loadId s).sda = s.sda := (writeEntry_sda rfl _).trans (by simp)
  simp [keeps, sda]
  simp [committed]

/-- What a commit does. -/
structure tableCommitted (table : CheckedTable) (loadId : Nat) (s w : State) : Prop where
  reach : keeps [.csh, .scm, .jrn, .tbl, .blc, .mrs] s w
  tbl : w.tbl = committedTables table loadId s.tbl
  raised : raisedOnly journalFlags s w
  screens : screensOnly s w
  stands : changesPrompt table = false → w.scm = s.scm
  follows : changesPrompt table = true → promptsFollow s w
  written : canWrite 0 (tableDraft (checkedId table) loadId (checkedCount table)) s →
    wrote 0 (tableDraft (checkedId table) loadId (checkedCount table)) s w
  csh : w.csh = (activate table loadId s).csh

theorem tableCommitted_commitTable (table : CheckedTable) (loadId : Nat) (s : State) :
    tableCommitted table loadId s (commitTable table loadId s) := by
  let m := endLoad (activate table loadId s)
  let v := committed table loadId s
  obtain ⟨-, csh, -, pbk, sda, jrn, day, tbl, slc, blc, mrs⟩ := keeps_stands (commitTable_after table loadId s)
  replace csh := csh (by decide)
  replace jrn := jrn (by decide)
  replace tbl := tbl (by decide)
  replace blc := blc (by decide)
  replace mrs := mrs (by decide)
  refine ⟨?_, ?_, ?_, by simp [screensOnly], fun same => ?_, fun changes => ?_, fun room => ?_, ?_⟩
  · exact keeps_trans (keeps_mono (committed_reach table loadId s) (by decide)) (keeps_mono (commitTable_after table loadId s) (by decide))
  · rw [tbl]
    have same : v.tbl = m.tbl := by simp [v, committed, m]
    refine same.trans ?_
    cases table <;> rfl
  · exact raisedOnly_of_eq (raisedOnly_from (raisedOnly_writeEntry 0 _ m) (by simp [m]) (by simp [m])) mrs blc
  · rw [commitTable_eq, if_neg (by rw [same]; nofun)]
    simp [committed]
  · rw [commitTable_eq, if_pos changes]
    exact promptsFollow_congr (promptsFollow_recomposePrompt v) (by simp [v, committed]) rfl rfl rfl rfl rfl rfl rfl
  · have k := writeEntry_wrote (k := 0) (d := tableDraft (checkedId table) loadId (checkedCount table)) (s := m) (by
      unfold canWrite at *
      simpa [m] using room)
    exact wrote_congr k (by simp [m]) (by simp [m]) (by simp [m]) jrn
  · rw [csh]
    simp [committed]

end Sys2Proof.Machine
end

section
/-! SUPPORT. Table reads (R163), and the loading and reading of tables as a whole. -/

namespace Sys2Proof.Machine
open Sys2Proof

variable {s t u v w : State}

/-! ## As many records as fit (R163) -/

theorem fitting_reads {α : Type} (size : α → Nat) : ∀ (xs : List α) (room : Nat), fitting size room xs <+: xs ∧
    ((fitting size room xs).map size).sum ≤ room ∧
    ∀ x rest, xs = fitting size room xs ++ x :: rest → room < ((fitting size room xs).map size).sum + size x
  | [], room => ⟨List.prefix_rfl, Nat.zero_le _, fun x rest h => by simp [fitting] at h⟩
  | y :: ys, room => by
    by_cases fit : size y ≤ room
    · have taken : fitting size room (y :: ys) = y :: fitting size (room - size y) ys := if_pos fit
      obtain ⟨front, within, more⟩ := fitting_reads size ys (room - size y)
      rw [taken]
      refine ⟨(List.cons_prefix_cons).2 ⟨rfl, front⟩, ?_, fun x rest h => ?_⟩
      · rw [List.map_cons, List.sum_cons]
        omega
      · have next := more x rest (List.cons.inj h).2
        rw [List.map_cons, List.sum_cons]
        omega
    · have none : fitting size room (y :: ys) = [] := if_neg fit
      rw [none]
      refine ⟨List.nil_prefix, Nat.zero_le _, fun x rest h => ?_⟩
      rw [List.nil_append] at h
      obtain ⟨rfl, -⟩ := List.cons.inj h
      simpa using fit

/-- The records that a reply carries, where its size is that of its other items and of each record. -/
theorem readsFrom_recordsFrom {α : Type} {bytes : α → Bytes} {size : List α → Nat} {base : Nat} (low : base ≤ 1024)
    (sizes : ∀ y, size y = base + (y.map fun r => (bytes r).length).sum) (first : Nat) (all : List α) :
    readsFrom size first all (recordsFrom bytes base first all)
      (if (recordsFrom bytes base first all).length = 0 then 0 else first + (recordsFrom bytes base first all).length - 1) := by
  obtain ⟨front, within, more⟩ := fitting_reads (fun r => (bytes r).length) (all.drop (first - 1)) (1024 - base)
  refine ⟨⟨front, rfl⟩, ?_, fun x rest h => ?_⟩
  · rw [sizes]
    have sum : ((recordsFrom bytes base first all).map fun r => (bytes r).length).sum ≤ 1024 - base := within
    omega
  · have next : 1024 - base < ((recordsFrom bytes base first all).map fun r => (bytes r).length).sum + (bytes x).length :=
      more x rest h
    rw [sizes, List.map_append, List.sum_append, List.map_singleton, List.sum_singleton]
    omega

/-! ## The size of a reply -/

theorem length_beBytes (k n : Nat) : (beBytes k n).length = k := by
  induction k with
  | zero => rfl
  | succ k ih => simp [beBytes, ih]

theorem length_listBytes {α : Type} (f : α → Bytes) (xs : List α) :
    (listBytes f xs).length = 1 + (xs.map fun x => (f x).length).sum := by
  simp [listBytes, List.length_flatMap, Nat.add_comm]

/-- The bytes of a TABLE-READ reply beside its records. -/
def readHead (loadId : Option Nat) : Nat :=
  9 + (optionBytes (fun n => [byteOf n]) loadId).length

theorem readHead_le (loadId : Option Nat) : readHead loadId ≤ 11 := by
  cases loadId <;> simp [readHead, optionBytes]

theorem length_tableRead (id : Nat) (t : TableId) (loadId : Option Nat) (total : Nat) (x : TableRecords) (last : Nat) :
    (mgmtReplyBytes ⟨id, .done, .tableRead t loadId total x last⟩).length = readHead loadId + (recordsBytes x).length := by
  have name : (textBytes (mgmtStatusName .done)).length = 5 := by decide
  simp only [mgmtReplyBytes, contentBytes, statusItemBytes, List.length_append, name, List.length_singleton, List.length_nil, readHead]
  omega

/-- The records of a table with the bytes of each, beside those of its header. -/
theorem readsFrom_reply {α : Type} {mk : List α → TableRecords} {bytes : α → Bytes} {head : Nat} (low : head ≤ 1000)
    (records : ∀ y, (recordsBytes (mk y)).length = head + (y.map fun r => (bytes r).length).sum) (id : Nat) (t : TableId)
    (total last first : Nat) (all : List α) (s : State) :
    readsFrom (fun y => (mgmtReplyBytes ⟨id, .done, .tableRead t (activeId t s) total (mk y) last⟩).length) first all
      (recordsFrom bytes (readBase id t (mk []) s) first all)
      (if (recordsFrom bytes (readBase id t (mk []) s) first all).length = 0 then 0
        else first + (recordsFrom bytes (readBase id t (mk []) s) first all).length - 1) := by
  have base : readBase id t (mk []) s = readHead (activeId t s) + head := by
    rw [readBase, length_tableRead, records]
    rfl
  have small := readHead_le (activeId t s)
  refine readsFrom_recordsFrom (by rw [base]; omega) (fun y => ?_) first all
  rw [length_tableRead, records, base]
  omega

/-! ## A fragment taken (R155 to R157) -/

variable {id : Nat} {f : Fragment} {shadow : FragmentBody}

/-- The commit check does not see the buffer of requests. -/
theorem commitCheck_places (b : FragmentBody) (places : List MgmtPlace) (s : State) :
    commitCheck b (onMrs (fun m => { m with places := places }) s) = commitCheck b s := by
  cases b <;> rfl

theorem takeFragment_fills (header : badHeader f = false)
    (h : (f.number = 0 ∧ shadow = f.body ∧ ∀ c, s.tbl.load = some c → bodyTable c.shadow = bodyTable f.body ∧ c.loadId = f.loadId) ∨
      (f.number ≠ 0 ∧ ∃ c, s.tbl.load = some c ∧ bodyTable c.shadow = bodyTable f.body ∧ c.loadId = f.loadId ∧
        f.number = c.next ∧ shadow = appendBody c.shadow f.body)) : takeFragment id f s = fillShadow id f shadow s := by
  have belongs : ∀ {c}, bodyTable c.shadow = bodyTable f.body → c.loadId = f.loadId → belongs c f = true := fun table same => by
    simp [belongs, table, same]
  rcases h with ⟨zero, rfl, own⟩ | ⟨later, c, load, table, same, next, rfl⟩
  · cases load : s.tbl.load with
    | none => simp only [takeFragment, header, load, zero, Bool.false_eq_true, if_true, if_false]
    | some c =>
      obtain ⟨table, same⟩ := own c load
      simp only [takeFragment, header, load, belongs table same, zero, Bool.not_true, Bool.false_eq_true, if_true, if_false]
  · have step : ¬ f.number ≠ c.next := not_not.2 next
    simp only [takeFragment, header, load, belongs table same, later, step, Bool.not_true, Bool.false_eq_true, if_false]

/-- The load goes on with a fragment accepted. -/
def loadGoesOn (f : Fragment) (shadow : FragmentBody) (s : State) : State :=
  onTbl (fun x => { x with
    load := some { loadId := f.loadId, next := f.number + 1, deadline := s.uptime + 60000, shadow := shadow } }) s

/-- A load ends with the refusal of its request. -/
theorem loadEnds {r : MgmtRequest} {s1 : State} (taken : mgmtTaken id r s s1) (why : MgmtStatus) :
    requestDone id why .nothing [.tbl] s s1 (refuseRequest id why (endLoad s1)) ∧
      (refuseRequest id why (endLoad s1)).tbl = { s.tbl with load := none } := by
  refine ⟨requestDone_of taken (by simp [keeps]) (by simp) (by simp), ?_⟩
  obtain ⟨places, rfl⟩ := taken_buffer taken
  rfl

/-- The reply to a commit stands beside what the commit does. -/
theorem committedReply {s1 : State} {table : CheckedTable} {loadId : Nat} (taken : mgmtTaken id (.tableLoad f) s s1) :
    ∃ t, t = answer id .committed (.records (checkedCount table)) (commitTable table loadId s1) ∧
      keeps [.csh, .scm, .jrn, .tbl, .blc, .mrs] s t ∧ t.tbl = committedTables table loadId s.tbl ∧
      t.blc.replies = s.blc.replies ++ [{ id := id, status := .committed, content := .records (checkedCount table) }] ∧
      raisedOnly journalFlags (onBlc (fun b => { b with replies := t.blc.replies }) s1) t ∧
      screensOnly s t ∧ (changesPrompt table = false → t.scm = s.scm) ∧ (changesPrompt table = true → promptsFollow s t) ∧
      (canWrite 0 (tableDraft (checkedId table) loadId (checkedCount table)) s →
        wrote 0 (tableDraft (checkedId table) loadId (checkedCount table)) s t) ∧ t.csh = (activate table loadId s).csh := by
  obtain ⟨places, rfl⟩ := taken_buffer taken
  have done := tableCommitted_commitTable table loadId (onMrs (fun m => { m with places := places }) s)
  let w := commitTable table loadId (onMrs (fun m => { m with places := places }) s)
  have replies : w.blc.replies = s.blc.replies := (congrArg Blc.replies done.raised.2.2.2.1 :)
  refine ⟨answer id .committed (.records (checkedCount table)) w, rfl, ?_, ?_, ?_, ?_, done.screens, fun same => done.stands same,
    fun changes => ?_, fun room => ?_, ?_⟩
  · have before : keeps [.csh, .scm, .jrn, .tbl, .blc, .mrs] s (onMrs (fun m => { m with places := places }) s) := by simp [keeps]
    have after : keeps [.csh, .scm, .jrn, .tbl, .blc, .mrs] w (answer id .committed (.records (checkedCount table)) w) := by simp [keeps]
    exact keeps_trans before (keeps_trans done.reach after)
  · exact done.tbl
  · show w.blc.replies ++ _ = _
    rw [replies]
  · exact raisedOnly_of_eq (raisedOnly_replies done.raised (answer id .committed (.records (checkedCount table)) w).blc.replies) rfl rfl
  · exact promptsFollow_congr (done.follows changes) rfl rfl rfl rfl rfl rfl rfl rfl
  · exact done.written room
  · refine done.csh.trans ?_
    cases table <;> rfl

/-- Settles O57: the fragments of a load, the commit check of each table, a commit, an abort, the idle time and the reads. -/
theorem tablesAreLoadedAndRead : Obligations.TablesAreLoadedAndRead := by
  refine ⟨fun id f s s1 taken => ?_, fits_iff, ⟨fun _ _ => rfl, fun _ _ => rfl, fun _ _ _ _ => rfl, fun _ _ _ _ => rfl, fun _ _ => rfl⟩,
    fun new old cs => ⟨recount_length new old cs, recount_getElem new old cs⟩, fun b table s h => commitCheck_ok_shape h, commitCheck_tct,
    commitCheck_sft, commitCheck_dnt, commitCheck_tlt, commitCheck_plt, fun id s s1 taken => ?_, fun s => ?_,
    fun id code first s s1 taken => ?_⟩
  · have tbl : s1.tbl = s.tbl := by
      obtain ⟨places, rfl⟩ := taken_buffer taken
      rfl
    refine ⟨takeFragment id f s1, taken_run taken _, fun bad => ?_, fun header => ⟨fun none later => ?_, fun c load apart => ?_,
      fun c load table same later step => ?_, fun shadow fill => ?_⟩⟩
    · have run : takeFragment id f s1 = refuseRequest id .badRequest s1 := if_pos bad
      rw [run]
      exact requestRefused_of taken
    · have run : takeFragment id f s1 = refuseRequest id .notLoading s1 := by
        simp only [takeFragment, header, tbl, none, later, Bool.false_eq_true, if_false]
      rw [run]
      exact requestRefused_of taken
    · have foreign : belongs c f = false := by
        simp only [belongs, Bool.and_eq_false_iff, decide_eq_false_iff_not]
        exact apart
      have run : takeFragment id f s1 = refuseRequest id .loadBusy s1 := by
        simp only [takeFragment, header, tbl, load, foreign, Bool.false_eq_true, Bool.not_false, if_true, if_false]
      rw [run]
      exact requestRefused_of taken
    · have own : belongs c f = true := by simp [belongs, table, same]
      have run : takeFragment id f s1 = refuseRequest id .sequence (endLoad s1) := by
        simp only [takeFragment, header, tbl, load, own, later, step, Bool.false_eq_true, Bool.not_true, if_false, ne_eq,
          not_false_eq_true, if_true]
      rw [run]
      exact loadEnds taken .sequence
    · rw [takeFragment_fills header (by rw [tbl]; exact fill)]
      have check : commitCheck shadow s1 = commitCheck shadow s := by
        obtain ⟨places, rfl⟩ := taken_buffer taken
        exact commitCheck_places shadow places s
      refine ⟨fun small => ?_, fun room more => ?_, fun why room last failed => ?_, fun table room last passed => ?_⟩
      · have run : fillShadow id f shadow s1 = refuseRequest id .capacity (endLoad s1) := by
          simp only [fillShadow, small, Bool.not_false, if_true]
        rw [run]
        exact loadEnds taken .capacity
      · have run : fillShadow id f shadow s1 = answer id .accepted (.records (recordCount shadow)) (loadGoesOn f shadow s1) := by
          simp only [fillShadow, room, more, Bool.not_true, Bool.false_eq_true, if_false]
          rfl
        rw [run]
        refine ⟨requestDone_of taken (by simp [keeps, loadGoesOn]) rfl rfl, ?_⟩
        obtain ⟨places, rfl⟩ := taken_buffer taken
        rfl
      · have run : fillShadow id f shadow s1 = refuseRequest id why (endLoad s1) := by
          simp only [fillShadow, room, last, check, failed, Bool.not_true, Bool.false_eq_true, if_false, if_true]
        rw [run]
        exact loadEnds taken why
      · have passes : fillShadow id f shadow s1 =
            answer id .committed (.records (checkedCount table)) (commitTable table f.loadId s1) := by
          simp only [fillShadow, room, last, check, passed, Bool.not_true, Bool.false_eq_true, if_false, if_true]
        obtain ⟨t, run, reach, tables, replies, raised, screens, stands, follows, written, csh⟩ :=
          committedReply (table := table) (loadId := f.loadId) taken
        rw [passes, ← run]
        refine ⟨reach, tables, replies, raised, screens, fun other => stands ?_, fun prompt => follows ?_, written, fun other => ?_,
          fun h rs is p => ?_⟩
        · cases table with
          | tct rs => exact absurd rfl (other rs []).1
          | sft xs => exact absurd rfl (other [] xs).2
          | dnt | tlt | plt => rfl
        · rcases prompt with ⟨rs, rfl⟩ | ⟨xs, rfl⟩
          · rfl
          · rfl
        · rw [csh]
          cases table with
          | dnt h rs => exact absurd rfl (other h rs)
          | tct | sft | tlt | plt => rfl
        · subst is
          have same : positionOf p t = positionOf p (activate (.dnt h rs) f.loadId s) := positionOf_money p csh
          rw [same, positionOf_activate]
  · have tbl : s1.tbl = s.tbl := by
      obtain ⟨places, rfl⟩ := taken_buffer taken
      rfl
    refine ⟨takeTableAbort id s1, taken_run taken _, fun none => ?_, fun some => ?_⟩
    · have run : takeTableAbort id s1 = refuseRequest id .notLoading s1 := by
        simp only [takeTableAbort, tbl, none]
      rw [run]
      exact requestRefused_of taken
    · obtain ⟨c, load⟩ := Option.ne_none_iff_exists'.1 some
      have run : takeTableAbort id s1 = answer id .done .nothing (endLoad s1) := by
        simp only [takeTableAbort, tbl, load]
      rw [run]
      refine ⟨requestDone_of taken (by simp [keeps]) (by simp) (by simp), ?_⟩
      obtain ⟨places, rfl⟩ := taken_buffer taken
      rfl
  · show execLoadIdleExpiry s = _
    unfold execLoadIdleExpiry
    cases load : s.tbl.load with
    | none => rfl
    | some c => rfl
  · refine ⟨takeTableRead id code first s1, taken_run taken _, fun bad => ?_, fun table known low => ?_⟩
    · have run : takeTableRead id code first s1 = refuseRequest id .badRequest s1 := by
        unfold takeTableRead
        rcases bad with none | zero
        · rw [none]
        · cases tableIdOfCode code with
          | none => rfl
          | some t => exact if_pos zero
      rw [run]
      exact requestRefused_of taken
    · have run : takeTableRead id code first s1 = answer id .done (readContent id table first s) s1 := by
        obtain ⟨places, rfl⟩ := taken_buffer taken
        simp only [takeTableRead, known, low, if_false]
        cases table <;> rfl
      rw [run]
      have places : requestDone id .done (readContent id table first s) [] s s1 (answer id .done (readContent id table first s) s1) :=
        requestDone_of taken (keeps_refl _ _) rfl rfl
      have amount : ∀ v, (amountBytes v).length = 8 := fun v => length_beBytes _ _
      cases table with
      | tct =>
        refine ⟨_, _, _, _, places, _, fun x => rfl, rfl, rfl, _, rfl, ?_⟩
        exact readsFrom_reply (mk := .tct) (head := 1) (by omega) (fun y => length_listBytes _ _) id .tct _ _ first _ s
      | sft =>
        refine ⟨_, _, _, _, places, _, fun x => rfl, rfl, rfl, _, rfl, ?_⟩
        exact readsFrom_reply (mk := .sft) (head := 1) (by omega) (fun y => length_listBytes _ _) id .sft _ _ first _ s
      | dnt =>
        refine ⟨_, _, _, _, places, _, fun x => rfl, rfl, rfl, _, rfl, ?_⟩
        refine readsFrom_reply (mk := .dnt s.tbl.dntHeader) (head := 3) (by omega) (fun y => ?_) id .dnt _ _ first _ s
        rw [recordsBytes, List.length_append, length_listBytes, ← Nat.add_assoc]
        rfl
      | tlt =>
        refine ⟨_, _, _, _, places, _, fun x => rfl, rfl, rfl, _, rfl, ?_⟩
        refine readsFrom_reply (mk := .tlt s.tbl.tltCeiling) (head := 9) (by omega) (fun y => ?_) id .tlt _ _ first _ s
        rw [recordsBytes, List.length_append, length_listBytes, amount, ← Nat.add_assoc]
      | plt =>
        refine ⟨_, _, _, _, places, _, fun x => rfl, rfl, rfl, _, rfl, ?_⟩
        exact readsFrom_reply (mk := .plt) (head := 1) (by omega) (fun y => length_listBytes _ _) id .plt _ _ first _ s

end Sys2Proof.Machine
end
